-- ==== Sys2Proof/Word.lean ====
section
/-! DEFINITION. The words of the part: bytes of the two serial links, raw times of the race clock, and the numbers
of gates, slots and stations. Running times are plain natural numbers, because they do not wrap (00_scope, Time). -/

namespace Sys2Proof

/-- A byte of the command link or of the ceiling link (R162, R176). -/
abbrev Byte := BitVec 8

/-- A two-byte value of the command link (R176). -/
abbrev Word16 := BitVec 16

/-- A raw time: a value of the race clock, which wraps at 2^32 (R101). -/
abbrev RawTime := BitVec 32

/-- A running time in ticks of 100 µs; running times do not wrap (R102). -/
abbrev RunTime := Nat

/-- A gate number, 0 to 23. -/
abbrev GateNo := Fin 24

/-- The slot of an entrant record, 0 to 23. -/
abbrev Slot := Fin 24

/-- A driver station, 0 to 5. -/
abbrev StationNo := Fin 6

end Sys2Proof
end

