-- ==== Sys2Proof/Syntax.lean ====
section
/-! DEFINITION. The commands of the part: one constructor of Instr per row of spec/opcode_table.json. The table gives
the rows no operands. A host request carries the fields of its body in the request catalogue (R184, section 11.5), each
as the bytes the host sends; a track or timer event names the gate, slot, station, tag or byte it concerns. -/

namespace Sys2Proof

/-- The level of a bit cell on a gate line: light off or light on (R1, R2). -/
inductive Level where
  | space
  | mark
  deriving DecidableEq, Repr

/-- What a cell comes from: the gate's line, or the self-test's generator (R20). -/
inductive Source where
  | line
  | generator
  deriving DecidableEq, Repr

/-- Where a cell arrives, and what it comes from. -/
structure Feed where
  gate : GateNo
  source : Source
  deriving DecidableEq, Repr

/-- The levels the call buttons, the red button, the power sense and the gate lines show at a power-on reset (R2,
R167). -/
structure PinLevels where
  pressed : Vector Bool 6
  redHeld : Bool
  powerAbsent : Bool
  lines : Vector Level 24
  deriving DecidableEq, Repr

/-- The body of CONFIG_RACE: its 45 bytes, taken as the fields of the table of R181. -/
structure RaceWords where
  burstGap : Byte
  dwellLimit : Word16
  voteMinimum : Byte
  triggerLevel : Byte
  claimWait : Byte
  lapFloor : BitVec 32
  lapCeiling : BitVec 32
  sectorCount : Byte
  pitMinimum : BitVec 32
  sightingWindow : Byte
  lightInterval : Word16
  lapTarget : Word16
  timeTarget : BitVec 32
  finishWindow : Word16
  callLimit : Byte
  callAction : Byte
  setupCeiling : Byte
  stagingCeiling : Byte
  countdownCeiling : Byte
  runningCeiling : Byte
  cautionCeiling : Byte
  coolDownCeiling : Byte
  localCautionCeiling : Byte
  pitCeiling : Byte
  refreshPeriod : Word16
  holdLimit : Word16
  autoLocalCaution : Byte
  deriving DecidableEq, Repr

/-- The commands: the host's requests, the command link's own events, the resets, the gate lines' events, the
timers' expiries, the levels the track inputs show and the ceiling link's events. -/
inductive Instr where
  /-- STATUS (R182). -/
  | status
  /-- CONFIG_GATE (R7). -/
  | configGate (gate kind lane boundary sector : Byte) (offset : Word16)
  /-- CONFIG_CALL (R129). -/
  | configCall (cls kind hold deadline conversion level duration laps : Byte)
  /-- CONFIG_RACE (R181). -/
  | configRace (words : RaceWords)
  /-- POWER (R122). -/
  | power (value : Byte)
  /-- SELF_TEST (R20). -/
  | selfTest
  /-- ENTER (R45). -/
  | enter (code station : Byte)
  /-- LOOKUP (R46). -/
  | lookup (code : Byte)
  /-- LOOKUP_SLOT (R46). -/
  | lookupSlot (slot : Byte)
  /-- AMEND (R47, R48). -/
  | amend (code items : Byte) (delta : Word16) (override station : Byte)
  /-- RETIRE (R49, R50). -/
  | retire (code : Byte)
  /-- EXCLUDE (R51). -/
  | exclude (code : Byte)
  /-- CALL (R136, R137). -/
  | call (code kind hold deadline conversion level duration laps : Byte)
  /-- WAIVE (R153). -/
  | waive (code which : Byte)
  /-- READ_PASSES (R39). -/
  | readPasses (n : Byte)
  /-- ASSIGN (R41, R42). -/
  | assign (tag code : Byte)
  /-- DISCARD (R40). -/
  | discard (tag : Byte)
  /-- STANDINGS (R99). -/
  | standings (first count : Byte)
  /-- STAGE (R103). -/
  | stage
  /-- START (R106): the green delay in milliseconds. -/
  | start (delay : Word16)
  /-- YELLOW (R113). -/
  | yellow (value : Byte)
  /-- ZONE (R115). -/
  | zone (sector value : Byte)
  /-- SUSPEND (R109, R110). -/
  | suspend
  /-- RESUME (R111). -/
  | resume (yellow : Byte)
  /-- END (R120). -/
  | endRace
  /-- RESET_RACE (R121). -/
  | resetRace
  /-- RESET_PART (R183). -/
  | resetPart
  /-- READ_ATTENTION (R173). -/
  | readAttention
  /-- SET_MASK (R172). -/
  | setMask (mask : Word16)
  /-- ACK_STATIONS (R168). -/
  | ackStations
  /-- READ_PENALTY_ACTIVITY (R174). -/
  | readPenaltyActivity
  /-- COMMAND_FRAME (R178): the check byte of a frame arrives. -/
  | commandFrame (check : Byte)
  /-- RX_GAP_TIMEOUT (R178). -/
  | rxGapTimeout
  /-- RX_BYTE_ERROR (R178). -/
  | rxByteError
  /-- RESPONSE_START (R179). -/
  | responseStart
  /-- RESPONSE_END (R176). -/
  | responseEnd
  /-- RESET_PART_REBOOT (R183), with the strap, input and line levels at the reset. -/
  | resetPartReboot (straps : BitVec 5) (pins : PinLevels)
  /-- RESET_PIN (R183), with the strap, input and line levels at the reset. -/
  | resetPin (straps : BitVec 5) (pins : PinLevels)
  /-- POWER_UP (R124), with the strap, input and line levels at the reset. -/
  | powerUp (straps : BitVec 5) (pins : PinLevels)
  /-- BEACON_FRAME (R4): the end cell of a frame completes. -/
  | beaconFrame (feed : Feed) (endCell : Level)
  /-- GATE_BLIND (R5): the mark cell completes that brings a mark run to sixteen. -/
  | gateBlind (feed : Feed)
  /-- GATE_UNBLIND (R5): the space cell completes that brings a Blind gate's space run to four. -/
  | gateUnblind (feed : Feed)
  /-- BURST_GAP_EXPIRY (R14). -/
  | burstGapExpiry (gate : GateNo)
  /-- BURST_DWELL_EXPIRY (R15). -/
  | burstDwellExpiry (gate : GateNo)
  /-- CLAIM_WAIT_EXPIRY (R35), of the queue entry with the tag. -/
  | claimWaitExpiry (tag : Byte)
  /-- SELF_TEST_END (R21). -/
  | selfTestEnd
  /-- SIGHTING_DEADLINE_EXPIRY (R64). -/
  | sightingDeadlineExpiry (slot : Slot)
  /-- COUNTDOWN_STEP (R107, R108). -/
  | countdownStep
  /-- TIME_TARGET_REACHED (R118). -/
  | timeTargetReached
  /-- FINISH_WINDOW_EXPIRY (R119). -/
  | finishWindowExpiry
  /-- RUNNING_CLOCK_CAP (R120). -/
  | runningClockCap
  /-- STATION_PRESS (R167, R170): the station's input shows pressed; the press is taken once it has for 20 ms. -/
  | stationPress (station : StationNo)
  /-- STATION_RELEASE (R167, R168): the station's input shows released. -/
  | stationRelease (station : StationNo)
  /-- RED_PRESS (R167, R169): the red input shows held. -/
  | redPress
  /-- RED_RELEASE (R167, R169): the red input shows released. -/
  | redRelease
  /-- POWER_SENSE_LOSS (R167, R169): the power sense shows absent. -/
  | powerSenseLoss
  /-- POWER_SENSE_RESTORE (R167, R169): the power sense shows present. -/
  | powerSenseRestore
  /-- BLINDED_SUMMARY_EDGE (R167, R169). -/
  | blindedSummaryEdge
  /-- STOP_GO_HOLD_EXPIRY (R146). -/
  | stopGoHoldExpiry (slot : Slot)
  /-- POWER_HOLD_EXPIRY (R150). -/
  | powerHoldExpiry (slot : Slot)
  /-- CEILING_FRAME_START (R161). -/
  | ceilingFrameStart
  /-- CEILING_FRAME_END (R162). -/
  | ceilingFrameEnd
  /-- CEILING_REFRESH (R163). -/
  | ceilingRefresh
  /-- PAUSE_BYTE (R164). -/
  | pauseByte
  /-- RESUMING_BYTE (R164): any byte but Pause. -/
  | resumingByte (byte : Byte)
  /-- RETURN_BYTE_ERROR (R164). -/
  | returnByteError
  /-- LINK_HOLD_EXPIRY (R165). -/
  | linkHoldExpiry
  /-- GATE_CELL (R2, R3): a cell completes that ends no frame and changes no Blind flag; from the line of a gate that
  completes no cell of its line, the level the line shows. -/
  | gateCell (feed : Feed) (level : Level)
  /-- COMMAND_BYTE (R178): a byte of a frame before its check byte arrives. -/
  | commandByte (byte : Byte)
  deriving DecidableEq, Repr

end Sys2Proof
end

