-- ==== Sys2Proof/Decode.lean ====
section
/-! DEFINITION. The commands' bits. spec/opcode_table.json gives none of its rows any bits ("fields" is empty and there is
no fixed part), so a table word spells no command. What the spec does encode, the frames of the command link, is decoded
in Machine/Link.lean; `requestBytes` is its other direction, written from the request catalogue (section 11.5) and the
offsets of R181. -/

namespace Sys2Proof

/-- The command that a word of `nbits` bits spells by the table: none, since the table gives no row any bits. -/
def decodeTableWord (_nbits _w : Nat) : Option Instr := none

/-- A two-byte value, most significant byte first (R176). -/
def wordBytes (w : Word16) : List Byte := [w.extractLsb' 8 8, w.extractLsb' 0 8]

/-- A four-byte value, most significant byte first (R176). -/
def longBytes (w : BitVec 32) : List Byte :=
  [w.extractLsb' 24 8, w.extractLsb' 16 8, w.extractLsb' 8 8, w.extractLsb' 0 8]

/-- The 45 bytes of a CONFIG_RACE body (R181). -/
def RaceWords.bytes (w : RaceWords) : List Byte :=
  [w.burstGap] ++ wordBytes w.dwellLimit ++ [w.voteMinimum, w.triggerLevel, w.claimWait]
    ++ longBytes w.lapFloor ++ longBytes w.lapCeiling ++ [w.sectorCount] ++ longBytes w.pitMinimum
    ++ [w.sightingWindow] ++ wordBytes w.lightInterval ++ wordBytes w.lapTarget ++ longBytes w.timeTarget
    ++ wordBytes w.finishWindow ++ [w.callLimit, w.callAction, w.setupCeiling, w.stagingCeiling, w.countdownCeiling,
      w.runningCeiling, w.cautionCeiling, w.coolDownCeiling, w.localCautionCeiling, w.pitCeiling]
    ++ wordBytes w.refreshPeriod ++ wordBytes w.holdLimit ++ [w.autoLocalCaution]

/-- The request code and body a request command is sent as; the other commands are not requests (section 11.5). -/
def requestBytes : Instr → Option (Byte × List Byte)
  | .status => some (0x01#8, [])
  | .configGate g k l b c o => some (0x02#8, [g, k, l, b, c] ++ wordBytes o)
  | .configCall c k h d v l t n => some (0x03#8, [c, k, h, d, v, l, t, n])
  | .configRace w => some (0x04#8, w.bytes)
  | .power v => some (0x05#8, [v])
  | .selfTest => some (0x06#8, [])
  | .enter c n => some (0x10#8, [c, n])
  | .lookup c => some (0x11#8, [c])
  | .lookupSlot n => some (0x12#8, [n])
  | .amend c i d o n => some (0x13#8, [c, i] ++ wordBytes d ++ [o, n])
  | .retire c => some (0x14#8, [c])
  | .exclude c => some (0x15#8, [c])
  | .call c k h d v l t n => some (0x20#8, [c, k, h, d, v, l, t, n])
  | .waive c w => some (0x21#8, [c, w])
  | .readPasses n => some (0x28#8, [n])
  | .assign t c => some (0x29#8, [t, c])
  | .discard t => some (0x2A#8, [t])
  | .standings f n => some (0x30#8, [f, n])
  | .stage => some (0x40#8, [])
  | .start d => some (0x41#8, wordBytes d)
  | .yellow v => some (0x42#8, [v])
  | .zone k v => some (0x43#8, [k, v])
  | .suspend => some (0x44#8, [])
  | .resume v => some (0x45#8, [v])
  | .endRace => some (0x46#8, [])
  | .resetRace => some (0x4E#8, [])
  | .resetPart => some (0x4F#8, [])
  | .readAttention => some (0x60#8, [])
  | .setMask m => some (0x61#8, wordBytes m)
  | .ackStations => some (0x62#8, [])
  | .readPenaltyActivity => some (0x63#8, [])
  | .commandFrame _ | .rxGapTimeout | .rxByteError | .responseStart | .responseEnd | .resetPartReboot .. | .resetPin ..
  | .powerUp .. | .beaconFrame .. | .gateBlind _ | .gateUnblind _ | .burstGapExpiry _ | .burstDwellExpiry _
  | .claimWaitExpiry _ | .selfTestEnd | .sightingDeadlineExpiry _ | .countdownStep | .timeTargetReached
  | .finishWindowExpiry | .runningClockCap | .stationPress _ | .stationRelease _ | .redPress | .redRelease
  | .powerSenseLoss | .powerSenseRestore | .blindedSummaryEdge | .stopGoHoldExpiry _ | .powerHoldExpiry _
  | .ceilingFrameStart | .ceilingFrameEnd | .ceilingRefresh | .pauseByte | .resumingByte _ | .returnByteError
  | .linkHoldExpiry | .gateCell .. | .commandByte _ => none

end Sys2Proof
end

