-- ==== Sys2Proof/Config.lean ====
section
/-! DEFINITION. What CONFIG_RACE configures, as the blocks use it (R181 and the rules it names). The default values
stand in Machine/ResetValues.lean. The part has no value that is left to the implementation, so no constant here is
opaque. -/

namespace Sys2Proof

/-- What a station press does to the race (R170). -/
inductive CallAction where
  | report
  | caution
  | suspend
  deriving DecidableEq, Repr

/-- The eight configured ceilings, in whole percent (R156). -/
structure Ceilings where
  setup : Nat
  staging : Nat
  countdown : Nat
  running : Nat
  caution : Nat
  coolDown : Nat
  localCaution : Nat
  pit : Nat
  deriving DecidableEq, Repr

/-- The race configuration, each quantity in the unit its rule gives (R181). -/
structure RaceConfig where
  /-- Ticks (R14). -/
  burstGap : Nat
  /-- Ticks (R15). -/
  dwellLimit : Nat
  /-- Frames (R23). -/
  voteMinimum : Nat
  /-- Queue entries (R23). -/
  triggerLevel : Nat
  /-- Seconds (R23). -/
  claimWait : Nat
  /-- Ticks (R67). -/
  lapFloor : Nat
  /-- Ticks (R67). -/
  lapCeiling : Nat
  /-- 1 to 4 (R67). -/
  sectorCount : Nat
  /-- Ticks, 0 off (R61). -/
  pitMinimum : Nat
  /-- Seconds, 0 off (R62). -/
  sightingWindow : Nat
  /-- Milliseconds (R105). -/
  lightInterval : Nat
  /-- Laps, 0 none (R105). -/
  lapTarget : Nat
  /-- Seconds, 0 none (R105). -/
  timeTarget : Nat
  /-- Seconds (R105). -/
  finishWindow : Nat
  /-- Calls, 0 none (R134). -/
  callLimit : Nat
  callAction : CallAction
  ceilings : Ceilings
  /-- Milliseconds (R163). -/
  refreshPeriod : Nat
  /-- Milliseconds (R165). -/
  holdLimit : Nat
  /-- R62. -/
  autoLocalCaution : Bool
  deriving DecidableEq, Repr

end Sys2Proof
end

