-- ==== Sys2Proof/Machine/Types.lean ====
section
/-! DEFINITION. The kinds of values the blocks keep, and the records each block holds. Every record is plain data. -/

namespace Sys2Proof.Machine

/-! ### Gates -/

/-- What a gate marks on the track (R6). -/
inductive GateKind where
  | unused
  | line
  | split
  | switch
  | pitIn
  | box
  | pitOut
  deriving DecidableEq, Repr

/-- A gate table entry; a field its kind does not use is absent (R6). -/
structure GateEntry where
  kind : GateKind
  lane : Option Nat
  boundary : Option Nat
  sector : Option Nat
  offset : Option Int
  deriving DecidableEq, Repr

/-- The decoder states of section 1.2. -/
inductive DecoderState where
  | hunt
  | assemble
  | blind
  deriving DecidableEq, Repr

/-- The current run: its level and how many consecutive cells of it have been seen (R2). -/
structure Run where
  level : Level
  length : Nat
  deriving DecidableEq, Repr

/-- A code entry of a tally (section 1.4). -/
structure CodeEntry where
  code : Nat
  count : Nat
  first : RawTime
  last : RawTime
  arrived : Bool
  deriving DecidableEq, Repr

/-- The tally of a burst (section 1.4). -/
structure Tally where
  entries : List CodeEntry
  invalid : Nat
  first : RawTime
  last : RawTime
  excess : Bool
  dwell : Bool
  deriving DecidableEq, Repr

/-- A gate decoder (section 1.2). `waiting`: it completes no cell until the next change from space to mark (R2). -/
structure Decoder where
  state : DecoderState
  run : Option Run
  frame : List Level
  burst : Option Tally
  waiting : Bool
  deriving DecidableEq, Repr

/-- A self-test result (section 1.6). -/
inductive TestResult where
  | noTest
  | skipped
  | running
  | pass
  | fail
  | aborted
  deriving DecidableEq, Repr

/-- A gate: its table entry, its decoder and its part of the self-test. `fed` is absent while the decoder is connected
to its line, and holds the number of cells the test generator has sent while it is connected to the generator (R20);
`counted` is how many counted bursts have closed in the test (R21). `line` is the level the gate's line last showed, by
which a change from space to mark is known (R2, R10). -/
structure Gate where
  entry : GateEntry
  line : Level
  decoder : Decoder
  fed : Option Nat
  result : TestResult
  counted : Nat
  deriving DecidableEq, Repr

/-! ### Passes -/

/-- The marks of a pass (R26). -/
structure PassMarks where
  noisy : Bool
  excess : Bool
  dwell : Bool
  unresolved : Bool
  stray : Bool
  deriving DecidableEq, Repr

/-- A pass (R26). `named` is the code and its count for a resolved pass and absent for an unresolved one. -/
structure Pass where
  named : Option (Nat × Nat)
  candidates : List (Nat × Nat)
  gate : GateNo
  kind : GateKind
  lane : Option Nat
  boundary : Option Nat
  sector : Option Nat
  first : RawTime
  raw : RawTime
  running : Option RunTime
  marks : PassMarks
  deriving DecidableEq, Repr

/-- An entry of the Unclaimed Pass Queue (section 2.5). -/
structure QueuedPass where
  pass : Pass
  tag : Byte
  entered : RawTime
  expired : Bool
  deriving DecidableEq, Repr

/-- The Pass Resolver's own state (section 2.1). -/
structure Resolver where
  queue : List QueuedPass
  nextTag : Byte
  waitLatch : Bool
  overrun : Bool
  deriving DecidableEq, Repr

/-! ### Penalties and calls -/

/-- The classes of calls: the seven infraction classes of R125 and Manual. -/
inductive CallClass where
  | jumpStart
  | pitSpeeding
  | switchUnderCaution
  | laneFault
  | callLimit
  | missedDriveThrough
  | missedStopGo
  | manual
  deriving DecidableEq, Repr

/-- A ruling with the fields its kind uses (R127). Kind None is the absence of a ruling. -/
inductive Ruling where
  | driveThrough (deadline conversion : Nat)
  | stopGo (hold deadline conversion : Nat)
  | powerHold (level duration : Nat)
  | lapDeduction (laps : Nat)
  | blackFlag
  deriving DecidableEq, Repr

/-- A call's record (R130). -/
structure Call where
  slot : Slot
  cls : CallClass
  ruling : Ruling
  calledAt : RunTime
  calledLap : Nat
  escalation : Bool
  deriving DecidableEq, Repr

/-- The two kinds of pit penalty (R140). -/
inductive PenaltyKind where
  | driveThrough
  | stopGo
  deriving DecidableEq, Repr

/-- The states of a queued pit penalty (R140). -/
inductive PenaltyState where
  | pending
  | active
  | serving
  deriving DecidableEq, Repr

/-- An entry of a pit-penalty queue (R140). -/
structure PitPenalty where
  kind : PenaltyKind
  cls : CallClass
  hold : Option Nat
  deadline : Nat
  conversion : Nat
  escalation : Bool
  state : PenaltyState
  remaining : Option Nat
  calledAt : RunTime
  calledLap : Nat
  deriving DecidableEq, Repr

/-- A power hold (R149). -/
structure PowerHold where
  level : Nat
  expiry : RunTime
  deriving DecidableEq, Repr

/-! ### Entrants -/

/-- The entrant states of R44. -/
inductive EntrantState where
  | vacant
  | staged
  | racing
  | finished
  | retired
  | excluded
  deriving DecidableEq, Repr

/-- Pit status (R43). -/
inductive PitStatus where
  | track
  | pitLane
  | box
  deriving DecidableEq, Repr

/-- Finish status, when present (R53). -/
inductive FinishStatus where
  | flagged
  | unflagged
  deriving DecidableEq, Repr

/-- The marks of a last lap (R72). -/
structure LapMarks where
  long : Bool
  caution : Bool
  assigned : Bool
  deriving DecidableEq, Repr

/-- A best lap: its ticks and the lap number it was set on (R73). -/
structure BestLap where
  ticks : Nat
  lap : Nat
  deriving DecidableEq, Repr

/-- An entrant record (R43), with what the Penalty Unit keeps inside it (R140, R149, R152). Its slot is its place in
the table. -/
structure Entrant where
  code : Option Nat
  state : EntrantState
  station : Option StationNo
  lane : Option Nat
  pitStatus : PitStatus
  pitEntry : Option RunTime
  boxArrival : Option RunTime
  boxVisited : Bool
  pitStops : Nat
  laps : Nat
  latestCrossing : Option RunTime
  prevCrossing : Option RunTime
  reachTime : Option RunTime
  lastLap : Option Nat
  lastLapMarks : LapMarks
  bestLap : Option BestLap
  sector : Nat
  currentSectors : List (Option Nat)
  lastSectors : List (Option Nat)
  lastBoundary : Option RunTime
  lapCaution : Bool
  gap : Option Nat
  lapsDown : Nat
  latestPass : Option RunTime
  deadline : Option RunTime
  overdue : Bool
  jumpStart : Bool
  callsUsed : Nat
  override : Option Nat
  effective : Nat
  activity : Bool
  finishStatus : Option FinishStatus
  finishTime : Option RunTime
  penalties : List PitPenalty
  holdTimer : Option RunTime
  powerHold : Option PowerHold
  blackFlag : Bool
  deriving DecidableEq, Repr

/-- An entry of the Lead Lap Ring (R81). -/
structure RingEntry where
  lap : Nat
  time : RunTime
  deriving DecidableEq, Repr

/-- The ordering key (R91). -/
structure Key where
  laps : Nat
  reach : Option RunTime
  deriving DecidableEq, Repr

/-- An entry of the Standing Order: a slot and the key it had when last placed (R90). -/
structure Standing where
  slot : Slot
  key : Key
  deriving DecidableEq, Repr

/-! ### The race -/

/-- The race states (chapter 6). -/
inductive RaceState where
  | setup
  | staging
  | countdown
  | running
  | suspended
  | finishing
  | complete
  deriving DecidableEq, Repr

/-- The resume states (chapter 6). -/
inductive ResumeTo where
  | running
  | finishing
  deriving DecidableEq, Repr

/-- The phases of the countdown (R107). -/
inductive CountdownPhase where
  | lights
  | delay
  deriving DecidableEq, Repr

/-- The countdown (chapter 6): the green delay in ticks and the raw time of the next step. -/
structure Countdown where
  reds : Nat
  phase : CountdownPhase
  delay : Nat
  next : RawTime
  deriving DecidableEq, Repr

/-- A sector of the Caution Map (R114). -/
structure SectorCaution where
  hostFlag : Bool
  holders : List Slot
  deriving DecidableEq, Repr

/-- The Race Sequencer's state (chapter 6); its lamps and master power are output pins, in `Pins`. -/
structure Sequencer where
  raceClock : RawTime
  state : RaceState
  resume : Option ResumeTo
  suspStart : Option RawTime
  suspTotal : RawTime
  green : Option RawTime
  runningClock : RunTime
  countdown : Option Countdown
  finishDeadline : Option RunTime
  yellow : Bool
  caution : Vector SectorCaution 4
  powerSetting : Bool
  deriving DecidableEq, Repr

/-! ### Ceilings -/

/-- The dirty classes (R160). -/
inductive DirtyClass where
  | clean
  | lowered
  | raised
  deriving DecidableEq, Repr

/-- The frame on the ceiling link (R161), with the raw time at which it began. -/
structure Sending where
  slot : Slot
  code : Nat
  ceiling : Nat
  since : RawTime
  deriving DecidableEq, Repr

/-- The Ceiling Unit's state (chapter 9); effective ceilings stand in the records. -/
structure CeilingUnit where
  dirty : Vector DirtyClass 24
  sender : Option Sending
  paused : Bool
  holdStart : Option RawTime
  nextRefresh : RawTime
  deriving DecidableEq, Repr

/-! ### Inputs and attention -/

/-- The levels of the nine inputs, each true when active (R167). -/
structure InputLevels where
  pressed : Vector Bool 6
  redHeld : Bool
  powerAbsent : Bool
  gateBlind : Bool
  deriving DecidableEq, Repr

/-- The latch states (R168). -/
inductive LatchState where
  | free
  | held
  deriving DecidableEq, Repr

/-- The Track Input Latch: the debounced levels, the latch, the snapshot, and for each of the nine inputs since when it
has shown the other level than its debounced one, absent while it shows that (R167, R168). -/
structure InputLatch where
  live : InputLevels
  latch : LatchState
  snapshot : InputLevels
  pressedSince : Vector (Option RawTime) 6
  redSince : Option RawTime
  powerSince : Option RawTime
  blindSince : Option RawTime
  deriving DecidableEq, Repr

/-- Why a race was suspended or a start aborted (R109). -/
inductive Reason where
  | host
  | red
  | powerLost
  | linkHeld
  | station
  deriving DecidableEq, Repr

/-- The nine attention causes, in order of priority (R171). -/
inductive Cause where
  | suspended
  | station
  | review
  | overdue
  | passes
  | overrun
  | penalty
  | race
  | test
  deriving DecidableEq, Repr

/-- The Attention Unit's own state: the three read-cleared causes and the mask, bit k−1 the enable of the cause of
priority k (R171, R172, R184). The level causes are read from their sources. -/
structure Attention where
  suspended : Option Reason
  race : Bool
  test : Bool
  mask : BitVec 9
  deriving DecidableEq, Repr

/-! ### The command link -/

/-- The statuses of R180. -/
inductive Status where
  | ok
  | unknownRequest
  | badLength
  | badValue
  | badConfig
  | wrongState
  | noEntrant
  | codeInUse
  | stationInUse
  | tableFull
  | noPass
  | tooOld
  | duplicate
  | noPenalty
  | inputActive
  deriving DecidableEq, Repr

/-- The answer to a request: its status and body (R180). `reboot`: it is the answer to RESET_PART, after which the
part resets (R183). -/
structure Answer where
  status : Status
  body : List Byte
  reboot : Bool
  deriving DecidableEq, Repr

/-- The receive states, each with the part of the frame received so far (R178). In `code` the byte awaited is the
request code, or the status of another part's response. -/
inductive RxState where
  | hunt
  | address
  | length (addr : Byte)
  | code (addr len : Byte)
  | body (addr len code : Byte) (bytes : List Byte)
  | check (addr len code : Byte) (bytes : List Byte)
  deriving DecidableEq, Repr

/-- The response: none, prepared since the request's check byte, being sent, or the response to RESET_PART has ended
and the part is about to reset (R179, R183). -/
inductive TxState where
  | idle
  | waiting (answer : Answer) (since : RawTime)
  | sending (answer : Answer) (since : RawTime)
  | rebooting
  deriving DecidableEq, Repr

/-- The Command Link Interface's state (chapter 11). -/
structure CommandLink where
  address : BitVec 5
  rx : RxState
  lastByte : RawTime
  tx : TxState
  deriving DecidableEq, Repr

/-- The output pins that follow the state: lamps (R123), master power (R122), ATN (R172), line driver (R176). Each is
true when lit, on, asserted or enabled. -/
structure Pins where
  red1 : Bool
  red2 : Bool
  red3 : Bool
  red4 : Bool
  red5 : Bool
  green : Bool
  yellow : Bool
  masterPower : Bool
  atn : Bool
  driverEnable : Bool
  deriving DecidableEq, Repr

end Sys2Proof.Machine
end

