-- ==== Sys2Proof/Machine/ResetValues.lean ====
section
/-! DEFINITION. The value each block's state takes at a power-on reset, and the values a Vacant record holds. -/

namespace Sys2Proof.Machine

/-- The twenty-four numbers of slots and gates, lowest first. -/
def allSlots : List (Fin 24) :=
  [0, 1, 2, 3, 4, 5, 6, 7, 8, 9, 10, 11, 12, 13, 14, 15, 16, 17, 18, 19, 20, 21, 22, 23]

/-- The cap of the running clock, 100 hours (R102). -/
def runningCap : Nat := 3600000000

/-- The number of ticks in a second (00_scope, Time). -/
def ticksPerSecond : Nat := 10000

/-- The number of ticks in a millisecond (00_scope, Time). -/
def ticksPerMs : Nat := 10

/-- The defaults of the race configuration (R14, R15, R23, R61, R62, R67, R105, R134, R156, R163, R165, R170). -/
def defaultConfig : RaceConfig where
  burstGap := 20
  dwellLimit := 2000
  voteMinimum := 3
  triggerLevel := 4
  claimWait := 5
  lapFloor := 15000
  lapCeiling := 600000
  sectorCount := 1
  pitMinimum := 0
  sightingWindow := 0
  lightInterval := 1000
  lapTarget := 0
  timeTarget := 0
  finishWindow := 60
  callLimit := 3
  callAction := .caution
  ceilings :=
    { setup := 100, staging := 30, countdown := 0, running := 100
      caution := 40, coolDown := 50, localCaution := 50, pit := 35 }
  refreshPeriod := 250
  holdLimit := 1000
  autoLocalCaution := true

/-- An Unused gate table entry, its other fields absent (R9). -/
def GateEntry.unused : GateEntry :=
  { kind := .unused, lane := none, boundary := none, sector := none, offset := none }

/-- A decoder in Hunt with an empty run, no frame and no burst, waiting for its line (R2, R9). -/
def Decoder.fresh : Decoder :=
  { state := .hunt, run := none, frame := [], burst := none, waiting := true }

/-- A gate after a power-on reset, with the self-test result the reset leaves and the level its line shows (R2, R9,
R22). -/
def Gate.atReset (result : TestResult) (line : Level) : Gate :=
  { entry := GateEntry.unused, line := line, decoder := Decoder.fresh, fed := none, result := result, counted := 0 }

/-- The empty queue of R38. -/
def Resolver.atReset : Resolver :=
  { queue := [], nextTag := 0, waitLatch := false, overrun := false }

/-- No mark set. -/
def LapMarks.clear : LapMarks := { long := false, caution := false, assigned := false }

/-- The Vacant values of R43. -/
def Entrant.vacant : Entrant where
  code := none
  state := .vacant
  station := none
  lane := none
  pitStatus := .track
  pitEntry := none
  boxArrival := none
  boxVisited := false
  pitStops := 0
  laps := 0
  latestCrossing := none
  prevCrossing := none
  reachTime := none
  lastLap := none
  lastLapMarks := LapMarks.clear
  bestLap := none
  sector := 0
  currentSectors := []
  lastSectors := []
  lastBoundary := none
  lapCaution := false
  gap := none
  lapsDown := 0
  latestPass := none
  deadline := none
  overdue := false
  jumpStart := false
  callsUsed := 0
  override := none
  effective := 0
  activity := false
  finishStatus := none
  finishTime := none
  penalties := []
  holdTimer := none
  powerHold := none
  blackFlag := false

/-- The lowest key: 0 laps, reach absent (R90, R91). -/
def Key.lowest : Key := { laps := 0, reach := none }

/-- No sector under local caution (R114). -/
def SectorCaution.clear : SectorCaution := { hostFlag := false, holders := [] }

/-- The Race Sequencer after a power-on reset (R124). -/
def Sequencer.atReset : Sequencer where
  raceClock := 0
  state := .setup
  resume := none
  suspStart := none
  suspTotal := 0
  green := none
  runningClock := 0
  countdown := none
  finishDeadline := none
  yellow := false
  caution := Vector.replicate 4 SectorCaution.clear
  powerSetting := false

/-- The Call Table after a power-on reset, in the order of the classes of R125 (R128). -/
def defaultCallTable : Vector (Option Ruling) 7 :=
  #v[some (.powerHold 50 5), some (.driveThrough 3 1), some (.driveThrough 3 1), none,
     some (.stopGo 10 3 1), some (.stopGo 10 3 1), some .blackFlag]

/-- The Ceiling Unit after a power-on reset: the next refresh is one default refresh period away (R166). -/
def CeilingUnit.atReset : CeilingUnit where
  dirty := Vector.replicate 24 .clean
  sender := none
  paused := false
  holdStart := none
  nextRefresh := BitVec.ofNat 32 (defaultConfig.refreshPeriod * ticksPerMs)

/-- The debounced levels after a power-on reset: the levels shown, and no gate Blind (R167). -/
def InputLevels.shown (pins : PinLevels) : InputLevels :=
  { pressed := pins.pressed, redHeld := pins.redHeld, powerAbsent := pins.powerAbsent, gateBlind := false }

/-- The latch after a power-on reset: Free, its snapshot equal to the live inputs, and every input at its debounced
level (R167, R168). -/
def InputLatch.atReset (pins : PinLevels) : InputLatch :=
  { live := InputLevels.shown pins, latch := .free, snapshot := InputLevels.shown pins
    pressedSince := Vector.replicate 6 none, redSince := none, powerSince := none, blindSince := none }

/-- The Attention Unit after a power-on reset (R175). -/
def Attention.atReset : Attention :=
  { suspended := none, race := false, test := false, mask := 0 }

/-- The interface after a power-on reset, holding the address the straps give (R177, R178). -/
def CommandLink.atReset (straps : BitVec 5) : CommandLink :=
  { address := straps, rx := .hunt, lastByte := 0, tx := .idle }

/-- The output pins after a power-on reset: every lamp out, master power off, ATN and the line released (R123, R122,
R175, R178). -/
def Pins.atReset : Pins :=
  { red1 := false, red2 := false, red3 := false, red4 := false, red5 := false, green := false, yellow := false
    masterPower := false, atn := false, driverEnable := false }

/-- Every input inactive and every gate line dark. DESIGN CHOICE (log entry 2): the levels State.reset takes the inputs
and the lines to show. -/
def idlePins : PinLevels :=
  { pressed := Vector.replicate 6 false, redHeld := false, powerAbsent := false, lines := Vector.replicate 24 .space }

end Sys2Proof.Machine
end

