-- ==== Sys2Proof/Machine/State.lean ====
section
/-! DEFINITION. The whole state of the part, one field per block and register, the queue of commands that wait, and
the state after a power-on reset. -/

namespace Sys2Proof.Machine

/-- Reasons to stop with a fault. There is none: the manual stops the part nowhere. A refused request is answered with
a status (R180), and an event that finds nothing to act on changes nothing. -/
inductive Fault where
  deriving DecidableEq, Repr

/-- Reasons to refuse a command. -/
inductive Refusal where
  /-- Raised by `exec` for a command that has no meaning yet; safe, since the machine stops. -/
  | notModelled (mnemonic : String)
  deriving DecidableEq, Repr

/-- The state of the part. -/
structure State where
  /-- The race configuration (R181). -/
  cfg : RaceConfig
  /-- The Gate Decoder array and the gate table (chapter 1). -/
  gates : Vector Gate 24
  /-- The self-test: Idle when absent, else the raw time at which it started (section 1.6). -/
  testStart : Option RawTime
  /-- The Pass Resolver (chapter 2). -/
  resolver : Resolver
  /-- The Entrant Table (R43). -/
  entrants : Vector Entrant 24
  /-- The Lead Lap Ring (R81). -/
  ring : Vector (Option RingEntry) 16
  /-- The leader high mark (R81). -/
  highMark : Nat
  /-- The Standing Order, head first (R90). -/
  standings : List Standing
  /-- The Race Sequencer (chapter 6). -/
  race : Sequencer
  /-- The Call Table (R127). -/
  callTable : Vector (Option Ruling) 7
  /-- The Ceiling Unit (chapter 9). -/
  ceiling : CeilingUnit
  /-- The Track Input Latch (chapter 10). -/
  inputs : InputLatch
  /-- The Attention Unit (chapter 10). -/
  attention : Attention
  /-- The Command Link Interface (chapter 11). -/
  link : CommandLink
  /-- The output pins. -/
  pins : Pins
  /-- The commands that wait, first in first out. The model's own. -/
  pending : List Instr
  deriving DecidableEq, Repr

/-- The state after a power-on reset that leaves the self-test results `results` (R22) and finds the straps and the
inputs and lines at the given levels (R2, R167, R177). -/
def State.powerOn (results : Vector TestResult 24) (straps : BitVec 5) (pins : PinLevels) : State where
  cfg := defaultConfig
  gates := Vector.ofFn fun g => Gate.atReset results[g] pins.lines[g]
  testStart := none
  resolver := Resolver.atReset
  entrants := Vector.replicate 24 Entrant.vacant
  ring := Vector.replicate 16 none
  highMark := 0
  standings := []
  race := Sequencer.atReset
  callTable := defaultCallTable
  ceiling := CeilingUnit.atReset
  inputs := InputLatch.atReset pins
  attention := Attention.atReset
  link := CommandLink.atReset straps
  pins := Pins.atReset
  pending := []

/-- The machine right after power-up. DESIGN CHOICE (log entry 2): straps all low, every input inactive, every gate line
dark. -/
def State.reset : State :=
  State.powerOn (Vector.replicate 24 .noTest) 0 idlePins

end Sys2Proof.Machine
end

