-- ==== Sys2Proof/Machine/Ops.lean ====
section
/-! DEFINITION. The named operations every block uses: reading and writing one record, gate or dirty class, the race
clock's arithmetic, finding an entrant, and the change of race state. The part takes no processor exception, so there
is no exception entry here. -/

namespace Sys2Proof.Machine

/-! ### Records, gates, sectors -/

/-- The record of a slot (R43). -/
def State.entrant (s : State) (i : Slot) : Entrant := s.entrants[i.val]

/-- The state with one record replaced by what `f` makes of it. -/
def State.modEntrant (s : State) (i : Slot) (f : Entrant → Entrant) : State :=
  { s with entrants := s.entrants.set i.val (f (s.entrant i)) }

/-- The gate of a number. -/
def State.gate (s : State) (g : GateNo) : Gate := s.gates[g.val]

/-- The state with one gate replaced by what `f` makes of it. -/
def State.modGate (s : State) (g : GateNo) (f : Gate → Gate) : State :=
  { s with gates := s.gates.set g.val (f (s.gate g)) }

/-- The state with one gate's decoder replaced by what `f` makes of it. -/
def State.modDecoder (s : State) (g : GateNo) (f : Decoder → Decoder) : State :=
  s.modGate g fun x => { x with decoder := f x.decoder }

/-- A gate is under the self-test while its decoder is fed by the generator (R20). -/
def Gate.underTest (g : Gate) : Bool := g.fed.isSome

/-- The dirty class of a slot (R160). -/
def State.dirtyOf (s : State) (i : Slot) : DirtyClass := s.ceiling.dirty[i.val]

/-- The state with one slot's dirty class replaced. -/
def State.setDirty (s : State) (i : Slot) (d : DirtyClass) : State :=
  { s with ceiling := { s.ceiling with dirty := s.ceiling.dirty.set i.val d } }

/-- The state with one sector of the Caution Map replaced by what `f` makes of it; sectors above 3 do not exist. -/
def State.modSector (s : State) (k : Nat) (f : SectorCaution → SectorCaution) : State :=
  match s.race.caution[k]? with
  | some z => { s with race := { s.race with caution := s.race.caution.setIfInBounds k (f z) } }
  | none => s

/-- The same work done for every slot, lowest first. -/
def State.forSlots (s : State) (f : State → Slot → State) : State := allSlots.foldl f s

/-- The same work done for every gate, lowest first. -/
def State.forGates (s : State) (f : State → GateNo → State) : State := allSlots.foldl f s

/-! ### Time -/

/-- Ticks of the race clock since a raw time, modulo 2^32 (R101). -/
def State.since (s : State) (t : RawTime) : Nat := (s.race.raceClock - t).toNat

/-- The race clock has reached a raw time set at most 2^31 ticks ahead: the difference, signed, is not negative. -/
def State.reached (s : State) (t : RawTime) : Bool := decide (0 ≤ (s.race.raceClock - t).toInt)

/-- A raw time comes before another: their difference modulo 2^32, read as a signed 32-bit value, is negative (R25,
R56). -/
def rawBefore (a b : RawTime) : Bool := decide ((a - b).toInt < 0)

/-- A number of ticks after a raw time, modulo 2^32. -/
def rawPlus (t : RawTime) (ticks : Nat) : RawTime := t + BitVec.ofNat 32 ticks

/-- The running clock advances (R102). -/
def RaceState.clockRuns : RaceState → Bool
  | .running | .finishing => true
  | .setup | .staging | .countdown | .suspended | .complete => false

/-- One tick of the race clock, and of the running clock while it advances and is below its cap (R101, R102). -/
def State.tick (s : State) : State :=
  { s with race := { s.race with
      raceClock := s.race.raceClock + 1
      runningClock :=
        if s.race.state.clockRuns && decide (s.race.runningClock < runningCap) then s.race.runningClock + 1
        else s.race.runningClock } }

/-! ### Finding an entrant -/

/-- The slot of the record that is not Vacant and carries a code; no two do (R44). -/
def State.slotOfCode (s : State) (code : Nat) : Option Slot :=
  allSlots.find? fun i => (s.entrant i).state != .vacant && (s.entrant i).code == some code

/-- The slot a request names by a code: none where the code is 0, 63 or above, or no entrant carries it (R46). -/
def State.named (s : State) (code : Byte) : Option Slot :=
  if code.toNat = 0 ∨ code.toNat ≥ 63 then none else s.slotOfCode code.toNat

/-- The slot of the record that is not Vacant and has a station attached (R44). -/
def State.slotOfStation (s : State) (n : StationNo) : Option Slot :=
  allSlots.find? fun i => (s.entrant i).state != .vacant && (s.entrant i).station == some n

/-- Some entrant is Racing (R119). -/
def State.racingLeft (s : State) : Bool := allSlots.any fun i => (s.entrant i).state == .racing

/-! ### Race state -/

/-- The race is in one of the states in which a held link counts against it (R165). -/
def RaceState.heldCounts : RaceState → Bool
  | .countdown | .running | .finishing => true
  | .setup | .staging | .suspended | .complete => false

/-- What a change of race state makes of the hold start (R165). -/
def State.holdStartOn (s : State) (r : RaceState) : Option RawTime :=
  if r.heldCounts then
    if s.race.state.heldCounts then s.ceiling.holdStart
    else if s.ceiling.paused then some s.race.raceClock else none
  else none

/-- A change of race state: the state, the hold start (R165), and the RACE cause (chapter 6, R171). The Ceiling Unit is
told where the rule of the change says so. -/
def State.enterRace (s : State) (r : RaceState) : State :=
  { s with
    race := { s.race with state := r }
    ceiling := { s.ceiling with holdStart := s.holdStartOn r }
    attention := { s.attention with race := true } }

/-! ### Answers -/

/-- A refusal: a status and an empty body (R180). -/
def Answer.refuse (st : Status) : Answer := { status := st, body := [], reboot := false }

/-- OK with a body (R180). -/
def Answer.okWith (body : List Byte) : Answer := { status := .ok, body := body, reboot := false }

/-- OK with an empty body. -/
def Answer.okay : Answer := Answer.okWith []

/-- A refused request: it changes nothing (R179). -/
def State.refuse (s : State) (st : Status) : State × Answer := (s, Answer.refuse st)

end Sys2Proof.Machine
end

