-- ==== Sys2Proof/Machine/Flags.lean ====
section
/-! DEFINITION. Every condition the part computes from its state: local caution and the yellow condition, the Blind
summary, the PASSES condition, the nine attention causes, and the output pins that follow the state. -/

namespace Sys2Proof.Machine

/-! ### Caution -/

/-- A sector is under local caution: its host flag is set or its holder list is not empty (R114). -/
def SectorCaution.inForce (z : SectorCaution) : Bool := z.hostFlag || !z.holders.isEmpty

/-- Sector `k` is under local caution; a sector above 3 never is (R114, R8). -/
def State.localCaution (s : State) (k : Nat) : Bool :=
  match s.race.caution[k]? with
  | some z => z.inForce
  | none => false

/-- The yellow condition: the yellow flag is on, or some sector is under local caution (R123). -/
def State.yellowCondition (s : State) : Bool := s.race.yellow || s.race.caution.toList.any SectorCaution.inForce

/-! ### Gates -/

/-- A gate is Blind exactly while its decoder is (section 1.2). -/
def Gate.isBlind (g : Gate) : Bool := g.decoder.state == .blind

/-- The blinded-summary input: at least one gate is Blind (R5). -/
def State.anyBlind (s : State) : Bool := s.gates.toList.any Gate.isBlind

/-! ### Attention -/

/-- The PASSES condition (R36). -/
def State.passesCondition (s : State) : Bool :=
  decide (s.resolver.queue.length ≥ s.cfg.triggerLevel) || s.resolver.waitLatch

/-- The slots whose record has a property, lowest first. -/
def State.slotsWith (s : State) (p : Entrant → Bool) : List Slot := allSlots.filter fun i => p (s.entrant i)

/-- A cause is raised: a read-cleared cause by its own register, a level cause exactly while its source holds (R171). -/
def State.raised (s : State) : Cause → Bool
  | .suspended => s.attention.suspended.isSome
  | .station => s.inputs.latch == .held
  | .review => !(s.slotsWith (·.blackFlag)).isEmpty
  | .overdue => !(s.slotsWith (·.overdue)).isEmpty
  | .passes => s.passesCondition
  | .overrun => s.resolver.overrun
  | .penalty => !(s.slotsWith (·.activity)).isEmpty
  | .race => s.attention.race
  | .test => s.attention.test

/-- A cause's priority, 1 the highest (R171). -/
def Cause.priority : Cause → Nat
  | .suspended => 1
  | .station => 2
  | .review => 3
  | .overdue => 4
  | .passes => 5
  | .overrun => 6
  | .penalty => 7
  | .race => 8
  | .test => 9

/-- The nine causes by priority (R171). -/
def allCauses : List Cause :=
  [.suspended, .station, .review, .overdue, .passes, .overrun, .penalty, .race, .test]

/-- A cause's enable: bit priority − 1 of the mask (R172, section 11.5). -/
def Attention.enabled (a : Attention) (c : Cause) : Bool := a.mask.getLsbD (c.priority - 1)

/-- The causes that are raised and enabled, highest priority first (R172, R173). -/
def State.calling (s : State) : List Cause := allCauses.filter fun c => s.raised c && s.attention.enabled c

/-! ### Output pins -/

/-- How many red lamps are lit (R123). -/
def State.redsLit (s : State) : Nat :=
  match s.race.state with
  | .countdown => match s.race.countdown with
    | some c => c.reds
    | none => 0
  | .suspended => 5
  | .setup | .staging | .running | .finishing | .complete => 0

/-- The green lamp is lit (R123). -/
def RaceState.greenLit : RaceState → Bool
  | .running | .finishing => true
  | .setup | .staging | .countdown | .suspended | .complete => false

/-- Master power: as the POWER setting in Setup, off in Suspended, on in every other state (R122). -/
def State.powerOut (s : State) : Bool :=
  match s.race.state with
  | .setup => s.race.powerSetting
  | .suspended => false
  | .staging | .countdown | .running | .finishing | .complete => true

/-- The part drives the line only while it sends a response (R176). -/
def TxState.driving : TxState → Bool
  | .sending _ _ => true
  | .idle | .waiting _ _ | .rebooting => false

/-- The output pins as the state has them (R122, R123, R172, R176). -/
def State.pinsNow (s : State) : Pins :=
  { red1 := decide (1 ≤ s.redsLit), red2 := decide (2 ≤ s.redsLit), red3 := decide (3 ≤ s.redsLit)
    red4 := decide (4 ≤ s.redsLit), red5 := decide (5 ≤ s.redsLit)
    green := s.race.state.greenLit
    yellow := s.yellowCondition
    masterPower := s.powerOut
    atn := !s.calling.isEmpty
    driverEnable := s.link.tx.driving }

/-- The output pins brought to what the state gives: they change at the moment it does (R122, R123, R172). -/
def State.settle (s : State) : State := { s with pins := s.pinsNow }

/-- The outcome of a command that leaves the part in the state `s`. -/
def State.done (s : State) : Host.Outcome State Fault Refusal := .next s.settle

end Sys2Proof.Machine
end

