-- ==== Sys2Proof/Machine/Ceiling.lean ====
section
/-! DEFINITION. The Ceiling Unit (chapter 9): state ceilings, effective ceilings, dirty classes, the choice of the next
frame, and the link's pause. -/

namespace Sys2Proof.Machine

/-- The state ceiling of R157. The pairings the table does not list are given the ceiling of the entrant's own state
(Finished, whatever the race state but Suspended; DEDUCED, log entry 5) or 0 (pairings that never stand, log entry 5). -/
def stateCeiling (c : Ceilings) (yellow : Bool) : EntrantState → RaceState → Nat
  | .staged, .setup => c.setup
  | .staged, .staging => c.staging
  | .staged, .countdown => c.countdown
  | .racing, .running | .racing, .finishing => if yellow then c.caution else c.running
  | .finished, .suspended => 0
  | .finished, _ => if yellow then min c.coolDown c.caution else c.coolDown
  | _, _ => 0

/-- The head of a pit-penalty queue is a StopGo in state Serving (R158). -/
def Entrant.servingStopGo (e : Entrant) : Bool :=
  match e.penalties with
  | p :: _ => p.kind == .stopGo && p.state == .serving
  | [] => false

/-- The limits of R158 that apply to an entrant beside its state ceiling. -/
def State.limits (s : State) (e : Entrant) : List Nat :=
  let c := s.cfg.ceilings
  (if s.localCaution e.sector then [c.localCaution] else [])
    ++ (if e.pitStatus != .track || e.blackFlag then [c.pit] else [])
    ++ (if e.servingStopGo then [0] else [])
    ++ e.powerHold.toList.map (·.level)
    ++ e.override.toList

/-- The effective ceiling of R158: the lowest of the limits that apply. -/
def State.effectiveFor (s : State) (e : Entrant) : Nat :=
  (s.limits e).foldl min (stateCeiling s.cfg.ceilings s.race.yellow e.state s.race.state)

/-- The dirty class after a recomputation that took a ceiling from `old` to `new` (R160). -/
def DirtyClass.mark (old new : Nat) (d : DirtyClass) : DirtyClass :=
  if new < old then .lowered
  else if old < new then (if d = .clean then .raised else d)
  else d

/-- One recomputation: the new effective ceiling is written into the record, and the entrant is marked (R159, R160).
A Vacant record is not recomputed. -/
def State.recompute (s : State) (i : Slot) : State :=
  let e := s.entrant i
  if e.state = .vacant then s
  else
    let v := s.effectiveFor e
    (s.modEntrant i fun x => { x with effective := v }).setDirty i (DirtyClass.mark e.effective v (s.dirtyOf i))

/-- Every entrant that is not Vacant is recomputed (R159). -/
def State.recomputeAll (s : State) : State := s.forSlots State.recompute

/-- The slot the sender chooses: the lowest Lowered one, else the lowest Raised one (R161). -/
def State.chosenSlot (s : State) : Option Slot :=
  (allSlots.find? fun i => s.dirtyOf i == .lowered).or (allSlots.find? fun i => s.dirtyOf i == .raised)

/-- The slot whose frame the sender starts now: none while it is Sending, the link is paused, or nothing is marked
(R161, R164). -/
def State.frameDue (s : State) : Option Slot :=
  if s.ceiling.sender.isNone && !s.ceiling.paused then s.chosenSlot else none

/-- The start of a ceiling frame for a slot: its dirty class becomes None, and its code and present effective ceiling
are taken into the frame (R161). -/
def State.startFrame (s : State) (i : Slot) : State :=
  match (s.entrant i).code with
  | some code =>
    let s1 := s.setDirty i .clean
    { s1 with ceiling := { s1.ceiling with
        sender := some { slot := i, code := code, ceiling := (s.entrant i).effective, since := s.race.raceClock } } }
  | none => s

/-- The bytes of a ceiling frame: A6, code, ceiling, and the check that makes the sum 0 modulo 256 (R162, R184). -/
def Sending.bytes (f : Sending) : List Byte :=
  let code := BitVec.ofNat 8 f.code
  let ceiling := BitVec.ofNat 8 f.ceiling
  [0xA6#8, code, ceiling, -(0xA6#8 + code + ceiling)]

/-- The fewest whole ticks a ceiling frame takes: 40 bit times at 38,400 baud are 10.4 ticks (R162). -/
def frameTicks : Nat := 10

/-- A refresh: every unmarked entrant is marked Raised, and the next refresh is one period on (R163). -/
def State.refresh (s : State) : State :=
  let s1 := s.forSlots fun s i =>
    if (s.entrant i).state != .vacant && s.dirtyOf i == .clean then s.setDirty i .raised else s
  { s1 with ceiling := { s1.ceiling with
      nextRefresh := rawPlus s1.ceiling.nextRefresh (s1.cfg.refreshPeriod * ticksPerMs) } }

/-- The Pause byte on the return line (R164, R184). -/
def pauseCode : Byte := 0x13#8

/-- A byte that arrives whole on the return line (R164). -/
def State.returnByte (s : State) (b : Byte) : State :=
  if b = pauseCode then
    if s.ceiling.paused then s
    else { s with ceiling := { s.ceiling with
        paused := true
        holdStart := if s.race.state.heldCounts then some s.race.raceClock else s.ceiling.holdStart } }
  else if s.ceiling.paused then { s with ceiling := { s.ceiling with paused := false, holdStart := none } }
  else s

/-- The hold limit has run since the hold start (R165). -/
def State.holdDue (s : State) : Bool :=
  match s.ceiling.holdStart with
  | some t => decide (s.cfg.holdLimit * ticksPerMs ≤ s.since t)
  | none => false

end Sys2Proof.Machine
end

