-- ==== Sys2Proof/Machine/Standings.lean ====
section
/-! DEFINITION. The Standing Order (chapter 5): the key, and an entrant's placing in the list. -/

namespace Sys2Proof.Machine

/-- A reach time is earlier than another, an absent one counting as later than any present one (R91). -/
def reachBefore : Option RunTime → Option RunTime → Bool
  | some a, some b => decide (a < b)
  | some _, none => true
  | none, _ => false

/-- Key `a` ranks ahead of key `b` (R91). -/
def Key.ahead (a b : Key) : Bool := decide (b.laps < a.laps) || (a.laps == b.laps && reachBefore a.reach b.reach)

/-- Key `a` ranks ahead of key `b` or equals it (R91, R92). -/
def Key.aheadOrEqual (a b : Key) : Bool := a.ahead b || a == b

/-- The insertion of R92: directly after the last entry whose key ranks ahead of the new one or equals it, and at the
head if there is none. -/
def insertStanding (x : Standing) : List Standing → List Standing
  | [] => [x]
  | y :: ys => if (y :: ys).any (fun z => z.key.aheadOrEqual x.key) then y :: insertStanding x ys else x :: y :: ys

/-- The list without a slot (R96). -/
def withoutSlot (i : Slot) (l : List Standing) : List Standing := l.filter fun x => x.slot != i

/-- An entrant's present key (R91). -/
def Entrant.key (e : Entrant) : Key := { laps := e.laps, reach := e.reachTime }

/-- The re-placing of a list's entry for a slot at a new key: an equal key leaves it where it stands, and a slot that
does not stand in the list leaves the list as it is (R92, R93). -/
def placeAgain (i : Slot) (k : Key) (l : List Standing) : List Standing :=
  match l.find? (fun x => x.slot == i) with
  | none => l
  | some x => if x.key = k then l else insertStanding { slot := i, key := k } (withoutSlot i l)

/-- The Standing Order takes a notice about an entrant and re-places it (R92, R93). -/
def State.replace (s : State) (i : Slot) : State :=
  { s with standings := placeAgain i (s.entrant i).key s.standings }

/-- ENTER's slot joins at the tail with the lowest key (R96). -/
def State.joinStandings (s : State) (i : Slot) : State :=
  { s with standings := s.standings ++ [{ slot := i, key := Key.lowest }] }

/-- A slot leaves the list (R96). -/
def State.leaveStandings (s : State) (i : Slot) : State := { s with standings := withoutSlot i s.standings }

/-- The list rebuilt by a race reset: every Staged slot in slot order, at the lowest key (R98). -/
def State.rebuildStandings (s : State) : State :=
  { s with standings := (s.slotsWith (·.state == .staged)).map fun i => { slot := i, key := Key.lowest } }

end Sys2Proof.Machine
end

