-- ==== Sys2Proof/Machine/Penalty.lean ====
section
/-! DEFINITION. The Penalty Unit (chapter 8): the pit-penalty queue, its service, power holds, the rulings that act at
once, waivers, finish conversion and clearing. -/

namespace Sys2Proof.Machine

/-! ### Small writes to a record -/

/-- The penalty activity mark is set (R138). -/
def State.markActivity (s : State) (i : Slot) : State := s.modEntrant i fun e => { e with activity := true }

/-- The pit-penalty queue takes a value. -/
def State.setPenalties (s : State) (i : Slot) (q : List PitPenalty) : State :=
  s.modEntrant i fun e => { e with penalties := q }

/-- The hold timer takes a value. -/
def State.setHoldTimer (s : State) (i : Slot) (t : Option RunTime) : State :=
  s.modEntrant i fun e => { e with holdTimer := t }

/-- The power hold takes a value, and the Ceiling Unit is told (R149, R150). -/
def State.setPowerHold (s : State) (i : Slot) (h : Option PowerHold) : State :=
  (s.modEntrant i fun e => { e with powerHold := h }).recompute i

/-- The Black-flag mark takes a value, and the Ceiling Unit is told (R152). -/
def State.setBlackFlag (s : State) (i : Slot) (on : Bool) : State :=
  (s.modEntrant i fun e => { e with blackFlag := on }).recompute i

/-! ### The queue and its head -/

/-- The hold seconds of an entry in ticks; a drive-through has none (R140). -/
def PitPenalty.holdTicks (p : PitPenalty) : Nat := p.hold.getD 0 * ticksPerSecond

/-- An entry is a StopGo in state Serving. -/
def PitPenalty.servingStopGo (p : PitPenalty) : Bool := p.kind == .stopGo && p.state == .serving

/-- A Pending entry made Active, with its full deadline laps (R142). -/
def PitPenalty.activated (p : PitPenalty) : PitPenalty := { p with state := .active, remaining := some p.deadline }

/-- The head, an Active StopGo, becomes Serving until a running time, and the Ceiling Unit is told (R142, R144). -/
def State.serveHead (s : State) (i : Slot) (p : PitPenalty) (rest : List PitPenalty) (until_ : RunTime) : State :=
  ((s.setPenalties i ({ p with state := .serving } :: rest)).setHoldTimer i (some until_)).recompute i

/-- The head, a Serving StopGo, returns to Active with its laps remaining kept, the hold timer becomes absent, and the
Ceiling Unit is told (R143, R144). -/
def State.unserveHead (s : State) (i : Slot) (p : PitPenalty) (rest : List PitPenalty) : State :=
  ((s.setPenalties i ({ p with state := .active } :: rest)).setHoldTimer i none).recompute i

/-- The judging of a new head (R142). -/
def State.judgeHead (s : State) (i : Slot) : State :=
  match (s.entrant i).penalties with
  | [] => s
  | p :: rest =>
    if p.state = .pending then
      if p.kind = .stopGo ∧ (s.entrant i).pitStatus = .box then
        s.serveHead i p.activated rest (s.race.runningClock + p.holdTicks)
      else s.setPenalties i (p.activated :: rest)
    else s

/-- The removal of the head without judging the entry behind it; a Serving StopGo takes its hold timer with it, and
the Ceiling Unit is told (R146, R148, R153). -/
def State.dropHead (s : State) (i : Slot) : State :=
  match (s.entrant i).penalties with
  | [] => s
  | p :: rest =>
    let s1 := s.setPenalties i rest
    if p.servingStopGo then (s1.setHoldTimer i none).recompute i else s1

/-- The head is served: removed, with its activity mark, and the new head judged (R145, R146). -/
def State.serveOut (s : State) (i : Slot) : State := ((s.dropHead i).markActivity i).judgeHead i

/-- The queue entry a call places (R140, R141). -/
def Call.entry (c : Call) (kind : PenaltyKind) (hold : Option Nat) (deadline conversion : Nat) : PitPenalty :=
  { kind := kind, cls := c.cls, hold := hold, deadline := deadline, conversion := conversion
    escalation := c.escalation, state := .pending, remaining := none
    calledAt := c.calledAt, calledLap := c.calledLap }

/-- The placing of a pit penalty: at the head for an escalation, else at the tail, or the Black-flag mark when the
queue is full; then the head is judged (R141). -/
def State.placePenalty (s : State) (i : Slot) (p : PitPenalty) : State :=
  let q := (s.entrant i).penalties
  if p.escalation then (s.setPenalties i (p :: q)).judgeHead i
  else if q.length < 4 then (s.setPenalties i (q ++ [p])).judgeHead i
  else s.setBlackFlag i true

/-! ### Power holds and rulings that act at once -/

/-- The hold a PowerHold ruling leaves: a new one, or the running one merged with it, its remaining time saturating at
60 s (R149). -/
def mergeHold (now : RunTime) (level duration : Nat) : Option PowerHold → PowerHold
  | none => { level := level, expiry := now + duration * ticksPerSecond }
  | some h =>
    { level := min h.level level
      expiry := now + min (h.expiry - now + duration * ticksPerSecond) (60 * ticksPerSecond) }

/-- A LapDeduction, saturating at 0; the Standing Order is told (R151). -/
def State.deductLaps (s : State) (i : Slot) (k : Nat) : State :=
  (s.modEntrant i fun e => { e with laps := e.laps - k }).replace i

/-- The Penalty Unit carries out a call's ruling (R130, R141, R149, R151, R152). -/
def State.carryRuling (s : State) (c : Call) : State :=
  match c.ruling with
  | .driveThrough d v => s.placePenalty c.slot (c.entry .driveThrough none d v)
  | .stopGo h d v => s.placePenalty c.slot (c.entry .stopGo (some h) d v)
  | .powerHold l t => s.setPowerHold c.slot (some (mergeHold s.race.runningClock l t (s.entrant c.slot).powerHold))
  | .lapDeduction k => s.deductLaps c.slot k
  | .blackFlag => s.setBlackFlag c.slot true

/-! ### Service events -/

/-- PitIn (R143). -/
def State.penaltyPitIn (s : State) (i : Slot) : State :=
  match (s.entrant i).penalties with
  | [] => s
  | p :: rest =>
    match p.kind, p.state with
    | .driveThrough, .active => s.setPenalties i ({ p with state := .serving } :: rest)
    | .stopGo, .serving => s.unserveHead i p rest
    | _, _ => s

/-- A box arrival at a running time (R144). -/
def State.penaltyBoxArrival (s : State) (i : Slot) (t : RunTime) : State :=
  match (s.entrant i).penalties with
  | [] => s
  | p :: rest =>
    if p.kind = .stopGo ∧ p.state = .active then s.serveHead i p rest (t + p.holdTicks) else s

/-- A box departure (R144). -/
def State.penaltyBoxDeparture (s : State) (i : Slot) : State :=
  match (s.entrant i).penalties with
  | [] => s
  | p :: rest => if p.servingStopGo then s.unserveHead i p rest else s

/-- PitOut: an Active or Serving drive-through is served (R145). -/
def State.penaltyPitOut (s : State) (i : Slot) : State :=
  match (s.entrant i).penalties with
  | [] => s
  | p :: _ => if p.kind = .driveThrough ∧ p.state ≠ .pending then s.serveOut i else s

/-! ### Waivers, finish and clearing -/

/-- WAIVE of the entry at a queue position (R153). -/
def State.waiveEntry (s : State) (i : Slot) (pos : Nat) : State :=
  if pos = 0 then (s.dropHead i).judgeHead i
  else s.setPenalties i ((s.entrant i).penalties.eraseIdx pos)

/-- The queue, the hold timer and the power hold become empty and absent, and the Ceiling Unit is told (R155). -/
def State.clearPenalties (s : State) (i : Slot) : State :=
  (s.modEntrant i fun e => { e with penalties := [], holdTimer := none, powerHold := none }).recompute i

/-- Finish conversion (R154). -/
def State.convertPenalties (s : State) (i : Slot) : State :=
  let e := s.entrant i
  let sum := (e.penalties.map (·.conversion)).sum
  let s1 := s.modEntrant i fun x =>
    { x with laps := x.laps - sum, penalties := [], holdTimer := none, powerHold := none }
  let s2 := if e.penalties.isEmpty && e.powerHold.isNone then s1 else (s1.markActivity i).recompute i
  if (s2.entrant i).laps = e.laps then s2 else s2.replace i

end Sys2Proof.Machine
end

