-- ==== Sys2Proof/Machine/Calls.lean ====
section
/-! DEFINITION. The Call Unit (chapter 7): infraction reports, calls, the count of station presses, and what a credited
crossing does to a pit penalty, which may call again (R147, R148). -/

namespace Sys2Proof.Machine

/-- The place of an infraction class in the Call Table; Manual has none (R125). -/
def CallClass.row : CallClass → Option (Fin 7)
  | .jumpStart => some 0
  | .pitSpeeding => some 1
  | .switchUnderCaution => some 2
  | .laneFault => some 3
  | .callLimit => some 4
  | .missedDriveThrough => some 5
  | .missedStopGo => some 6
  | .manual => none

/-- The Call Table's ruling for a class; kind None, and Manual, have no ruling (R127). -/
def State.rulingFor (s : State) (c : CallClass) : Option Ruling :=
  match c.row with
  | some r => s.callTable[r.val]
  | none => none

/-- A class whose calls are escalations (R130). -/
def CallClass.escalates : CallClass → Bool
  | .missedDriveThrough | .missedStopGo => true
  | .jumpStart | .pitSpeeding | .switchUnderCaution | .laneFault | .callLimit | .manual => false

/-- A call: its record is formed, the Penalty Unit carries the ruling out, and the activity mark is set (R130). -/
def State.makeCall (s : State) (i : Slot) (c : CallClass) (r : Ruling) : State :=
  (s.carryRuling
    { slot := i, cls := c, ruling := r, calledAt := s.race.runningClock
      calledLap := (s.entrant i).laps, escalation := c.escalates }).markActivity i

/-- An infraction report: dropped unless the entrant is Racing, else ruled on by the Call Table (R126, R130). -/
def State.report (s : State) (i : Slot) (c : CallClass) : State :=
  if (s.entrant i).state = .racing then
    match s.rulingFor c with
    | some r => s.makeCall i c r
    | none => s
  else s

/-- Reports taken one after the other (R132). -/
def State.reportAll (s : State) (i : Slot) (cs : List CallClass) : State := cs.foldl (fun s c => s.report i c) s

/-- A counted press: calls used rise by one, saturating at 15, and a press over the limit is reported (R133). -/
def State.countPress (s : State) (n : StationNo) : State :=
  match s.slotOfStation n with
  | none => s
  | some i =>
    let e := s.entrant i
    if e.state = .racing then
      let s1 := s.modEntrant i fun x => { x with callsUsed := min 15 (x.callsUsed + 1) }
      if s.cfg.callLimit ≠ 0 ∧ s.cfg.callLimit ≤ e.callsUsed then s1.report i .callLimit else s1
    else s

/-- The class a missed pit penalty is reported as (R135). -/
def PenaltyKind.missedClass : PenaltyKind → CallClass
  | .driveThrough => .missedDriveThrough
  | .stopGo => .missedStopGo

/-- The head is missed: removed unjudged, marked, reported, and then the head is judged (R148). -/
def State.missHead (s : State) (i : Slot) (kind : PenaltyKind) : State :=
  (((s.dropHead i).markActivity i).report i kind.missedClass).judgeHead i

/-- The head as a credited crossing finds it: a Serving drive-through whose car is back on the track is Active again
(R147, step 1). -/
def PitPenalty.owedAgain (p : PitPenalty) (pit : PitStatus) : PitPenalty :=
  if p.kind = .driveThrough ∧ p.state = .serving ∧ pit = .track then { p with state := .active } else p

/-- What a credited crossing does to the head of the queue (R147). -/
def State.penaltyCrossing (s : State) (i : Slot) (cautionLap : Bool) : State :=
  match (s.entrant i).penalties with
  | [] => s
  | p :: rest =>
    let q := p.owedAgain (s.entrant i).pitStatus
    let s1 := s.setPenalties i (q :: rest)
    if q.state = .active ∧ cautionLap = false then
      match q.remaining with
      | some r =>
        let s2 := s.setPenalties i ({ q with remaining := some (r - 1) } :: rest)
        if r ≤ 1 then s2.missHead i q.kind else s2
      | none => s1
    else s1

end Sys2Proof.Machine
end

