-- ==== Sys2Proof/Machine/Caution.lean ====
section
/-! DEFINITION. The yellow flag and the Caution Map (section 6.5): the caution notices, the holders of local caution,
and the release of an Overdue entrant. -/

namespace Sys2Proof.Machine

/-- A caution notice: the lap caution mark is set in every Racing entrant it concerns (R80, R116). -/
def State.notice (s : State) (concerns : Entrant → Bool) : State :=
  s.forSlots fun s i =>
    if (s.entrant i).state == .racing && concerns (s.entrant i) then
      s.modEntrant i fun e => { e with lapCaution := true }
    else s

/-- The yellow flag takes a value: turning on sends the notice, and a change tells the Ceiling Unit (R113, R116). -/
def State.setYellow (s : State) (on : Bool) : State :=
  if s.race.yellow = on then s
  else
    let s1 := { s with race := { s.race with yellow := on } }
    (if on then s1.notice fun _ => true else s1).recomputeAll

/-- A change of one sector of the map: the notice goes out if the sector comes under local caution, and the Ceiling
Unit is told if it comes under it or leaves it (R114, R115, R116). -/
def State.changeSector (s : State) (k : Nat) (f : SectorCaution → SectorCaution) : State :=
  let s1 := s.modSector k f
  if s.localCaution k = s1.localCaution k then s1
  else (if s1.localCaution k then s1.notice fun e => e.sector == k else s1).recomputeAll

/-- The host flag of a sector takes a value (R115). -/
def State.setHostFlag (s : State) (k : Nat) (on : Bool) : State :=
  s.changeSector k fun z => { z with hostFlag := on }

/-- A holder joins the tail of a sector's holder list (R114). -/
def State.addHolder (s : State) (k : Nat) (i : Slot) : State :=
  s.changeSector k fun z => { z with holders := z.holders ++ [i] }

/-- A slot leaves the holder list it was added to: it stands in at most one (R114, R65). -/
def State.dropHolder (s : State) (i : Slot) : State :=
  [0, 1, 2, 3].foldl (fun s k => s.changeSector k fun z => { z with holders := z.holders.filter (· != i) }) s

/-- The release of an Overdue entrant; an entrant that is not Overdue is left as it is (R65). -/
def State.release (s : State) (i : Slot) : State :=
  if (s.entrant i).overdue then (s.modEntrant i fun e => { e with overdue := false }).dropHolder i else s

/-- The expiry of an entrant's sighting deadline (R64). -/
def State.expireSighting (s : State) (i : Slot) : State :=
  let s1 := s.modEntrant i fun e => { e with deadline := none, overdue := true }
  if s1.cfg.autoLocalCaution then s1.addHolder (s1.entrant i).sector i else s1

end Sys2Proof.Machine
end

