-- ==== Sys2Proof/Machine/Race.lean ====
section
/-! DEFINITION. The Race Sequencer (chapter 6): the start, suspension, resumption and the finish, with what the Entrant
Table does at green and at a finish (R52, R53). -/

namespace Sys2Proof.Machine

/-! ### The finish -/

/-- A Racing entrant is finished with a status at a running time (R53). -/
def State.finishEntrant (s : State) (i : Slot) (st : FinishStatus) (t : RunTime) : State :=
  let s1 := (s.modEntrant i fun e => { e with state := .finished, finishStatus := some st, finishTime := some t }).recompute i
  let s2 := (s1.modEntrant i fun e => { e with deadline := none }).release i
  (s2.convertPenalties i).recompute i

/-- Every Racing entrant is finished Unflagged, in slot order, at a running time (R119, R120). -/
def State.finishAll (s : State) (t : RunTime) : State :=
  s.forSlots fun s i => if (s.entrant i).state = .racing then s.finishEntrant i .unflagged t else s

/-- The race goes to Complete (R119, R120): nothing of a suspension, and no finish window, is left. -/
def State.complete (s : State) : State :=
  let s1 := s.enterRace .complete
  { s1 with race := { s1.race with finishDeadline := none, resume := none, suspStart := none } }.recomputeAll

/-- A Finishing race with no Racing entrant left goes to Complete (R119). -/
def State.checkFinished (s : State) : State :=
  if s.race.state = .finishing ∧ s.racingLeft = false then s.complete else s

/-- The race enters Finishing (R119). -/
def State.enterFinishing (s : State) : State :=
  let s1 := s.enterRace .finishing
  ({ s1 with race := { s1.race with
      finishDeadline := some (s1.race.runningClock + s1.cfg.finishWindow * ticksPerSecond) } }.recomputeAll).checkFinished

/-- The Race Sequencer is told of a credited crossing at a running time, and judges it with the laps as they stand
(R117, R151). -/
def State.judgeCrossing (s : State) (i : Slot) (t : RunTime) : State :=
  match s.race.state with
  | .running =>
    if s.cfg.lapTarget ≠ 0 ∧ s.cfg.lapTarget ≤ (s.entrant i).laps then (s.finishEntrant i .flagged t).enterFinishing else s
  | .finishing => (s.finishEntrant i .flagged t).checkFinished
  | .setup | .staging | .countdown | .suspended | .complete => s

/-- The race is ended outright, every Racing entrant finishing Unflagged at a running time (R120). -/
def State.endRace (s : State) (t : RunTime) : State := (s.finishAll t).complete

/-! ### The start -/

/-- At green the laps of an entrant that has any become 0, and the Standing Order is told (R52). -/
def State.zeroLaps (s : State) (i : Slot) : State :=
  if (s.entrant i).laps = 0 then s else (s.modEntrant i fun e => { e with laps := 0 }).replace i

/-- At green the sighting deadline is set, unless the window is off or the car stands in the box (R52, R62). -/
def State.firstDeadline (s : State) (i : Slot) : State :=
  if s.cfg.sightingWindow ≠ 0 ∧ (s.entrant i).pitStatus ≠ .box then
    s.modEntrant i fun e => { e with deadline := some (s.cfg.sightingWindow * ticksPerSecond) }
  else s

/-- At green a jump-start mark is reported and cleared (R52). -/
def State.reportJumpStart (s : State) (i : Slot) (marked : Bool) : State :=
  if marked then (s.report i .jumpStart).modEntrant i fun e => { e with jumpStart := false } else s

/-- What green does to one Staged entrant (R52). -/
def State.greenEntrant (s : State) (i : Slot) : State :=
  let s1 := (s.modEntrant i fun e => { e with state := .racing }).recompute i
  let s2 := (s1.zeroLaps i).modEntrant i fun e =>
    { e with latestCrossing := none, prevCrossing := none, reachTime := none }
  (s2.firstDeadline i).reportJumpStart i (s.entrant i).jumpStart

/-- Every Staged entrant takes green, in slot order (R52). -/
def State.greenEntrants (s : State) : State :=
  s.forSlots fun s i => if (s.entrant i).state = .staged then s.greenEntrant i else s

/-- Green (R108). -/
def State.green (s : State) : State :=
  let s1 := s.enterRace .running
  let s2 := { s1 with race := { s1.race with
      green := some s1.race.raceClock, suspTotal := 0, runningClock := 0, countdown := none } }
  s2.greenEntrants.recomputeAll

/-- The light interval in ticks (R105). -/
def State.lightTicks (s : State) : Nat := s.cfg.lightInterval * ticksPerMs

/-- The countdown's next step is due (R107). -/
def State.stepDue (s : State) : Option Countdown :=
  match s.race.state, s.race.countdown with
  | .countdown, some c => if s.reached c.next then some c else none
  | _, _ => none

/-- A step of the countdown (R107). A green delay of 0 goes through the Delay phase to green in this step. -/
def State.stepCountdown (s : State) (c : Countdown) : State :=
  match c.phase with
  | .delay => s.green
  | .lights =>
    if c.reds < 5 then
      { s with race := { s.race with countdown := some { c with reds := c.reds + 1, next := rawPlus c.next s.lightTicks } } }
    else if c.delay = 0 then s.green
    else { s with race := { s.race with
        countdown := some { c with phase := .delay, next := rawPlus c.next c.delay } } }

/-! ### Suspension and resumption -/

/-- The suspension of a Running or Finishing race (R109). -/
def State.suspendFrom (s : State) (back : ResumeTo) (why : Reason) : State :=
  let s1 := s.enterRace .suspended
  { s1 with
    race := { s1.race with resume := some back, suspStart := some s1.race.raceClock }
    attention := { s1.attention with suspended := some why } }.recomputeAll

/-- Every jump-start mark is cleared (R110). -/
def State.dropJumpStarts (s : State) : State := s.forSlots fun s i => s.modEntrant i fun e => { e with jumpStart := false }

/-- The abort of a start (R110). -/
def State.abortStart (s : State) (why : Reason) : State :=
  let s1 := s.enterRace .staging
  let s2 := { s1 with
    race := { s1.race with countdown := none }
    attention := { s1.attention with suspended := some why } }
  s2.dropJumpStarts.recomputeAll

/-- A suspension cause (R109, R110). -/
def State.suspensionCause (s : State) (why : Reason) : State :=
  match s.race.state with
  | .running => s.suspendFrom .running why
  | .finishing => s.suspendFrom .finishing why
  | .countdown => s.abortStart why
  | .setup | .staging | .suspended | .complete => s

/-- The race state a resume state stands for. -/
def ResumeTo.race : ResumeTo → RaceState
  | .running => .running
  | .finishing => .finishing

/-- An accepted RESUME (R111). In Suspended the suspension start and the resume state are present. -/
def State.resumeRace (s : State) (yellow : Bool) : State :=
  let interval := match s.race.suspStart with
    | some t => s.race.raceClock - t
    | none => 0
  let s1 := s.enterRace (s.race.resume.getD .running).race
  let s2 := { s1 with race := { s1.race with
      suspTotal := s1.race.suspTotal + interval, suspStart := none, resume := none } }
  ((s2.setYellow yellow).recomputeAll).checkFinished

/-- The time target is reached: it is set, the race is Running, and the running clock has come to it (R118). -/
def State.timeTargetDue (s : State) : Bool :=
  s.cfg.timeTarget != 0 && s.race.state == .running && decide (s.cfg.timeTarget * ticksPerSecond ≤ s.race.runningClock)

/-- The finish window has expired: its deadline, in a Finishing race, when the running clock has come to it (R119). -/
def State.windowDue (s : State) : Option RunTime :=
  match s.race.state, s.race.finishDeadline with
  | .finishing, some d => if d ≤ s.race.runningClock then some d else none
  | _, _ => none

/-- The running clock has come to its cap in Running or Finishing (R102, R120). -/
def State.capDue (s : State) : Bool := s.race.state.clockRuns && decide (runningCap ≤ s.race.runningClock)

end Sys2Proof.Machine
end

