-- ==== Sys2Proof/Machine/CeilingEvents.lean ====
section
/-! DEFINITION. The meanings of the ceiling link's events (chapter 9). An event whose condition does not hold does not
happen: the state stays as it is (log entry 3). -/

namespace Sys2Proof.Machine

/-- CEILING_FRAME_START: the Idle, unpaused sender starts the frame of the most urgent marked entrant (R161). -/
def execCeilingFrameStart (s : State) : Host.Outcome State Fault Refusal :=
  match s.frameDue with
  | some i => (s.startFrame i).done
  | none => s.done

/-- CEILING_FRAME_END: the last byte of the frame has left the line, and the sender is Idle (R161, R162). It chooses
again at once: CEILING_FRAME_START is then due. -/
def execCeilingFrameEnd (s : State) : Host.Outcome State Fault Refusal :=
  match s.ceiling.sender with
  | some f =>
    if frameTicks ≤ s.since f.since then { s with ceiling := { s.ceiling with sender := none } }.done else s.done
  | none => s.done

/-- CEILING_REFRESH: the race clock has reached the next refresh time (R163). -/
def execCeilingRefresh (s : State) : Host.Outcome State Fault Refusal :=
  if s.reached s.ceiling.nextRefresh then s.refresh.done else s.done

/-- PAUSE_BYTE: a Pause byte arrives whole on the return line (R164). -/
def execPauseByte (s : State) : Host.Outcome State Fault Refusal := (s.returnByte pauseCode).done

/-- RESUMING_BYTE: another byte arrives whole on the return line (R164). -/
def execResumingByte (byte : Byte) (s : State) : Host.Outcome State Fault Refusal := (s.returnByte byte).done

/-- RETURN_BYTE_ERROR: a byte with a bad stop bit pauses or resumes nothing (R164). -/
def execReturnByteError (s : State) : Host.Outcome State Fault Refusal := s.done

/-- LINK_HOLD_EXPIRY: the hold limit has run; the hold start becomes absent, and the Race Sequencer takes a suspension
cause with reason LinkHeld (R165). -/
def execLinkHoldExpiry (s : State) : Host.Outcome State Fault Refusal :=
  if s.holdDue then
    ({ s with ceiling := { s.ceiling with holdStart := none } }.suspensionCause .linkHeld).done
  else s.done

end Sys2Proof.Machine
end

