-- ==== Sys2Proof/Machine/Laps.lean ====
section
/-! DEFINITION. The Lap Unit (chapter 4): crossings, best laps, sectors, the Lead Lap Ring, gaps, and the late assignment
of a Line pass. -/

namespace Sys2Proof.Machine

/-- The longest lap time a record holds (R72). -/
def maxLapTicks : Nat := 16777215

/-- The most laps a record holds (R72). -/
def maxLaps : Nat := 9999

/-- Caution at the line: the yellow flag is on or sector 0 is under local caution (R70, R75). -/
def State.lineCaution (s : State) : Bool := s.race.yellow || s.localCaution 0

/-- The time of a sector that ends at `t`: since the last boundary when that is present and earlier, else absent (R74,
R77). -/
def sectorTime (lastBoundary : Option RunTime) (t : RunTime) : Option Nat :=
  match lastBoundary with
  | some b => if b < t then some (t - b) else none
  | none => none

/-- The judging of a lap against the best one (R73). -/
def judgeBest (best : Option BestLap) (ticks lap : Nat) (long caution : Bool) : Option BestLap :=
  if long || caution then best
  else match best with
    | none => some { ticks := ticks, lap := lap }
    | some b => if ticks < b.ticks then some { ticks := ticks, lap := lap } else best

/-- A launch at a running time (R70). -/
def State.launch (s : State) (i : Slot) (t : RunTime) : State :=
  let s1 := s.modEntrant i fun e =>
    { e with
      latestCrossing := some t, reachTime := some t
      currentSectors := [], sector := 0, lastBoundary := some t
      lapCaution := s.lineCaution
      lapsDown := s.highMark - e.laps, gap := none }
  (s1.recompute i).replace i

/-- The sector list a credited crossing closes (R74). -/
def Entrant.closedSectors (e : Entrant) (n : Nat) (t : RunTime) : List (Option Nat) :=
  e.currentSectors ++ List.replicate (n - 1 - e.sector) none ++ [sectorTime e.lastBoundary t]

/-- The lap fields a credited crossing at `t`, `d` after the latest crossing, writes in the record: R72 to R75. -/
def Entrant.credited (e : Entrant) (cfg : RaceConfig) (t : RunTime) (d : Nat) (assigned lineCaution : Bool) : Entrant :=
  let n := min maxLaps (e.laps + 1)
  let ticks := min d maxLapTicks
  let long := decide (cfg.lapCeiling < d)
  { e with
    laps := n
    prevCrossing := e.latestCrossing, latestCrossing := some t, reachTime := some t
    lastLap := some ticks
    lastLapMarks := { long := long, caution := e.lapCaution, assigned := assigned }
    bestLap := judgeBest e.bestLap ticks n long e.lapCaution
    lastSectors := e.closedSectors cfg.sectorCount t, currentSectors := []
    sector := 0, lastBoundary := some t
    lapCaution := lineCaution }

/-- The ring entry for a lap, if it holds that lap (R81, R83). -/
def State.ringTime (s : State) (n : Nat) : Option RunTime :=
  match s.ring[n % 16]'(Nat.mod_lt _ (by decide)) with
  | some r => if r.lap = n then some r.time else none
  | none => none

/-- The time written for a new lead lap: not earlier than the lead lap below it (R82). -/
def State.leadTime (s : State) (t : RunTime) : RunTime :=
  match s.ringTime s.highMark with
  | some b => if s.highMark = 0 then t else max t b
  | none => t

/-- The measuring of an entrant, credited with `n` laps at `t`, against the leader (R82, R83). -/
def State.measure (s : State) (i : Slot) (n : Nat) (t : RunTime) : State :=
  if s.highMark < n then
    let s1 := { s with
      ring := s.ring.set (n % 16) (some { lap := n, time := s.leadTime t }) (Nat.mod_lt _ (by decide)), highMark := n }
    s1.modEntrant i fun e => { e with gap := some 0, lapsDown := 0 }
  else
    s.modEntrant i fun e => { e with lapsDown := s.highMark - n, gap := (s.ringTime n).map (t - ·) }

/-- A credited crossing (R72 to R76, R82, R83). -/
def State.credit (s : State) (i : Slot) (latest t : RunTime) (assigned : Bool) : State :=
  let cautionLap := (s.entrant i).lapCaution
  let s1 := s.modEntrant i fun e => e.credited s.cfg t (t - latest) assigned s.lineCaution
  let s2 := (s1.recompute i).measure i (s1.entrant i).laps t
  ((s2.replace i).penaltyCrossing i cautionLap).judgeCrossing i t

/-- A crossing at a running time (R69, R71). -/
def State.crossing (s : State) (i : Slot) (t : RunTime) : State :=
  match (s.entrant i).latestCrossing with
  | none => s.launch i t
  | some l => if t < l + s.cfg.lapFloor then s else s.credit i l t false

/-- A boundary at a running time (R77 to R79). -/
def State.boundary (s : State) (i : Slot) (b : Nat) (t : RunTime) : State :=
  let c := (s.entrant i).sector
  if c < b then
    let entered := (List.range (b + 1)).filter fun k => decide (c < k)
    let s1 := s.modEntrant i fun e =>
      { e with
        currentSectors := e.currentSectors ++ List.replicate (b - 1 - c) none ++ [sectorTime e.lastBoundary t]
        sector := b, lastBoundary := some t
        lapCaution := e.lapCaution || entered.any s.localCaution }
    s1.recompute i
  else s

/-! ### Late assignment -/

/-- What the Lap Unit makes of an assigned Line pass (R85). -/
inductive LateOutcome where
  | launch
  | credit (latest : RunTime)
  | split (prev latest : RunTime)
  | duplicate
  | tooOld
  deriving DecidableEq, Repr

/-- `a` lies within the lap floor of a crossing, on either side (R85). -/
def withinFloor (floor : Nat) (a crossing : RunTime) : Bool := decide (crossing < a + floor) && decide (a < crossing + floor)

/-- The judging of an assigned Line pass at running time `a` (R85). -/
def judgeLate (floor : Nat) (latest prev : Option RunTime) (a : RunTime) : LateOutcome :=
  match latest with
  | none => .launch
  | some l =>
    if withinFloor floor a l then .duplicate
    else if l < a then .credit l
    else match prev with
      | some p => if withinFloor floor a p then .duplicate else if p < a then .split p l else .tooOld
      | none => .tooOld

/-- The record after the split of its last lap at `a` (R87). -/
def Entrant.splitLap (e : Entrant) (ceiling prev latest a : Nat) : Entrant :=
  let n := min maxLaps (e.laps + 1)
  let d1 := a - prev
  let d2 := latest - a
  let caution := e.lastLapMarks.caution
  let best1 := judgeBest e.bestLap (min d1 maxLapTicks) (n - 1) (decide (ceiling < d1)) caution
  { e with
    laps := n
    prevCrossing := some a
    lastLap := some (min d2 maxLapTicks)
    lastLapMarks := { long := decide (ceiling < d2), caution := caution, assigned := true }
    bestLap := judgeBest best1 (min d2 maxLapTicks) n (decide (ceiling < d2)) caution }

/-- The split of the last lap (R87, R88). -/
def State.split (s : State) (i : Slot) (prev latest a : RunTime) : State :=
  (s.modEntrant i fun e => e.splitLap s.cfg.lapCeiling prev latest a).replace i

/-- The Lap Unit's part of an assigned Line pass it accepts (R86, R87). -/
def State.lateLap (s : State) (i : Slot) (a : RunTime) : LateOutcome → State
  | .launch => s.launch i a
  | .credit l => s.credit i l a true
  | .split p l => s.split i p l a
  | .duplicate | .tooOld => s

end Sys2Proof.Machine
end

