-- ==== Sys2Proof/Machine/Table.lean ====
section
/-! DEFINITION. The Entrant Table's dealing with passes and box reports (sections 3.5 to 3.7): treatments, lanes, pit
status, the sighting deadline and the infractions a pass shows. -/

namespace Sys2Proof.Machine

/-- The treatments of R54. -/
inductive Treatment where
  | untouched
  | position
  | held
  | full
  deriving DecidableEq, Repr

/-- The treatment a pass or box report receives (R54). Pairings the table does not list do not stand (log entry 5);
they are left untouched. -/
def treatment : EntrantState → RaceState → Treatment
  | .staged, .setup | .staged, .staging | .staged, .countdown => .position
  | .racing, .running | .racing, .finishing => .full
  | .racing, .suspended => .held
  | .finished, .finishing | .finished, .suspended | .finished, .complete => .position
  | _, _ => .untouched

/-- Full and Held treatment, under which pit stops are counted and the Penalty Unit is told (R54). -/
def Treatment.scored : Treatment → Bool
  | .held | .full => true
  | .untouched | .position => false

/-! ### Lane and pit status -/

/-- The lane takes a value. -/
def State.setLane (s : State) (i : Slot) (lane : Option Nat) : State := s.modEntrant i fun e => { e with lane := lane }

/-- The pit status takes a value, and the Ceiling Unit is told (R43). -/
def State.setPitStatus (s : State) (i : Slot) (p : PitStatus) : State :=
  (s.modEntrant i fun e => { e with pitStatus := p }).recompute i

/-- A box departure's effect on the pit status: none unless the car is in the box (R60). -/
def State.leaveBox (s : State) (tr : Treatment) (i : Slot) : State :=
  if (s.entrant i).pitStatus = .box then
    let s1 := s.setPitStatus i .pitLane
    if tr.scored then s1.penaltyBoxDeparture i else s1
  else s

/-- The pit visit ended by a gate on a racing lane (R58). -/
def State.endPitVisit (s : State) (tr : Treatment) (i : Slot) : State :=
  let s1 := s.leaveBox tr i
  if (s1.entrant i).pitStatus = .pitLane then s1.setPitStatus i .track else s1

/-- A lane is known, a racing lane, and not the gate's (R57, R58). -/
def laneChanged (lane gateLane : Option Nat) : Bool :=
  match lane with
  | some l => decide (l ≤ 5) && (some l != gateLane)
  | none => false

/-- A sector the gate lies in is under caution: yellow, or its local caution (R57). -/
def State.sectorCaution (s : State) (sector : Option Nat) : Bool :=
  s.race.yellow || (match sector with
    | some k => s.localCaution k
    | none => false)

/-- A Switch pass (R57): the state, and the infractions found. -/
def State.switchPass (s : State) (tr : Treatment) (i : Slot) (p : Pass) : State × List CallClass :=
  let s1 := s.endPitVisit tr i
  let breach := tr == .full && laneChanged (s1.entrant i).lane p.lane && s1.sectorCaution p.sector
  (s1.setLane i p.lane, if breach then [.switchUnderCaution] else [])

/-- A Line or Split pass on a racing lane (R58). -/
def State.racingLanePass (s : State) (tr : Treatment) (i : Slot) (p : Pass) : State × List CallClass :=
  let s1 := s.endPitVisit tr i
  let breach := tr == .full && laneChanged (s1.entrant i).lane p.lane
  (s1.setLane i p.lane, if breach then [.laneFault] else [])

/-- A PitIn pass (R59). -/
def State.pitInPass (s : State) (tr : Treatment) (i : Slot) (p : Pass) : State :=
  let s1 := s.modEntrant i fun e =>
    { e with lane := some 6, pitEntry := p.running, boxArrival := none, boxVisited := false }
  let s2 := s1.setPitStatus i .pitLane
  if tr.scored then s2.penaltyPitIn i else s2

/-- A pass at the pit lane's Line gate or at a Box gate (R59). -/
def State.pitLanePass (s : State) (i : Slot) : State :=
  let s1 := s.setLane i (some 6)
  if (s1.entrant i).pitStatus = .track then
    (s1.modEntrant i fun e => { e with pitEntry := none, boxVisited := false }).setPitStatus i .pitLane
  else s1

/-- The pit transit is below the pit minimum (R61). -/
def pitSpeeding (minimum : Nat) (entry exit : Option RunTime) : Bool :=
  match entry, exit with
  | some a, some b => minimum != 0 && decide (a ≤ b) && decide (b - a < minimum)
  | _, _ => false

/-- A pit visit that came to the box is counted as a pit stop, saturating at 255 (R61). -/
def State.countPitStop (s : State) (i : Slot) : State :=
  if (s.entrant i).boxVisited then s.modEntrant i fun e => { e with pitStops := min 255 (e.pitStops + 1) } else s

/-- A PitOut pass (R61). -/
def State.pitOutPass (s : State) (tr : Treatment) (i : Slot) (p : Pass) : State × List CallClass :=
  let s1 := ((s.leaveBox tr i).setLane i none).setPitStatus i .track
  if tr.scored then
    let s2 := (s1.countPitStop i).penaltyPitOut i
    let breach := tr == .full && pitSpeeding s2.cfg.pitMinimum (s2.entrant i).pitEntry p.running
    (s2, if breach then [.pitSpeeding] else [])
  else (s1, [])

/-- The effects of a pass's gate kind on lane and pit status, with the infractions found (section 3.6). -/
def State.passEffects (s : State) (tr : Treatment) (i : Slot) (p : Pass) : State × List CallClass :=
  match p.kind with
  | .unused => (s, [])
  | .line => if p.lane = some 6 then (s.pitLanePass i, []) else s.racingLanePass tr i p
  | .split => s.racingLanePass tr i p
  | .switch => s.switchPass tr i p
  | .pitIn => (s.pitInPass tr i p, [])
  | .box => (s.pitLanePass i, [])
  | .pitOut => s.pitOutPass tr i p

/-! ### Sighting -/

/-- The later of a running time and a present one, which may be absent. -/
def laterOf (t : RunTime) : Option RunTime → RunTime
  | some u => max t u
  | none => t

/-- The latest pass time is moved on by a pass or box report (R55, step 3). -/
def State.noteSeen (s : State) (i : Slot) : Option RunTime → State
  | some t => s.modEntrant i fun e => { e with latestPass := some (laterOf t e.latestPass) }
  | none => s

/-- The sighting deadline after a pass or box report: absent in the box, else moved on (R63). With the window off every
deadline stays absent (R62). -/
def State.moveDeadline (s : State) (i : Slot) (seen : Option RunTime) : State :=
  if (s.entrant i).pitStatus = .box then s.modEntrant i fun e => { e with deadline := none }
  else match seen with
    | some t =>
      if s.cfg.sightingWindow = 0 then s
      else s.modEntrant i fun e =>
        { e with deadline := some (laterOf (t + s.cfg.sightingWindow * ticksPerSecond) e.deadline) }
    | none => s

/-! ### Passes -/

/-- A pass at a gate other than Box whose first time precedes green (R56). -/
def State.straddlesGreen (s : State) (p : Pass) : Bool :=
  p.kind != .box && (match s.race.green with
    | some g => rawBefore p.first g
    | none => false)

/-- Position treatment (R54): the lane and pit effects, and in Countdown the jump-start mark of a Staged entrant (R56). -/
def State.positionPass (s : State) (i : Slot) (p : Pass) : State :=
  let s1 := (s.passEffects .position i p).1
  if (s1.entrant i).state = .staged ∧ s1.race.state = .countdown ∧ p.kind ≠ .box then
    s1.modEntrant i fun e => { e with jumpStart := true }
  else s1

/-- Steps 2 to 6 of R55, under Full or Held treatment. -/
def State.scoredPass (s : State) (tr : Treatment) (i : Slot) (p : Pass) : State :=
  let s1 := (s.release i).noteSeen i p.running
  let r := s1.passEffects tr i p
  let s2 := r.1.moveDeadline i p.running
  s2.reportAll i (r.2 ++ if s2.straddlesGreen p then [.jumpStart] else [])

/-- Step 7 of R55 for a pass not given by ASSIGN. -/
def State.lapStep (s : State) (i : Slot) (p : Pass) : State :=
  match p.kind, p.boundary, p.running with
  | .line, _, some t => s.crossing i t
  | .split, some b, some t => s.boundary i b t
  | _, _, _ => s

/-- A pass is delivered to an entrant (R54, R55). Line passes that go to late assignment do not come here (R42). -/
def State.deliver (s : State) (i : Slot) (p : Pass) : State :=
  match treatment (s.entrant i).state s.race.state with
  | .untouched => s
  | .position => s.positionPass i p
  | .held => s.scoredPass .held i p
  | .full => (s.scoredPass .full i p).lapStep i p

/-- An assigned Line pass that the Lap Unit accepts, at running time `a` (R84, R86): a pass older than the latest pass
time takes the Lap Unit's part alone (R55, step 1). -/
def State.deliverLate (s : State) (i : Slot) (p : Pass) (a : RunTime) (o : LateOutcome) : State :=
  match (s.entrant i).latestPass with
  | some l => if a < l then s.lateLap i a o else (s.scoredPass .full i p).lateLap i a o
  | none => (s.scoredPass .full i p).lateLap i a o

/-! ### Box reports -/

/-- A box arrival's effect on the record and, when scored, on the Penalty Unit (R60). -/
def State.arriveInBox (s : State) (tr : Treatment) (i : Slot) (t : Option RunTime) : State :=
  let s1 := s.modEntrant i fun e =>
    { e with
      lane := some 6, boxArrival := t, boxVisited := true
      pitEntry := if e.pitStatus = .track then none else e.pitEntry }
  let s2 := s1.setPitStatus i .box
  match tr.scored, t with
  | true, some t => s2.penaltyBoxArrival i t
  | _, _ => s2

/-- A box arrival or departure is delivered to an entrant at a running time (R54, R55, R60). -/
def State.deliverBox (s : State) (arrival : Bool) (i : Slot) (t : Option RunTime) : State :=
  let tr := treatment (s.entrant i).state s.race.state
  let act (s : State) : State := if arrival then s.arriveInBox tr i t else s.leaveBox tr i
  match tr with
  | .untouched => s
  | .position => act s
  | .held | .full => (act ((s.release i).noteSeen i t)).moveDeadline i t

end Sys2Proof.Machine
end

