-- ==== Sys2Proof/Machine/Passes.lean ====
section
/-! DEFINITION. The Pass Resolver (chapter 2): the vote, pass times, routing, and the Unclaimed Pass Queue. -/

namespace Sys2Proof.Machine

/-! ### Pass times -/

/-- The raw time of a pass from its first and last times and the gate's offset (R27). -/
def passRaw (first last : RawTime) (offset : Option Int) : RawTime :=
  first + BitVec.ofNat 32 ((last - first).toNat / 2) + BitVec.ofInt 32 (offset.getD 0)

/-- The race has seen green (R28). -/
def RaceState.afterGreen : RaceState → Bool
  | .setup | .staging | .countdown => false
  | .running | .suspended | .finishing | .complete => true

/-- The running time of a raw time: absent before green, else D clamped to the race so far (R28). -/
def State.runningOf (s : State) (p : RawTime) : Option RunTime :=
  if s.race.state.afterGreen then
    match s.race.green with
    | some g =>
      let d := (p - g - s.race.suspTotal).toInt
      if d < 0 then some 0 else some (min d.toNat s.race.runningClock)
    | none => none
  else none

/-! ### The vote -/

/-- A code entry reached the vote minimum (R24). -/
def State.elected (s : State) (e : CodeEntry) : Bool := decide (s.cfg.voteMinimum ≤ e.count)

/-- Entry `a` ranks higher than entry `b` as a candidate (R25). -/
def outranks (a b : CodeEntry) : Bool := decide (b.count < a.count) || (a.count == b.count && rawBefore a.first b.first)

/-- An entry put into a ranked list before the first entry it outranks. -/
def rankIn (x : CodeEntry) : List CodeEntry → List CodeEntry
  | [] => [x]
  | y :: ys => if outranks x y then x :: y :: ys else y :: rankIn x ys

/-- The two highest-ranked entries, each as a code and its count (R25). Entries that tie in count and in first time keep
their order in the tally (DESIGN CHOICE, log entry 6). -/
def candidatesOf (l : List CodeEntry) : List (Nat × Nat) :=
  ((l.foldl (fun ranked e => rankIn e ranked) []).take 2).map fun e => (e.code, e.count)

/-- The marks every pass of a burst carries (R26). -/
def Tally.marks (t : Tally) : PassMarks :=
  { noisy := decide (1 ≤ t.invalid), excess := t.excess, dwell := t.dwell, unresolved := false, stray := false }

/-- A pass of a tally at a gate, from its first and last times (R26, R27, R28). -/
def State.formPass (s : State) (g : GateNo) (t : Tally) (named : Option (Nat × Nat)) (candidates : List (Nat × Nat))
    (first last : RawTime) : Pass :=
  let e := (s.gate g).entry
  let raw := passRaw first last e.offset
  { named := named, candidates := candidates, gate := g, kind := e.kind, lane := e.lane
    boundary := e.boundary, sector := e.sector, first := first, raw := raw, running := s.runningOf raw
    marks := { t.marks with unresolved := named.isNone } }

/-- The vote: the passes a closed tally yields, in order (R24, R25). -/
def State.vote (s : State) (g : GateNo) (t : Tally) : List Pass :=
  let named := (t.entries.filter s.elected).map fun e =>
    s.formPass g t (some (e.code, e.count)) [] e.first e.last
  if !named.isEmpty then named
  else if !t.entries.isEmpty || decide (s.cfg.voteMinimum ≤ t.invalid) then
    [s.formPass g t none (candidatesOf t.entries) t.first t.last]
  else []

/-! ### The queue -/

/-- Some entry of the queue holds a tag (R32). -/
def tagHeld (q : List QueuedPass) (tag : Byte) : Bool := q.any fun e => e.tag == tag

/-- The first tag at or after the counter that no entry holds, trying `n` steps (R32). -/
def freeTag (q : List QueuedPass) : Nat → Byte → Byte
  | 0, tag => tag
  | n + 1, tag => if tagHeld q tag then freeTag q n (tag + 1) else tag

/-- A pass joins the queue: at capacity the oldest entry makes way and the overrun latch is set; the new entry takes
the next free tag, and its claim wait starts now (R31, R32, R33). -/
def State.enqueuePass (s : State) (p : Pass) : State :=
  let full := decide (16 ≤ s.resolver.queue.length)
  let kept := if full then s.resolver.queue.drop 1 else s.resolver.queue
  let tag := freeTag kept 16 s.resolver.nextTag
  { s with resolver := { s.resolver with
      queue := kept ++ [{ pass := p, tag := tag, entered := s.race.raceClock, expired := false }]
      nextTag := tag + 1
      overrun := s.resolver.overrun || full } }

/-- A resolved pass that no record claims, as it stands in the queue: marked Stray, its own code its candidate (R29). -/
def Pass.asStray (p : Pass) : Pass :=
  { p with candidates := p.named.toList, marks := { p.marks with stray := true } }

/-- A pass is routed (R29). -/
def State.route (s : State) (p : Pass) : State :=
  match p.named with
  | none => s.enqueuePass p
  | some (code, _) =>
    match s.slotOfCode code with
    | some i => s.deliver i p
    | none => s.enqueuePass p.asStray

/-- The resolver takes a closed tally: it is voted, and its passes are routed in order (R24, R29). -/
def State.takeTally (s : State) (g : GateNo) (t : Tally) : State := (s.vote g t).foldl State.route s

/-- The resolver takes a box arrival or departure report for a code, at a frame time (R30). -/
def State.boxReport (s : State) (arrival : Bool) (g : GateNo) (code : Nat) (time : RawTime) : State :=
  match s.slotOfCode code with
  | some i => s.deliverBox arrival i (s.runningOf (passRaw time time (s.gate g).entry.offset))
  | none => s

/-- The entry of the queue with a tag. -/
def State.queued (s : State) (tag : Byte) : Option QueuedPass := s.resolver.queue.find? fun e => e.tag == tag

/-- An entry leaves the queue with its timer, and the wait latch is cleared (R35, R40, R42). -/
def State.settleEntry (s : State) (tag : Byte) : State :=
  { s with resolver := { s.resolver with
      queue := s.resolver.queue.filter fun e => e.tag != tag
      waitLatch := false } }

/-- An entry's claim wait has run and has not expired before (R35). -/
def State.claimDue (s : State) (e : QueuedPass) : Bool :=
  !e.expired && decide (s.cfg.claimWait * ticksPerSecond ≤ s.since e.entered)

end Sys2Proof.Machine
end

