-- ==== Sys2Proof/Machine/Gates.lean ====
section
/-! DEFINITION. The Gate Decoder array and the gate loop self-test (chapter 1): cells, frames, bursts, box reports, Blind,
and the test generator. -/

namespace Sys2Proof.Machine

/-! ### Cells -/

/-- The run after a cell of a level (R2). -/
def runAfter (run : Option Run) (lvl : Level) : Run :=
  match run with
  | some r => if r.level = lvl then { level := lvl, length := r.length + 1 } else { level := lvl, length := 1 }
  | none => { level := lvl, length := 1 }

/-- What the completion of a cell is at a gate: nothing, a cell that ends no frame and changes no Blind flag, the end
of a frame, or a change of the Blind flag (R2 to R5, R10). -/
inductive CellKind where
  | ignored
  | ordinary
  | endsFrame
  | blinds
  | unblinds
  deriving DecidableEq, Repr

/-- The kind of the next cell of a level at a gate. An Unused gate ignores its line (R10), and a decoder that waits for
a change of its line from space to mark completes no cell before it: none of a dark line, and none of a mark that has
stood since before the wait (R2, R10). -/
def Gate.cellKind (g : Gate) (lvl : Level) : CellKind :=
  if g.entry.kind = .unused ∨ (g.decoder.waiting = true ∧ (lvl = .space ∨ g.line = .mark)) then .ignored
  else
    let r := runAfter g.decoder.run lvl
    match g.decoder.state with
    | .blind => if lvl = .space ∧ 4 ≤ r.length then .unblinds else .ordinary
    | .assemble => if lvl = .mark ∧ 16 ≤ r.length then .blinds else if g.decoder.frame.length < 7 then .ordinary else .endsFrame
    | .hunt => if lvl = .mark ∧ 16 ≤ r.length then .blinds else .ordinary

/-- The cells of the code-63 frame the test generator sends (R1, R20): the level of its cell number `k`, 0 to 11. -/
def testFrameCell (k : Nat) : Level := if k = 3 ∨ k = 11 then .space else .mark

/-- The number of cells in the generator's 83 frames (R20). -/
def testCells : Nat := 83 * 12

/-- The level of the generator's cell number `n`: its frames, and then space (R20). -/
def generatorCell (n : Nat) : Level := if n < testCells then testFrameCell (n % 12) else .space

/-- A gate under test is owed a cell: the generator sends five cells a tick, and those that complete before the next tick
are the first 5 e + 4, where e ticks have passed since the test's start (R1, R20; log entry 1). -/
def State.generatorDue (s : State) (g : GateNo) : Bool :=
  match s.testStart, (s.gate g).fed with
  | some t, some n => decide (n < 5 * s.since t + 4)
  | _, _ => false

/-- What a cell from a feed is at its gate: a cell of the line where the decoder is connected to it, and the generator's
next cell, once it is due, where the decoder is fed by the generator; any other reaches no decoder (R20). -/
def State.cellKindAt (s : State) (x : Feed) (lvl : Level) : CellKind :=
  match x.source, (s.gate x.gate).fed with
  | .line, none => (s.gate x.gate).cellKind lvl
  | .generator, some n =>
    if s.generatorDue x.gate = true ∧ generatorCell n = lvl then (s.gate x.gate).cellKind lvl else .ignored
  | .line, some _ | .generator, none => .ignored

/-- The level a gate's line shows is noted, and no cell completes (R2, R10, R20). -/
def Gate.noteLine (g : Gate) (lvl : Level) : Gate := { g with line := lvl }

/-- The gate after a cell has lengthened or restarted the run; a gate under test has been fed one cell more, and a gate
on its line has seen the line's level (R2, R20). -/
def Gate.countCell (g : Gate) (lvl : Level) : Gate :=
  { g with
    line := if g.fed.isSome then g.line else lvl
    fed := g.fed.map (· + 1)
    decoder := { g.decoder with run := some (runAfter g.decoder.run lvl), waiting := false } }

/-- An ordinary cell: in Hunt a space after a run of exactly three marks is a sync, and in Assemble the cell joins the
frame in progress (R3, R4). -/
def Gate.ordinaryCell (g : Gate) (lvl : Level) : Gate :=
  let x := g.countCell lvl
  match g.decoder.state with
  | .hunt =>
    if lvl = .space ∧ g.decoder.run = some { level := .mark, length := 3 } then
      { x with decoder := { x.decoder with state := .assemble, frame := [] } }
    else x
  | .assemble => { x with decoder := { x.decoder with frame := g.decoder.frame ++ [lvl] } }
  | .blind => x

/-! ### Frames -/

/-- A cell as a bit: a mark is 1 (R1). -/
def levelBit : Level → Nat
  | .mark => 1
  | .space => 0

/-- The code of the frame's first six cells, most significant first (R1). -/
def frameCode (cells : List Level) : Nat := (cells.take 6).foldl (fun n l => 2 * n + levelBit l) 0

/-- The judgement of a frame: the code of a valid frame, or none for an invalid one (R4). -/
def judgeFrame (cells : List Level) (endCell : Level) (underTest : Bool) : Option Nat :=
  if endCell = .mark then none
  else if (cells.count .mark) % 2 = 0 then none
  else if frameCode cells = 0 then none
  else if frameCode cells = 63 ∧ underTest = false then none
  else some (frameCode cells)

/-! ### Bursts -/

/-- The tally of a burst that opens at a time (R11). -/
def Tally.opened (t : RawTime) : Tally :=
  { entries := [], invalid := 0, first := t, last := t, excess := false, dwell := false }

/-- A code is counted once more in its entry (R12). -/
def countCode (code : Nat) (t : RawTime) (l : List CodeEntry) : List CodeEntry :=
  l.map fun e => if e.code = code then { e with count := min 255 (e.count + 1), last := t } else e

/-- A frame event is tallied at a time: R12 for a valid frame, R13 for an invalid one, and the last frame time moves
(R11). -/
def Tally.add (b : Tally) (frame : Option Nat) (t : RawTime) : Tally :=
  match frame with
  | none => { b with invalid := min 255 (b.invalid + 1), last := t }
  | some code =>
    if b.entries.any (fun e => e.code == code) then { b with entries := countCode code t b.entries, last := t }
    else if b.entries.length < 4 then
      { b with entries := b.entries ++ [{ code := code, count := 1, first := t, last := t, arrived := false }], last := t }
    else { b with excess := true, last := t }

/-- A code's entry has reached the vote minimum and not yet reported its arrival (R18). -/
def arrivalDue (minimum : Nat) (code : Nat) (b : Tally) : Bool :=
  b.entries.any fun e => e.code == code && !e.arrived && decide (minimum ≤ e.count)

/-- The arrived flag of a code is set (R18). -/
def Tally.arrive (b : Tally) (code : Nat) : Tally :=
  { b with entries := b.entries.map fun e => if e.code = code then { e with arrived := true } else e }

/-- A box arrival or departure report made at a gate: under test it goes no further (R21). -/
def State.reportBox (s : State) (arrival : Bool) (g : GateNo) (code : Nat) (t : RawTime) : State :=
  if (s.gate g).underTest then s else s.boxReport arrival g code t

/-- A frame event reaches the gate's burst: it opens or joins it, and at a Box gate a code may arrive (R11, R18). -/
def State.frameEvent (s : State) (g : GateNo) (frame : Option Nat) : State :=
  let now := s.race.raceClock
  let b := (((s.gate g).decoder.burst).getD (Tally.opened now)).add frame now
  match frame with
  | some code =>
    if (s.gate g).entry.kind = .box ∧ arrivalDue s.cfg.voteMinimum code b = true then
      (s.modDecoder g fun d => { d with burst := some (b.arrive code) }).reportBox true g code now
    else s.modDecoder g fun d => { d with burst := some b }
  | none => s.modDecoder g fun d => { d with burst := some b }

/-- The departure reports of a Box-gate burst, in the order of its entries, at its last frame time (R19). -/
def State.departures (s : State) (g : GateNo) (b : Tally) : State :=
  (b.entries.filter (·.arrived)).foldl (fun s e => s.reportBox false g e.code b.last) s

/-- A burst counts for the self-test: code 63 reached the vote minimum (R21). -/
def State.countsForTest (s : State) (b : Tally) : Bool :=
  b.entries.any fun e => e.code == 63 && decide (s.cfg.voteMinimum ≤ e.count)

/-- The gate's open burst closes with the given tally: the departures of a Box gate, then the tally, go to the resolver;
under test the test examines the tally instead (R16, R17, R19, R21). -/
def State.closeBurst (s : State) (g : GateNo) (b : Tally) : State :=
  let s1 := s.modDecoder g fun d => { d with burst := none }
  if (s.gate g).underTest then
    if s.countsForTest b then s1.modGate g fun x => { x with counted := x.counted + 1 } else s1
  else
    (if (s.gate g).entry.kind = .box then s1.departures g b else s1).takeTally g b

/-- The gate's open burst, if any, is closed as it stands. -/
def State.closeOpen (s : State) (g : GateNo) : State :=
  match (s.gate g).decoder.burst with
  | some b => s.closeBurst g b
  | none => s

/-- The gate's open burst is discarded with the departure reports of a Box gate, as CONFIG_GATE and the start of a
self-test discard it (R16, R19). -/
def State.discardBurst (s : State) (g : GateNo) : State :=
  match (s.gate g).decoder.burst with
  | some b =>
    let s1 := s.modDecoder g fun d => { d with burst := none }
    if (s.gate g).entry.kind = .box then s1.departures g b else s1
  | none => s

/-- The gap timer of the gate's burst has expired (R14). -/
def State.gapDue (s : State) (g : GateNo) : Bool :=
  match (s.gate g).decoder.burst with
  | some b => decide (s.cfg.burstGap ≤ s.since b.last)
  | none => false

/-- The dwell limit of the gate's burst has run out; Box gates have none (R15). -/
def State.dwellDue (s : State) (g : GateNo) : Bool :=
  match (s.gate g).decoder.burst with
  | some b => (s.gate g).entry.kind != .box && decide (s.cfg.dwellLimit ≤ s.since b.first)
  | none => false

/-! ### Blind and the blinded summary -/

/-- An input has shown the other level than its debounced one for 20 ms, 200 ticks, since it departed (R167). -/
def State.departureOver (s : State) (since : Option RawTime) : Bool :=
  match since with
  | some t => decide (200 ≤ s.since t)
  | none => false

/-- The debounce of the blinded summary: while it differs from its debounced level, since when (R5, R167). -/
def State.watchBlind (s : State) : State :=
  { s with inputs := { s.inputs with
      blindSince :=
        if s.anyBlind = s.inputs.live.gateBlind then none
        else some (s.inputs.blindSince.getD s.race.raceClock) } }

/-- The blinded summary has differed from its debounced level for 20 ms (R167). -/
def State.blindEdgeDue (s : State) : Bool := s.departureOver s.inputs.blindSince

/-! ### The self-test -/

/-- The decoder put in Hunt with an empty run and no frame or burst. -/
def Decoder.cleared (waiting : Bool) : Decoder :=
  { state := .hunt, run := none, frame := [], burst := none, waiting := waiting }

/-- A gate as the self-test starts on it: fed by the generator from its first cell, or Skipped (R20). -/
def Gate.startTest (g : Gate) : Gate :=
  if g.entry.kind = .unused then { g with result := .skipped, counted := 0 }
  else { g with decoder := Decoder.cleared false, fed := some 0, result := .running, counted := 0 }

/-- The start of the self-test (R20). -/
def State.startTest (s : State) : State :=
  let s1 := s.forGates fun s g =>
    (if (s.gate g).entry.kind = .unused then s else s.discardBurst g).modGate g Gate.startTest
  { s1 with testStart := some s1.race.raceClock }.watchBlind

/-- A tested gate reconnected to its line, its burst discarded without reports (R21, R22). -/
def Gate.reconnect (g : Gate) (result : TestResult) : Gate :=
  if g.underTest then { g with decoder := Decoder.cleared true, fed := none, result := result, counted := 0 } else g

/-- The self-test's grade of a gate: Pass if exactly one counted burst closed there (R21). -/
def Gate.grade (g : Gate) : TestResult := if g.counted = 1 then .pass else .fail

/-- The self-test's time has come: it is running, and 500 ticks have passed (R21). -/
def State.testDue (s : State) : Bool :=
  match s.testStart with
  | some t => decide (500 ≤ s.since t)
  | none => false

/-- The end of the self-test (R21). -/
def State.endTest (s : State) : State :=
  { s with
    gates := Vector.ofFn fun g => (s.gate g).reconnect (s.gate g).grade
    testStart := none
    attention := { s.attention with test := true } }.watchBlind

/-- The abort of a running self-test by a race reset (R22). -/
def State.abortTest (s : State) : State :=
  if s.testStart.isSome then
    { s with gates := Vector.ofFn fun g => (s.gate g).reconnect .aborted, testStart := none }.watchBlind
  else s

/-- The result a power-on reset by the pin or by RESET_PART leaves of a running test (R22). -/
def TestResult.afterReset : TestResult → TestResult
  | .running => .aborted
  | .skipped => .skipped
  | .noTest | .pass | .fail | .aborted => .noTest

/-- The self-test results a power-on reset by the pin or by RESET_PART leaves (R22). -/
def State.resultsAfterReset (s : State) : Vector TestResult 24 :=
  if s.testStart.isSome then Vector.ofFn fun g => (s.gate g).result.afterReset else Vector.replicate 24 .noTest

end Sys2Proof.Machine
end

