-- ==== Sys2Proof/Machine/GateEvents.lean ====
section
/-! DEFINITION. The meanings of the gate events: cells, frames, Blind, the bursts' timers, and the end of the self-test.
Each of the four cell commands is the completion of a cell of its own kind, from the gate's line or from the test
generator; a cell of another kind, or from the source the decoder is not connected to, is not that command's, and the
state stays as it is (log entry 3), but for the level GATE_CELL says the line shows. -/

namespace Sys2Proof.Machine

/-- GATE_CELL: a cell completes that ends no frame and changes no Blind flag (R2, R3, R4). At a gate that completes no
cell of its line, Unused, waiting or under test, the level its line shows is noted (R2, R10, R20). -/
def execGateCell (feed : Feed) (level : Level) (s : State) : Host.Outcome State Fault Refusal :=
  match s.cellKindAt feed level, feed.source with
  | .ordinary, _ => (s.modGate feed.gate (·.ordinaryCell level)).done
  | .ignored, .line => (s.modGate feed.gate (·.noteLine level)).done
  | .ignored, .generator | .endsFrame, _ | .blinds, _ | .unblinds, _ => s.done

/-- The decoder leaves Assemble at the end of a frame, the end cell counted in its run (R4). -/
def Gate.endFrame (g : Gate) (lvl : Level) : Gate :=
  let x := g.countCell lvl
  { x with decoder := { x.decoder with state := .hunt, frame := [] } }

/-- BEACON_FRAME: the end cell of a frame completes, the frame is judged, and the frame event goes to the burst (R4,
R11, R12, R13, R18). -/
def execBeaconFrame (feed : Feed) (endCell : Level) (s : State) : Host.Outcome State Fault Refusal :=
  let g := s.gate feed.gate
  if s.cellKindAt feed endCell = .endsFrame then
    ((s.modGate feed.gate (·.endFrame endCell)).frameEvent feed.gate (judgeFrame g.decoder.frame endCell g.underTest)).done
  else s.done

/-- The decoder enters Blind, its frame in progress discarded (R5). -/
def Gate.goBlind (g : Gate) (lvl : Level) : Gate :=
  let x := g.countCell lvl
  { x with decoder := { x.decoder with state := .blind, frame := [] } }

/-- GATE_BLIND: a mark run reaches sixteen cells: the gate becomes Blind and its open burst is closed (R5, R16). -/
def execGateBlind (feed : Feed) (s : State) : Host.Outcome State Fault Refusal :=
  if s.cellKindAt feed .mark = .blinds then
    ((s.modGate feed.gate (·.goBlind .mark)).watchBlind.closeOpen feed.gate).done
  else s.done

/-- The decoder leaves Blind for Hunt (R5). -/
def Gate.endBlind (g : Gate) (lvl : Level) : Gate :=
  let x := g.countCell lvl
  { x with decoder := { x.decoder with state := .hunt } }

/-- GATE_UNBLIND: a space run of four cells takes a Blind decoder to Hunt (R5). -/
def execGateUnblind (feed : Feed) (s : State) : Host.Outcome State Fault Refusal :=
  if s.cellKindAt feed .space = .unblinds then (s.modGate feed.gate (·.endBlind .space)).watchBlind.done else s.done

/-- BURST_GAP_EXPIRY: the gap timer has expired and closes the burst (R14, R17, R19). -/
def execBurstGapExpiry (gate : GateNo) (s : State) : Host.Outcome State Fault Refusal :=
  if s.gapDue gate then (s.closeOpen gate).done else s.done

/-- BURST_DWELL_EXPIRY: at a gate other than Box the dwell limit closes the burst with the Dwell mark (R15, R17). -/
def execBurstDwellExpiry (gate : GateNo) (s : State) : Host.Outcome State Fault Refusal :=
  match (s.gate gate).decoder.burst, s.dwellDue gate with
  | some b, true => (s.closeBurst gate { b with dwell := true }).done
  | _, _ => s.done

/-- SELF_TEST_END: 500 ticks after its start the self-test grades its gates and ends (R21). -/
def execSelfTestEnd (s : State) : Host.Outcome State Fault Refusal :=
  if s.testDue then s.endTest.done else s.done

end Sys2Proof.Machine
end

