-- ==== Sys2Proof/Machine/InputEvents.lean ====
section
/-! DEFINITION. The meanings of the track inputs' commands (chapter 10). A command says which level an input shows. The
input departs from its debounced level, or returns to it, or, once it has shown the other level for 20 ms, makes the
edge (R167). Where nothing of this happens the state stays as it is (log entry 3). -/

namespace Sys2Proof.Machine

/-- The latch takes new debounced levels: a Free latch that finds them different from its snapshot copies all nine and
is Held; a Held latch keeps its snapshot (R168). -/
def InputLatch.edge (l : InputLatch) (live : InputLevels) : InputLatch :=
  match l.latch with
  | .held => { l with live := live }
  | .free => if live = l.snapshot then { l with live := live } else { l with live := live, latch := .held, snapshot := live }

/-- An edge of an input reaches the latch (R168). -/
def State.inputEdge (s : State) (live : InputLevels) : State := { s with inputs := s.inputs.edge live }

/-- A station's debounced level. -/
def InputLevels.station (l : InputLevels) (n : StationNo) : Bool := l.pressed[n.val]

/-- The levels with a station's replaced. -/
def InputLevels.setStation (l : InputLevels) (n : StationNo) (down : Bool) : InputLevels :=
  { l with pressed := l.pressed.set n.val down }

/-- The call action of a station press (R170). -/
def State.callAction (s : State) : State :=
  match s.cfg.callAction with
  | .report => s
  | .caution => s.setYellow true
  | .suspend => s.suspensionCause .station

/-- What an input makes of the level it shows: it takes no edge, and stands in a departure from its debounced level that
began at a time, or in none; or it takes the edge (R167). -/
inductive Debounced where
  | keeps (since : Option RawTime)
  | edge
  deriving DecidableEq, Repr

/-- The debounce of an input with a debounced level and a departure, as it shows a level: showing the debounced one ends a
departure, and showing the other begins one, lets it run, or ends it with the edge once 20 ms have passed (R167). A return
that falls together with the end of the 20 ms ends the departure (DESIGN CHOICE, log entry 10). -/
def State.debounce (s : State) (live shows : Bool) (since : Option RawTime) : Debounced :=
  if shows = live then .keeps none
  else if s.departureOver since then .edge
  else .keeps (some (since.getD s.race.raceClock))

/-- A station's departure from its debounced level (R167). -/
def State.setPressedSince (s : State) (n : StationNo) (since : Option RawTime) : State :=
  { s with inputs := { s.inputs with pressedSince := s.inputs.pressedSince.set n.val since } }

/-- The red input's departure from its debounced level (R167). -/
def State.setRedSince (s : State) (since : Option RawTime) : State :=
  { s with inputs := { s.inputs with redSince := since } }

/-- The power sense's departure from its debounced level (R167). -/
def State.setPowerSince (s : State) (since : Option RawTime) : State :=
  { s with inputs := { s.inputs with powerSince := since } }

/-- A station shows a level (R167). -/
def State.debounceStation (s : State) (n : StationNo) (down : Bool) : Debounced :=
  s.debounce (s.inputs.live.station n) down s.inputs.pressedSince[n]

/-- STATION_PRESS: the press is latched, and in Running or Finishing the call action and then the count follow (R167,
R168, R170, R133). -/
def execStationPress (station : StationNo) (s : State) : Host.Outcome State Fault Refusal :=
  match s.debounceStation station true with
  | .keeps t => (s.setPressedSince station t).done
  | .edge =>
    let s1 := (s.setPressedSince station none).inputEdge (s.inputs.live.setStation station true)
    if s1.race.state.clockRuns then (s1.callAction.countPress station).done else s1.done

/-- STATION_RELEASE: the release acts on the latch alone (R167, R168, R170). -/
def execStationRelease (station : StationNo) (s : State) : Host.Outcome State Fault Refusal :=
  match s.debounceStation station false with
  | .keeps t => (s.setPressedSince station t).done
  | .edge => ((s.setPressedSince station none).inputEdge (s.inputs.live.setStation station false)).done

/-- RED_PRESS: the red press is latched, and is a suspension cause with reason Red (R167, R168, R169). -/
def execRedPress (s : State) : Host.Outcome State Fault Refusal :=
  match s.debounce s.inputs.live.redHeld true s.inputs.redSince with
  | .keeps t => (s.setRedSince t).done
  | .edge => (((s.setRedSince none).inputEdge { s.inputs.live with redHeld := true }).suspensionCause .red).done

/-- RED_RELEASE: the release acts on the latch alone (R167, R169). -/
def execRedRelease (s : State) : Host.Outcome State Fault Refusal :=
  match s.debounce s.inputs.live.redHeld false s.inputs.redSince with
  | .keeps t => (s.setRedSince t).done
  | .edge => ((s.setRedSince none).inputEdge { s.inputs.live with redHeld := false }).done

/-- POWER_SENSE_LOSS: the loss is latched, and is a suspension cause with reason PowerLost (R167, R168, R169). -/
def execPowerSenseLoss (s : State) : Host.Outcome State Fault Refusal :=
  match s.debounce s.inputs.live.powerAbsent true s.inputs.powerSince with
  | .keeps t => (s.setPowerSince t).done
  | .edge =>
    (((s.setPowerSince none).inputEdge { s.inputs.live with powerAbsent := true }).suspensionCause .powerLost).done

/-- POWER_SENSE_RESTORE: the restoration acts on the latch alone (R167, R169). -/
def execPowerSenseRestore (s : State) : Host.Outcome State Fault Refusal :=
  match s.debounce s.inputs.live.powerAbsent false s.inputs.powerSince with
  | .keeps t => (s.setPowerSince t).done
  | .edge => ((s.setPowerSince none).inputEdge { s.inputs.live with powerAbsent := false }).done

/-- BLINDED_SUMMARY_EDGE: the summary has differed from its debounced level for 20 ms, and is latched (R5, R167, R169). -/
def execBlindedSummaryEdge (s : State) : Host.Outcome State Fault Refusal :=
  if s.blindEdgeDue then
    ({ s with inputs := { s.inputs with blindSince := none } }.inputEdge
      { s.inputs.live with gateBlind := s.anyBlind }).done
  else s.done

end Sys2Proof.Machine
end

