-- ==== Sys2Proof/Machine/Operands.lean ====
section
/-! DEFINITION. The operand forms of the requests: how the bytes of a body become the values a rule speaks of, with the
ranges the rules check, and how values become the bytes of an answer (R176, R184). -/

namespace Sys2Proof.Machine

/-! ### Bytes of answers -/

/-- A value in one byte. -/
def byteOf (n : Nat) : Byte := BitVec.ofNat 8 n

/-- A value in two bytes, most significant first (R176). -/
def word16 (n : Nat) : List Byte := [byteOf (n / 256), byteOf n]

/-- A value in four bytes, most significant first (R176). -/
def word32 (n : Nat) : List Byte := [byteOf (n / 16777216), byteOf (n / 65536), byteOf (n / 256), byteOf n]

/-- A value of one byte, FF when absent (R184). -/
def optByte (v : Option Nat) : Byte := byteOf (v.getD 255)

/-- A value of two bytes, FFFF when absent (R184). -/
def optWord16 (v : Option Nat) : List Byte := word16 (v.getD 65535)

/-- A value of four bytes, FFFFFFFF when absent (R184). -/
def optWord32 (v : Option Nat) : List Byte := word32 (v.getD 4294967295)

/-- A flag as the value of bit `n` (R184). -/
def flagBit (n : Nat) (b : Bool) : Nat := if b then 2 ^ n else 0

/-- A flag as a byte: 1 when set (R184). -/
def flagByte (b : Bool) : Byte := if b then 1 else 0

/-- The numbers of the race states (R184). -/
def RaceState.number : RaceState → Nat
  | .setup => 0
  | .staging => 1
  | .countdown => 2
  | .running => 3
  | .suspended => 4
  | .finishing => 5
  | .complete => 6

/-- The numbers of the entrant states (R184). -/
def EntrantState.number : EntrantState → Nat
  | .vacant => 0
  | .staged => 1
  | .racing => 2
  | .finished => 3
  | .retired => 4
  | .excluded => 5

/-- The numbers of the gate kinds (R184). -/
def GateKind.number : GateKind → Nat
  | .unused => 0
  | .line => 1
  | .split => 2
  | .switch => 3
  | .pitIn => 4
  | .box => 5
  | .pitOut => 6

/-- The numbers of pit status (R184). -/
def PitStatus.number : PitStatus → Nat
  | .track => 0
  | .pitLane => 1
  | .box => 2

/-- The numbers of finish status, 0 when absent (R184). -/
def finishNumber : Option FinishStatus → Nat
  | none => 0
  | some .flagged => 1
  | some .unflagged => 2

/-- The numbers of the call classes (R184). -/
def CallClass.number : CallClass → Nat
  | .jumpStart => 0
  | .pitSpeeding => 1
  | .switchUnderCaution => 2
  | .laneFault => 3
  | .callLimit => 4
  | .missedDriveThrough => 5
  | .missedStopGo => 6
  | .manual => 7

/-- The numbers of the pit penalties among the ruling kinds (R184). -/
def PenaltyKind.number : PenaltyKind → Nat
  | .driveThrough => 1
  | .stopGo => 2

/-- The numbers of the penalty states (R184). -/
def PenaltyState.number : PenaltyState → Nat
  | .pending => 0
  | .active => 1
  | .serving => 2

/-- The numbers of the reasons (R184). -/
def Reason.number : Reason → Nat
  | .host => 0
  | .red => 1
  | .powerLost => 2
  | .linkHeld => 3
  | .station => 4

/-- The numbers of the test results (R184). -/
def TestResult.number : TestResult → Nat
  | .noTest => 0
  | .skipped => 1
  | .running => 2
  | .pass => 3
  | .fail => 4
  | .aborted => 5

/-- The numbers of the latch states (section 11.6, status body). -/
def LatchState.number : LatchState → Nat
  | .free => 0
  | .held => 1

/-- The values of the statuses (R180). -/
def Status.number : Status → Nat
  | .ok => 0
  | .unknownRequest => 1
  | .badLength => 2
  | .badValue => 3
  | .badConfig => 4
  | .wrongState => 5
  | .noEntrant => 6
  | .codeInUse => 7
  | .stationInUse => 8
  | .tableFull => 9
  | .noPass => 10
  | .tooOld => 11
  | .duplicate => 12
  | .noPenalty => 13
  | .inputActive => 14

/-- The snapshot as a 16-bit value: bits 0 to 5 the stations, 6 red, 7 power absent, 8 a gate Blind (section 11.6). -/
def InputLevels.number (l : InputLevels) : Nat :=
  flagBit 0 l.pressed[0] + flagBit 1 l.pressed[1] + flagBit 2 l.pressed[2] + flagBit 3 l.pressed[3]
    + flagBit 4 l.pressed[4] + flagBit 5 l.pressed[5] + flagBit 6 l.redHeld + flagBit 7 l.powerAbsent
    + flagBit 8 l.gateBlind

/-! ### Values of requests -/

/-- A number in a range; the range is inclusive at both ends (00_scope). -/
def inRange (lo hi n : Nat) : Bool := decide (lo ≤ n) && decide (n ≤ hi)

/-- An on/off item: 0 off, 1 on, and no other value (section 11.5). -/
def onOff (b : Byte) : Option Bool := if b = 0 then some false else if b = 1 then some true else none

/-- A station number 0 to 5. -/
def stationOf (b : Byte) : Option StationNo := if h : b.toNat < 6 then some ⟨b.toNat, h⟩ else none

/-- The gate kind a byte names (R184). -/
def gateKindOf (b : Byte) : Option GateKind :=
  match b.toNat with
  | 0 => some .unused
  | 1 => some .line
  | 2 => some .split
  | 3 => some .switch
  | 4 => some .pitIn
  | 5 => some .box
  | 6 => some .pitOut
  | _ => none

/-- The gate table entry CONFIG_GATE's fields make for a kind, or none where a field the kind uses is out of range or
the lane does not suit it; fields the kind does not use are absent (R6, R7). -/
def gateEntryOf (k : GateKind) (lane boundary sector : Byte) (offset : Word16) : Option GateEntry :=
  let l := lane.toNat
  let b := boundary.toNat
  let c := sector.toNat
  let e : GateEntry := { kind := k, lane := some l, boundary := none, sector := none, offset := some offset.toInt }
  match k with
  | .unused => some GateEntry.unused
  | .line => if l ≤ 6 then some e else none
  | .split => if l ≤ 5 ∧ 1 ≤ b ∧ b ≤ 3 then some { e with boundary := some b } else none
  | .switch => if l ≤ 5 ∧ c ≤ 3 then some { e with sector := some c } else none
  | .pitIn | .box | .pitOut => if l = 6 then some e else none

/-- The ruling kinds a byte may name (R184). -/
inductive RulingKind where
  | noRuling
  | driveThrough
  | stopGo
  | powerHold
  | lapDeduction
  | blackFlag
  deriving DecidableEq, Repr

/-- The ruling kind a byte names (R184). -/
def rulingKindOf (b : Byte) : Option RulingKind :=
  match b.toNat with
  | 0 => some .noRuling
  | 1 => some .driveThrough
  | 2 => some .stopGo
  | 3 => some .powerHold
  | 4 => some .lapDeduction
  | 5 => some .blackFlag
  | _ => none

/-- The ruling a kind and its fields make: `none` where a field the kind uses lies outside its range, and `some none`
for kind None. Fields the kind does not use are not checked (R127, R129, R136). -/
def rulingOf (k : RulingKind) (hold deadline conversion level duration laps : Byte) : Option (Option Ruling) :=
  let h := hold.toNat
  let d := deadline.toNat
  let v := conversion.toNat
  let l := level.toNat
  let t := duration.toNat
  let n := laps.toNat
  match k with
  | .noRuling => some none
  | .driveThrough => if inRange 1 15 d && inRange 0 9 v then some (some (.driveThrough d v)) else none
  | .stopGo => if inRange 1 60 h && inRange 1 15 d && inRange 0 9 v then some (some (.stopGo h d v)) else none
  | .powerHold => if inRange 0 90 l && inRange 1 60 t then some (some (.powerHold l t)) else none
  | .lapDeduction => if inRange 1 9 n then some (some (.lapDeduction n)) else none
  | .blackFlag => some (some .blackFlag)

/-- The call action a byte names (R184). -/
def callActionOf (b : Byte) : Option CallAction :=
  match b.toNat with
  | 0 => some .report
  | 1 => some .caution
  | 2 => some .suspend
  | _ => none

/-- A configured ceiling: above 100 it is taken as 100 (R156). -/
def ceilingOf (b : Byte) : Nat := min b.toNat 100

/-- Every quantity of CONFIG_RACE but the ceilings, the call action and the auto local caution lies in its range (R14,
R15, R23, R61, R62, R67, R105, R134, R163, R165). -/
def raceWordsInRange (w : RaceWords) : Bool :=
  inRange 5 255 w.burstGap.toNat && inRange 500 20000 w.dwellLimit.toNat
    && inRange 2 15 w.voteMinimum.toNat && inRange 1 16 w.triggerLevel.toNat && inRange 1 60 w.claimWait.toNat
    && inRange 1000 600000 w.lapFloor.toNat && inRange (w.lapFloor.toNat + 1) 16777215 w.lapCeiling.toNat
    && inRange 1 4 w.sectorCount.toNat && inRange 0 600000 w.pitMinimum.toNat
    && (w.sightingWindow.toNat == 0 || inRange 2 120 w.sightingWindow.toNat)
    && inRange 500 2000 w.lightInterval.toNat && inRange 0 9999 w.lapTarget.toNat
    && inRange 0 359999 w.timeTarget.toNat && inRange 10 600 w.finishWindow.toNat
    && inRange 0 15 w.callLimit.toNat && inRange 100 2000 w.refreshPeriod.toNat
    && inRange 200 10000 w.holdLimit.toNat

/-- The race configuration a CONFIG_RACE body carries, or none where a field other than a ceiling is out of range
(R181). -/
def configOf (w : RaceWords) : Option RaceConfig :=
  match raceWordsInRange w, callActionOf w.callAction, onOff w.autoLocalCaution with
  | true, some act, some auto =>
    some
      { burstGap := w.burstGap.toNat, dwellLimit := w.dwellLimit.toNat, voteMinimum := w.voteMinimum.toNat
        triggerLevel := w.triggerLevel.toNat, claimWait := w.claimWait.toNat
        lapFloor := w.lapFloor.toNat, lapCeiling := w.lapCeiling.toNat, sectorCount := w.sectorCount.toNat
        pitMinimum := w.pitMinimum.toNat, sightingWindow := w.sightingWindow.toNat
        lightInterval := w.lightInterval.toNat, lapTarget := w.lapTarget.toNat, timeTarget := w.timeTarget.toNat
        finishWindow := w.finishWindow.toNat, callLimit := w.callLimit.toNat, callAction := act
        ceilings :=
          { setup := ceilingOf w.setupCeiling, staging := ceilingOf w.stagingCeiling
            countdown := ceilingOf w.countdownCeiling, running := ceilingOf w.runningCeiling
            caution := ceilingOf w.cautionCeiling, coolDown := ceilingOf w.coolDownCeiling
            localCaution := ceilingOf w.localCautionCeiling, pit := ceilingOf w.pitCeiling }
        refreshPeriod := w.refreshPeriod.toNat, holdLimit := w.holdLimit.toNat, autoLocalCaution := auto }
  | _, _, _ => none

/-- An AMEND override value: 255 clears, 101 to 254 are taken as 100 (R47). -/
def overrideOf (b : Byte) : Option Nat := if b.toNat = 255 then none else some (min b.toNat 100)

/-- A lap count plus a signed delta, saturating at 0 and at 9,999 (R48). -/
def lapsPlus (laps : Nat) (delta : Int) : Nat := min 9999 ((laps : Int) + delta).toNat

/-! ### Bodies of answers -/

/-- The sector bytes of the status body: bit 7 the host flag, bits 0 to 4 the holder count (section 11.6). -/
def SectorCaution.byte (z : SectorCaution) : Byte := byteOf (flagBit 7 z.hostFlag + z.holders.length)

/-- The Blind flags of eight gates, the lowest in bit 0 (section 11.6). -/
def blindByte : List Gate → Nat → Nat
  | [], _ => 0
  | g :: gs, n => flagBit n g.isBlind + blindByte gs (n + 1)

/-- The status body, 46 bytes (R182, section 11.6). -/
def State.statusBody (s : State) : List Byte :=
  let gates := s.gates.toList
  [byteOf s.race.state.number, flagByte s.race.yellow]
    ++ word32 s.race.runningClock ++ word32 s.race.raceClock.toNat
    ++ s.race.caution.toList.map SectorCaution.byte
    ++ [byteOf s.resolver.queue.length, byteOf s.inputs.latch.number]
    ++ word16 s.inputs.snapshot.number
    ++ [byteOf (blindByte (gates.take 8) 0), byteOf (blindByte ((gates.drop 8).take 8) 0),
        byteOf (blindByte (gates.drop 16) 0)]
    ++ [flagByte s.testStart.isSome]
    ++ gates.map fun g => byteOf g.result.number

/-- The candidate bytes at a place of a pass entry: code and count, or FF and 0 (section 11.6). -/
def candidateBytes (c : Option (Nat × Nat)) : List Byte :=
  match c with
  | some (code, count) => [byteOf code, byteOf count]
  | none => [0xFF#8, 0]

/-- The marks byte of a pass entry (section 11.6). -/
def PassMarks.byte (m : PassMarks) : Byte :=
  byteOf (flagBit 0 m.noisy + flagBit 1 m.excess + flagBit 2 m.dwell + flagBit 3 m.unresolved + flagBit 4 m.stray)

/-- A pass entry, 17 bytes (R39, section 11.6). -/
def QueuedPass.bytes (q : QueuedPass) : List Byte :=
  let p := q.pass
  [q.tag, byteOf p.gate.val, optByte p.lane, byteOf p.kind.number]
    ++ word32 p.raw.toNat ++ optWord32 p.running ++ [p.marks.byte]
    ++ candidateBytes p.candidates[0]? ++ candidateBytes p.candidates[1]?

/-- A standings entry, 17 bytes (R100, section 11.6). -/
def Entrant.standingBytes (e : Entrant) (position : Nat) (slot : Slot) : List Byte :=
  [byteOf position, byteOf slot.val, optByte e.code, byteOf e.state.number]
    ++ word16 e.laps ++ optWord32 e.reachTime ++ optWord32 e.gap ++ word16 e.lapsDown
    ++ [byteOf (finishNumber e.finishStatus + flagBit 2 e.blackFlag + flagBit 3 e.overdue)]

/-- A sector list in the record body: its count, then four times (section 11.6). The places beyond the count hold no
value and are sent as absent (DEDUCED, log entry 8). -/
def sectorBytes (l : List (Option Nat)) : List Byte :=
  byteOf l.length :: (optWord32 (l.getD 0 none) ++ optWord32 (l.getD 1 none)
    ++ optWord32 (l.getD 2 none) ++ optWord32 (l.getD 3 none))

/-- A queue entry in the record body, 14 bytes, all FF when unused (section 11.6). -/
def penaltyBytes : Option PitPenalty → List Byte
  | some p =>
    [byteOf p.kind.number, byteOf p.cls.number, byteOf p.state.number, optByte p.hold, byteOf p.deadline,
      byteOf p.conversion, optByte p.remaining, flagByte p.escalation] ++ word32 p.calledAt ++ word16 p.calledLap
  | none => List.replicate 14 0xFF#8

/-- The flags byte of the record body (section 11.6). -/
def Entrant.flagsByte (e : Entrant) : Byte :=
  byteOf (flagBit 0 e.boxVisited + flagBit 1 e.overdue + flagBit 2 e.jumpStart + flagBit 3 e.lapCaution
    + flagBit 4 e.activity + flagBit 5 e.blackFlag)

/-- The last-lap marks byte of the record body (section 11.6). -/
def LapMarks.byte (m : LapMarks) : Byte := byteOf (flagBit 0 m.long + flagBit 1 m.caution + flagBit 2 m.assigned)

/-- The record body, 168 bytes, with the running clock `now` for the remaining times (R46, R140, section 11.6). A hold
timer that the running clock has passed already (R144 sets it from the arrival's own time) has no time remaining, and 0
is sent (DESIGN CHOICE, log entry 18). -/
def Entrant.bytes (e : Entrant) (slot : Slot) (now : RunTime) : List Byte :=
  [byteOf slot.val, optByte e.code, byteOf e.state.number, optByte (e.station.map (·.val)), optByte e.lane,
    byteOf e.pitStatus.number, e.flagsByte, byteOf e.pitStops]
    ++ word16 e.laps ++ word16 e.lapsDown
    ++ [byteOf e.sector, byteOf e.callsUsed, optByte e.override, byteOf e.effective,
        byteOf (finishNumber e.finishStatus), e.lastLapMarks.byte]
    ++ optWord16 (e.bestLap.map (·.lap)) ++ optWord32 e.pitEntry ++ optWord32 e.boxArrival
    ++ optWord32 e.latestCrossing ++ optWord32 e.prevCrossing ++ optWord32 e.reachTime ++ optWord32 e.lastLap
    ++ optWord32 (e.bestLap.map (·.ticks)) ++ optWord32 e.lastBoundary ++ optWord32 e.gap
    ++ optWord32 e.latestPass ++ optWord32 e.deadline ++ optWord32 e.finishTime
    ++ sectorBytes e.currentSectors ++ sectorBytes e.lastSectors
    ++ [byteOf e.penalties.length]
    ++ penaltyBytes e.penalties[0]? ++ penaltyBytes e.penalties[1]?
    ++ penaltyBytes e.penalties[2]? ++ penaltyBytes e.penalties[3]?
    ++ optWord32 (e.holdTimer.map (· - now))
    ++ [optByte (e.powerHold.map (·.level))] ++ optWord32 (e.powerHold.map (·.expiry - now))

/-! ### Frames of the command link -/

/-- The check byte that makes a sum 0 modulo 256 (section 11.6). -/
def checkByte (l : List Byte) : Byte := -(l.foldl (· + ·) 0)

/-- The bytes of a response frame: 5A, the station address with the top bit set, the length, the status, the body and
the check (R180, section 11.6). -/
def Answer.frame (a : Answer) (address : BitVec 5) : List Byte :=
  let part := [byteOf (128 + address.toNat), byteOf a.body.length, byteOf a.status.number] ++ a.body
  0x5A#8 :: part ++ [checkByte part]

end Sys2Proof.Machine
end

