-- ==== Sys2Proof/Machine/Resets.lean ====
section
/-! DEFINITION. The resets: the race reset, which every block takes by its own rule (R121), and the power-on reset
(R183 and the rules it names). -/

namespace Sys2Proof.Machine

/-- A record after a race reset: a Vacant one stays Vacant; an entrant is Staged, with its code, station and ceiling
override kept and every other field at its Vacant value (R66). -/
def Entrant.raceReset (e : Entrant) : Entrant :=
  if e.state = .vacant then e
  else { Entrant.vacant with code := e.code, state := .staged, station := e.station, override := e.override }

/-- The Race Sequencer's own part of a race reset (R121): the race clock and the POWER setting are kept. -/
def Sequencer.raceReset (q : Sequencer) : Sequencer :=
  { Sequencer.atReset with raceClock := q.raceClock, powerSetting := q.powerSetting }

/-- The race reset (R121), with the parts of R22, R38, R66, R81, R98, R155, R166 and R175. The configuration, the Call
Table, the mask, the latch, TEST, the paused flag, the sender, the dirty classes, the next refresh and the command link
are kept. -/
def State.raceReset (s : State) : State :=
  let s1 := s.abortTest
  let s2 := { s1 with
    race := s1.race.raceReset
    resolver := Resolver.atReset
    entrants := Vector.ofFn fun i => (s1.entrant i).raceReset
    ring := Vector.replicate 16 none
    highMark := 0
    ceiling := { s1.ceiling with holdStart := none }
    attention := { s1.attention with suspended := none, race := true } }
  s2.rebuildStandings.recomputeAll

/-- A power-on reset of every block that leaves the self-test results `results` and finds the straps and inputs at the
levels shown (R9, R22, R38, R66, R81, R98, R124, R128, R139, R166, R167, R168, R175, R177, R178). The queue of waiting
commands is the model's own and stays. -/
def State.powerOnReset (s : State) (results : Vector TestResult 24) (straps : BitVec 5) (pins : PinLevels) : State :=
  { State.powerOn results straps pins with pending := s.pending }

end Sys2Proof.Machine
end

