-- ==== Sys2Proof/Machine/Requests.lean ====
section
/-! DEFINITION. The host's requests, each judged and carried out whole by its own rule, with the answer it gives (R179,
R180). The command link's frames and the request commands both come here. -/

namespace Sys2Proof.Machine

/-- An accepted request that answers OK with an empty body. -/
def State.accept (s : State) : State × Answer := (s, Answer.okay)

/-! ### Configuration -/

/-- STATUS (R182). -/
def State.statusRequest (s : State) : State × Answer := (s, Answer.okWith s.statusBody)

/-- A gate after an accepted CONFIG_GATE: its entry replaced, its decoder in Hunt with nothing of its line (R7). -/
def Gate.configured (g : Gate) (e : GateEntry) : Gate := { g with entry := e, decoder := Decoder.cleared true }

/-- CONFIG_GATE (R7). The departures of a Box-gate burst are reported as it is discarded (R16). -/
def State.configGateRequest (s : State) (gate kind lane boundary sector : Byte) (offset : Word16) : State × Answer :=
  if s.race.state ≠ .setup ∨ s.testStart.isSome = true then s.refuse .wrongState
  else if h : gate.toNat < 24 then
    match gateKindOf kind with
    | none => s.refuse .badValue
    | some k =>
      match gateEntryOf k lane boundary sector offset with
      | none => s.refuse .badValue
      | some e => ((s.discardBurst ⟨gate.toNat, h⟩).modGate ⟨gate.toNat, h⟩ (·.configured e)).watchBlind.accept
  else s.refuse .badValue

/-- CONFIG_CALL (R129). -/
def State.configCallRequest (s : State) (cls kind hold deadline conversion level duration laps : Byte) : State × Answer :=
  if s.race.state ≠ .setup then s.refuse .wrongState
  else if h : cls.toNat < 7 then
    match rulingKindOf kind with
    | none => s.refuse .badValue
    | some k =>
      match rulingOf k hold deadline conversion level duration laps with
      | none => s.refuse .badValue
      | some r => { s with callTable := s.callTable.set cls.toNat r h }.accept
  else s.refuse .badValue

/-- CONFIG_RACE (R181): the configuration is replaced, and the Ceiling Unit recomputes every entrant (R156). -/
def State.configRaceRequest (s : State) (w : RaceWords) : State × Answer :=
  if s.race.state ≠ .setup then s.refuse .wrongState
  else match configOf w with
    | none => s.refuse .badValue
    | some c => { s with cfg := c }.recomputeAll.accept

/-- POWER (R122). -/
def State.powerRequest (s : State) (value : Byte) : State × Answer :=
  if s.race.state ≠ .setup then s.refuse .wrongState
  else match onOff value with
    | none => s.refuse .badValue
    | some on => { s with race := { s.race with powerSetting := on } }.accept

/-- SELF_TEST (R20). -/
def State.selfTestRequest (s : State) : State × Answer :=
  if s.race.state ≠ .setup ∨ s.testStart.isSome = true then s.refuse .wrongState else s.startTest.accept

/-! ### Entrants -/

/-- A station is attached to a record that is not Vacant, other than the one in the slot given (R45, R47). -/
def State.stationTaken (s : State) (n : StationNo) (but : Option Slot) : Bool :=
  allSlots.any fun i =>
    (s.entrant i).state != .vacant && (s.entrant i).station == some n && some i != but

/-- The station of an ENTER or AMEND request: FF is none, 6 to FE is out of range (R45, section 11.5). -/
def stationItem (b : Byte) : Option (Option StationNo) :=
  if b = 0xFF#8 then some none
  else match stationOf b with
    | some n => some (some n)
    | none => none

/-- The lowest Vacant slot (R45). -/
def State.vacantSlot (s : State) : Option Slot := allSlots.find? fun i => (s.entrant i).state == .vacant

/-- A code of a racing car (R45, R46). -/
def carCode (code : Byte) : Bool := inRange 1 62 code.toNat

/-- An accepted ENTER: the record, its place in the Standing Order, and the Ceiling Unit told (R45). -/
def State.enterCar (s : State) (i : Slot) (code : Nat) (station : Option StationNo) : State :=
  ((s.modEntrant i fun _ => { Entrant.vacant with code := some code, state := .staged, station := station }).joinStandings
    i).recompute i

/-- ENTER (R45). -/
def State.enterRequest (s : State) (code station : Byte) : State × Answer :=
  if s.race.state ≠ .setup ∧ s.race.state ≠ .staging then s.refuse .wrongState
  else match carCode code, stationItem station with
    | true, some st =>
      if (s.slotOfCode code.toNat).isSome then s.refuse .codeInUse
      else if (match st with
        | some n => s.stationTaken n none
        | none => false) then s.refuse .stationInUse
      else match s.vacantSlot with
        | none => s.refuse .tableFull
        | some i => (s.enterCar i code.toNat st, Answer.okWith [byteOf i.val])
    | _, _ => s.refuse .badValue

/-- LOOKUP (R46). -/
def State.lookupRequest (s : State) (code : Byte) : State × Answer :=
  match s.named code with
  | none => s.refuse .noEntrant
  | some i => (s, Answer.okWith ((s.entrant i).bytes i s.race.runningClock))

/-- LOOKUP_SLOT (R46). -/
def State.lookupSlotRequest (s : State) (slot : Byte) : State × Answer :=
  if h : slot.toNat < 24 then
    (s, Answer.okWith ((s.entrant ⟨slot.toNat, h⟩).bytes ⟨slot.toNat, h⟩ s.race.runningClock))
  else s.refuse .badValue

/-- AMEND's laps delta (R48). -/
def State.amendLaps (s : State) (i : Slot) (delta : Int) : State :=
  let n := lapsPlus (s.entrant i).laps delta
  if n = (s.entrant i).laps then s else (s.modEntrant i fun e => { e with laps := n }).replace i

/-- AMEND's ceiling override (R48). -/
def State.amendOverride (s : State) (i : Slot) (v : Option Nat) : State :=
  (s.modEntrant i fun e => { e with override := v }).recompute i

/-- AMEND's station (R48). -/
def State.amendStation (s : State) (i : Slot) (st : Option StationNo) : State :=
  s.modEntrant i fun e => { e with station := st }

/-- AMEND's clearing of the Black-flag mark; with no mark set it does nothing (R48). -/
def State.amendBlackFlag (s : State) (i : Slot) : State :=
  if (s.entrant i).blackFlag then s.setBlackFlag i false else s

/-- AMEND's reset of the calls used (R48). -/
def State.resetCalls (s : State) (i : Slot) : State := s.modEntrant i fun e => { e with callsUsed := 0 }

/-- An accepted AMEND: the items whose bits are set in the item byte (R48, section 11.5). -/
def State.amendItems (s : State) (i : Slot) (items : Byte) (delta : Int) (override : Option Nat)
    (station : Option StationNo) : State :=
  let s1 := if items.getLsbD 0 then s.amendLaps i delta else s
  let s2 := if items.getLsbD 1 then s1.amendOverride i override else s1
  let s3 := if items.getLsbD 2 then s2.amendStation i station else s2
  let s4 := if items.getLsbD 3 then s3.amendBlackFlag i else s3
  if items.getLsbD 4 then s4.resetCalls i else s4

/-- AMEND (R47, R48). -/
def State.amendRequest (s : State) (code items : Byte) (delta : Word16) (override station : Byte) : State × Answer :=
  match s.named code with
  | none => s.refuse .noEntrant
  | some i =>
    if (s.entrant i).state = .excluded then s.refuse .wrongState
    else if items.getLsbD 0 ∧ (delta.toInt < -9999 ∨ 9999 < delta.toInt) then s.refuse .badValue
    else
      match if items.getLsbD 2 then stationItem station else some none with
      | none => s.refuse .badValue
      | some st =>
        if (match st with
          | some n => s.stationTaken n (some i)
          | none => false) then s.refuse .stationInUse
        else (s.amendItems i items delta.toInt (overrideOf override) st).accept

/-- The record is vacated (R49): out of the Standing Order, at the Vacant values, with no dirty class (R159). -/
def State.vacate (s : State) (i : Slot) : State :=
  ((s.leaveStandings i).modEntrant i fun _ => Entrant.vacant).setDirty i .clean

/-- RETIRE from Countdown to Complete (R50). -/
def State.retireEntrant (s : State) (i : Slot) : State :=
  let s1 := (s.modEntrant i fun e => { e with state := .retired }).recompute i
  let s2 := (s1.modEntrant i fun e => { e with deadline := none }).release i
  let s3 := s2.modEntrant i fun e => { e with jumpStart := false }
  ((s3.clearPenalties i).recompute i).checkFinished

/-- RETIRE (R49, R50). -/
def State.retireRequest (s : State) (code : Byte) : State × Answer :=
  match s.named code with
  | none => s.refuse .noEntrant
  | some i =>
    if s.race.state = .setup ∨ s.race.state = .staging then (s.vacate i).accept
    else if (s.entrant i).state = .retired ∨ (s.entrant i).state = .excluded then s.refuse .wrongState
    else (s.retireEntrant i).accept

/-- EXCLUDE of an entrant (R51). -/
def State.excludeEntrant (s : State) (i : Slot) : State :=
  let s1 := ((s.modEntrant i fun e => { e with state := .excluded }).recompute i).leaveStandings i
  let s2 := (s1.modEntrant i fun e => { e with deadline := none }).release i
  let s3 := s2.modEntrant i fun e => { e with jumpStart := false }
  let s4 := (s3.clearPenalties i).setBlackFlag i false
  ((s4.modEntrant i fun e => { e with station := none }).recompute i).checkFinished

/-- EXCLUDE (R51). -/
def State.excludeRequest (s : State) (code : Byte) : State × Answer :=
  match s.named code with
  | none => s.refuse .noEntrant
  | some i =>
    if s.race.state = .setup ∨ s.race.state = .staging ∨ (s.entrant i).state = .excluded then s.refuse .wrongState
    else (s.excludeEntrant i).accept

/-! ### Calls and penalties -/

/-- A manual ruling may be made against an entrant in a state: a Racing one takes any, a Finished or Retired one those
that act at once (R136). -/
def manualAllowed (st : EntrantState) (r : Ruling) : Bool :=
  match st, r with
  | .excluded, _ => false
  | .finished, .lapDeduction _ | .finished, .blackFlag | .retired, .lapDeduction _ | .retired, .blackFlag => true
  | .finished, _ | .retired, _ => false
  | .vacant, _ | .staged, _ | .racing, _ => true

/-- CALL (R136, R137). -/
def State.callRequest (s : State) (code kind hold deadline conversion level duration laps : Byte) : State × Answer :=
  if s.race.state.afterGreen = false then s.refuse .wrongState
  else match s.named code with
    | none => s.refuse .noEntrant
    | some i =>
      match rulingKindOf kind with
      | none | some .noRuling => s.refuse .badValue
      | some k =>
        match rulingOf k hold deadline conversion level duration laps with
        | none | some none => s.refuse .badValue
        | some (some r) =>
          if manualAllowed (s.entrant i).state r then (s.makeCall i .manual r).accept else s.refuse .wrongState

/-- WAIVE (R153). -/
def State.waiveRequest (s : State) (code which : Byte) : State × Answer :=
  match s.named code with
  | none => s.refuse .noEntrant
  | some i =>
    if 4 < which.toNat then s.refuse .badValue
    else if which.toNat = 4 then
      if (s.entrant i).powerHold.isSome then (s.setPowerHold i none).accept else s.refuse .noPenalty
    else if which.toNat < (s.entrant i).penalties.length then (s.waiveEntry i which.toNat).accept
    else s.refuse .noPenalty

/-! ### The Unclaimed Pass Queue -/

/-- READ_PASSES (R39). -/
def State.readPassesRequest (s : State) (n : Byte) : State × Answer :=
  if inRange 1 4 n.toNat then
    ({ s with resolver := { s.resolver with waitLatch := false, overrun := false } },
      Answer.okWith (flagByte (decide (n.toNat < s.resolver.queue.length))
        :: (s.resolver.queue.take n.toNat).flatMap QueuedPass.bytes))
  else s.refuse .badValue

/-- An assigned pass, as it is delivered: a resolved pass of the entrant, without the Stray or Unresolved mark (R42). -/
def Pass.assigned (p : Pass) : Pass := { p with marks := { p.marks with unresolved := false, stray := false } }

/-- ASSIGN refuses a pass as too old for an entrant (R41, the fourth and fifth cases). -/
def assignTooOld (e : Entrant) (p : Pass) : Bool :=
  match p.running with
  | none => e.state == .racing
  | some t => p.kind != .line && (match e.latestPass with
    | some l => decide (t < l)
    | none => false)

/-- The entrant cannot be given a pass (R41, the third case). -/
def EntrantState.closed : EntrantState → Bool
  | .finished | .retired | .excluded => true
  | .vacant | .staged | .racing => false

/-- The delivery of an assigned Line pass that goes to late assignment, or the status with which the Lap Unit refuses
it (R42, R84, R85). -/
def State.assignLate (s : State) (i : Slot) (tag : Byte) (p : Pass) (a : RunTime) : State × Answer :=
  match judgeLate s.cfg.lapFloor (s.entrant i).latestCrossing (s.entrant i).prevCrossing a with
  | .duplicate => s.refuse .duplicate
  | .tooOld => s.refuse .tooOld
  | .launch => ((s.deliverLate i p a .launch).settleEntry tag).accept
  | .credit l => ((s.deliverLate i p a (.credit l)).settleEntry tag).accept
  | .split q l => ((s.deliverLate i p a (.split q l)).settleEntry tag).accept

/-- ASSIGN (R41, R42). -/
def State.assignRequest (s : State) (tag code : Byte) : State × Answer :=
  match s.queued tag with
  | none => s.refuse .noPass
  | some q =>
    match s.named code with
    | none => s.refuse .noEntrant
    | some i =>
      if (s.entrant i).state.closed then s.refuse .wrongState
      else if assignTooOld (s.entrant i) q.pass then s.refuse .tooOld
      else
        match q.pass.running, decide (q.pass.kind = .line ∧ treatment (s.entrant i).state s.race.state = .full) with
        | some a, true => s.assignLate i tag q.pass.assigned a
        | _, _ => ((s.deliver i q.pass.assigned).settleEntry tag).accept

/-- DISCARD (R40). -/
def State.discardRequest (s : State) (tag : Byte) : State × Answer :=
  match s.queued tag with
  | none => s.refuse .noPass
  | some _ => (s.settleEntry tag).accept

/-! ### The Standing Order -/

/-- The entries of a STANDINGS answer, from a position on (R99, R100). -/
def State.standingEntries (s : State) : Nat → List Standing → List Byte
  | _, [] => []
  | pos, x :: xs => (s.entrant x.slot).standingBytes pos x.slot ++ s.standingEntries (pos + 1) xs

/-- STANDINGS (R99). -/
def State.standingsRequest (s : State) (first count : Byte) : State × Answer :=
  if inRange 1 24 first.toNat && inRange 1 6 count.toNat then
    (s, Answer.okWith (byteOf s.standings.length
      :: s.standingEntries first.toNat ((s.standings.drop (first.toNat - 1)).take count.toNat)))
  else s.refuse .badValue

/-! ### The race -/

/-- The gate table check of STAGE: some Line gate, and every Split gate's boundary below the sector count (R8). -/
def State.tablePasses (s : State) : Bool :=
  (s.gates.toList.any fun g => g.entry.kind == .line)
    && s.gates.toList.all fun g => g.entry.kind != .split || decide (g.entry.boundary.getD 0 < s.cfg.sectorCount)

/-- STAGE (R103). -/
def State.stageRequest (s : State) : State × Answer :=
  if s.race.state ≠ .setup ∨ s.testStart.isSome = true then s.refuse .wrongState
  else if s.tablePasses then (s.enterRace .staging).recomputeAll.accept
  else s.refuse .badConfig

/-- The red button is held, or the power sense shows no power, by the live levels (R106, R111). -/
def State.inputBars (s : State) : Bool := s.inputs.live.redHeld || s.inputs.live.powerAbsent

/-- The start of the countdown: red 1 lit, the green delay recorded, the next step one light interval away (R106). -/
def State.startCountdown (s : State) (delayMs : Nat) : State :=
  let s1 := s.enterRace .countdown
  { s1 with race := { s1.race with
      countdown := some
        { reds := 1, phase := .lights, delay := delayMs * ticksPerMs, next := rawPlus s1.race.raceClock s1.lightTicks } }
    }.recomputeAll

/-- START (R106). -/
def State.startRequest (s : State) (delay : Word16) : State × Answer :=
  if s.race.state ≠ .staging then s.refuse .wrongState
  else if 5000 < delay.toNat then s.refuse .badValue
  else if s.inputBars then s.refuse .inputActive
  else (s.startCountdown delay.toNat).accept

/-- YELLOW (R113). -/
def State.yellowRequest (s : State) (value : Byte) : State × Answer :=
  if s.race.state.clockRuns = false then s.refuse .wrongState
  else match onOff value with
    | none => s.refuse .badValue
    | some on => (s.setYellow on).accept

/-- ZONE (R115). -/
def State.zoneRequest (s : State) (sector value : Byte) : State × Answer :=
  if s.race.state ≠ .running ∧ s.race.state ≠ .finishing ∧ s.race.state ≠ .suspended then s.refuse .wrongState
  else if 3 < sector.toNat ∨ s.cfg.sectorCount ≤ sector.toNat then s.refuse .badValue
  else match onOff value with
    | none => s.refuse .badValue
    | some on => (s.setHostFlag sector.toNat on).accept

/-- SUSPEND (R109, R110). -/
def State.suspendRequest (s : State) : State × Answer :=
  if s.race.state.heldCounts then (s.suspensionCause .host).accept else s.refuse .wrongState

/-- RESUME (R111). -/
def State.resumeRequest (s : State) (yellow : Byte) : State × Answer :=
  if s.race.state ≠ .suspended then s.refuse .wrongState
  else match onOff yellow with
    | none => s.refuse .badValue
    | some on => if s.inputBars then s.refuse .inputActive else (s.resumeRace on).accept

/-- END (R120). -/
def State.endRequest (s : State) : State × Answer :=
  if s.race.state = .running ∨ s.race.state = .finishing ∨ s.race.state = .suspended then
    (s.endRace s.race.runningClock).accept
  else s.refuse .wrongState

/-- RESET_RACE (R121). -/
def State.resetRaceRequest (s : State) : State × Answer := s.raceReset.accept

/-- RESET_PART (R183): answered OK, after whose response the part resets. -/
def State.resetPartRequest (s : State) : State × Answer := (s, { Answer.okay with reboot := true })

/-! ### Attention and inputs -/

/-- The payload of a cause, two bytes (R171, section 11.6). -/
def State.payload (s : State) : Cause → List Byte
  | .suspended => [byteOf ((s.attention.suspended.map Reason.number).getD 255), 0]
  | .station => word16 s.inputs.snapshot.number
  | .review => [optByte ((s.slotsWith (·.blackFlag)).head?.map (·.val)), 0]
  | .overdue => [optByte ((s.slotsWith (·.overdue)).head?.map (·.val)), 0]
  | .passes => [byteOf s.resolver.queue.length, (s.resolver.queue.head?.map (·.tag)).getD 255]
  | .race => [byteOf s.race.state.number, 0]
  | .overrun | .penalty | .test => [0, 0]

/-- A read clears a read-cleared cause and leaves a level cause raised (R171, R173). -/
def Attention.afterRead (a : Attention) : Cause → Attention
  | .suspended => { a with suspended := none }
  | .race => { a with race := false }
  | .test => { a with test := false }
  | .station | .review | .overdue | .passes | .overrun | .penalty => a

/-- READ_ATTENTION (R173). -/
def State.readAttentionRequest (s : State) : State × Answer :=
  match s.calling with
  | [] => (s, Answer.okWith [0, 0, 0, 0])
  | c :: rest =>
    ({ s with attention := s.attention.afterRead c },
      Answer.okWith ([byteOf c.priority, flagByte (!rest.isEmpty)] ++ s.payload c))

/-- SET_MASK (R172): bits 9 to 15 are ignored. -/
def State.setMaskRequest (s : State) (mask : Word16) : State × Answer :=
  { s with attention := { s.attention with mask := mask.truncate 9 } }.accept

/-- The latch after ACK_STATIONS: freed, and held again at once if the live inputs differ from the snapshot; a Free
latch is left as it is (R168). -/
def InputLatch.acknowledge (l : InputLatch) : InputLatch :=
  match l.latch with
  | .free => l
  | .held => if l.live = l.snapshot then { l with latch := .free } else { l with snapshot := l.live }

/-- ACK_STATIONS (R168). -/
def State.ackStationsRequest (s : State) : State × Answer :=
  let l := s.inputs.acknowledge
  ({ s with inputs := l }, Answer.okWith (byteOf l.latch.number :: word16 l.snapshot.number))

/-- READ_PENALTY_ACTIVITY (R174). -/
def State.readActivityRequest (s : State) : State × Answer :=
  let marked := s.slotsWith (·.activity)
  (s.forSlots fun s i => s.modEntrant i fun e => { e with activity := false },
    Answer.okWith (byteOf marked.length :: marked.map fun i => byteOf i.val))

end Sys2Proof.Machine
end

