-- ==== Sys2Proof/Machine/Link.lean ====
section
/-! DEFINITION. The Command Link Interface (chapter 11): the assembly of frames, their judging, the dispatch of a request
to the block that owns what it touches, and the response. -/

namespace Sys2Proof.Machine

/-! ### Receiving -/

/-- An address byte of a response frame: its top bit is set (R177). -/
def isResponseAddr (addr : Byte) : Bool := decide (128 ≤ addr.toNat)

/-- The receive state after a byte (R178). In Check the frame is complete: see COMMAND_FRAME. -/
def RxState.next (r : RxState) (b : Byte) : RxState :=
  match r with
  | .hunt => if b = 0x5A#8 then .address else .hunt
  | .address => .length b
  | .length addr => if isResponseAddr addr || decide (b.toNat ≤ 60) then .code addr b else .hunt
  | .code addr len => if len.toNat = 0 then .check addr len b [] else .body addr len b []
  | .body addr len req bytes =>
    if len.toNat ≤ bytes.length + 1 then .check addr len req (bytes ++ [b]) else .body addr len req (bytes ++ [b])
  | .check _ _ _ _ => .hunt

/-- The receiver awaits a check byte. -/
def RxState.inCheck : RxState → Bool
  | .check _ _ _ _ => true
  | .hunt | .address | .length _ | .code _ _ | .body _ _ _ _ => false

/-- The receiver takes bytes: no response is prepared, being sent, or followed by a reset (R178, R183). -/
def TxState.listening : TxState → Bool
  | .idle => true
  | .waiting _ _ | .sending _ _ | .rebooting => false

/-- The receiver takes a state, a byte having arrived now. -/
def State.setRx (s : State) (r : RxState) : State :=
  { s with link := { s.link with rx := r, lastByte := s.race.raceClock } }

/-- The partial frame is discarded, and the receiver is in Hunt (R178). -/
def State.dropFrame (s : State) : State := { s with link := { s.link with rx := .hunt } }

/-- A partial frame is held, and its last byte came more than 2 ms ago (R178). -/
def State.gapElapsed (s : State) (ticks : Nat) : Bool :=
  s.link.rx != .hunt && decide (ticks < s.since s.link.lastByte)

/-! ### Carrying out -/

/-- A request of the catalogue whose body is of another length (R179). -/
def State.badLength (s : State) : State × Answer := s.refuse .badLength

/-- Two bytes as a value, most significant first (R176). -/
def joinWord (hi lo : Byte) : Word16 := hi ++ lo

/-- Four bytes as a value, most significant first (R176). -/
def joinLong (a b c d : Byte) : BitVec 32 := a ++ b ++ c ++ d

/-- The CONFIG_RACE fields of a body of 45 bytes, by the offsets of R181; none for a body of another length. -/
def raceWordsOf (l : List Byte) : Option RaceWords :=
  let byte (k : Nat) : Byte := l.getD k 0
  let word (k : Nat) : Word16 := joinWord (byte k) (byte (k + 1))
  let long (k : Nat) : BitVec 32 := joinLong (byte k) (byte (k + 1)) (byte (k + 2)) (byte (k + 3))
  if l.length = 45 then
    some
      { burstGap := byte 0, dwellLimit := word 1, voteMinimum := byte 3, triggerLevel := byte 4, claimWait := byte 5
        lapFloor := long 6, lapCeiling := long 10, sectorCount := byte 14, pitMinimum := long 15
        sightingWindow := byte 19, lightInterval := word 20, lapTarget := word 22, timeTarget := long 24
        finishWindow := word 28, callLimit := byte 30, callAction := byte 31, setupCeiling := byte 32
        stagingCeiling := byte 33, countdownCeiling := byte 34, runningCeiling := byte 35, cautionCeiling := byte 36
        coolDownCeiling := byte 37, localCautionCeiling := byte 38, pitCeiling := byte 39
        refreshPeriod := word 40, holdLimit := word 42, autoLocalCaution := byte 44 }
  else none

/-- The dispatch of a request code and body: UNKNOWN_REQUEST for a code outside the catalogue, BAD_LENGTH for a body of
another length, else the request's own rule (R179, section 11.5). -/
def State.carryOut (s : State) (code : Byte) (body : List Byte) : State × Answer :=
  match code.toNat, body with
  | 0x01, [] => s.statusRequest
  | 0x01, _ => s.badLength
  | 0x02, [g, k, l, b, c, o1, o0] => s.configGateRequest g k l b c (joinWord o1 o0)
  | 0x02, _ => s.badLength
  | 0x03, [c, k, h, d, v, l, t, n] => s.configCallRequest c k h d v l t n
  | 0x03, _ => s.badLength
  | 0x04, bytes => match raceWordsOf bytes with
    | some w => s.configRaceRequest w
    | none => s.badLength
  | 0x05, [v] => s.powerRequest v
  | 0x05, _ => s.badLength
  | 0x06, [] => s.selfTestRequest
  | 0x06, _ => s.badLength
  | 0x10, [c, n] => s.enterRequest c n
  | 0x10, _ => s.badLength
  | 0x11, [c] => s.lookupRequest c
  | 0x11, _ => s.badLength
  | 0x12, [n] => s.lookupSlotRequest n
  | 0x12, _ => s.badLength
  | 0x13, [c, i, d1, d0, o, n] => s.amendRequest c i (joinWord d1 d0) o n
  | 0x13, _ => s.badLength
  | 0x14, [c] => s.retireRequest c
  | 0x14, _ => s.badLength
  | 0x15, [c] => s.excludeRequest c
  | 0x15, _ => s.badLength
  | 0x20, [c, k, h, d, v, l, t, n] => s.callRequest c k h d v l t n
  | 0x20, _ => s.badLength
  | 0x21, [c, w] => s.waiveRequest c w
  | 0x21, _ => s.badLength
  | 0x28, [n] => s.readPassesRequest n
  | 0x28, _ => s.badLength
  | 0x29, [t, c] => s.assignRequest t c
  | 0x29, _ => s.badLength
  | 0x2A, [t] => s.discardRequest t
  | 0x2A, _ => s.badLength
  | 0x30, [f, n] => s.standingsRequest f n
  | 0x30, _ => s.badLength
  | 0x40, [] => s.stageRequest
  | 0x40, _ => s.badLength
  | 0x41, [d1, d0] => s.startRequest (joinWord d1 d0)
  | 0x41, _ => s.badLength
  | 0x42, [v] => s.yellowRequest v
  | 0x42, _ => s.badLength
  | 0x43, [k, v] => s.zoneRequest k v
  | 0x43, _ => s.badLength
  | 0x44, [] => s.suspendRequest
  | 0x44, _ => s.badLength
  | 0x45, [v] => s.resumeRequest v
  | 0x45, _ => s.badLength
  | 0x46, [] => s.endRequest
  | 0x46, _ => s.badLength
  | 0x4E, [] => s.resetRaceRequest
  | 0x4E, _ => s.badLength
  | 0x4F, [] => s.resetPartRequest
  | 0x4F, _ => s.badLength
  | 0x60, [] => s.readAttentionRequest
  | 0x60, _ => s.badLength
  | 0x61, [m1, m0] => s.setMaskRequest (joinWord m1 m0)
  | 0x61, _ => s.badLength
  | 0x62, [] => s.ackStationsRequest
  | 0x62, _ => s.badLength
  | 0x63, [] => s.readActivityRequest
  | 0x63, _ => s.badLength
  | _, _ => s.refuse .unknownRequest

/-- An answer is handed to the link, whose response is prepared from now (R179, R180). -/
def respond (r : State × Answer) : State :=
  { r.1 with link := { r.1.link with tx := .waiting r.2 r.1.race.raceClock } }

/-- The outcome of a request command: its effects, and its answer handed to the link. -/
def answered (r : State × Answer) : Host.Outcome State Fault Refusal := (respond r).done

/-- The three requests that may be broadcast: SUSPEND, YELLOW and END (R177). -/
def broadcastCode (code : Byte) : Bool := code == 0x44#8 || code == 0x42#8 || code == 0x46#8

/-- A broadcast request: carried out without answer if it would be accepted, else ignored (R177). -/
def State.broadcast (s : State) (code : Byte) (body : List Byte) : State :=
  if broadcastCode code then
    if (s.carryOut code body).2.status = .ok then (s.carryOut code body).1 else s
  else s

/-- The sum of a frame's bytes from the address through the check is 0 modulo 256 (R178). -/
def goodSum (addr len code : Byte) (bytes : List Byte) (check : Byte) : Bool :=
  (addr + len + code + bytes.foldl (· + ·) 0 + check) == 0

/-- A completed frame is judged by its sum and its address: carried out and answered, carried out as a broadcast, or
discarded (R177, R178, R179). The receiver is in Hunt. -/
def State.judgeCommand (s : State) (addr len code : Byte) (bytes : List Byte) (check : Byte) : State :=
  let s1 := s.setRx .hunt
  if goodSum addr len code bytes check then
    if addr.toNat = s.link.address.toNat then respond (s1.carryOut code bytes)
    else if addr = 0x3F#8 then s1.broadcast code bytes
    else s1
  else s1

end Sys2Proof.Machine
end

