-- ==== Sys2Proof/Machine/LinkEvents.lean ====
section
/-! DEFINITION. The meanings of the command link's own events and of the resets. An event whose condition does not hold
does not happen: the state stays as it is (log entry 3). -/

namespace Sys2Proof.Machine

/-- COMMAND_BYTE: a byte before a frame's check byte arrives (R178). While a response is prepared or sent the byte is
discarded, and a byte awaited as the check byte is COMMAND_FRAME's. -/
def execCommandByte (byte : Byte) (s : State) : Host.Outcome State Fault Refusal :=
  if s.link.tx.listening && !s.link.rx.inCheck then (s.setRx (s.link.rx.next byte)).done else s.done

/-- COMMAND_FRAME: the check byte of a frame arrives, and the frame is judged (R177, R178, R179). -/
def execCommandFrame (check : Byte) (s : State) : Host.Outcome State Fault Refusal :=
  match s.link.tx.listening, s.link.rx with
  | true, .check addr len code bytes => (s.judgeCommand addr len code bytes check).done
  | _, _ => s.done

/-- RX_GAP_TIMEOUT: more than 2 ms without a byte discard the partial frame (R178). -/
def execRxGapTimeout (s : State) : Host.Outcome State Fault Refusal :=
  if s.gapElapsed 20 then s.dropFrame.done else s.done

/-- RX_BYTE_ERROR: a byte with a bad stop bit discards the partial frame (R178). -/
def execRxByteError (s : State) : Host.Outcome State Fault Refusal :=
  if s.link.tx.listening then s.dropFrame.done else s.done

/-- RESPONSE_START: the response prepared begins, no sooner than 100 µs after the check byte (R179). -/
def execResponseStart (s : State) : Host.Outcome State Fault Refusal :=
  match s.link.tx with
  | .waiting a t =>
    if 1 ≤ s.since t then { s with link := { s.link with tx := .sending a s.race.raceClock } }.done else s.done
  | .idle | .sending _ _ | .rebooting => s.done

/-- The whole ticks a response takes at least: ten bit times a byte at 115,200 baud (R176). -/
def State.responseTicks (s : State) (a : Answer) : Nat := (a.frame s.link.address).length * 100000 / 115200

/-- RESPONSE_END: the last stop bit of the response leaves the line, and the receiver is in Hunt; after the response to
RESET_PART the part is about to reset (R176, R178, R183). -/
def execResponseEnd (s : State) : Host.Outcome State Fault Refusal :=
  match s.link.tx with
  | .sending a t =>
    if s.responseTicks a ≤ s.since t then
      { s with link := { s.link with rx := .hunt, tx := if a.reboot then .rebooting else .idle } }.done
    else s.done
  | .idle | .waiting _ _ | .rebooting => s.done

/-- RESET_PART_REBOOT: after the response to RESET_PART has ended, a power-on reset of every block (R183, R22). -/
def execResetPartReboot (straps : BitVec 5) (pins : PinLevels) (s : State) : Host.Outcome State Fault Refusal :=
  if s.link.tx = .rebooting then (s.powerOnReset s.resultsAfterReset straps pins).done else s.done

/-- RESET_PIN: a power-on reset at once, whatever the link is doing (R183, R22). -/
def execResetPin (straps : BitVec 5) (pins : PinLevels) (s : State) : Host.Outcome State Fault Refusal :=
  (s.powerOnReset s.resultsAfterReset straps pins).done

/-- POWER_UP: a power-on reset that leaves no self-test result (R22, R124). -/
def execPowerUp (straps : BitVec 5) (pins : PinLevels) (s : State) : Host.Outcome State Fault Refusal :=
  (s.powerOnReset (Vector.replicate 24 .noTest) straps pins).done

end Sys2Proof.Machine
end

