-- ==== Sys2Proof/Machine/TimerEvents.lean ====
section
/-! DEFINITION. The meanings of the timers' expiries in the resolver, the records and the race. An expiry that is not
due does not happen: the state stays as it is (log entry 3). -/

namespace Sys2Proof.Machine

/-- A queue entry noted as expired if it has the tag (R35). -/
def QueuedPass.expire (tag : Byte) (x : QueuedPass) : QueuedPass := if x.tag = tag then { x with expired := true } else x

/-- CLAIM_WAIT_EXPIRY: the entry with the tag is noted as expired, and the wait latch is set (R35). -/
def execClaimWaitExpiry (tag : Byte) (s : State) : Host.Outcome State Fault Refusal :=
  match s.queued tag with
  | some e =>
    if s.claimDue e then
      { s with resolver := { s.resolver with
          queue := s.resolver.queue.map (QueuedPass.expire tag)
          waitLatch := true } }.done
    else s.done
  | none => s.done

/-- A Racing entrant's sighting deadline has been reached (R64). -/
def State.sightingDue (s : State) (i : Slot) : Bool :=
  s.race.state.clockRuns && (s.entrant i).state == .racing
    && (match (s.entrant i).deadline with
      | some d => decide (d ≤ s.race.runningClock)
      | none => false)

/-- SIGHTING_DEADLINE_EXPIRY (R64). -/
def execSightingDeadlineExpiry (slot : Slot) (s : State) : Host.Outcome State Fault Refusal :=
  if s.sightingDue slot then (s.expireSighting slot).done else s.done

/-- COUNTDOWN_STEP (R107, R108). -/
def execCountdownStep (s : State) : Host.Outcome State Fault Refusal :=
  match s.stepDue with
  | some c => (s.stepCountdown c).done
  | none => s.done

/-- TIME_TARGET_REACHED: the race enters Finishing (R118, R119). -/
def execTimeTargetReached (s : State) : Host.Outcome State Fault Refusal :=
  if s.timeTargetDue then s.enterFinishing.done else s.done

/-- FINISH_WINDOW_EXPIRY: every Racing entrant finishes Unflagged at the deadline, and the race is Complete (R119). -/
def execFinishWindowExpiry (s : State) : Host.Outcome State Fault Refusal :=
  match s.windowDue with
  | some d => (s.endRace d).done
  | none => s.done

/-- RUNNING_CLOCK_CAP: the race ends as for END, at the cap, without a response (R120). -/
def execRunningClockCap (s : State) : Host.Outcome State Fault Refusal :=
  if s.capDue then (s.endRace runningCap).done else s.done

/-- The hold timer of a Serving stop-and-go has been reached (R146). -/
def State.holdTimerDue (s : State) (i : Slot) : Bool :=
  s.race.state.clockRuns && (s.entrant i).servingStopGo
    && (match (s.entrant i).holdTimer with
      | some t => decide (t ≤ s.race.runningClock)
      | none => false)

/-- STOP_GO_HOLD_EXPIRY: the Serving stop-and-go is served (R146). -/
def execStopGoHoldExpiry (slot : Slot) (s : State) : Host.Outcome State Fault Refusal :=
  if s.holdTimerDue slot then (s.serveOut slot).done else s.done

/-- The expiry time of an entrant's power hold has been reached (R150). -/
def State.powerHoldDue (s : State) (i : Slot) : Bool :=
  s.race.state.clockRuns && (match (s.entrant i).powerHold with
    | some h => decide (h.expiry ≤ s.race.runningClock)
    | none => false)

/-- POWER_HOLD_EXPIRY: the hold is served (R150). -/
def execPowerHoldExpiry (slot : Slot) (s : State) : Host.Outcome State Fault Refusal :=
  if s.powerHoldDue slot then ((s.setPowerHold slot none).markActivity slot).done else s.done

end Sys2Proof.Machine
end

