-- ==== Sys2Proof/Machine/Clockwork.lean ====
section
/-! DEFINITION. What the part does by itself when no command waits: the timed events that are due now. DESIGN CHOICE (log
entry 1): while one is due the clocks do not advance, and the first of the list below is taken; the spec lets events that
fall together come in any order. -/

namespace Sys2Proof.Machine

/-- A command when its condition holds. -/
def dueIf (b : Bool) (i : Instr) : List Instr := if b then [i] else []

/-- The events of the gates that are due: gap before dwell. -/
def State.dueAtGates (s : State) : List Instr :=
  (allSlots.filter s.gapDue).map Instr.burstGapExpiry ++ (allSlots.filter s.dwellDue).map Instr.burstDwellExpiry

/-- The claim waits that are due. -/
def State.dueClaims (s : State) : List Instr :=
  (s.resolver.queue.filter s.claimDue).map fun e => .claimWaitExpiry e.tag

/-- The events of the records that are due. -/
def State.dueAtRecords (s : State) : List Instr :=
  (allSlots.filter s.sightingDue).map Instr.sightingDeadlineExpiry
    ++ (allSlots.filter s.holdTimerDue).map Instr.stopGoHoldExpiry
    ++ (allSlots.filter s.powerHoldDue).map Instr.powerHoldExpiry

/-- The response must begin now: 2 ms have passed since the check byte (R179). -/
def State.responseLate (s : State) : Bool :=
  match s.link.tx with
  | .waiting _ t => decide (20 ≤ s.since t)
  | .idle | .sending _ _ | .rebooting => false

/-- The ceiling frame has left the line: its 40 bit times have passed (R162). -/
def State.frameOver (s : State) : Bool :=
  match s.ceiling.sender with
  | some f => decide (frameTicks < s.since f.since)
  | none => false

/-- The command that is the completion of the generator's next cell, of the level given, at a gate under test, if it is
due. -/
def State.generatorCommand (s : State) (g : GateNo) (lvl : Level) : Option Instr :=
  match s.cellKindAt ⟨g, .generator⟩ lvl with
  | .endsFrame => some (.beaconFrame ⟨g, .generator⟩ lvl)
  | .blinds => some (.gateBlind ⟨g, .generator⟩)
  | .unblinds => some (.gateUnblind ⟨g, .generator⟩)
  | .ordinary => some (.gateCell ⟨g, .generator⟩ lvl)
  | .ignored => none

/-- The generator's cells that are due: the next one is a mark or a space. -/
def State.dueCells (s : State) : List Instr :=
  allSlots.filterMap fun g => (s.generatorCommand g .mark).or (s.generatorCommand g .space)

/-- The edges of the inputs that are due: of the stations, lowest first, of red, of the power sense and of the blinded
summary (R167). -/
def State.dueEdges (s : State) : List Instr :=
  let l := s.inputs
  ((List.finRange 6).filter fun n => s.departureOver l.pressedSince[n]).map
      (fun n => if l.live.station n then .stationRelease n else .stationPress n)
    ++ dueIf (s.departureOver l.redSince) (if l.live.redHeld then .redRelease else .redPress)
    ++ dueIf (s.departureOver l.powerSince) (if l.live.powerAbsent then .powerSenseRestore else .powerSenseLoss)
    ++ dueIf s.blindEdgeDue .blindedSummaryEdge

/-- Every timed event that is due, in the order in which the part takes them by itself. The reset that follows the
response to RESET_PART is not among them: R183 gives no time for it, and it needs the levels the pins show; it comes as
RESET_PART_REBOOT (DESIGN CHOICE, log entry 17). Nor is the end of a response (log entry 11). -/
def State.dueEvents (s : State) : List Instr :=
  s.dueCells ++ s.dueAtGates ++ s.dueClaims ++ dueIf s.testDue .selfTestEnd ++ s.dueAtRecords
    ++ dueIf s.stepDue.isSome .countdownStep ++ dueIf s.timeTargetDue .timeTargetReached
    ++ dueIf s.windowDue.isSome .finishWindowExpiry ++ dueIf s.capDue .runningClockCap
    ++ dueIf s.holdDue .linkHoldExpiry ++ s.dueEdges
    ++ dueIf (s.reached s.ceiling.nextRefresh) .ceilingRefresh
    ++ dueIf s.frameOver .ceilingFrameEnd ++ dueIf s.frameDue.isSome .ceilingFrameStart
    ++ dueIf (s.gapElapsed 21) .rxGapTimeout ++ dueIf s.responseLate .responseStart

end Sys2Proof.Machine
end

