-- ==== Sys2Proof/Machine/HostCommands.lean ====
section
/-! DEFINITION. The meanings of the request commands: each request is judged and carried out by its own rule, and its
answer is handed to the command link (R179, R180). -/

namespace Sys2Proof.Machine

/-- STATUS (R182). -/
def execStatus (s : State) : Host.Outcome State Fault Refusal := answered s.statusRequest

/-- CONFIG_GATE (R7). -/
def execConfigGate (gate kind lane boundary sector : Byte) (offset : Word16) (s : State) : Host.Outcome State Fault Refusal :=
  answered (s.configGateRequest gate kind lane boundary sector offset)

/-- CONFIG_CALL (R129). -/
def execConfigCall (cls kind hold deadline conversion level duration laps : Byte) (s : State) :
    Host.Outcome State Fault Refusal :=
  answered (s.configCallRequest cls kind hold deadline conversion level duration laps)

/-- CONFIG_RACE (R181). -/
def execConfigRace (words : RaceWords) (s : State) : Host.Outcome State Fault Refusal := answered (s.configRaceRequest words)

/-- POWER (R122). -/
def execPower (value : Byte) (s : State) : Host.Outcome State Fault Refusal := answered (s.powerRequest value)

/-- SELF_TEST (R20). -/
def execSelfTest (s : State) : Host.Outcome State Fault Refusal := answered s.selfTestRequest

/-- ENTER (R45). -/
def execEnter (code station : Byte) (s : State) : Host.Outcome State Fault Refusal := answered (s.enterRequest code station)

/-- LOOKUP (R46). -/
def execLookup (code : Byte) (s : State) : Host.Outcome State Fault Refusal := answered (s.lookupRequest code)

/-- LOOKUP_SLOT (R46). -/
def execLookupSlot (slot : Byte) (s : State) : Host.Outcome State Fault Refusal := answered (s.lookupSlotRequest slot)

/-- AMEND (R47, R48). -/
def execAmend (code items : Byte) (delta : Word16) (override station : Byte) (s : State) :
    Host.Outcome State Fault Refusal :=
  answered (s.amendRequest code items delta override station)

/-- RETIRE (R49, R50). -/
def execRetire (code : Byte) (s : State) : Host.Outcome State Fault Refusal := answered (s.retireRequest code)

/-- EXCLUDE (R51). -/
def execExclude (code : Byte) (s : State) : Host.Outcome State Fault Refusal := answered (s.excludeRequest code)

/-- CALL (R136, R137). -/
def execCall (code kind hold deadline conversion level duration laps : Byte) (s : State) :
    Host.Outcome State Fault Refusal :=
  answered (s.callRequest code kind hold deadline conversion level duration laps)

/-- WAIVE (R153). -/
def execWaive (code which : Byte) (s : State) : Host.Outcome State Fault Refusal := answered (s.waiveRequest code which)

/-- READ_PASSES (R39). -/
def execReadPasses (n : Byte) (s : State) : Host.Outcome State Fault Refusal := answered (s.readPassesRequest n)

/-- ASSIGN (R41, R42). -/
def execAssign (tag code : Byte) (s : State) : Host.Outcome State Fault Refusal := answered (s.assignRequest tag code)

/-- DISCARD (R40). -/
def execDiscard (tag : Byte) (s : State) : Host.Outcome State Fault Refusal := answered (s.discardRequest tag)

/-- STANDINGS (R99). -/
def execStandings (first count : Byte) (s : State) : Host.Outcome State Fault Refusal :=
  answered (s.standingsRequest first count)

/-- STAGE (R103). -/
def execStage (s : State) : Host.Outcome State Fault Refusal := answered s.stageRequest

/-- START (R106). -/
def execStart (delay : Word16) (s : State) : Host.Outcome State Fault Refusal := answered (s.startRequest delay)

/-- YELLOW (R113). -/
def execYellow (value : Byte) (s : State) : Host.Outcome State Fault Refusal := answered (s.yellowRequest value)

/-- ZONE (R115). -/
def execZone (sector value : Byte) (s : State) : Host.Outcome State Fault Refusal := answered (s.zoneRequest sector value)

/-- SUSPEND (R109, R110). -/
def execSuspend (s : State) : Host.Outcome State Fault Refusal := answered s.suspendRequest

/-- RESUME (R111). -/
def execResume (yellow : Byte) (s : State) : Host.Outcome State Fault Refusal := answered (s.resumeRequest yellow)

/-- END (R120). -/
def execEndRace (s : State) : Host.Outcome State Fault Refusal := answered s.endRequest

/-- RESET_RACE (R121). -/
def execResetRace (s : State) : Host.Outcome State Fault Refusal := answered s.resetRaceRequest

/-- RESET_PART (R183). -/
def execResetPart (s : State) : Host.Outcome State Fault Refusal := answered s.resetPartRequest

/-- READ_ATTENTION (R173). -/
def execReadAttention (s : State) : Host.Outcome State Fault Refusal := answered s.readAttentionRequest

/-- SET_MASK (R172). -/
def execSetMask (mask : Word16) (s : State) : Host.Outcome State Fault Refusal := answered (s.setMaskRequest mask)

/-- ACK_STATIONS (R168). -/
def execAckStations (s : State) : Host.Outcome State Fault Refusal := answered s.ackStationsRequest

/-- READ_PENALTY_ACTIVITY (R174). -/
def execReadPenaltyActivity (s : State) : Host.Outcome State Fault Refusal := answered s.readActivityRequest

end Sys2Proof.Machine
end

