-- ==== Sys2Proof/Machine/Dispatch.lean ====
section
/-! DEFINITION. The effect of each command on everything but the queue of waiting commands. -/

namespace Sys2Proof.Machine

def exec (i : Instr) (s : State) : Host.Outcome State Fault Refusal :=
  match i with
  | .status => Sys2Proof.Machine.execStatus s
  | .configGate gate kind lane boundary sector offset => Sys2Proof.Machine.execConfigGate gate kind lane boundary sector offset s
  | .configCall cls kind hold deadline conversion level duration laps => Sys2Proof.Machine.execConfigCall cls kind hold deadline conversion level duration laps s
  | .configRace words => Sys2Proof.Machine.execConfigRace words s
  | .power value => Sys2Proof.Machine.execPower value s
  | .selfTest => Sys2Proof.Machine.execSelfTest s
  | .enter code station => Sys2Proof.Machine.execEnter code station s
  | .lookup code => Sys2Proof.Machine.execLookup code s
  | .lookupSlot slot => Sys2Proof.Machine.execLookupSlot slot s
  | .amend code items delta override station => Sys2Proof.Machine.execAmend code items delta override station s
  | .retire code => Sys2Proof.Machine.execRetire code s
  | .exclude code => Sys2Proof.Machine.execExclude code s
  | .call code kind hold deadline conversion level duration laps => Sys2Proof.Machine.execCall code kind hold deadline conversion level duration laps s
  | .waive code which => Sys2Proof.Machine.execWaive code which s
  | .readPasses n => Sys2Proof.Machine.execReadPasses n s
  | .assign tag code => Sys2Proof.Machine.execAssign tag code s
  | .discard tag => Sys2Proof.Machine.execDiscard tag s
  | .standings first count => Sys2Proof.Machine.execStandings first count s
  | .stage => Sys2Proof.Machine.execStage s
  | .start delay => Sys2Proof.Machine.execStart delay s
  | .yellow value => Sys2Proof.Machine.execYellow value s
  | .zone sector value => Sys2Proof.Machine.execZone sector value s
  | .suspend => Sys2Proof.Machine.execSuspend s
  | .resume yellow => Sys2Proof.Machine.execResume yellow s
  | .endRace => Sys2Proof.Machine.execEndRace s
  | .resetRace => Sys2Proof.Machine.execResetRace s
  | .resetPart => Sys2Proof.Machine.execResetPart s
  | .readAttention => Sys2Proof.Machine.execReadAttention s
  | .setMask mask => Sys2Proof.Machine.execSetMask mask s
  | .ackStations => Sys2Proof.Machine.execAckStations s
  | .readPenaltyActivity => Sys2Proof.Machine.execReadPenaltyActivity s
  | .commandFrame check => Sys2Proof.Machine.execCommandFrame check s
  | .rxGapTimeout => Sys2Proof.Machine.execRxGapTimeout s
  | .rxByteError => Sys2Proof.Machine.execRxByteError s
  | .responseStart => Sys2Proof.Machine.execResponseStart s
  | .responseEnd => Sys2Proof.Machine.execResponseEnd s
  | .resetPartReboot straps pins => Sys2Proof.Machine.execResetPartReboot straps pins s
  | .resetPin straps pins => Sys2Proof.Machine.execResetPin straps pins s
  | .powerUp straps pins => Sys2Proof.Machine.execPowerUp straps pins s
  | .beaconFrame feed endCell => Sys2Proof.Machine.execBeaconFrame feed endCell s
  | .gateBlind feed => Sys2Proof.Machine.execGateBlind feed s
  | .gateUnblind feed => Sys2Proof.Machine.execGateUnblind feed s
  | .burstGapExpiry gate => Sys2Proof.Machine.execBurstGapExpiry gate s
  | .burstDwellExpiry gate => Sys2Proof.Machine.execBurstDwellExpiry gate s
  | .claimWaitExpiry tag => Sys2Proof.Machine.execClaimWaitExpiry tag s
  | .selfTestEnd => Sys2Proof.Machine.execSelfTestEnd s
  | .sightingDeadlineExpiry slot => Sys2Proof.Machine.execSightingDeadlineExpiry slot s
  | .countdownStep => Sys2Proof.Machine.execCountdownStep s
  | .timeTargetReached => Sys2Proof.Machine.execTimeTargetReached s
  | .finishWindowExpiry => Sys2Proof.Machine.execFinishWindowExpiry s
  | .runningClockCap => Sys2Proof.Machine.execRunningClockCap s
  | .stationPress station => Sys2Proof.Machine.execStationPress station s
  | .stationRelease station => Sys2Proof.Machine.execStationRelease station s
  | .redPress => Sys2Proof.Machine.execRedPress s
  | .redRelease => Sys2Proof.Machine.execRedRelease s
  | .powerSenseLoss => Sys2Proof.Machine.execPowerSenseLoss s
  | .powerSenseRestore => Sys2Proof.Machine.execPowerSenseRestore s
  | .blindedSummaryEdge => Sys2Proof.Machine.execBlindedSummaryEdge s
  | .stopGoHoldExpiry slot => Sys2Proof.Machine.execStopGoHoldExpiry slot s
  | .powerHoldExpiry slot => Sys2Proof.Machine.execPowerHoldExpiry slot s
  | .ceilingFrameStart => Sys2Proof.Machine.execCeilingFrameStart s
  | .ceilingFrameEnd => Sys2Proof.Machine.execCeilingFrameEnd s
  | .ceilingRefresh => Sys2Proof.Machine.execCeilingRefresh s
  | .pauseByte => Sys2Proof.Machine.execPauseByte s
  | .resumingByte byte => Sys2Proof.Machine.execResumingByte byte s
  | .returnByteError => Sys2Proof.Machine.execReturnByteError s
  | .linkHoldExpiry => Sys2Proof.Machine.execLinkHoldExpiry s
  | .gateCell feed level => Sys2Proof.Machine.execGateCell feed level s
  | .commandByte byte => Sys2Proof.Machine.execCommandByte byte s

end Sys2Proof.Machine
end

