-- ==== Sys2Proof/Machine/Step.lean ====
section
/-! DEFINITION. One step of the part: the command at the front of the queue, or, when none waits, what the part does by
itself. -/

namespace Sys2Proof.Machine

/-- What the part does when no command waits: the first timed event that is due, else one tick of its clocks (R101,
R102). DESIGN CHOICE (log entry 1). -/
def State.idle (s : State) : Host.Outcome State Fault Refusal :=
  match s.dueEvents with
  | e :: _ => exec e s
  | [] => s.tick.done

/-- One step: the command at the front of the queue is taken with the queue's rest, or the part idles. -/
def step (s : State) : Host.Outcome State Fault Refusal :=
  match s.pending with
  | c :: rest => exec c { s with pending := rest }
  | [] => s.idle

/-- The state with the command a table word spells at the front of its queue; a word that spells none leaves it as it
is. The table gives no row any bits, so no word spells a command. -/
def State.withFetchWord (s : State) (nbits w : Nat) : State :=
  match decodeTableWord nbits w with
  | some c => { s with pending := c :: s.pending }
  | none => s

end Sys2Proof.Machine
end

