-- ==== Sys2Proof/WellFormed.lean ====
section
/-! DEFINITION. When a command is one the part can be given. The gate, slot and station numbers of the track events
are bounded by their types, and a request may carry any bytes (a bad value is answered, not ill-formed). What is left
is the return line: a resuming byte is any byte other than Pause (R164, R184). -/

namespace Sys2Proof

/-- The check of each command: RESUMING_BYTE carries no Pause byte (13 hexadecimal, R184). -/
def Instr.wellFormed : Instr → Bool
  | .resumingByte b => b != 0x13#8
  | .status | .configGate .. | .configCall .. | .configRace _ | .power _ | .selfTest | .enter .. | .lookup _
  | .lookupSlot _ | .amend .. | .retire _ | .exclude _ | .call .. | .waive .. | .readPasses _ | .assign .. | .discard _
  | .standings .. | .stage | .start _ | .yellow _ | .zone .. | .suspend | .resume _ | .endRace | .resetRace
  | .resetPart | .readAttention | .setMask _ | .ackStations | .readPenaltyActivity | .commandFrame _ | .rxGapTimeout
  | .rxByteError | .responseStart | .responseEnd | .resetPartReboot .. | .resetPin .. | .powerUp .. | .beaconFrame ..
  | .gateBlind _ | .gateUnblind _ | .burstGapExpiry _ | .burstDwellExpiry _ | .claimWaitExpiry _ | .selfTestEnd
  | .sightingDeadlineExpiry _ | .countdownStep | .timeTargetReached | .finishWindowExpiry | .runningClockCap
  | .stationPress _ | .stationRelease _ | .redPress | .redRelease | .powerSenseLoss | .powerSenseRestore
  | .blindedSummaryEdge | .stopGoHoldExpiry _ | .powerHoldExpiry _ | .ceilingFrameStart | .ceilingFrameEnd
  | .ceilingRefresh | .pauseByte | .returnByteError | .linkHoldExpiry | .gateCell .. | .commandByte _ => true

end Sys2Proof
end

