-- ==== Sys2Proof/Safety.lean ====
section
/-! DEFINITION. What holds of every safe run, as claims say it: the invariants of the blocks, each with the rule it comes
from, and the words in which a command's effect is stated (what a request's answer does to the link, what a recomputation
does to a record, how a record finishes). -/

namespace Sys2Proof.Machine

/-! ### The commands by kind -/

/-- The power-on resets (R183). -/
def powersOn : Instr → Bool
  | .powerUp .. | .resetPin .. | .resetPartReboot .. => true
  | _ => false

/-- The configuration requests the lock refuses (R104). -/
def configures : Instr → Bool
  | .configGate .. | .configCall .. | .configRace _ | .power _ | .selfTest => true
  | _ => false

/-- The body length the request catalogue gives for a code (section 11.5). -/
def catalogueLength (code : Byte) : Option Nat :=
  match code.toNat with
  | 0x01 | 0x06 | 0x40 | 0x44 | 0x46 | 0x4E | 0x4F | 0x60 | 0x62 | 0x63 => some 0
  | 0x05 | 0x11 | 0x12 | 0x14 | 0x15 | 0x28 | 0x2A | 0x42 | 0x45 => some 1
  | 0x10 | 0x21 | 0x29 | 0x30 | 0x41 | 0x43 | 0x61 => some 2
  | 0x13 => some 6
  | 0x02 => some 7
  | 0x03 | 0x20 => some 8
  | 0x04 => some 45
  | _ => none

/-- The changes of race state of the table of section 6.1, from one state to another. -/
def raceMove : RaceState → RaceState → Bool
  | _, .setup => true
  | .setup, .staging | .staging, .countdown => true
  | .countdown, .running | .countdown, .staging => true
  | .running, .suspended | .finishing, .suspended => true
  | .suspended, .running | .suspended, .finishing => true
  | .running, .finishing => true
  | .running, .complete | .finishing, .complete | .suspended, .complete => true
  | _, _ => false

/-! ### How effects are said -/

/-- The value of bytes, most significant first (R176). -/
def bytesValue (l : List Byte) : Nat := l.foldl (fun n b => 256 * n + b.toNat) 0

/-- The bytes of a body from an offset on. -/
def bodyAt (l : List Byte) (offset n : Nat) : List Byte := (l.drop offset).take n

/-- The sum of bytes modulo 256 (R178). -/
def bytesSum (l : List Byte) : Byte := l.foldl (· + ·) 0

/-- The command link after a request: its answer is prepared from now (R179). -/
def State.replied (s : State) (a : Answer) : CommandLink := { s.link with tx := .waiting a s.race.raceClock }

/-- The state once a frame has come to its end: the receiver is in Hunt, its last byte having come now (R178). -/
def State.frameEnded (s : State) : State :=
  { s with link := { s.link with rx := .hunt, lastByte := s.race.raceClock } }

/-- The record once the Ceiling Unit has recomputed it in the state `t`; a Vacant record is not recomputed (R159). -/
def Entrant.recomputedIn (t : State) (e : Entrant) : Entrant :=
  { e with effective := if e.state = .vacant then e.effective else t.effectiveFor e }

/-- The dirty classes of `t` are those R160 makes of `s`'s by one recomputation of each entrant. -/
abbrev State.markedFrom (t s : State) : Prop :=
  ∀ i : Slot, t.dirtyOf i = DirtyClass.mark (s.entrant i).effective (t.entrant i).effective (s.dirtyOf i)

/-- A finished record (R53, R154, R65), its effective ceiling apart. -/
def Entrant.finishedAs (e : Entrant) (st : FinishStatus) (time : RunTime) : Entrant :=
  { e with
    state := .finished, finishStatus := some st, finishTime := some time
    deadline := none, overdue := false
    laps := e.laps - (e.penalties.map (·.conversion)).sum
    penalties := [], holdTimer := none, powerHold := none
    activity := e.activity || !(e.penalties.isEmpty && e.powerHold.isNone) }

/-- A record released and cleared of its penalties, as RETIRE and EXCLUDE leave it (R50, R51, R155), its effective
ceiling apart. -/
def Entrant.withdrawnAs (e : Entrant) (st : EntrantState) : Entrant :=
  { e with
    state := st, deadline := none, overdue := false, jumpStart := false
    penalties := [], holdTimer := none, powerHold := none }

/-- The race `t` is `s` suspended for a reason, to go back to `back` (R109); its link and inputs apart. -/
abbrev State.suspendedFrom (t s : State) (back : ResumeTo) (why : Reason) : Prop :=
  t = { s with
        race := { s.race with state := .suspended, resume := some back, suspStart := some s.race.raceClock }
        entrants := t.entrants
        ceiling := { s.ceiling with dirty := t.ceiling.dirty, holdStart := none }
        attention := { s.attention with suspended := some why, race := true }
        inputs := t.inputs, link := t.link, pins := t.pinsNow }
    ∧ (∀ i : Slot, t.entrant i = { s.entrant i with
        effective := if (s.entrant i).state = .vacant then (s.entrant i).effective else 0 })
    ∧ t.markedFrom s
    ∧ t.pins.masterPower = false ∧ t.pins.green = false
    ∧ t.pins.red1 = true ∧ t.pins.red2 = true ∧ t.pins.red3 = true ∧ t.pins.red4 = true ∧ t.pins.red5 = true

/-- The race `t` is `s` with its start aborted for a reason (R110); its link and inputs apart. -/
abbrev State.abortedFrom (t s : State) (why : Reason) : Prop :=
  t = { s with
        race := { s.race with state := .staging, countdown := none }
        entrants := t.entrants
        ceiling := { s.ceiling with dirty := t.ceiling.dirty, holdStart := none }
        attention := { s.attention with suspended := some why, race := true }
        inputs := t.inputs, link := t.link, pins := t.pinsNow }
    ∧ (∀ i : Slot, t.entrant i = ({ s.entrant i with jumpStart := false }).recomputedIn t)
    ∧ t.markedFrom s
    ∧ t.pins.masterPower = true
    ∧ t.pins.red1 = false ∧ t.pins.red2 = false ∧ t.pins.red3 = false ∧ t.pins.red4 = false ∧ t.pins.red5 = false

/-- The command is refused with a status, and changes nothing but the answer it prepares (R179, R180). -/
abbrev State.refuses (s : State) (c : Instr) (st : Status) : Prop :=
  ∃ t, exec c s = .next t ∧ t = { s with link := s.replied (Answer.refuse st), pins := t.pinsNow }

/-- The command changes nothing: the outputs alone are brought to what the state gives. -/
abbrev State.unmovedBy (s : State) (c : Instr) : Prop :=
  ∃ t, exec c s = .next t ∧ t = { s with pins := t.pinsNow }

/-- The race `t` is `s` ended, with every Racing entrant finished Unflagged at a running time (R53, R119, R120); its link
apart. -/
abbrev State.endedFrom (t s : State) (time : RunTime) : Prop :=
  t = { s with
        race := { s.race with
          state := .complete, finishDeadline := none, resume := none, suspStart := none, caution := t.race.caution }
        entrants := t.entrants, standings := t.standings
        ceiling := { s.ceiling with dirty := t.ceiling.dirty, holdStart := none }
        attention := { s.attention with race := true }
        link := t.link, pins := t.pinsNow }
    ∧ (∀ i : Slot, t.entrant i =
        (if (s.entrant i).state = .racing then (s.entrant i).finishedAs .unflagged time else s.entrant i).recomputedIn t)
    ∧ (∀ k : Fin 4, t.race.caution[k] = { s.race.caution[k] with
        holders := s.race.caution[k].holders.filter fun i =>
          !((s.entrant i).state == .racing && (s.entrant i).overdue) })
    ∧ t.pins.masterPower = true ∧ t.pins.green = false ∧ t.pins.red1 = false

/-- Every block stands as after a power-on reset (R2, R9, R22, R38, R66, R81, R98, R124, R128, R166, R167, R168, R175,
R178). -/
abbrev State.poweredOn (t : State) : Prop :=
  t.cfg = defaultConfig ∧ t.callTable = defaultCallTable
    ∧ t.race.state = .setup ∧ t.race.raceClock = 0 ∧ t.race.runningClock = 0 ∧ t.race.green = none
    ∧ t.race.suspTotal = 0 ∧ t.race.resume = none ∧ t.race.suspStart = none ∧ t.race.finishDeadline = none
    ∧ t.race.countdown = none ∧ t.race.yellow = false ∧ t.race.powerSetting = false
    ∧ (∀ k : Fin 4, t.race.caution[k].hostFlag = false ∧ t.race.caution[k].holders = [])
    ∧ (∀ g : GateNo, (t.gate g).entry.kind = .unused ∧ (t.gate g).entry.lane = none ∧ (t.gate g).entry.boundary = none
        ∧ (t.gate g).entry.sector = none ∧ (t.gate g).entry.offset = none)
    ∧ (∀ g : GateNo, (t.gate g).decoder.state = .hunt ∧ (t.gate g).decoder.run = none ∧ (t.gate g).decoder.frame = []
        ∧ (t.gate g).decoder.burst = none ∧ (t.gate g).decoder.waiting = true ∧ (t.gate g).fed = none)
    ∧ t.testStart = none
    ∧ t.resolver.queue = [] ∧ t.resolver.nextTag = 0 ∧ t.resolver.waitLatch = false ∧ t.resolver.overrun = false
    ∧ (∀ i : Slot, t.entrant i = Entrant.vacant) ∧ t.standings = []
    ∧ (∀ k : Fin 16, t.ring[k] = none) ∧ t.highMark = 0
    ∧ (∀ i : Slot, t.dirtyOf i = .clean) ∧ t.ceiling.sender = none ∧ t.ceiling.paused = false
    ∧ t.ceiling.holdStart = none ∧ t.ceiling.nextRefresh = 2500
    ∧ t.inputs.latch = .free ∧ t.inputs.snapshot = t.inputs.live ∧ t.inputs.live.gateBlind = false
    ∧ (∀ n : StationNo, t.inputs.pressedSince[n] = none) ∧ t.inputs.redSince = none ∧ t.inputs.powerSince = none
    ∧ t.inputs.blindSince = none
    ∧ t.attention.suspended = none ∧ t.attention.race = false ∧ t.attention.test = false ∧ t.attention.mask = 0
    ∧ t.link.rx = .hunt ∧ t.link.tx = .idle
    ∧ t.pins.masterPower = false ∧ t.pins.atn = false ∧ t.pins.driverEnable = false
    ∧ t.pins.red1 = false ∧ t.pins.red2 = false ∧ t.pins.red3 = false ∧ t.pins.red4 = false ∧ t.pins.red5 = false
    ∧ t.pins.green = false ∧ t.pins.yellow = false

/-- What a LOOKUP answers for a slot: the fixed places of the record body (section 11.6). -/
abbrev State.recordAnswer (s : State) (i : Slot) (b : List Byte) : Prop :=
  b.length = 168
    ∧ bodyAt b 0 6 = [byteOf i.val, optByte (s.entrant i).code, byteOf (s.entrant i).state.number,
        optByte ((s.entrant i).station.map (·.val)), optByte (s.entrant i).lane, byteOf (s.entrant i).pitStatus.number]
    ∧ bodyAt b 6 2 = [(s.entrant i).flagsByte, byteOf (s.entrant i).pitStops]
    ∧ bodyAt b 8 4 = word16 (s.entrant i).laps ++ word16 (s.entrant i).lapsDown
    ∧ bodyAt b 12 4 = [byteOf (s.entrant i).sector, byteOf (s.entrant i).callsUsed, optByte (s.entrant i).override,
        byteOf (s.entrant i).effective]
    ∧ bodyAt b 16 2 = [byteOf (finishNumber (s.entrant i).finishStatus), (s.entrant i).lastLapMarks.byte]
    ∧ bodyAt b 18 2 = optWord16 ((s.entrant i).bestLap.map (·.lap))
    ∧ bodyAt b 20 8 = optWord32 (s.entrant i).pitEntry ++ optWord32 (s.entrant i).boxArrival
    ∧ bodyAt b 28 12 = optWord32 (s.entrant i).latestCrossing ++ optWord32 (s.entrant i).prevCrossing
        ++ optWord32 (s.entrant i).reachTime
    ∧ bodyAt b 40 12 = optWord32 (s.entrant i).lastLap ++ optWord32 ((s.entrant i).bestLap.map (·.ticks))
        ++ optWord32 (s.entrant i).lastBoundary
    ∧ bodyAt b 52 16 = optWord32 (s.entrant i).gap ++ optWord32 (s.entrant i).latestPass
        ++ optWord32 (s.entrant i).deadline ++ optWord32 (s.entrant i).finishTime
    ∧ bodyAt b 68 17 = sectorBytes (s.entrant i).currentSectors ∧ bodyAt b 85 17 = sectorBytes (s.entrant i).lastSectors
    ∧ bodyAt b 102 1 = [byteOf (s.entrant i).penalties.length]
    ∧ (∀ k : Fin 4, bodyAt b (103 + 14 * k.val) 14 = penaltyBytes (s.entrant i).penalties[k.val]?)
    ∧ bodyAt b 159 4 = optWord32 ((s.entrant i).holdTimer.map (· - s.race.runningClock))
    ∧ bodyAt b 163 1 = [optByte ((s.entrant i).powerHold.map (·.level))]
    ∧ bodyAt b 164 4 = optWord32 ((s.entrant i).powerHold.map (·.expiry - s.race.runningClock))

/-! ### Invariants -/

/-- The two clocks agree (R102): the running clock stands at 0 before green, follows the race clock, G and S while the
race runs, stands at the value of the suspension's start, and never passes its cap. -/
abbrev State.clocksAgree (s : State) : Prop :=
  s.race.runningClock ≤ runningCap
    ∧ (s.race.state.afterGreen = false → s.race.runningClock = 0 ∧ s.race.green = none)
    ∧ (s.race.state.clockRuns = true →
        (s.race.green.map fun g => s.race.raceClock - g - s.race.suspTotal)
          = some (BitVec.ofNat 32 s.race.runningClock))
    ∧ (s.race.state = .suspended →
        (s.race.green.bind fun g => s.race.suspStart.map fun b => b - g - s.race.suspTotal)
          = some (BitVec.ofNat 32 s.race.runningClock))

/-- An entrant whose slot stands in the Standing Order (R90). -/
def EntrantState.stands : EntrantState → Bool
  | .staged | .racing | .finished | .retired => true
  | .vacant | .excluded => false

/-- The Standing Order (R90, R91, R92): the slots that stand, each once; the keys in order; the stored key the present
one; no Staged entrant with a reach time. -/
abbrev State.standingsKept (s : State) : Prop :=
  (s.standings.map (·.slot)).Nodup
    ∧ (∀ i : Slot, i ∈ s.standings.map (·.slot) ↔ (s.entrant i).state.stands = true)
    ∧ s.standings.Pairwise (fun a b => a.key.aheadOrEqual b.key = true)
    ∧ (∀ x ∈ s.standings, x.key = (s.entrant x.slot).key)
    ∧ (∀ i : Slot, (s.entrant i).state = .staged → (s.entrant i).reachTime = none)

/-- The Unclaimed Pass Queue holds at most 16 entries with distinct tags (R31, R32). -/
abbrev State.queueKept (s : State) : Prop :=
  s.resolver.queue.length ≤ 16 ∧ (s.resolver.queue.map (·.tag)).Nodup

/-- A pit-penalty queue (R140, R142): at most four entries, of which exactly the head is not Pending; laps remaining
absent just while Pending; the hold timer present just while the head is a Serving StopGo. -/
abbrev Entrant.pitQueueKept (e : Entrant) : Prop :=
  e.penalties.length ≤ 4
    ∧ (∀ p ∈ e.penalties.take 1, p.state ≠ .pending)
    ∧ (∀ p ∈ e.penalties.drop 1, p.state = .pending)
    ∧ (∀ p ∈ e.penalties, p.remaining = none ↔ p.state = .pending)
    ∧ (e.holdTimer.isSome = e.servingStopGo)

/-- Every entrant's pit-penalty queue is as `Entrant.pitQueueKept` says. -/
abbrev State.pitQueuesKept (s : State) : Prop := ∀ i : Slot, (s.entrant i).pitQueueKept

/-- The codes and stations of entrants (R44): each entrant has a code from 1 to 62, and no two share a code or a
station. -/
abbrev State.identitiesKept (s : State) : Prop :=
  ∀ i : Slot, (s.entrant i).state ≠ .vacant →
    (s.entrant i).code.any (inRange 1 62) = true
      ∧ ∀ j : Slot, (s.entrant j).state ≠ .vacant → i ≠ j →
        (s.entrant i).code ≠ (s.entrant j).code
          ∧ ((s.entrant i).station = none ∨ (s.entrant i).station ≠ (s.entrant j).station)

/-- The ceilings (R43, R158, R159, R160): a Vacant record holds the Vacant values and is not marked; an entrant's effective
ceiling is the one R158 gives. -/
abbrev State.ceilingsKept (s : State) : Prop :=
  ∀ i : Slot,
    if (s.entrant i).state = .vacant then s.entrant i = Entrant.vacant ∧ s.dirtyOf i = .clean
    else (s.entrant i).effective = s.effectiveFor (s.entrant i)

/-- The holders of the four sectors, one list after the other. -/
def State.allHolders (s : State) : List Slot := s.race.caution.toList.flatMap (·.holders)

/-- The holders of local caution (R114): a slot stands in at most one list, at most once, and only while its entrant is
Overdue; an Overdue entrant is Racing and has no deadline (R64, R65). -/
abbrev State.holdersKept (s : State) : Prop :=
  s.allHolders.Nodup
    ∧ (∀ i ∈ s.allHolders, (s.entrant i).overdue = true)
    ∧ (∀ i : Slot, (s.entrant i).overdue = true → (s.entrant i).state = .racing ∧ (s.entrant i).deadline = none)

/-- An entrant is Racing only in a race that is Running, Suspended or Finishing: it becomes Racing at green, and none is
Racing when the race is Complete or reset (R52, R66, R119, R157). -/
abbrev State.racingKept (s : State) : Prop :=
  ∀ i : Slot, (s.entrant i).state = .racing → s.race.state ∈ [RaceState.running, .suspended, .finishing]

/-- The latch and the hold start (R168, R165): a Free latch's snapshot is the live inputs; the hold start is a raw time
just while the link is paused in Countdown, Running or Finishing. -/
abbrev State.latchesKept (s : State) : Prop :=
  (s.inputs.latch = .free → s.inputs.snapshot = s.inputs.live)
    ∧ (s.ceiling.holdStart.isSome = (s.ceiling.paused && s.race.state.heldCounts))

end Sys2Proof.Machine
end

