-- ==== Sys2Proof/Certificates/Slice0/Obligations.lean ====
section
/-! DEFINITION. The statements for the provers: what each command does, by the numbered rules of the spec, what holds of
every step, and how the part's frames are read and written. A statement about a next state gives the whole state where it
can, so that its frame stands in it; the output pins are then what `State.pinsNow` gives (OutputsFollowState says what
that is). A statement about a request holds whatever the command link is doing: where a response is prepared or being
sent, that the request is carried out all the same and its answer takes that one's place is the model's choice, log entry
4. That an event whose condition does not hold changes nothing is log entry 3. -/

section ObligationStatements
open Sys2Proof Sys2Proof.Machine

/-- O1. A step carries out the command at the front of the queue (00_scope How the blocks work together, 11 section
11.3). -/
def Obligations.StepTakesFrontCommand : Prop :=
    ∀ (c : Instr) (rest : List Instr) (s : State),
    s.pending = c :: rest →
    step s = exec c { s with pending := rest }

/-- O2. With no command waiting a step is the first due event, else one tick (06 R101, 06 R102). -/
def Obligations.IdleStepIsTickOrDueEvent : Prop :=
  (∀ (s : State),
    s.pending = [] →
    s.dueEvents = [] →
    ∃ t, step s = .next t
    ∧ t = { s with
        race := { s.race with
          raceClock := s.race.raceClock + 1
          runningClock :=
            if (s.race.state = .running ∨ s.race.state = .finishing) ∧ s.race.runningClock < 3600000000
            then s.race.runningClock + 1 else s.race.runningClock }
        pins := t.pinsNow })
  ∧ (∀ (e : Instr) (l : List Instr) (s : State),
    s.pending = [] →
    s.dueEvents = e :: l →
    step s = exec e s)

/-- O3. Every command completes, keeps the queue, and leaves the race clock (06 R101, 11 R179, 11 R180). That the
queue is kept is the model's choice, log entry 9. -/
def Obligations.CommandsCompleteAndKeepQueue : Prop :=
    ∀ (c : Instr) (s : State),
    ∃ t, exec c s = .next t
    ∧ t.pending = s.pending
    ∧ (powersOn c = false → t.race.raceClock = s.race.raceClock)

/-- O4. Outside Setup no command but a power-on reset changes the configuration (06 R104). -/
def Obligations.ConfigurationLockedOutsideSetup : Prop :=
  (∀ (c : Instr) (s : State),
    s.race.state ≠ .setup →
    powersOn c = false →
    ∃ t, exec c s = .next t
    ∧ t.cfg = s.cfg ∧ t.callTable = s.callTable
    ∧ (∀ g : GateNo, (t.gate g).entry = (s.gate g).entry)
    ∧ t.race.powerSetting = s.race.powerSetting
    ∧ (s.testStart = none → t.testStart = none))
  ∧ (∀ (c : Instr) (s : State),
    s.race.state ≠ .setup →
    configures c = true →
    s.refuses c .wrongState)

/-- O5. The race state changes only as the table of section 6.1 has it, and raises RACE (06 section 6.1, 06 R109, 06
R119, 06 R120, 10 R171). -/
def Obligations.RaceStateMovesByTable : Prop :=
    ∀ (c : Instr) (s : State),
    powersOn c = false →
    ∃ t, exec c s = .next t
    ∧ (t.race.state ≠ s.race.state →
        raceMove s.race.state t.race.state = true ∧ t.attention.race = true)

/-- O6. Every request is answered, and a refused one changes nothing (11 R179, 11 R180). Where a response is prepared
or being sent, that the answer takes its place is the model's choice, log entry 4. -/
def Obligations.RefusedRequestsChangeNothing : Prop :=
    ∀ (c : Instr) (s : State),
    (requestBytes c).isSome = true →
    ∃ t, exec c s = .next t
    ∧ ∃ a, t.link.tx = .waiting a s.race.raceClock
    ∧ t.link = s.replied a
    ∧ (a.status ≠ .ok → a.body = [] ∧ t = { s with link := s.replied a, pins := t.pinsNow })

/-- O7. After every step the lamps, master power, ATN and the line driver are as the rules give them (06 R122, 06
R123, 10 R172, 11 R176). -/
def Obligations.OutputsFollowState : Prop :=
    ∀ (s : State),
    ∃ t, step s = .next t
    ∧ [t.pins.red1, t.pins.red2, t.pins.red3, t.pins.red4, t.pins.red5]
        = (match t.race.state, t.race.countdown with
          | .suspended, _ => [true, true, true, true, true]
          | .countdown, some c => (List.range 5).map fun k => decide (k < c.reds)
          | _, _ => [false, false, false, false, false])
    ∧ (t.pins.green = true ↔ t.race.state = .running ∨ t.race.state = .finishing)
    ∧ (t.pins.yellow = true ↔
        t.race.yellow = true ∨ ∃ k : Fin 4, t.race.caution[k].hostFlag = true ∨ t.race.caution[k].holders ≠ [])
    ∧ t.pins.masterPower = (if t.race.state = .setup then t.race.powerSetting else t.race.state != .suspended)
    ∧ (t.pins.atn = true ↔ ∃ c ∈ allCauses, t.raised c = true ∧ t.attention.mask.getLsbD (c.priority - 1) = true)
    ∧ t.pins.driverEnable = (match t.link.tx with
        | .sending _ _ => true
        | .idle | .waiting _ _ | .rebooting => false)

/-- O8. The running clock agrees with the race clock, G and S through every step (06 R102, 06 R108, 06 R111, 06 R112,
06 R120). -/
def Obligations.ClocksAgreeKept : Prop :=
    ∀ (s : State),
    s.clocksAgree →
    ∃ t, step s = .next t ∧ t.clocksAgree

/-- O9. The Standing Order holds the right slots in the order of their keys through every step (05 R90, 05 R91, 05
R92, 05 R93, 05 R95, 05 R96, 05 R98). -/
def Obligations.StandingOrderKept : Prop :=
    ∀ (s : State),
    s.standingsKept →
    ∃ t, step s = .next t ∧ t.standingsKept

/-- O10. The queue holds at most 16 passes with distinct tags through every step (02 R31, 02 R32, 02 R33). -/
def Obligations.UnclaimedQueueKept : Prop :=
    ∀ (s : State),
    s.queueKept →
    ∃ t, step s = .next t ∧ t.queueKept

/-- O11. Every pit-penalty queue keeps its form through every step (08 R140, 08 R142). -/
def Obligations.PitPenaltyQueuesKept : Prop :=
    ∀ (s : State),
    s.pitQueuesKept →
    ∃ t, step s = .next t ∧ t.pitQueuesKept

/-- O12. No two entrants share a code or a station, through every step (03 R44, 03 R45, 03 R47). -/
def Obligations.CodesAndStationsKept : Prop :=
    ∀ (s : State),
    s.identitiesKept →
    ∃ t, step s = .next t ∧ t.identitiesKept

/-- O13. Every entrant's effective ceiling is the one its limits give, through every step (09 R158, 09 R159, 09 R160,
03 R43). -/
def Obligations.CeilingsKept : Prop :=
    ∀ (s : State),
    s.ceilingsKept →
    s.pitQueuesKept →
    ∃ t, step s = .next t ∧ t.ceilingsKept

/-- O14. The holders of local caution are distinct Overdue entrants of a race under way, through every step (06 R114,
03 R64, 03 R65, 03 R52, 09 R157). -/
def Obligations.CautionHoldersKept : Prop :=
    ∀ (s : State),
    s.holdersKept →
    s.racingKept →
    ∃ t, step s = .next t ∧ t.holdersKept ∧ t.racingKept

/-- O15. The latch and the hold start keep their meaning through every step (10 R168, 09 R165). -/
def Obligations.LatchAndHoldStartKept : Prop :=
    ∀ (s : State),
    s.latchesKept →
    ∃ t, step s = .next t ∧ t.latchesKept

/-- O16. No command lowers an entrant's ceiling without marking it Lowered (09 R159, 09 R160). -/
def Obligations.FallingCeilingsAreMarkedLowered : Prop :=
    ∀ (c : Instr) (s : State),
    powersOn c = false →
    c ≠ .resetRace →
    (∀ b : Byte, c ≠ .commandFrame b) →
    ∃ t, exec c s = .next t
    ∧ ∀ i : Slot, (s.entrant i).state ≠ .vacant → (t.entrant i).state ≠ .vacant →
        ((t.entrant i).effective < (s.entrant i).effective → t.dirtyOf i = .lowered)
        ∧ ((s.entrant i).effective < (t.entrant i).effective → t.dirtyOf i ≠ .clean)

/-- O17. The state after reset meets every invariant (03 R66, 02 R38, 05 R98, 06 R124, 09 R166, 10 R168). -/
def Obligations.InvariantsHoldAtReset : Prop :=
    State.reset.clocksAgree ∧ State.reset.standingsKept ∧ State.reset.queueKept ∧ State.reset.pitQueuesKept
    ∧ State.reset.identitiesKept ∧ State.reset.ceilingsKept ∧ State.reset.holdersKept ∧ State.reset.racingKept
    ∧ State.reset.latchesKept

/-- O18. POWER_UP, RESET_PIN and RESET_PART_REBOOT leave every block at its reset values (01 R2, 01 R9, 01 R22, 02
R38, 03 R66, 05 R98, 06 R124, 09 R166, 10 R168, 10 R175, 11 R177, 11 R183). That the queue is kept is the model's
choice, log entry 9. -/
def Obligations.PowerOnResetsEveryBlock : Prop :=
  (∀ (s : State) (straps : BitVec 5) (pins : PinLevels),
    ∃ t, exec (.powerUp straps pins) s = .next t
    ∧ t.poweredOn ∧ t.link.address = straps ∧ t.inputs.live = InputLevels.shown pins
    ∧ (∀ g : GateNo, (t.gate g).line = pins.lines[g]) ∧ t.pending = s.pending
    ∧ ∀ g : GateNo, (t.gate g).result = .noTest)
  ∧ (∀ (s : State) (straps : BitVec 5) (pins : PinLevels),
    ∃ t, exec (.resetPin straps pins) s = .next t
    ∧ t.poweredOn ∧ t.link.address = straps ∧ t.inputs.live = InputLevels.shown pins
    ∧ (∀ g : GateNo, (t.gate g).line = pins.lines[g]) ∧ t.pending = s.pending
    ∧ ∀ g : GateNo, (t.gate g).result =
        (match s.testStart, (s.gate g).result with
        | some _, .running => .aborted
        | some _, .skipped => .skipped
        | _, _ => .noTest))
  ∧ (∀ (s : State) (straps : BitVec 5) (pins : PinLevels),
    s.link.tx = .rebooting →
    ∃ t, exec (.resetPartReboot straps pins) s = .next t
    ∧ exec (.resetPin straps pins) s = .next t
    ∧ t.poweredOn ∧ t.link.address = straps ∧ t.inputs.live = InputLevels.shown pins
    ∧ (∀ g : GateNo, (t.gate g).line = pins.lines[g]) ∧ t.pending = s.pending)

/-- O19. COMMAND_BYTE moves the receiver through its states (11 R178). -/
def Obligations.CommandBytesAssembleFrames : Prop :=
    ∀ (b : Byte) (s : State),
    s.link.tx = .idle →
    s.link.rx.inCheck = false →
    ∃ t, exec (.commandByte b) s = .next t
    ∧ t = { s with link := { s.link with rx := t.link.rx, lastByte := s.race.raceClock }, pins := t.pinsNow }
    ∧ t.link.rx = (match s.link.rx with
        | .hunt => if b = 0x5A#8 then .address else .hunt
        | .address => .length b
        | .length addr => if addr.toNat < 128 ∧ 60 < b.toNat then .hunt else .code addr b
        | .code addr len => if len = 0#8 then .check addr len b [] else .body addr len b []
        | .body addr len req bytes =>
          if bytes.length + 1 < len.toNat then .body addr len req (bytes ++ [b]) else .check addr len req (bytes ++ [b])
        | .check _ _ _ _ => .hunt)

/-- O20. Gaps, bad bytes and responses on the command link (11 R176, 11 R178, 11 R179, 11 R183). -/
def Obligations.LinkTimersAndResponses : Prop :=
  (∀ (s : State),
    s.link.rx ≠ .hunt →
    20 < s.since s.link.lastByte →
    ∃ t, exec .rxGapTimeout s = .next t
    ∧ t = { s with link := { s.link with rx := .hunt }, pins := t.pinsNow })
  ∧ (∀ (s : State),
    s.link.tx = .idle →
    ∃ t, exec .rxByteError s = .next t
    ∧ t = { s with link := { s.link with rx := .hunt }, pins := t.pinsNow })
  ∧ (∀ (b : Byte) (s : State),
    s.link.tx ≠ .idle →
    s.unmovedBy (.commandByte b) ∧ s.unmovedBy (.commandFrame b) ∧ s.unmovedBy .rxByteError)
  ∧ (∀ (a : Answer) (r : RawTime) (s : State),
    s.link.tx = .waiting a r →
    1 ≤ s.since r →
    ∃ t, exec .responseStart s = .next t
    ∧ t = { s with link := { s.link with tx := .sending a s.race.raceClock }, pins := t.pinsNow }
    ∧ t.pins.driverEnable = true)
  ∧ (∀ (a : Answer) (r : RawTime) (s : State),
    s.link.tx = .sending a r →
    (a.frame s.link.address).length * 100000 / 115200 ≤ s.since r →
    ∃ t, exec .responseEnd s = .next t
    ∧ t = { s with link := { s.link with rx := .hunt, tx := if a.reboot then .rebooting else .idle }, pins := t.pinsNow }
    ∧ t.pins.driverEnable = false)

/-- O21. A good frame with a request's bytes is that request (11 section 11.5, 11 R177, 11 R178, 11 R179, 11 R181). -/
def Obligations.AddressedFrameIsItsRequest : Prop :=
    ∀ (c : Instr) (addr len code check : Byte) (body : List Byte) (s : State),
    requestBytes c = some (code, body) →
    s.link.tx = .idle →
    s.link.rx = .check addr len code body →
    addr.toNat = s.link.address.toNat →
    addr + len + code + bytesSum body + check = 0#8 →
    exec (.commandFrame check) s = exec c s.frameEnded
    ∧ ∃ t, exec (.commandFrame check) s = .next t

/-- O22. Bad frames, other parts' frames, broadcasts, unknown codes and wrong lengths (11 R177, 11 R178, 11 R179, 11
section 11.5). -/
def Obligations.FramesAreJudgedAndDispatched : Prop :=
  (∀ (addr len code check : Byte) (body : List Byte) (s : State),
    s.link.tx = .idle →
    s.link.rx = .check addr len code body →
    (addr + len + code + bytesSum body + check ≠ 0#8
      ∨ (addr.toNat ≠ s.link.address.toNat
          ∧ (addr ≠ 0x3F#8 ∨ code ∉ [0x42#8, 0x44#8, 0x46#8] ∨ catalogueLength code ≠ some body.length))) →
    ∃ t, exec (.commandFrame check) s = .next t ∧ t = { s.frameEnded with pins := t.pinsNow })
  ∧ (∀ (c : Instr) (len code check : Byte) (body : List Byte) (s : State),
    requestBytes c = some (code, body) →
    code ∈ [0x42#8, 0x44#8, 0x46#8] →
    s.link.tx = .idle →
    s.link.rx = .check 0x3F#8 len code body →
    0x3F#8 + len + code + bytesSum body + check = 0#8 →
    ∃ u, exec c s.frameEnded = .next u
    ∧ ∃ a, u.link.tx = .waiting a s.race.raceClock
    ∧ ∃ t, exec (.commandFrame check) s = .next t
    ∧ t = (if a.status = .ok then { u with link := s.frameEnded.link, pins := t.pinsNow }
        else { s.frameEnded with pins := t.pinsNow }))
  ∧ (∀ (addr len code check : Byte) (body : List Byte) (s : State),
    s.link.tx = .idle →
    s.link.rx = .check addr len code body →
    addr.toNat = s.link.address.toNat →
    addr + len + code + bytesSum body + check = 0#8 →
    catalogueLength code = none →
    ∃ t, exec (.commandFrame check) s = .next t
    ∧ t = { s.frameEnded with link := s.frameEnded.replied (Answer.refuse .unknownRequest), pins := t.pinsNow })
  ∧ (∀ (n : Nat) (addr len code check : Byte) (body : List Byte) (s : State),
    s.link.tx = .idle →
    s.link.rx = .check addr len code body →
    addr.toNat = s.link.address.toNat →
    addr + len + code + bytesSum body + check = 0#8 →
    catalogueLength code = some n →
    body.length ≠ n →
    ∃ t, exec (.commandFrame check) s = .next t
    ∧ t = { s.frameEnded with link := s.frameEnded.replied (Answer.refuse .badLength), pins := t.pinsNow })

/-- O23. The frames the part sends: responses and ceiling frames (11 section 11.6, 11 R180, 09 R162). -/
def Obligations.FramesSentSumToZero : Prop :=
  (∀ (a : Answer) (address : BitVec 5),
    (a.frame address).take 4
        = [0x5A#8, BitVec.ofNat 8 (address.toNat + 128), BitVec.ofNat 8 a.body.length, BitVec.ofNat 8 a.status.number]
    ∧ (a.frame address).length = a.body.length + 5
    ∧ bodyAt (a.frame address) 4 a.body.length = a.body
    ∧ bytesSum ((a.frame address).drop 1) = 0#8)
  ∧ (∀ (f : Sending),
    f.bytes.take 3 = [0xA6#8, BitVec.ofNat 8 f.code, BitVec.ofNat 8 f.ceiling]
    ∧ f.bytes.length = 4 ∧ bytesSum f.bytes = 0#8)

/-- O24. STATUS answers the 46-byte body and changes nothing (11 R182). -/
def Obligations.StatusAnswersBody : Prop :=
    ∀ (s : State),
    s.race.runningClock < 4294967296 →
    (∀ k : Fin 4, s.race.caution[k].holders.length ≤ 24) →
    ∃ t, exec .status s = .next t
    ∧ ∃ a, t.link.tx = .waiting a s.race.raceClock
    ∧ t = { s with link := s.replied a, pins := t.pinsNow }
    ∧ a.status = .ok ∧ a.reboot = false ∧ a.body.length = 46
    ∧ bodyAt a.body 0 2 = [byteOf s.race.state.number, flagByte s.race.yellow]
    ∧ bytesValue (bodyAt a.body 2 4) = s.race.runningClock
    ∧ bytesValue (bodyAt a.body 6 4) = s.race.raceClock.toNat
    ∧ (∀ k : Fin 4, (a.body.getD (10 + k.val) 0#8).getLsbD 7 = s.race.caution[k].hostFlag
        ∧ (a.body.getD (10 + k.val) 0#8).toNat % 32 = s.race.caution[k].holders.length)
    ∧ bodyAt a.body 14 2 = [byteOf s.resolver.queue.length, byteOf s.inputs.latch.number]
    ∧ bytesValue (bodyAt a.body 16 2) = s.inputs.snapshot.number
    ∧ (∀ g : GateNo, (a.body.getD (18 + g.val / 8) 0#8).getLsbD (g.val % 8) = ((s.gate g).decoder.state == .blind))
    ∧ a.body.getD 21 0#8 = flagByte s.testStart.isSome
    ∧ (∀ g : GateNo, a.body.getD (22 + g.val) 0#8 = byteOf (s.gate g).result.number)

/-- O25. LOOKUP and LOOKUP_SLOT answer the 168-byte record body and change nothing (03 R46, 11 section 11.6). The
unused places of a sector list are log entry 8, and the remaining time of a hold timer already past is log entry 18,
both the model's. -/
def Obligations.LookupsAnswerRecord : Prop :=
  (∀ (code : Byte) (i : Slot) (s : State),
    s.named code = some i →
    ∃ t, exec (.lookup code) s = .next t
    ∧ ∃ a, t.link.tx = .waiting a s.race.raceClock
    ∧ t = { s with link := s.replied a, pins := t.pinsNow }
    ∧ a.status = .ok ∧ a.reboot = false ∧ s.recordAnswer i a.body)
  ∧ (∀ (i : Slot) (s : State),
    ∃ t, exec (.lookupSlot (BitVec.ofNat 8 i.val)) s = .next t
    ∧ ∃ a, t.link.tx = .waiting a s.race.raceClock
    ∧ t = { s with link := s.replied a, pins := t.pinsNow }
    ∧ a.status = .ok ∧ a.reboot = false ∧ s.recordAnswer i a.body)
  ∧ (∀ (code : Byte) (s : State),
    (code.toNat = 0 ∨ 62 < code.toNat ∨ ∀ j : Slot, (s.entrant j).state = .vacant
        ∨ (s.entrant j).code ≠ some code.toNat) →
    s.refuses (.lookup code) .noEntrant)
  ∧ (∀ (slot : Byte) (s : State),
    23 < slot.toNat →
    s.refuses (.lookupSlot slot) .badValue)

/-- O26. STANDINGS answers the number in the list and a page of it, and changes nothing (05 R99, 05 R100, 11 section
11.6). -/
def Obligations.StandingsAnswersPage : Prop :=
  (∀ (first count : Byte) (s : State),
    1 ≤ first.toNat ∧ first.toNat ≤ 24 →
    1 ≤ count.toNat ∧ count.toNat ≤ 6 →
    ∃ t, exec (.standings first count) s = .next t
    ∧ ∃ a, t.link.tx = .waiting a s.race.raceClock
    ∧ t = { s with link := s.replied a, pins := t.pinsNow }
    ∧ a.status = .ok ∧ a.reboot = false
    ∧ a.body.length = 1 + 17 * min count.toNat (s.standings.length - (first.toNat - 1))
    ∧ a.body.getD 0 0#8 = byteOf s.standings.length
    ∧ ∀ k : Fin 6, k.val < count.toNat → ∀ x ∈ (s.standings[first.toNat - 1 + k.val]?).toList,
        bodyAt a.body (1 + 17 * k.val) 4 = [byteOf (first.toNat + k.val), byteOf x.slot.val,
          optByte (s.entrant x.slot).code, byteOf (s.entrant x.slot).state.number]
        ∧ bodyAt a.body (5 + 17 * k.val) 6 = word16 (s.entrant x.slot).laps ++ optWord32 (s.entrant x.slot).reachTime
        ∧ bodyAt a.body (11 + 17 * k.val) 6 = optWord32 (s.entrant x.slot).gap ++ word16 (s.entrant x.slot).lapsDown
        ∧ bodyAt a.body (17 + 17 * k.val) 1 = [byteOf (finishNumber (s.entrant x.slot).finishStatus
            + flagBit 2 (s.entrant x.slot).blackFlag + flagBit 3 (s.entrant x.slot).overdue)])
  ∧ (∀ (first count : Byte) (s : State),
    first.toNat < 1 ∨ 24 < first.toNat ∨ count.toNat < 1 ∨ 6 < count.toNat →
    s.refuses (.standings first count) .badValue)

/-- O27. CONFIG_GATE writes one gate table entry and starts its decoder afresh (01 R6, 01 R7, 01 R16, 01 R19, 11
R184). -/
def Obligations.ConfigGateWritesEntry : Prop :=
  (∀ (g : GateNo) (kind lane boundary sector : Byte) (offset : Word16) (k : GateKind) (e : GateEntry) (s : State),
    s.race.state = .setup →
    s.testStart = none →
    gateKindOf kind = some k →
    gateEntryOf k lane boundary sector offset = some e →
    ∃ t, exec (.configGate (BitVec.ofNat 8 g.val) kind lane boundary sector offset) s = .next t
    ∧ t.gates = s.gates.set g.val { s.gate g with
        entry := e, decoder := { state := .hunt, run := none, frame := [], burst := none, waiting := true } }
    ∧ t.link = s.replied .okay
    ∧ ((s.gate g).entry.kind ≠ .box ∨ (s.gate g).decoder.burst = none →
        t = { s with
          gates := t.gates, inputs := { s.inputs with blindSince := t.inputs.blindSince }
          link := s.replied .okay, pins := t.pinsNow }))
  ∧ (∀ (gate kind lane boundary sector : Byte) (offset : Word16) (s : State),
    s.race.state = .setup →
    s.testStart = none →
    23 < gate.toNat ∨ 6 < kind.toNat →
    s.refuses (.configGate gate kind lane boundary sector offset) .badValue)
  ∧ (∀ (gate kind lane boundary sector : Byte) (offset : Word16) (k : GateKind) (s : State),
    s.race.state = .setup →
    s.testStart = none →
    gateKindOf kind = some k →
    gateEntryOf k lane boundary sector offset = none →
    s.refuses (.configGate gate kind lane boundary sector offset) .badValue)
  ∧ (∀ (lane boundary sector : Byte) (offset : Word16),
    gateEntryOf .unused lane boundary sector offset
        = some { kind := .unused, lane := none, boundary := none, sector := none, offset := none }
    ∧ gateEntryOf .line lane boundary sector offset
        = (if 6 < lane.toNat then none
          else some { kind := .line, lane := some lane.toNat, boundary := none, sector := none, offset := some offset.toInt })
    ∧ gateEntryOf .split lane boundary sector offset
        = (if 5 < lane.toNat ∨ boundary.toNat = 0 ∨ 3 < boundary.toNat then none
          else some { kind := .split, lane := some lane.toNat, boundary := some boundary.toNat, sector := none
                      offset := some offset.toInt })
    ∧ gateEntryOf .switch lane boundary sector offset
        = (if 5 < lane.toNat ∨ 3 < sector.toNat then none
          else some { kind := .switch, lane := some lane.toNat, boundary := none, sector := some sector.toNat
                      offset := some offset.toInt })
    ∧ ∀ k ∈ [GateKind.pitIn, .box, .pitOut], gateEntryOf k lane boundary sector offset
        = (if lane.toNat = 6
          then some { kind := k, lane := some 6, boundary := none, sector := none, offset := some offset.toInt }
          else none))
  ∧ (∀ (g : GateNo) (kind lane boundary sector : Byte) (offset : Word16) (k : GateKind) (e : GateEntry) (b : Tally)
  (s : State),
    s.race.state = .setup →
    s.testStart = none →
    gateKindOf kind = some k →
    gateEntryOf k lane boundary sector offset = some e →
    (s.gate g).entry.kind = .box →
    (s.gate g).fed = none →
    (s.gate g).decoder.burst = some b →
    ∃ t, exec (.configGate (BitVec.ofNat 8 g.val) kind lane boundary sector offset) s = .next t
    ∧ t = { ((b.entries.filter fun e => e.arrived).foldl (fun u e => u.boxReport false g e.code b.last) s) with
        gates := t.gates, inputs := { s.inputs with blindSince := t.inputs.blindSince }
        link := s.replied .okay, pins := t.pinsNow })
  ∧ (∀ (gate kind lane boundary sector : Byte) (offset : Word16) (s : State),
    s.race.state = .setup →
    s.testStart.isSome = true →
    s.refuses (.configGate gate kind lane boundary sector offset) .wrongState)
  ∧ (∀ (b : Byte),
    [0#8, 1#8, 2#8, 3#8, 4#8, 5#8, 6#8].map gateKindOf
        = [some .unused, some .line, some .split, some .switch, some .pitIn, some .box, some .pitOut]
    ∧ (6 < b.toNat → gateKindOf b = none))

/-- O28. CONFIG_CALL writes one Call Table entry, POWER the POWER setting (07 R127, 07 R129, 06 R122, 11 R184). -/
def Obligations.ConfigCallAndPowerWrite : Prop :=
  (∀ (n : Fin 7) (kind hold deadline conversion level duration laps : Byte) (k : RulingKind) (r : Option Ruling)
      (s : State),
    s.race.state = .setup →
    rulingKindOf kind = some k →
    rulingOf k hold deadline conversion level duration laps = some r →
    ∃ t, exec (.configCall (BitVec.ofNat 8 n.val) kind hold deadline conversion level duration laps) s = .next t
    ∧ t = { s with callTable := s.callTable.set n.val r, link := s.replied .okay, pins := t.pinsNow })
  ∧ (∀ (cls kind hold deadline conversion level duration laps : Byte) (s : State),
    s.race.state = .setup →
    (6 < cls.toNat ∨ 5 < kind.toNat
      ∨ (∃ k ∈ (rulingKindOf kind).toList, rulingOf k hold deadline conversion level duration laps = none)) →
    s.refuses (.configCall cls kind hold deadline conversion level duration laps) .badValue)
  ∧ (∀ (h d v l t n : Byte),
    rulingOf .noRuling h d v l t n = some none
    ∧ rulingOf .blackFlag h d v l t n = some (some .blackFlag)
    ∧ rulingOf .driveThrough h d v l t n
        = (if 1 ≤ d.toNat ∧ d.toNat ≤ 15 ∧ v.toNat ≤ 9 then some (some (.driveThrough d.toNat v.toNat)) else none)
    ∧ rulingOf .stopGo h d v l t n
        = (if 1 ≤ h.toNat ∧ h.toNat ≤ 60 ∧ 1 ≤ d.toNat ∧ d.toNat ≤ 15 ∧ v.toNat ≤ 9
          then some (some (.stopGo h.toNat d.toNat v.toNat)) else none)
    ∧ rulingOf .powerHold h d v l t n
        = (if l.toNat ≤ 90 ∧ 1 ≤ t.toNat ∧ t.toNat ≤ 60 then some (some (.powerHold l.toNat t.toNat)) else none)
    ∧ rulingOf .lapDeduction h d v l t n
        = (if 1 ≤ n.toNat ∧ n.toNat ≤ 9 then some (some (.lapDeduction n.toNat)) else none))
  ∧ (∀ (on : Bool) (s : State),
    s.race.state = .setup →
    ∃ t, exec (.power (if on then 1#8 else 0#8)) s = .next t
    ∧ t = { s with race := { s.race with powerSetting := on }, link := s.replied .okay, pins := t.pinsNow }
    ∧ t.pins.masterPower = on)
  ∧ (∀ (value : Byte) (s : State),
    s.race.state = .setup →
    1 < value.toNat →
    s.refuses (.power value) .badValue)
  ∧ (∀ (b : Byte) (s : State),
    [0#8, 1#8, 2#8, 3#8, 4#8, 5#8].map rulingKindOf
        = [some .noRuling, some .driveThrough, some .stopGo, some .powerHold, some .lapDeduction, some .blackFlag]
    ∧ (5 < b.toNat → rulingKindOf b = none)
    ∧ [CallClass.jumpStart, .pitSpeeding, .switchUnderCaution, .laneFault, .callLimit, .missedDriveThrough, .missedStopGo,
          .manual].map s.rulingFor
        = [s.callTable[0], s.callTable[1], s.callTable[2], s.callTable[3], s.callTable[4], s.callTable[5], s.callTable[6],
          none])

/-- O29. CONFIG_RACE replaces the whole race configuration and recomputes every ceiling (09 R156, 09 R159, 10 R170,
11 R181, 11 R184). -/
def Obligations.ConfigRaceReplacesConfiguration : Prop :=
  (∀ (w : RaceWords) (c : RaceConfig) (s : State),
    s.race.state = .setup →
    configOf w = some c →
    ∃ t, exec (.configRace w) s = .next t
    ∧ t = { s with
        cfg := c, entrants := t.entrants, ceiling := { s.ceiling with dirty := t.ceiling.dirty }
        link := s.replied .okay, pins := t.pinsNow }
    ∧ (∀ i : Slot, t.entrant i = (s.entrant i).recomputedIn t)
    ∧ t.markedFrom s)
  ∧ (∀ (w : RaceWords) (s : State),
    s.race.state = .setup →
    configOf w = none →
    s.refuses (.configRace w) .badValue)
  ∧ (∀ (w : RaceWords) (c : RaceConfig),
    configOf w = some c →
    c.burstGap = w.burstGap.toNat ∧ c.dwellLimit = w.dwellLimit.toNat ∧ c.voteMinimum = w.voteMinimum.toNat
    ∧ c.triggerLevel = w.triggerLevel.toNat ∧ c.claimWait = w.claimWait.toNat ∧ c.lapFloor = w.lapFloor.toNat
    ∧ c.lapCeiling = w.lapCeiling.toNat ∧ c.sectorCount = w.sectorCount.toNat ∧ c.pitMinimum = w.pitMinimum.toNat
    ∧ c.sightingWindow = w.sightingWindow.toNat ∧ c.lightInterval = w.lightInterval.toNat
    ∧ c.lapTarget = w.lapTarget.toNat ∧ c.timeTarget = w.timeTarget.toNat ∧ c.finishWindow = w.finishWindow.toNat
    ∧ c.callLimit = w.callLimit.toNat ∧ c.refreshPeriod = w.refreshPeriod.toNat ∧ c.holdLimit = w.holdLimit.toNat
    ∧ c.autoLocalCaution = (w.autoLocalCaution == 1#8)
    ∧ c.callAction = (if w.callAction = 0#8 then .report else if w.callAction = 1#8 then .caution else .suspend)
    ∧ c.ceilings = {
        setup := min w.setupCeiling.toNat 100, staging := min w.stagingCeiling.toNat 100
        countdown := min w.countdownCeiling.toNat 100, running := min w.runningCeiling.toNat 100
        caution := min w.cautionCeiling.toNat 100, coolDown := min w.coolDownCeiling.toNat 100
        localCaution := min w.localCautionCeiling.toNat 100, pit := min w.pitCeiling.toNat 100 })
  ∧ (∀ (w : RaceWords),
    w.lapCeiling.toNat ≤ w.lapFloor.toNat ∨ w.sightingWindow = 1#8 ∨ 120 < w.sightingWindow.toNat
      ∨ 1 < w.autoLocalCaution.toNat ∨ 2 < w.callAction.toNat ∨ w.burstGap.toNat < 5 ∨ w.dwellLimit.toNat < 500
      ∨ 20000 < w.dwellLimit.toNat ∨ w.voteMinimum.toNat < 2 ∨ 15 < w.voteMinimum.toNat ∨ w.triggerLevel.toNat < 1
      ∨ 16 < w.triggerLevel.toNat ∨ w.claimWait.toNat < 1 ∨ 60 < w.claimWait.toNat ∨ w.lapFloor.toNat < 1000
      ∨ 600000 < w.lapFloor.toNat ∨ 16777215 < w.lapCeiling.toNat ∨ w.sectorCount.toNat < 1 ∨ 4 < w.sectorCount.toNat
      ∨ 600000 < w.pitMinimum.toNat ∨ w.lightInterval.toNat < 500 ∨ 2000 < w.lightInterval.toNat
      ∨ 9999 < w.lapTarget.toNat ∨ 359999 < w.timeTarget.toNat ∨ w.finishWindow.toNat < 10 ∨ 600 < w.finishWindow.toNat
      ∨ 15 < w.callLimit.toNat ∨ w.refreshPeriod.toNat < 100 ∨ 2000 < w.refreshPeriod.toNat
      ∨ w.holdLimit.toNat < 200 ∨ 10000 < w.holdLimit.toNat →
    configOf w = none)
  ∧ (∀ (w : RaceWords) (act : CallAction) (s : State),
    s.race.state = .setup →
    (w.callAction = 0#8 ∧ act = .report) ∨ (w.callAction = 1#8 ∧ act = .caution) ∨ (w.callAction = 2#8
        ∧ act = .suspend) →
    5 ≤ w.burstGap.toNat →
    500 ≤ w.dwellLimit.toNat ∧ w.dwellLimit.toNat ≤ 20000 →
    2 ≤ w.voteMinimum.toNat ∧ w.voteMinimum.toNat ≤ 15 →
    1 ≤ w.triggerLevel.toNat ∧ w.triggerLevel.toNat ≤ 16 →
    1 ≤ w.claimWait.toNat ∧ w.claimWait.toNat ≤ 60 →
    1000 ≤ w.lapFloor.toNat ∧ w.lapFloor.toNat ≤ 600000 →
    w.lapFloor.toNat < w.lapCeiling.toNat ∧ w.lapCeiling.toNat ≤ 16777215 →
    1 ≤ w.sectorCount.toNat ∧ w.sectorCount.toNat ≤ 4 →
    w.pitMinimum.toNat ≤ 600000 →
    w.sightingWindow.toNat = 0 ∨ (2 ≤ w.sightingWindow.toNat ∧ w.sightingWindow.toNat ≤ 120) →
    500 ≤ w.lightInterval.toNat ∧ w.lightInterval.toNat ≤ 2000 →
    w.lapTarget.toNat ≤ 9999 →
    w.timeTarget.toNat ≤ 359999 →
    10 ≤ w.finishWindow.toNat ∧ w.finishWindow.toNat ≤ 600 →
    w.callLimit.toNat ≤ 15 →
    100 ≤ w.refreshPeriod.toNat ∧ w.refreshPeriod.toNat ≤ 2000 →
    200 ≤ w.holdLimit.toNat ∧ w.holdLimit.toNat ≤ 10000 →
    w.autoLocalCaution.toNat ≤ 1 →
    ∃ t, exec (.configRace w) s = .next t
    ∧ t = { s with
        cfg := {
          burstGap := w.burstGap.toNat, dwellLimit := w.dwellLimit.toNat, voteMinimum := w.voteMinimum.toNat
          triggerLevel := w.triggerLevel.toNat, claimWait := w.claimWait.toNat, lapFloor := w.lapFloor.toNat
          lapCeiling := w.lapCeiling.toNat, sectorCount := w.sectorCount.toNat, pitMinimum := w.pitMinimum.toNat
          sightingWindow := w.sightingWindow.toNat, lightInterval := w.lightInterval.toNat
          lapTarget := w.lapTarget.toNat, timeTarget := w.timeTarget.toNat, finishWindow := w.finishWindow.toNat
          callLimit := w.callLimit.toNat, callAction := act
          ceilings := {
            setup := min w.setupCeiling.toNat 100, staging := min w.stagingCeiling.toNat 100
            countdown := min w.countdownCeiling.toNat 100, running := min w.runningCeiling.toNat 100
            caution := min w.cautionCeiling.toNat 100, coolDown := min w.coolDownCeiling.toNat 100
            localCaution := min w.localCautionCeiling.toNat 100, pit := min w.pitCeiling.toNat 100 }
          refreshPeriod := w.refreshPeriod.toNat, holdLimit := w.holdLimit.toNat
          autoLocalCaution := w.autoLocalCaution == 1#8 }
        entrants := t.entrants, ceiling := { s.ceiling with dirty := t.ceiling.dirty }
        link := s.replied .okay, pins := t.pinsNow }
    ∧ (∀ i : Slot, t.entrant i = (s.entrant i).recomputedIn t)
    ∧ t.markedFrom s)

/-- O30. SELF_TEST connects every used gate to the generator; SELF_TEST_END grades and reconnects (01 R16, 01 R19, 01
R20, 01 R21). That the Box gates' departures are taken in the order of the gates is the model's choice, log entry 15. -/
def Obligations.SelfTestStartsAndEnds : Prop :=
  (∀ (s : State),
    s.race.state = .setup →
    s.testStart = none →
    ∃ t, exec .selfTest s = .next t
    ∧ t.testStart = some s.race.raceClock ∧ t.link = s.replied .okay
    ∧ (∀ g : GateNo, t.gate g =
        if (s.gate g).entry.kind = .unused then { s.gate g with result := .skipped, counted := 0 }
        else { s.gate g with
          decoder := { state := .hunt, run := none, frame := [], burst := none, waiting := false }
          fed := some 0, result := .running, counted := 0 })
    ∧ ((∀ g : GateNo, (s.gate g).entry.kind = .box → (s.gate g).decoder.burst = none) →
        t = { s with
          gates := t.gates, testStart := t.testStart, inputs := { s.inputs with blindSince := t.inputs.blindSince }
          link := s.replied .okay, pins := t.pinsNow }))
  ∧ (∀ (s : State),
    s.testStart.isSome = true →
    s.refuses .selfTest .wrongState)
  ∧ (∀ (r : RawTime) (s : State),
    s.testStart = some r →
    500 ≤ s.since r →
    ∃ t, exec .selfTestEnd s = .next t
    ∧ t = { s with
        gates := t.gates, testStart := none, attention := { s.attention with test := true }
        inputs := { s.inputs with blindSince := t.inputs.blindSince }, pins := t.pinsNow }
    ∧ ∀ g : GateNo, t.gate g =
        if (s.gate g).fed = none then s.gate g
        else { s.gate g with
          decoder := { state := .hunt, run := none, frame := [], burst := none, waiting := true }
          fed := none, result := if (s.gate g).counted = 1 then .pass else .fail, counted := 0 })
  ∧ (∀ (s : State),
    s.race.state = .setup →
    s.testStart = none →
    (∀ g : GateNo, (s.gate g).fed = none) →
    ∃ t, exec .selfTest s = .next t
    ∧ t = { (allSlots.foldl (fun u g => (s.gate g).decoder.burst.toList.foldl (fun u b =>
          if (s.gate g).entry.kind = .box then
            (b.entries.filter fun e => e.arrived).foldl (fun u e => u.boxReport false g e.code b.last) u
          else u) u) s) with
        gates := t.gates, testStart := t.testStart, inputs := { s.inputs with blindSince := t.inputs.blindSince }
        link := s.replied .okay, pins := t.pinsNow })

/-- O31. ENTER fills the lowest Vacant slot and joins the Standing Order at the tail (03 R45, 05 R96, 09 R159). -/
def Obligations.EnterTakesLowestVacantSlot : Prop :=
  (∀ (code station : Byte) (i : Slot) (s : State),
    s.race.state = .setup ∨ s.race.state = .staging →
    1 ≤ code.toNat ∧ code.toNat ≤ 62 →
    (∀ j : Slot, (s.entrant j).state = .vacant ∨ (s.entrant j).code ≠ some code.toNat) →
    (station = 0xFF#8 ∨ (station.toNat < 6
        ∧ ∀ j : Slot, (s.entrant j).state = .vacant ∨ (s.entrant j).station.map (·.val) ≠ some station.toNat)) →
    (s.entrant i).state = .vacant →
    (∀ j : Slot, j < i → (s.entrant j).state ≠ .vacant) →
    ∃ t, exec (.enter code station) s = .next t
    ∧ t = { s with
        entrants := s.entrants.set i.val
          (({ Entrant.vacant with
            code := some code.toNat, state := .staged, station := stationOf station } : Entrant).recomputedIn t)
        standings := s.standings ++ [{ slot := i, key := { laps := 0, reach := none } }]
        ceiling := { s.ceiling with
          dirty := s.ceiling.dirty.set i.val (DirtyClass.mark 0 (t.entrant i).effective (s.dirtyOf i)) }
        link := s.replied (Answer.okWith [BitVec.ofNat 8 i.val]), pins := t.pinsNow })
  ∧ (∀ (code station : Byte) (s : State),
    s.race.state ≠ .setup →
    s.race.state ≠ .staging →
    s.refuses (.enter code station) .wrongState)
  ∧ (∀ (code station : Byte) (s : State),
    s.race.state = .setup ∨ s.race.state = .staging →
    code.toNat = 0 ∨ 62 < code.toNat ∨ (5 < station.toNat ∧ station ≠ 0xFF#8) →
    s.refuses (.enter code station) .badValue)
  ∧ (∀ (code station : Byte) (j : Slot) (s : State),
    s.race.state = .setup ∨ s.race.state = .staging →
    1 ≤ code.toNat ∧ code.toNat ≤ 62 →
    station.toNat < 6 ∨ station = 0xFF#8 →
    (s.entrant j).state ≠ .vacant →
    (s.entrant j).code = some code.toNat →
    s.refuses (.enter code station) .codeInUse)
  ∧ (∀ (code station : Byte) (j : Slot) (s : State),
    s.race.state = .setup ∨ s.race.state = .staging →
    1 ≤ code.toNat ∧ code.toNat ≤ 62 →
    station.toNat < 6 →
    (∀ j : Slot, (s.entrant j).state = .vacant ∨ (s.entrant j).code ≠ some code.toNat) →
    (s.entrant j).state ≠ .vacant →
    (s.entrant j).station.map (·.val) = some station.toNat →
    s.refuses (.enter code station) .stationInUse)
  ∧ (∀ (code : Byte) (s : State),
    s.race.state = .setup ∨ s.race.state = .staging →
    1 ≤ code.toNat ∧ code.toNat ≤ 62 →
    (∀ j : Slot, (s.entrant j).state ≠ .vacant ∧ (s.entrant j).code ≠ some code.toNat) →
    s.refuses (.enter code 0xFF#8) .tableFull)

/-- O32. AMEND applies the items whose bits are set, together (03 R47, 03 R48, 05 R93, 09 R159). -/
def Obligations.AmendAppliesItsItems : Prop :=
  (∀ (code items : Byte) (delta : Word16) (override station : Byte) (i : Slot) (s : State),
    s.named code = some i →
    (s.entrant i).state ≠ .excluded →
    (items.getLsbD 0 = true → -9999 ≤ delta.toInt ∧ delta.toInt ≤ 9999) →
    (items.getLsbD 2 = true → station = 0xFF#8 ∨ (station.toNat < 6 ∧ ∀ j : Slot,
        (s.entrant j).state = .vacant ∨ j = i ∨ (s.entrant j).station.map (·.val) ≠ some station.toNat)) →
    ∃ t, exec (.amend code items delta override station) s = .next t
    ∧ t = { s with
        entrants := t.entrants, standings := t.standings, ceiling := { s.ceiling with dirty := t.ceiling.dirty }
        link := s.replied .okay, pins := t.pinsNow }
    ∧ (∀ j : Slot, j ≠ i → t.entrant j = s.entrant j ∧ t.dirtyOf j = s.dirtyOf j)
    ∧ t.entrant i = { s.entrant i with
        laps := if items.getLsbD 0 then min 9999 ((s.entrant i).laps + delta.toInt).toNat else (s.entrant i).laps
        override :=
          if items.getLsbD 1 then (if override = 0xFF#8 then none else some (min 100 override.toNat))
          else (s.entrant i).override
        station := if items.getLsbD 2 then stationOf station else (s.entrant i).station
        blackFlag := (s.entrant i).blackFlag && !items.getLsbD 3
        callsUsed := if items.getLsbD 4 then 0 else (s.entrant i).callsUsed
        effective :=
          if items.getLsbD 1 || (items.getLsbD 3 && (s.entrant i).blackFlag) then t.effectiveFor (t.entrant i)
          else (s.entrant i).effective }
    ∧ t.standings =
        (if (t.entrant i).laps = (s.entrant i).laps then s.standings else placeAgain i (t.entrant i).key s.standings)
    ∧ ((items.getLsbD 1 && items.getLsbD 3) = false → t.markedFrom s))
  ∧ (∀ (code items : Byte) (delta : Word16) (override station : Byte) (s : State),
    s.named code = none →
    s.refuses (.amend code items delta override station) .noEntrant)
  ∧ (∀ (code items : Byte) (delta : Word16) (override station : Byte) (i : Slot) (s : State),
    s.named code = some i →
    (s.entrant i).state = .excluded →
    s.refuses (.amend code items delta override station) .wrongState)
  ∧ (∀ (code items : Byte) (delta : Word16) (override station : Byte) (i : Slot) (s : State),
    s.named code = some i →
    (s.entrant i).state ≠ .excluded →
    (items.getLsbD 0 = true ∧ (delta.toInt < -9999 ∨ 9999 < delta.toInt))
      ∨ (items.getLsbD 2 = true ∧ 5 < station.toNat ∧ station ≠ 0xFF#8) →
    s.refuses (.amend code items delta override station) .badValue)
  ∧ (∀ (code items : Byte) (delta : Word16) (override station : Byte) (i j : Slot) (s : State),
    s.named code = some i →
    (s.entrant i).state ≠ .excluded →
    (items.getLsbD 0 = true → -9999 ≤ delta.toInt ∧ delta.toInt ≤ 9999) →
    items.getLsbD 2 = true →
    station.toNat < 6 →
    j ≠ i →
    (s.entrant j).state ≠ .vacant →
    (s.entrant j).station.map (·.val) = some station.toNat →
    s.refuses (.amend code items delta override station) .stationInUse)

/-- O33. RETIRE vacates before the start and retires after it; EXCLUDE takes a car out of the race (03 R49, 03 R50,
03 R51, 03 R65, 05 R96, 06 R114, 06 R119, 08 R155, 09 R159, 09 R160). -/
def Obligations.RetireAndExclude : Prop :=
  (∀ (code : Byte) (i : Slot) (s : State),
    s.named code = some i →
    s.race.state = .setup ∨ s.race.state = .staging →
    ∃ t, exec (.retire code) s = .next t
    ∧ t = { s with
        entrants := s.entrants.set i.val Entrant.vacant
        standings := s.standings.filter fun x => x.slot != i
        ceiling := { s.ceiling with dirty := s.ceiling.dirty.set i.val .clean }
        link := s.replied .okay, pins := t.pinsNow })
  ∧ (∀ (code : Byte) (i : Slot) (s : State),
    s.named code = some i →
    s.race.state ≠ .setup →
    s.race.state ≠ .staging →
    (s.entrant i).state ≠ .retired →
    (s.entrant i).state ≠ .excluded →
    (s.race.state = .finishing → ∃ j : Slot, j ≠ i ∧ (s.entrant j).state = .racing) →
    ∃ t, exec (.retire code) s = .next t
    ∧ t = { s with
        race := { s.race with caution := t.race.caution }
        entrants := t.entrants, ceiling := { s.ceiling with dirty := t.ceiling.dirty }
        link := s.replied .okay, pins := t.pinsNow }
    ∧ t.entrant i = { (s.entrant i).withdrawnAs .retired with effective := 0 }
    ∧ (∀ j : Slot, j ≠ i → t.entrant j =
        if ∀ k : Fin 4, t.localCaution k.val = s.localCaution k.val then s.entrant j else (s.entrant j).recomputedIn t)
    ∧ t.dirtyOf i = DirtyClass.mark (s.entrant i).effective 0 (s.dirtyOf i)
    ∧ (s.holdersKept → t.markedFrom s)
    ∧ ∀ k : Fin 4, t.race.caution[k] =
        if (s.entrant i).overdue then
          { s.race.caution[k] with holders := s.race.caution[k].holders.filter fun j => j != i }
        else s.race.caution[k])
  ∧ (∀ (code : Byte) (i : Slot) (s : State),
    s.named code = some i →
    s.race.state ≠ .setup →
    s.race.state ≠ .staging →
    (s.entrant i).state ≠ .excluded →
    (s.race.state = .finishing → ∃ j : Slot, j ≠ i ∧ (s.entrant j).state = .racing) →
    ∃ t, exec (.exclude code) s = .next t
    ∧ t = { s with
        race := { s.race with caution := t.race.caution }
        entrants := t.entrants, standings := s.standings.filter fun x => x.slot != i
        ceiling := { s.ceiling with dirty := t.ceiling.dirty }
        link := s.replied .okay, pins := t.pinsNow }
    ∧ t.entrant i = { (s.entrant i).withdrawnAs .excluded with station := none, blackFlag := false, effective := 0 }
    ∧ (∀ j : Slot, j ≠ i → t.entrant j =
        if ∀ k : Fin 4, t.localCaution k.val = s.localCaution k.val then s.entrant j else (s.entrant j).recomputedIn t)
    ∧ t.dirtyOf i = DirtyClass.mark (s.entrant i).effective 0 (s.dirtyOf i)
    ∧ (s.holdersKept → t.markedFrom s)
    ∧ ∀ k : Fin 4, t.race.caution[k] =
        if (s.entrant i).overdue then
          { s.race.caution[k] with holders := s.race.caution[k].holders.filter fun j => j != i }
        else s.race.caution[k])
  ∧ (∀ (code : Byte) (i : Slot) (c : Instr) (s : State),
    c = .retire code ∨ c = .exclude code →
    s.named code = some i →
    s.race.state = .finishing →
    (s.entrant i).state ≠ .retired ∨ c = .exclude code →
    (s.entrant i).state ≠ .excluded →
    (∀ j : Slot, j ≠ i → (s.entrant j).state ≠ .racing) →
    ∃ t, exec c s = .next t
    ∧ t = { s with
        race := { s.race with
          state := .complete, finishDeadline := none, resume := none, suspStart := none, caution := t.race.caution }
        entrants := t.entrants
        standings := if c = .retire code then s.standings else s.standings.filter fun x => x.slot != i
        ceiling := { s.ceiling with dirty := t.ceiling.dirty, holdStart := none }
        attention := { s.attention with race := true }
        link := s.replied .okay, pins := t.pinsNow }
    ∧ t.entrant i = (if c = .retire code then { (s.entrant i).withdrawnAs .retired with effective := 0 }
        else { (s.entrant i).withdrawnAs .excluded with station := none, blackFlag := false, effective := 0 })
    ∧ (∀ j : Slot, j ≠ i → t.entrant j = (s.entrant j).recomputedIn t)
    ∧ (∀ k : Fin 4, t.race.caution[k] =
        if (s.entrant i).overdue then
          { s.race.caution[k] with holders := s.race.caution[k].holders.filter fun j => j != i }
        else s.race.caution[k])
    ∧ t.dirtyOf i = DirtyClass.mark (s.entrant i).effective 0 (s.dirtyOf i)
    ∧ ((∀ k : Fin 4, t.localCaution k.val = s.localCaution k.val) → t.markedFrom s)
    ∧ (s.holdersKept → (∃ k : Fin 4, t.localCaution k.val ≠ s.localCaution k.val) →
        ∀ j : Slot, j ≠ i → (s.entrant j).state ≠ .vacant → t.dirtyOf j =
          DirtyClass.mark (({ s with race := { s.race with caution := t.race.caution } } : State).effectiveFor (s.entrant j))
            (t.entrant j).effective
            (DirtyClass.mark (s.entrant j).effective
              (({ s with race := { s.race with caution := t.race.caution } } : State).effectiveFor (s.entrant j))
              (s.dirtyOf j)))
    ∧ (∀ j : Slot, (s.entrant j).state = .vacant → t.dirtyOf j = s.dirtyOf j))
  ∧ (∀ (code : Byte) (s : State),
    s.named code = none →
    s.refuses (.retire code) .noEntrant ∧ s.refuses (.exclude code) .noEntrant)
  ∧ (∀ (code : Byte) (i : Slot) (s : State),
    s.named code = some i →
    s.race.state ≠ .setup →
    s.race.state ≠ .staging →
    (s.entrant i).state = .retired ∨ (s.entrant i).state = .excluded →
    s.refuses (.retire code) .wrongState)
  ∧ (∀ (code : Byte) (i : Slot) (s : State),
    s.named code = some i →
    s.race.state = .setup ∨ s.race.state = .staging ∨ (s.entrant i).state = .excluded →
    s.refuses (.exclude code) .wrongState)

/-- O34. CALL makes a Manual call: each of the five rulings is carried out (07 R136, 07 R137, 07 R130, 08 R141, 08
R142, 08 R149, 08 R151, 08 R152). -/
def Obligations.CallMakesManualRuling : Prop :=
  (∀ (code kind hold deadline conversion level duration laps : Byte) (i : Slot) (l d : Nat) (s : State),
    s.race.state.afterGreen = true →
    s.named code = some i →
    rulingKindOf kind = some .powerHold →
    rulingOf .powerHold hold deadline conversion level duration laps = some (some (.powerHold l d)) →
    (s.entrant i).state = .racing →
    ∃ t, exec (.call code kind hold deadline conversion level duration laps) s = .next t
    ∧ t = { s with
        entrants := t.entrants, standings := t.standings, ceiling := { s.ceiling with dirty := t.ceiling.dirty }
        link := s.replied .okay, pins := t.pinsNow }
    ∧ (∀ j : Slot, j ≠ i → t.entrant j = s.entrant j)
    ∧ t.markedFrom s
    ∧ t.standings = s.standings
    ∧ t.entrant i = { s.entrant i with
        activity := true, effective := t.effectiveFor (t.entrant i)
        powerHold := some (match (s.entrant i).powerHold with
          | none => { level := l, expiry := s.race.runningClock + d * 10000 }
          | some h =>
            { level := min h.level l
              expiry := s.race.runningClock + min (h.expiry - s.race.runningClock + d * 10000) 600000 }) })
  ∧ (∀ (code kind hold deadline conversion level duration laps : Byte) (i : Slot) (n : Nat) (s : State),
    s.race.state.afterGreen = true →
    s.named code = some i →
    rulingKindOf kind = some .lapDeduction →
    rulingOf .lapDeduction hold deadline conversion level duration laps = some (some (.lapDeduction n)) →
    (s.entrant i).state ∈ [EntrantState.racing, .finished, .retired] →
    ∃ t, exec (.call code kind hold deadline conversion level duration laps) s = .next t
    ∧ t = { s with
        entrants := t.entrants, standings := t.standings, ceiling := { s.ceiling with dirty := t.ceiling.dirty }
        link := s.replied .okay, pins := t.pinsNow }
    ∧ (∀ j : Slot, j ≠ i → t.entrant j = s.entrant j)
    ∧ t.markedFrom s
    ∧ t.entrant i = { s.entrant i with activity := true, laps := (s.entrant i).laps - n }
    ∧ t.standings = placeAgain i (t.entrant i).key s.standings)
  ∧ (∀ (code kind hold deadline conversion level duration laps : Byte) (i : Slot) (s : State),
    s.race.state.afterGreen = true →
    s.named code = some i →
    rulingKindOf kind = some .blackFlag →
    (s.entrant i).state ∈ [EntrantState.racing, .finished, .retired] →
    ∃ t, exec (.call code kind hold deadline conversion level duration laps) s = .next t
    ∧ t = { s with
        entrants := t.entrants, standings := t.standings, ceiling := { s.ceiling with dirty := t.ceiling.dirty }
        link := s.replied .okay, pins := t.pinsNow }
    ∧ (∀ j : Slot, j ≠ i → t.entrant j = s.entrant j)
    ∧ t.markedFrom s
    ∧ t.standings = s.standings
    ∧ t.entrant i = { s.entrant i with activity := true, blackFlag := true, effective := t.effectiveFor (t.entrant i) })
  ∧ (∀ (code kind hold deadline conversion level duration laps : Byte) (i : Slot) (k : PenaltyKind) (h : Option Nat)
  (d v : Nat) (s : State),
    s.race.state.afterGreen = true →
    s.named code = some i →
    ((k = .driveThrough ∧ rulingKindOf kind = some .driveThrough ∧ h = none
          ∧ rulingOf .driveThrough hold deadline conversion level duration laps = some (some (.driveThrough d v)))
        ∨ (k = .stopGo ∧ rulingKindOf kind = some .stopGo ∧ h = some hold.toNat
          ∧ rulingOf .stopGo hold deadline conversion level duration laps = some (some (.stopGo hold.toNat d v)))) →
    (s.entrant i).state = .racing →
    (∀ p ∈ (s.entrant i).penalties.take 1, p.state ≠ .pending) →
    ∃ t, exec (.call code kind hold deadline conversion level duration laps) s = .next t
    ∧ t = { s with
        entrants := t.entrants, standings := t.standings, ceiling := { s.ceiling with dirty := t.ceiling.dirty }
        link := s.replied .okay, pins := t.pinsNow }
    ∧ (∀ j : Slot, j ≠ i → t.entrant j = s.entrant j)
    ∧ t.markedFrom s
    ∧ t.standings = s.standings
    ∧ (if (s.entrant i).penalties = [] then
        (if k = .stopGo ∧ (s.entrant i).pitStatus = .box then
          t.entrant i = { s.entrant i with
            activity := true, effective := 0
            holdTimer := some (s.race.runningClock + hold.toNat * 10000)
            penalties := [{
              kind := k, cls := .manual, hold := h, deadline := d, conversion := v, escalation := false
              state := .serving, remaining := some d
              calledAt := s.race.runningClock, calledLap := (s.entrant i).laps }] }
        else t.entrant i = { s.entrant i with
            activity := true
            penalties := [{
              kind := k, cls := .manual, hold := h, deadline := d, conversion := v, escalation := false
              state := .active, remaining := some d
              calledAt := s.race.runningClock, calledLap := (s.entrant i).laps }] })
      else if (s.entrant i).penalties.length < 4 then
        t.entrant i = { s.entrant i with
          activity := true
          penalties := (s.entrant i).penalties ++ [{
            kind := k, cls := .manual, hold := h, deadline := d, conversion := v, escalation := false
            state := .pending, remaining := none
            calledAt := s.race.runningClock, calledLap := (s.entrant i).laps }] }
      else
        t.entrant i = { s.entrant i with activity := true, blackFlag := true, effective := t.effectiveFor (t.entrant i) }))
  ∧ (∀ (code kind hold deadline conversion level duration laps : Byte) (s : State),
    s.race.state.afterGreen = false →
    s.refuses (.call code kind hold deadline conversion level duration laps) .wrongState)
  ∧ (∀ (code kind hold deadline conversion level duration laps : Byte) (s : State),
    s.race.state.afterGreen = true →
    s.named code = none →
    s.refuses (.call code kind hold deadline conversion level duration laps) .noEntrant)
  ∧ (∀ (code kind hold deadline conversion level duration laps : Byte) (i : Slot) (s : State),
    s.race.state.afterGreen = true →
    s.named code = some i →
    (kind = 0#8 ∨ 5 < kind.toNat
      ∨ (∃ k ∈ (rulingKindOf kind).toList, rulingOf k hold deadline conversion level duration laps = none)) →
    s.refuses (.call code kind hold deadline conversion level duration laps) .badValue)
  ∧ (∀ (code kind hold deadline conversion level duration laps : Byte) (i : Slot) (k : RulingKind) (r : Ruling)
  (s : State),
    s.race.state.afterGreen = true →
    s.named code = some i →
    rulingKindOf kind = some k →
    rulingOf k hold deadline conversion level duration laps = some (some r) →
    (s.entrant i).state = .excluded
      ∨ ((s.entrant i).state ∈ [EntrantState.finished, .retired] ∧ k ∈ [RulingKind.driveThrough, .stopGo, .powerHold]) →
    s.refuses (.call code kind hold deadline conversion level duration laps) .wrongState)

/-- O35. WAIVE removes a queued penalty or the power hold, and marks no activity (08 R153, 08 R142, 09 R159, 09
R160). -/
def Obligations.WaiveRemovesOnePenalty : Prop :=
  (∀ (code which : Byte) (i : Slot) (s : State),
    s.named code = some i →
    1 ≤ which.toNat ∧ which.toNat ≤ 3 →
    which.toNat < (s.entrant i).penalties.length →
    ∃ t, exec (.waive code which) s = .next t
    ∧ t = { s with entrants := t.entrants, link := s.replied .okay, pins := t.pinsNow }
    ∧ (∀ j : Slot, j ≠ i → t.entrant j = s.entrant j)
    ∧ t.entrant i = { s.entrant i with penalties := (s.entrant i).penalties.eraseIdx which.toNat })
  ∧ (∀ (code : Byte) (i : Slot) (p : PitPenalty) (s : State),
    s.named code = some i →
    (s.entrant i).penalties = [p] →
    ∃ t, exec (.waive code 0#8) s = .next t
    ∧ t = { s with
        entrants := t.entrants, ceiling := { s.ceiling with dirty := t.ceiling.dirty }
        link := s.replied .okay, pins := t.pinsNow }
    ∧ (∀ j : Slot, j ≠ i → t.entrant j = s.entrant j)
    ∧ t.entrant i =
        (if p.kind = .stopGo ∧ p.state = .serving then
          { s.entrant i with penalties := [], holdTimer := none, effective := t.effectiveFor (t.entrant i) }
        else { s.entrant i with penalties := [] })
    ∧ t.markedFrom s)
  ∧ (∀ (code : Byte) (i : Slot) (p q : PitPenalty) (rest : List PitPenalty) (s : State),
    s.named code = some i →
    (s.entrant i).penalties = p :: q :: rest →
    q.state = .pending →
    ∃ t, exec (.waive code 0#8) s = .next t
    ∧ t = { s with
        entrants := t.entrants, ceiling := { s.ceiling with dirty := t.ceiling.dirty }
        link := s.replied .okay, pins := t.pinsNow }
    ∧ (∀ j : Slot, j ≠ i → t.entrant j = s.entrant j)
    ∧ (t.entrant i).penalties = { q with
        state := if q.kind = .stopGo ∧ (s.entrant i).pitStatus = .box then .serving else .active
        remaining := some q.deadline } :: rest
    ∧ (t.entrant i).holdTimer =
        (if q.kind = .stopGo ∧ (s.entrant i).pitStatus = .box
        then some (s.race.runningClock + q.hold.getD 0 * 10000)
        else if p.kind = .stopGo ∧ p.state = .serving then none else (s.entrant i).holdTimer)
    ∧ t.entrant i = { s.entrant i with
        penalties := (t.entrant i).penalties, holdTimer := (t.entrant i).holdTimer, effective := (t.entrant i).effective }
    ∧ (t.entrant i).effective =
        (if (q.kind = .stopGo ∧ (s.entrant i).pitStatus = .box) ∨ (p.kind = .stopGo ∧ p.state = .serving)
        then t.effectiveFor (t.entrant i) else (s.entrant i).effective)
    ∧ (∀ j : Slot, j ≠ i → t.dirtyOf j = s.dirtyOf j)
    ∧ (¬((q.kind = .stopGo ∧ (s.entrant i).pitStatus = .box) ∧ (p.kind = .stopGo ∧ p.state = .serving)) →
    t.markedFrom s)
    ∧ ((q.kind = .stopGo ∧ (s.entrant i).pitStatus = .box) ∧ (p.kind = .stopGo ∧ p.state = .serving) → t.dirtyOf i =
        DirtyClass.mark (s.effectiveFor { s.entrant i with penalties := q :: rest, holdTimer := none })
          (t.entrant i).effective
          (DirtyClass.mark (s.entrant i).effective
            (s.effectiveFor { s.entrant i with penalties := q :: rest, holdTimer := none }) (s.dirtyOf i))))
  ∧ (∀ (code : Byte) (i : Slot) (h : PowerHold) (s : State),
    s.named code = some i →
    (s.entrant i).powerHold = some h →
    ∃ t, exec (.waive code 4#8) s = .next t
    ∧ t = { s with
        entrants := t.entrants, ceiling := { s.ceiling with dirty := t.ceiling.dirty }
        link := s.replied .okay, pins := t.pinsNow }
    ∧ (∀ j : Slot, j ≠ i → t.entrant j = s.entrant j)
    ∧ t.entrant i = { s.entrant i with powerHold := none, effective := t.effectiveFor (t.entrant i) }
    ∧ t.markedFrom s)
  ∧ (∀ (code which : Byte) (s : State),
    s.named code = none →
    s.refuses (.waive code which) .noEntrant)
  ∧ (∀ (code which : Byte) (i : Slot) (s : State),
    s.named code = some i →
    4 < which.toNat →
    s.refuses (.waive code which) .badValue)
  ∧ (∀ (code which : Byte) (i : Slot) (s : State),
    s.named code = some i →
    (which.toNat ≤ 3 ∧ (s.entrant i).penalties.length ≤ which.toNat)
      ∨ (which = 4#8 ∧ (s.entrant i).powerHold = none) →
    s.refuses (.waive code which) .noPenalty)

/-- O36. READ_PASSES returns the oldest passes and clears the latches; DISCARD removes one pass (02 R34, 02 R35, 02
R39, 02 R40, 11 section 11.6). -/
def Obligations.ReadPassesAndDiscard : Prop :=
  (∀ (n : Byte) (s : State),
    1 ≤ n.toNat ∧ n.toNat ≤ 4 →
    ∃ t, exec (.readPasses n) s = .next t
    ∧ ∃ a, t.link.tx = .waiting a s.race.raceClock
    ∧ t = { s with
        resolver := { s.resolver with waitLatch := false, overrun := false }
        link := s.replied a, pins := t.pinsNow }
    ∧ a.status = .ok ∧ a.reboot = false
    ∧ a.body.length = 1 + 17 * min n.toNat s.resolver.queue.length
    ∧ a.body.getD 0 0#8 = flagByte (decide (n.toNat < s.resolver.queue.length))
    ∧ ∀ k : Fin 4, k.val < n.toNat → ∀ q ∈ (s.resolver.queue[k.val]?).toList,
        bodyAt a.body (1 + 17 * k.val) 4
            = [q.tag, byteOf q.pass.gate.val, optByte q.pass.lane, byteOf q.pass.kind.number]
        ∧ bodyAt a.body (5 + 17 * k.val) 8 = word32 q.pass.raw.toNat ++ optWord32 q.pass.running
        ∧ bodyAt a.body (13 + 17 * k.val) 5
            = [q.pass.marks.byte] ++ candidateBytes q.pass.candidates[0]? ++ candidateBytes q.pass.candidates[1]?)
  ∧ (∀ (n : Byte) (s : State),
    n.toNat = 0 ∨ 4 < n.toNat →
    s.refuses (.readPasses n) .badValue)
  ∧ (∀ (tag : Byte) (q : QueuedPass) (s : State),
    q ∈ s.resolver.queue →
    q.tag = tag →
    ∃ t, exec (.discard tag) s = .next t
    ∧ t = { s with
        resolver := { s.resolver with queue := s.resolver.queue.filter fun x => x.tag != tag, waitLatch := false }
        link := s.replied .okay, pins := t.pinsNow })
  ∧ (∀ (tag : Byte) (s : State),
    (∀ q ∈ s.resolver.queue, q.tag ≠ tag) →
    s.refuses (.discard tag) .noPass)

/-- O37. ASSIGN delivers a queued pass to an entrant or is refused in the order of R41 (02 R41, 02 R42, 03 R55, 04
R73, 04 R84, 04 R85, 04 R86, 04 R87, 04 R88). -/
def Obligations.AssignSettlesPass : Prop :=
  (∀ (tag code : Byte) (q : QueuedPass) (i : Slot) (s : State),
    s.queued tag = some q →
    s.named code = some i →
    (s.entrant i).state ∈ [EntrantState.vacant, .staged, .racing] →
    assignTooOld (s.entrant i) q.pass = false →
    (q.pass.kind ≠ .line ∨ q.pass.running = none
      ∨ ¬((s.entrant i).state = .racing ∧ (s.race.state = .running ∨ s.race.state = .finishing))) →
    ∃ t, exec (.assign tag code) s = .next t
    ∧ t = { (s.deliver i { q.pass with marks := { q.pass.marks with unresolved := false, stray := false } }) with
        resolver := { s.resolver with queue := s.resolver.queue.filter fun x => x.tag != tag, waitLatch := false }
        link := s.replied .okay, pins := t.pinsNow })
  ∧ (∀ (tag code : Byte) (q : QueuedPass) (i : Slot) (a : RunTime) (o : LateOutcome) (s : State),
    s.queued tag = some q →
    s.named code = some i →
    (s.entrant i).state = .racing →
    s.race.state = .running ∨ s.race.state = .finishing →
    q.pass.kind = .line →
    q.pass.running = some a →
    judgeLate s.cfg.lapFloor (s.entrant i).latestCrossing (s.entrant i).prevCrossing a = o →
    o ≠ .duplicate →
    o ≠ .tooOld →
    ∃ t, exec (.assign tag code) s = .next t
    ∧ t = { (s.deliverLate i { q.pass with marks := { q.pass.marks with unresolved := false, stray := false } } a o) with
        resolver := { s.resolver with queue := s.resolver.queue.filter fun x => x.tag != tag, waitLatch := false }
        link := s.replied .okay, pins := t.pinsNow })
  ∧ (∀ (tag code : Byte) (q : QueuedPass) (i : Slot) (a p l u : RunTime) (s : State),
    s.queued tag = some q →
    s.named code = some i →
    (s.entrant i).state = .racing →
    s.race.state = .running ∨ s.race.state = .finishing →
    q.pass.kind = .line →
    q.pass.running = some a →
    (s.entrant i).prevCrossing = some p →
    (s.entrant i).latestCrossing = some l →
    (s.entrant i).latestPass = some u →
    a < u →
    p + s.cfg.lapFloor ≤ a →
    a + s.cfg.lapFloor ≤ l →
    p < a ∧ a < l →
    ∃ t, exec (.assign tag code) s = .next t
    ∧ t = { s with
        entrants := t.entrants, standings := placeAgain i (t.entrant i).key s.standings
        resolver := { s.resolver with queue := s.resolver.queue.filter fun x => x.tag != tag, waitLatch := false }
        link := s.replied .okay, pins := t.pinsNow }
    ∧ (∀ j : Slot, j ≠ i → t.entrant j = s.entrant j)
    ∧ t.entrant i = { s.entrant i with
        laps := min 9999 ((s.entrant i).laps + 1), prevCrossing := some a, lastLap := some (min (l - a) 16777215)
        lastLapMarks :=
          { long := decide (s.cfg.lapCeiling < l - a), caution := (s.entrant i).lastLapMarks.caution, assigned := true }
        bestLap :=
          judgeBest
            (judgeBest (s.entrant i).bestLap (min (a - p) 16777215) (min 9999 ((s.entrant i).laps + 1) - 1)
              (decide (s.cfg.lapCeiling < a - p)) (s.entrant i).lastLapMarks.caution)
            (min (l - a) 16777215) (min 9999 ((s.entrant i).laps + 1))
            (decide (s.cfg.lapCeiling < l - a)) (s.entrant i).lastLapMarks.caution }
    ∧ ((s.entrant i).lastLapMarks.caution = true → (t.entrant i).bestLap = (s.entrant i).bestLap))
  ∧ (∀ (tag code : Byte) (s : State),
    (∀ q ∈ s.resolver.queue, q.tag ≠ tag) →
    s.refuses (.assign tag code) .noPass)
  ∧ (∀ (tag code : Byte) (q : QueuedPass) (s : State),
    s.queued tag = some q →
    s.named code = none →
    s.refuses (.assign tag code) .noEntrant)
  ∧ (∀ (tag code : Byte) (q : QueuedPass) (i : Slot) (s : State),
    s.queued tag = some q →
    s.named code = some i →
    (s.entrant i).state ∈ [EntrantState.finished, .retired, .excluded] →
    s.refuses (.assign tag code) .wrongState)
  ∧ (∀ (tag code : Byte) (q : QueuedPass) (i : Slot) (s : State),
    s.queued tag = some q →
    s.named code = some i →
    (s.entrant i).state ∈ [EntrantState.staged, .racing] →
    ((q.pass.running = none ∧ (s.entrant i).state = .racing)
      ∨ (q.pass.kind ≠ .line ∧ ∃ a ∈ q.pass.running.toList, ∃ u ∈ (s.entrant i).latestPass.toList, a < u)) →
    s.refuses (.assign tag code) .tooOld)
  ∧ (∀ (tag code : Byte) (q : QueuedPass) (i : Slot) (a : RunTime) (s : State),
    s.queued tag = some q →
    s.named code = some i →
    (s.entrant i).state = .racing →
    s.race.state = .running ∨ s.race.state = .finishing →
    q.pass.kind = .line →
    q.pass.running = some a →
    (judgeLate s.cfg.lapFloor (s.entrant i).latestCrossing (s.entrant i).prevCrossing a = .duplicate →
        s.refuses (.assign tag code) .duplicate)
    ∧ (judgeLate s.cfg.lapFloor (s.entrant i).latestCrossing (s.entrant i).prevCrossing a = .tooOld →
        s.refuses (.assign tag code) .tooOld))
  ∧ (∀ (floor p l a : Nat),
    judgeLate floor none (some p) a = .launch ∧ judgeLate floor none none a = .launch
    ∧ judgeLate floor (some l) (some p) a =
        (if l < a + floor ∧ a < l + floor then .duplicate
        else if l < a then .credit l
        else if p < a + floor ∧ a < p + floor then .duplicate
        else if p < a then .split p l else .tooOld)
    ∧ judgeLate floor (some l) none a =
        (if l < a + floor ∧ a < l + floor then .duplicate else if l < a then .credit l else .tooOld))
  ∧ (∀ (i : Slot) (pass : Pass) (a : RunTime) (o : LateOutcome) (s : State),
    s.deliverLate i pass a o =
      (if ∃ u ∈ (s.entrant i).latestPass.toList, a < u then s.lateLap i a o else (s.scoredPass .full i pass).lateLap i a o))
  ∧ (∀ (i : Slot) (a p l : RunTime) (s : State),
    ((s.entrant i).latestCrossing = none → s.lateLap i a .launch = s.crossing i a)
    ∧ s.lateLap i a (.credit l) = s.credit i l a true
    ∧ s.lateLap i a .duplicate = s ∧ s.lateLap i a .tooOld = s
    ∧ s.lateLap i a (.split p l) = { s with
        entrants := s.entrants.set i.val { s.entrant i with
          laps := min 9999 ((s.entrant i).laps + 1), prevCrossing := some a, lastLap := some (min (l - a) 16777215)
          lastLapMarks :=
            { long := decide (s.cfg.lapCeiling < l - a), caution := (s.entrant i).lastLapMarks.caution, assigned := true }
          bestLap :=
            judgeBest
              (judgeBest (s.entrant i).bestLap (min (a - p) 16777215) (min 9999 ((s.entrant i).laps + 1) - 1)
                (decide (s.cfg.lapCeiling < a - p)) (s.entrant i).lastLapMarks.caution)
              (min (l - a) 16777215) (min 9999 ((s.entrant i).laps + 1))
              (decide (s.cfg.lapCeiling < l - a)) (s.entrant i).lastLapMarks.caution }
        standings := placeAgain i { laps := min 9999 ((s.entrant i).laps + 1), reach := (s.entrant i).reachTime } s.standings })

/-- O38. STAGE arms the race and START begins the countdown, or they are refused in order (06 R103, 01 R8, 06 R106,
09 R159, 09 R165). -/
def Obligations.StageAndStart : Prop :=
  (∀ (s : State),
    s.race.state = .setup →
    s.testStart = none →
    (∃ g : GateNo, (s.gate g).entry.kind = .line) →
    (∀ g : GateNo, (s.gate g).entry.kind = .split → (s.gate g).entry.boundary.getD 0 < s.cfg.sectorCount) →
    ∃ t, exec .stage s = .next t
    ∧ t = { s with
        race := { s.race with state := .staging }
        entrants := t.entrants, ceiling := { s.ceiling with dirty := t.ceiling.dirty, holdStart := none }
        attention := { s.attention with race := true }, link := s.replied .okay, pins := t.pinsNow }
    ∧ (∀ i : Slot, t.entrant i = (s.entrant i).recomputedIn t) ∧ t.markedFrom s
    ∧ t.pins.masterPower = true)
  ∧ (∀ (s : State),
    s.race.state = .setup →
    s.testStart = none →
    ((∀ g : GateNo, (s.gate g).entry.kind ≠ .line)
      ∨ (∃ g : GateNo, (s.gate g).entry.kind = .split ∧ s.cfg.sectorCount ≤ (s.gate g).entry.boundary.getD 0)) →
    s.refuses .stage .badConfig)
  ∧ (∀ (s : State),
    s.race.state ≠ .setup ∨ s.testStart.isSome = true →
    s.refuses .stage .wrongState)
  ∧ (∀ (delay : Word16) (s : State),
    s.race.state = .staging →
    delay.toNat ≤ 5000 →
    s.inputs.live.redHeld = false →
    s.inputs.live.powerAbsent = false →
    ∃ t, exec (.start delay) s = .next t
    ∧ t = { s with
        race := { s.race with
          state := .countdown
          countdown := some {
            reds := 1, phase := .lights, delay := 10 * delay.toNat
            next := s.race.raceClock + BitVec.ofNat 32 (10 * s.cfg.lightInterval) } }
        entrants := t.entrants
        ceiling := { s.ceiling with
          dirty := t.ceiling.dirty, holdStart := if s.ceiling.paused then some s.race.raceClock else none }
        attention := { s.attention with race := true }, link := s.replied .okay, pins := t.pinsNow }
    ∧ (∀ i : Slot, t.entrant i = (s.entrant i).recomputedIn t) ∧ t.markedFrom s
    ∧ t.pins.red1 = true ∧ t.pins.red2 = false)
  ∧ (∀ (delay : Word16) (s : State),
    s.race.state ≠ .staging →
    s.refuses (.start delay) .wrongState)
  ∧ (∀ (delay : Word16) (s : State),
    s.race.state = .staging →
    5000 < delay.toNat →
    s.refuses (.start delay) .badValue)
  ∧ (∀ (delay : Word16) (s : State),
    s.race.state = .staging →
    delay.toNat ≤ 5000 →
    s.inputs.live.redHeld = true ∨ s.inputs.live.powerAbsent = true →
    s.refuses (.start delay) .inputActive)

/-- O39. COUNTDOWN_STEP lights the reds one by one, waits the green delay, and gives green (06 R107, 06 R108, 03 R52,
03 R63, 07 R126, 08 R149). The model's readings: a step that is not due changes nothing (log entry 3), and a raw time
is reached by signed difference (log entry 12). -/
def Obligations.CountdownStepsToGreen : Prop :=
  (∀ (c : Countdown) (s : State),
    s.race.state = .countdown →
    s.race.countdown = some c →
    0 ≤ (s.race.raceClock - c.next).toInt →
    c.phase = .lights →
    c.reds < 5 →
    ∃ t, exec .countdownStep s = .next t
    ∧ t = { s with
        race := { s.race with countdown := some { c with
          reds := c.reds + 1, next := c.next + BitVec.ofNat 32 (10 * s.cfg.lightInterval) } }
        pins := t.pinsNow })
  ∧ (∀ (c : Countdown) (s : State),
    s.race.state = .countdown →
    s.race.countdown = some c →
    0 ≤ (s.race.raceClock - c.next).toInt →
    c.phase = .lights →
    5 ≤ c.reds →
    c.delay ≠ 0 →
    ∃ t, exec .countdownStep s = .next t
    ∧ t = { s with
        race := { s.race with countdown := some { c with phase := .delay, next := c.next + BitVec.ofNat 32 c.delay } }
        pins := t.pinsNow })
  ∧ (∀ (c : Countdown) (s : State),
    s.race.state = .countdown →
    s.race.countdown = some c →
    0 ≤ (s.race.raceClock - c.next).toInt →
    c.phase = .delay ∨ (5 ≤ c.reds ∧ c.delay = 0) →
    (∀ i : Slot, (s.entrant i).state = .staged → (s.entrant i).jumpStart = false) →
    ∃ t, exec .countdownStep s = .next t
    ∧ t = { s with
        race := { s.race with
          state := .running, green := some s.race.raceClock, suspTotal := 0, runningClock := 0, countdown := none }
        entrants := t.entrants, standings := t.standings, ceiling := { s.ceiling with dirty := t.ceiling.dirty }
        attention := { s.attention with race := true }, pins := t.pinsNow }
    ∧ (∀ i : Slot, t.entrant i =
        (if (s.entrant i).state = .staged then { s.entrant i with
            state := .racing, laps := 0, latestCrossing := none, prevCrossing := none, reachTime := none
            deadline :=
              if s.cfg.sightingWindow ≠ 0 ∧ (s.entrant i).pitStatus ≠ .box then some (s.cfg.sightingWindow * 10000)
              else (s.entrant i).deadline }
          else s.entrant i).recomputedIn t)
    ∧ t.markedFrom s
    ∧ ((∀ i : Slot, (s.entrant i).state = .staged → (s.entrant i).laps = 0) → t.standings = s.standings)
    ∧ t.pins.green = true ∧ t.pins.red1 = false)
  ∧ (∀ (c : Countdown) (i : Slot) (l d : Nat) (s : State),
    s.race.state = .countdown →
    s.race.countdown = some c →
    0 ≤ (s.race.raceClock - c.next).toInt →
    c.phase = .delay →
    (s.entrant i).state = .staged →
    (s.entrant i).jumpStart = true →
    s.callTable[0] = some (.powerHold l d) →
    (s.entrant i).powerHold = none →
    ∃ t, exec .countdownStep s = .next t
    ∧ (t.entrant i).state = .racing ∧ (t.entrant i).jumpStart = false ∧ (t.entrant i).activity = true
    ∧ (t.entrant i).powerHold = some { level := l, expiry := d * 10000 }
    ∧ (t.entrant i).effective ≤ l)
  ∧ (∀ (s : State),
    (s.race.state ≠ .countdown ∨ ∃ c ∈ s.race.countdown.toList, (s.race.raceClock - c.next).toInt < 0) →
    s.unmovedBy .countdownStep)

/-- O40. YELLOW sets the flag and ZONE a host flag; coming under caution marks the laps in progress (06 R113, 06
R114, 06 R115, 06 R116, 04 R80). -/
def Obligations.YellowFlagAndZones : Prop :=
  (∀ (on : Bool) (s : State),
    s.race.state = .running ∨ s.race.state = .finishing →
    ∃ t, exec (.yellow (if on then 1#8 else 0#8)) s = .next t
    ∧ t = { s with
        race := { s.race with yellow := on }
        entrants := t.entrants, ceiling := { s.ceiling with dirty := t.ceiling.dirty }
        link := s.replied .okay, pins := t.pinsNow }
    ∧ (s.race.yellow = on → t.entrants = s.entrants)
    ∧ (s.race.yellow ≠ on → ∀ i : Slot, t.entrant i =
        ({ s.entrant i with
          lapCaution := (s.entrant i).lapCaution || (on && (s.entrant i).state == .racing) } : Entrant).recomputedIn t)
    ∧ t.markedFrom s)
  ∧ (∀ (value : Byte) (s : State),
    s.race.state ≠ .running →
    s.race.state ≠ .finishing →
    s.refuses (.yellow value) .wrongState)
  ∧ (∀ (value : Byte) (s : State),
    s.race.state = .running ∨ s.race.state = .finishing →
    1 < value.toNat →
    s.refuses (.yellow value) .badValue)
  ∧ (∀ (k : Fin 4) (on : Bool) (s : State),
    s.race.state = .running ∨ s.race.state = .finishing ∨ s.race.state = .suspended →
    k.val < s.cfg.sectorCount →
    ∃ t, exec (.zone (BitVec.ofNat 8 k.val) (if on then 1#8 else 0#8)) s = .next t
    ∧ t = { s with
        race := { s.race with caution := s.race.caution.set k.val { s.race.caution[k] with hostFlag := on } }
        entrants := t.entrants, ceiling := { s.ceiling with dirty := t.ceiling.dirty }
        link := s.replied .okay, pins := t.pinsNow }
    ∧ (s.race.caution[k].hostFlag = on ∨ s.race.caution[k].holders ≠ [] → t.entrants = s.entrants)
    ∧ (s.race.caution[k].hostFlag ≠ on ∧ s.race.caution[k].holders = [] → ∀ i : Slot, t.entrant i =
        ({ s.entrant i with
          lapCaution := (s.entrant i).lapCaution
            || (on && (s.entrant i).state == .racing && (s.entrant i).sector == k.val) } : Entrant).recomputedIn t)
    ∧ t.markedFrom s)
  ∧ (∀ (sector value : Byte) (s : State),
    s.race.state ≠ .running →
    s.race.state ≠ .finishing →
    s.race.state ≠ .suspended →
    s.refuses (.zone sector value) .wrongState)
  ∧ (∀ (sector value : Byte) (s : State),
    s.race.state = .running ∨ s.race.state = .finishing ∨ s.race.state = .suspended →
    3 < sector.toNat ∨ s.cfg.sectorCount ≤ sector.toNat ∨ 1 < value.toNat →
    s.refuses (.zone sector value) .badValue)
  ∧ (∀ (k : Fin 4) (s : State),
    s.localCaution k.val = true ↔ s.race.caution[k].hostFlag = true ∨ s.race.caution[k].holders ≠ [])

/-- O41. SUSPEND, RED_PRESS, POWER_SENSE_LOSS and LINK_HOLD_EXPIRY suspend a race and abort a start (06 R109, 06
R110, 09 R165, 10 R167, 10 R169, 10 R171). The model's own: an expiry that is not due changes nothing (log entry 3),
and the red and power commands show a level, which the part debounces (log entry 10). -/
def Obligations.SuspensionCauses : Prop :=
  (∀ (back : ResumeTo) (s : State),
    s.race.state = back.race →
    ∃ t, exec .suspend s = .next t
    ∧ t.suspendedFrom s back .host ∧ t.inputs = s.inputs ∧ t.link = s.replied .okay)
  ∧ (∀ (back : ResumeTo) (r : RawTime) (s : State),
    s.race.state = back.race →
    s.inputs.live.redHeld = false →
    s.inputs.redSince = some r →
    200 ≤ s.since r →
    ∃ t, exec .redPress s = .next t
    ∧ t.suspendedFrom s back .red ∧ t.link = s.link
    ∧ t.inputs = { s.inputs.edge { s.inputs.live with redHeld := true } with redSince := none })
  ∧ (∀ (back : ResumeTo) (r : RawTime) (s : State),
    s.race.state = back.race →
    s.inputs.live.powerAbsent = false →
    s.inputs.powerSince = some r →
    200 ≤ s.since r →
    ∃ t, exec .powerSenseLoss s = .next t
    ∧ t.suspendedFrom s back .powerLost ∧ t.link = s.link
    ∧ t.inputs = { s.inputs.edge { s.inputs.live with powerAbsent := true } with powerSince := none })
  ∧ (∀ (back : ResumeTo) (h : RawTime) (s : State),
    s.race.state = back.race →
    s.ceiling.holdStart = some h →
    10 * s.cfg.holdLimit ≤ s.since h →
    ∃ t, exec .linkHoldExpiry s = .next t
    ∧ t.suspendedFrom s back .linkHeld ∧ t.inputs = s.inputs ∧ t.link = s.link)
  ∧ (∀ (s : State),
    s.race.state = .countdown →
    ∃ t, exec .suspend s = .next t
    ∧ t.abortedFrom s .host ∧ t.inputs = s.inputs ∧ t.link = s.replied .okay)
  ∧ (∀ (r : RawTime) (s : State),
    s.race.state = .countdown →
    s.inputs.live.redHeld = false →
    s.inputs.redSince = some r →
    200 ≤ s.since r →
    ∃ t, exec .redPress s = .next t
    ∧ t.abortedFrom s .red ∧ t.link = s.link
    ∧ t.inputs = { s.inputs.edge { s.inputs.live with redHeld := true } with redSince := none })
  ∧ (∀ (r : RawTime) (s : State),
    s.race.state = .countdown →
    s.inputs.live.powerAbsent = false →
    s.inputs.powerSince = some r →
    200 ≤ s.since r →
    ∃ t, exec .powerSenseLoss s = .next t
    ∧ t.abortedFrom s .powerLost ∧ t.link = s.link
    ∧ t.inputs = { s.inputs.edge { s.inputs.live with powerAbsent := true } with powerSince := none })
  ∧ (∀ (h : RawTime) (s : State),
    s.race.state = .countdown →
    s.ceiling.holdStart = some h →
    10 * s.cfg.holdLimit ≤ s.since h →
    ∃ t, exec .linkHoldExpiry s = .next t
    ∧ t.abortedFrom s .linkHeld ∧ t.inputs = s.inputs ∧ t.link = s.link)
  ∧ (∀ (s : State),
    s.race.state ∈ [RaceState.setup, .staging, .suspended, .complete] →
    s.refuses .suspend .wrongState)
  ∧ (∀ (r : RawTime) (s : State),
    s.race.state ∈ [RaceState.setup, .staging, .suspended, .complete] →
    s.inputs.live.redHeld = false →
    s.inputs.redSince = some r →
    200 ≤ s.since r →
    ∃ t, exec .redPress s = .next t
    ∧ t = { s with inputs := { s.inputs.edge { s.inputs.live with redHeld := true } with redSince := none }, pins := t.pinsNow })
  ∧ (∀ (r : RawTime) (s : State),
    s.race.state ∈ [RaceState.setup, .staging, .suspended, .complete] →
    s.inputs.live.powerAbsent = false →
    s.inputs.powerSince = some r →
    200 ≤ s.since r →
    ∃ t, exec .powerSenseLoss s = .next t
    ∧ t = { s with inputs := { s.inputs.edge { s.inputs.live with powerAbsent := true } with powerSince := none }, pins := t.pinsNow })
  ∧ (∀ (s : State),
    (∀ h ∈ s.ceiling.holdStart.toList, s.since h < 10 * s.cfg.holdLimit) →
    s.unmovedBy .linkHoldExpiry)
  ∧ (∀ (live shows : Bool) (d : Option RawTime) (r : RawTime) (s : State),
    s.debounce live live d = .keeps none
    ∧ (shows ≠ live → s.debounce live shows none = .keeps (some s.race.raceClock))
    ∧ (shows ≠ live → s.since r < 200 → s.debounce live shows (some r) = .keeps (some r))
    ∧ (shows ≠ live → 200 ≤ s.since r → s.debounce live shows (some r) = .edge))
  ∧ (∀ (shows : Bool) (d : Option RawTime) (s : State),
    s.debounce s.inputs.live.redHeld shows s.inputs.redSince = .keeps d →
    ∃ t, exec (if shows then .redPress else .redRelease) s = .next t
    ∧ t = { s with inputs := { s.inputs with redSince := d }, pins := t.pinsNow })
  ∧ (∀ (shows : Bool) (d : Option RawTime) (s : State),
    s.debounce s.inputs.live.powerAbsent shows s.inputs.powerSince = .keeps d →
    ∃ t, exec (if shows then .powerSenseLoss else .powerSenseRestore) s = .next t
    ∧ t = { s with inputs := { s.inputs with powerSince := d }, pins := t.pinsNow })

/-- O42. RESUME takes a suspended race back, with the yellow flag it carries (06 R111, 06 R112, 06 R116, 06 R119, 09
R165). -/
def Obligations.ResumeRestartsRace : Prop :=
  (∀ (on : Bool) (back : ResumeTo) (b : RawTime) (s : State),
    s.race.state = .suspended →
    s.race.resume = some back →
    s.race.suspStart = some b →
    s.inputs.live.redHeld = false →
    s.inputs.live.powerAbsent = false →
    (back = .running ∨ ∃ j : Slot, (s.entrant j).state = .racing) →
    ∃ t, exec (.resume (if on then 1#8 else 0#8)) s = .next t
    ∧ t = { s with
        race := { s.race with
          state := back.race, suspTotal := s.race.suspTotal + (s.race.raceClock - b)
          suspStart := none, resume := none, yellow := on }
        entrants := t.entrants
        ceiling := { s.ceiling with
          dirty := t.ceiling.dirty, holdStart := if s.ceiling.paused then some s.race.raceClock else none }
        attention := { s.attention with race := true }, link := s.replied .okay, pins := t.pinsNow }
    ∧ (∀ i : Slot, t.entrant i =
        ({ s.entrant i with
          lapCaution := (s.entrant i).lapCaution
            || (on && !s.race.yellow && (s.entrant i).state == .racing) } : Entrant).recomputedIn t)
    ∧ t.markedFrom s
    ∧ t.pins.masterPower = true ∧ t.pins.green = true ∧ t.pins.red5 = false)
  ∧ (∀ (on : Bool) (b : RawTime) (s : State),
    s.race.state = .suspended →
    s.race.resume = some .finishing →
    s.race.suspStart = some b →
    s.inputs.live.redHeld = false →
    s.inputs.live.powerAbsent = false →
    (∀ j : Slot, (s.entrant j).state ≠ .racing) →
    ∃ t, exec (.resume (if on then 1#8 else 0#8)) s = .next t
    ∧ t = { s with
        race := { s.race with
          state := .complete, suspTotal := s.race.suspTotal + (s.race.raceClock - b)
          suspStart := none, resume := none, finishDeadline := none, yellow := on }
        entrants := t.entrants, ceiling := { s.ceiling with dirty := t.ceiling.dirty, holdStart := none }
        attention := { s.attention with race := true }, link := s.replied .okay, pins := t.pinsNow }
    ∧ ∀ i : Slot, t.entrant i = (s.entrant i).recomputedIn t)
  ∧ (∀ (value : Byte) (s : State),
    s.race.state ≠ .suspended →
    s.refuses (.resume value) .wrongState)
  ∧ (∀ (value : Byte) (s : State),
    s.race.state = .suspended →
    1 < value.toNat →
    s.refuses (.resume value) .badValue)
  ∧ (∀ (value : Byte) (s : State),
    s.race.state = .suspended →
    value.toNat ≤ 1 →
    s.inputs.live.redHeld = true ∨ s.inputs.live.powerAbsent = true →
    s.refuses (.resume value) .inputActive)

/-- O43. END, the finish window and the clock's cap end a race; the time target and the lap target flag it (06 R117,
06 R118, 06 R119, 06 R120, 03 R53, 03 R65, 08 R154). That an expiry that is not due changes nothing is the model's
reading, log entry 3. -/
def Obligations.RaceEnds : Prop :=
  (∀ (s : State),
    s.race.state ∈ [RaceState.running, .finishing, .suspended] →
    ∃ t, exec .endRace s = .next t
    ∧ t.endedFrom s s.race.runningClock ∧ t.link = s.replied .okay
    ∧ ((∀ i : Slot, (s.entrant i).state = .racing →
        (s.entrant i).laps - ((s.entrant i).penalties.map (·.conversion)).sum = (s.entrant i).laps) →
            t.standings = s.standings))
  ∧ (∀ (s : State),
    s.race.state ∈ [RaceState.setup, .staging, .countdown, .complete] →
    s.refuses .endRace .wrongState)
  ∧ (∀ (s : State),
    s.race.state = .running ∨ s.race.state = .finishing →
    3600000000 ≤ s.race.runningClock →
    ∃ t, exec .runningClockCap s = .next t
    ∧ t.endedFrom s 3600000000 ∧ t.link = s.link
    ∧ ((∀ i : Slot, (s.entrant i).state = .racing →
        (s.entrant i).laps - ((s.entrant i).penalties.map (·.conversion)).sum = (s.entrant i).laps) →
            t.standings = s.standings))
  ∧ (∀ (d : RunTime) (s : State),
    s.race.state = .finishing →
    s.race.finishDeadline = some d →
    d ≤ s.race.runningClock →
    ∃ t, exec .finishWindowExpiry s = .next t
    ∧ t.endedFrom s d ∧ t.link = s.link
    ∧ ((∀ i : Slot, (s.entrant i).state = .racing →
        (s.entrant i).laps - ((s.entrant i).penalties.map (·.conversion)).sum = (s.entrant i).laps) →
            t.standings = s.standings))
  ∧ (∀ (s : State),
    s.cfg.timeTarget ≠ 0 →
    s.race.state = .running →
    s.cfg.timeTarget * 10000 ≤ s.race.runningClock →
    (∃ j : Slot, (s.entrant j).state = .racing) →
    ∃ t, exec .timeTargetReached s = .next t
    ∧ t = { s with
        race := { s.race with
          state := .finishing, finishDeadline := some (s.race.runningClock + s.cfg.finishWindow * 10000) }
        entrants := t.entrants, ceiling := { s.ceiling with dirty := t.ceiling.dirty }
        attention := { s.attention with race := true }, pins := t.pinsNow }
    ∧ (∀ i : Slot, t.entrant i = (s.entrant i).recomputedIn t) ∧ t.markedFrom s)
  ∧ (∀ (s : State),
    s.cfg.timeTarget ≠ 0 →
    s.race.state = .running →
    s.cfg.timeTarget * 10000 ≤ s.race.runningClock →
    (∀ j : Slot, (s.entrant j).state ≠ .racing) →
    ∃ t, exec .timeTargetReached s = .next t
    ∧ t.endedFrom s s.race.runningClock ∧ t.link = s.link)
  ∧ (∀ (s : State),
    s.race.state ≠ .running ∨ s.cfg.timeTarget = 0 ∨ s.race.runningClock < s.cfg.timeTarget * 10000 →
    s.unmovedBy .timeTargetReached)
  ∧ (∀ (s : State),
    (s.race.state ≠ .finishing ∨ ∃ d ∈ s.race.finishDeadline.toList, s.race.runningClock < d) →
    s.unmovedBy .finishWindowExpiry)
  ∧ (∀ (s : State),
    (s.race.state ≠ .running ∧ s.race.state ≠ .finishing) ∨ s.race.runningClock < 3600000000 →
    s.unmovedBy .runningClockCap)
  ∧ (∀ (i : Slot) (now l : RunTime) (s : State),
    s.race.state = .running ∨ s.race.state = .finishing →
    (s.entrant i).latestCrossing = some l →
    l + s.cfg.lapFloor ≤ now →
    s.crossing i now = State.judgeCrossing
      { (State.crossing { s with cfg := { s.cfg with lapTarget := 0 }, race := { s.race with state := .running } } i now) with
        cfg := s.cfg, race := s.race } i now)
  ∧ (∀ (i : Slot) (now : RunTime) (s : State),
    s.race.state = .running →
    s.cfg.lapTarget = 0 ∨ (s.entrant i).laps < s.cfg.lapTarget →
    s.judgeCrossing i now = s)
  ∧ (∀ (i : Slot) (now : RunTime) (s : State),
    s.race.state = .running →
    s.cfg.lapTarget ≠ 0 →
    s.cfg.lapTarget ≤ (s.entrant i).laps →
    (s.entrant i).state = .racing →
    (∃ j : Slot, j ≠ i ∧ (s.entrant j).state = .racing) →
    s.judgeCrossing i now = { s with
        race := { s.race with
          state := .finishing, finishDeadline := some (s.race.runningClock + s.cfg.finishWindow * 10000)
          caution := (s.judgeCrossing i now).race.caution }
        entrants := (s.judgeCrossing i now).entrants, standings := (s.judgeCrossing i now).standings
        ceiling := { s.ceiling with dirty := (s.judgeCrossing i now).ceiling.dirty }
        attention := { s.attention with race := true } }
    ∧ (∀ j : Slot, (s.judgeCrossing i now).entrant j =
        (if j = i then (s.entrant i).finishedAs .flagged now else s.entrant j).recomputedIn (s.judgeCrossing i now))
    ∧ (∀ k : Fin 4, (s.judgeCrossing i now).race.caution[k] =
        if (s.entrant i).overdue then
          { s.race.caution[k] with holders := s.race.caution[k].holders.filter fun j => j != i }
        else s.race.caution[k])
    ∧ (s.judgeCrossing i now).standings =
        (if (s.entrant i).laps - ((s.entrant i).penalties.map (·.conversion)).sum = (s.entrant i).laps then s.standings
        else placeAgain i ((s.judgeCrossing i now).entrant i).key s.standings))
  ∧ (∀ (i : Slot) (now : RunTime) (s : State),
    s.race.state = .finishing →
    (s.entrant i).state = .racing →
    (∃ j : Slot, j ≠ i ∧ (s.entrant j).state = .racing) →
    s.judgeCrossing i now = { s with
        race := { s.race with caution := (s.judgeCrossing i now).race.caution }
        entrants := (s.judgeCrossing i now).entrants, standings := (s.judgeCrossing i now).standings
        ceiling := { s.ceiling with dirty := (s.judgeCrossing i now).ceiling.dirty } }
    ∧ (s.judgeCrossing i now).entrant i = ((s.entrant i).finishedAs .flagged now).recomputedIn (s.judgeCrossing i now)
    ∧ (∀ j : Slot, j ≠ i → (s.judgeCrossing i now).entrant j = s.entrant j
        ∨ (s.judgeCrossing i now).entrant j = (s.entrant j).recomputedIn (s.judgeCrossing i now))
    ∧ (∀ k : Fin 4, (s.judgeCrossing i now).race.caution[k] =
        if (s.entrant i).overdue then
          { s.race.caution[k] with holders := s.race.caution[k].holders.filter fun j => j != i }
        else s.race.caution[k])
    ∧ (s.judgeCrossing i now).standings =
        (if (s.entrant i).laps - ((s.entrant i).penalties.map (·.conversion)).sum = (s.entrant i).laps then s.standings
        else placeAgain i ((s.judgeCrossing i now).entrant i).key s.standings))
  ∧ (∀ (i : Slot) (now : RunTime) (s : State),
    s.race.state = .finishing
      ∨ (s.race.state = .running ∧ s.cfg.lapTarget ≠ 0 ∧ s.cfg.lapTarget ≤ (s.entrant i).laps) →
    (s.entrant i).state = .racing →
    (∀ j : Slot, j ≠ i → (s.entrant j).state ≠ .racing) →
    s.judgeCrossing i now = { s with
        race := { s.race with
          state := .complete, finishDeadline := none, resume := none, suspStart := none
          caution := (s.judgeCrossing i now).race.caution }
        entrants := (s.judgeCrossing i now).entrants, standings := (s.judgeCrossing i now).standings
        ceiling := { s.ceiling with dirty := (s.judgeCrossing i now).ceiling.dirty, holdStart := none }
        attention := { s.attention with race := true } }
    ∧ (∀ j : Slot, (s.judgeCrossing i now).entrant j =
        (if j = i then (s.entrant i).finishedAs .flagged now else s.entrant j).recomputedIn (s.judgeCrossing i now))
    ∧ (∀ k : Fin 4, (s.judgeCrossing i now).race.caution[k] =
        if (s.entrant i).overdue then
          { s.race.caution[k] with holders := s.race.caution[k].holders.filter fun j => j != i }
        else s.race.caution[k])
    ∧ (s.judgeCrossing i now).standings =
        (if (s.entrant i).laps - ((s.entrant i).penalties.map (·.conversion)).sum = (s.entrant i).laps then s.standings
        else placeAgain i ((s.judgeCrossing i now).entrant i).key s.standings))

/-- O44. RESET_RACE takes the race back to Setup and keeps the entries; RESET_PART asks for a reset (06 R121, 01 R22,
02 R38, 03 R66, 04 R81, 05 R98, 08 R155, 09 R166, 10 R175, 11 R183). -/
def Obligations.RaceResetAndResetPart : Prop :=
  (∀ (s : State),
    ∃ t, exec .resetRace s = .next t
    ∧ t = { s with
        gates := t.gates, testStart := none
        resolver := { queue := [], nextTag := 0, waitLatch := false, overrun := false }
        entrants := t.entrants, standings := t.standings, ring := t.ring, highMark := 0
        race := { s.race with
          state := .setup, resume := none, suspStart := none, suspTotal := 0, green := none, runningClock := 0
          countdown := none, finishDeadline := none, yellow := false, caution := t.race.caution }
        ceiling := { s.ceiling with dirty := t.ceiling.dirty, holdStart := none }
        inputs := { s.inputs with blindSince := t.inputs.blindSince }
        attention := { s.attention with suspended := none, race := true }
        link := s.replied .okay, pins := t.pinsNow }
    ∧ (∀ i : Slot, t.entrant i = if (s.entrant i).state = .vacant then s.entrant i else { Entrant.vacant with
        code := (s.entrant i).code, state := .staged, station := (s.entrant i).station
        override := (s.entrant i).override, effective := t.effectiveFor (t.entrant i) })
    ∧ t.standings = ((allSlots.filter fun i => (s.entrant i).state != .vacant).map fun i =>
        { slot := i, key := { laps := 0, reach := none } })
    ∧ (∀ k : Fin 16, t.ring[k] = none)
    ∧ (∀ k : Fin 4, t.race.caution[k].hostFlag = false ∧ t.race.caution[k].holders = [])
    ∧ (∀ g : GateNo, t.gate g =
        if s.testStart.isSome = true ∧ (s.gate g).fed.isSome = true then { s.gate g with
          decoder := { state := .hunt, run := none, frame := [], burst := none, waiting := true }
          fed := none, result := .aborted, counted := 0 }
        else s.gate g)
    ∧ (s.testStart = none → t.inputs = s.inputs)
    ∧ ∀ i : Slot, (s.entrant i).state ≠ .vacant →
        t.dirtyOf i = DirtyClass.mark 0 (t.entrant i).effective (s.dirtyOf i))
  ∧ (∀ (s : State),
    ∃ t, exec .resetPart s = .next t
    ∧ t = { s with link := s.replied { status := .ok, body := [], reboot := true }, pins := t.pinsNow })

/-- O45. READ_ATTENTION, SET_MASK and READ_PENALTY_ACTIVITY, in every race state (10 R171, 10 R172, 10 R173, 10 R174,
11 section 11.6). The tag FF of PASSES with an empty queue is the model's reading, log entry 13. -/
def Obligations.AttentionIsReadAndMasked : Prop :=
  (∀ (c : Cause) (s : State),
    s.raised c = true →
    s.attention.mask.getLsbD (c.priority - 1) = true →
    (∀ d ∈ allCauses, d.priority < c.priority → (s.raised d && s.attention.mask.getLsbD (d.priority - 1)) = false) →
    ∃ t, exec .readAttention s = .next t
    ∧ ∃ a, t.link.tx = .waiting a s.race.raceClock
    ∧ t = { s with attention := t.attention, link := s.replied a, pins := t.pinsNow }
    ∧ t.attention = { s.attention with
        suspended := if c = .suspended then none else s.attention.suspended
        race := s.attention.race && c != .race, test := s.attention.test && c != .test }
    ∧ a.status = .ok ∧ a.reboot = false
    ∧ a.body = [BitVec.ofNat 8 c.priority,
          flagByte (allCauses.any fun d =>
            decide (c.priority < d.priority) && s.raised d && s.attention.mask.getLsbD (d.priority - 1))]
        ++ (match c with
          | .suspended => [byteOf ((s.attention.suspended.map Reason.number).getD 255), 0#8]
          | .station => word16 s.inputs.snapshot.number
          | .review => [byteOf (((s.slotsWith fun e => e.blackFlag).map (·.val)).headD 255), 0#8]
          | .overdue => [byteOf (((s.slotsWith fun e => e.overdue).map (·.val)).headD 255), 0#8]
          | .passes => [byteOf s.resolver.queue.length, (s.resolver.queue.map (·.tag)).headD 0xFF#8]
          | .race => [byteOf s.race.state.number, 0#8]
          | .overrun | .penalty | .test => [0#8, 0#8])
    ∧ t.raised c = !(c == .suspended || c == .race || c == .test))
  ∧ (∀ (s : State),
    (∀ d ∈ allCauses, (s.raised d && s.attention.mask.getLsbD (d.priority - 1)) = false) →
    ∃ t, exec .readAttention s = .next t
    ∧ t = { s with link := s.replied (Answer.okWith [0#8, 0#8, 0#8, 0#8]), pins := t.pinsNow })
  ∧ (∀ (mask : Word16) (s : State),
    ∃ t, exec (.setMask mask) s = .next t
    ∧ t = { s with attention := { s.attention with mask := BitVec.ofNat 9 mask.toNat }, link := s.replied .okay, pins := t.pinsNow })
  ∧ (∀ (c : Instr) (s : State),
    ∃ t, exec c s = .next t
    ∧ (t.pins.atn = true ↔ ∃ d ∈ allCauses, t.raised d = true ∧ t.attention.mask.getLsbD (d.priority - 1) = true)
    ∧ (powersOn c = false → (∀ m : Word16, c ≠ .setMask m) → (∀ b : Byte, c ≠ .commandFrame b) →
        t.attention.mask = s.attention.mask)
    ∧ (∀ straps pins, c = .powerUp straps pins ∨ c = .resetPin straps pins → t.attention.mask = 0 ∧ t.pins.atn = false))
  ∧ (∀ (s : State),
    ∃ t, exec .readPenaltyActivity s = .next t
    ∧ t = { s with
        entrants := t.entrants
        link := s.replied (Answer.okWith
          (byteOf (allSlots.filter fun i => (s.entrant i).activity).length
            :: (allSlots.filter fun i => (s.entrant i).activity).map fun i => byteOf i.val))
        pins := t.pinsNow }
    ∧ (∀ i : Slot, t.entrant i = { s.entrant i with activity := false })
    ∧ t.raised .penalty = false)
  ∧ (∀ (s : State),
    s.raised .penalty = true ↔ ∃ i : Slot, (s.entrant i).activity = true)

/-- O46. The latch copies the inputs at an edge while Free and is freed by ACK_STATIONS (10 R167, 10 R168, 10 R169,
10 R170, 11 R182). That the commands of the inputs show a level, which the part debounces, is log entry 10. -/
def Obligations.LatchTakesEdgesAndAcknowledgement : Prop :=
  (∀ (live : InputLevels) (l : InputLatch),
    (l.latch = .held → l.edge live = { l with live := live })
    ∧ (l.latch = .free ∧ live = l.snapshot → l.edge live = { l with live := live })
    ∧ (l.latch = .free ∧ live ≠ l.snapshot → l.edge live = { l with live := live, latch := .held, snapshot := live }))
  ∧ (∀ (s : State),
    ∃ t, exec .ackStations s = .next t
    ∧ t = { s with
        inputs := t.inputs, pins := t.pinsNow
        link := s.replied (Answer.okWith (byteOf t.inputs.latch.number :: word16 t.inputs.snapshot.number)) }
    ∧ (s.inputs.latch = .free → t.inputs = s.inputs)
    ∧ (s.inputs.latch = .held ∧ s.inputs.live = s.inputs.snapshot → t.inputs = { s.inputs with latch := .free })
    ∧ (s.inputs.latch = .held ∧ s.inputs.live ≠ s.inputs.snapshot →
        t.inputs = { s.inputs with snapshot := s.inputs.live }))
  ∧ (∀ (n : StationNo) (r : RawTime) (s : State),
    s.inputs.live.pressed[n] = true →
    s.inputs.pressedSince[n] = some r →
    200 ≤ s.since r →
    ∃ t, exec (.stationRelease n) s = .next t
    ∧ t = { s with
        inputs := { s.inputs.edge { s.inputs.live with pressed := s.inputs.live.pressed.set n.val false } with
          pressedSince := s.inputs.pressedSince.set n.val none }
        pins := t.pinsNow })
  ∧ (∀ (r : RawTime) (s : State),
    s.inputs.live.redHeld = true →
    s.inputs.redSince = some r →
    200 ≤ s.since r →
    ∃ t, exec .redRelease s = .next t
    ∧ t = { s with
        inputs := { s.inputs.edge { s.inputs.live with redHeld := false } with redSince := none }, pins := t.pinsNow })
  ∧ (∀ (r : RawTime) (s : State),
    s.inputs.live.powerAbsent = true →
    s.inputs.powerSince = some r →
    200 ≤ s.since r →
    ∃ t, exec .powerSenseRestore s = .next t
    ∧ t = { s with
        inputs := { s.inputs.edge { s.inputs.live with powerAbsent := false } with powerSince := none }
        pins := t.pinsNow })
  ∧ (∀ (r : RawTime) (s : State),
    s.inputs.blindSince = some r →
    200 ≤ s.since r →
    ∃ t, exec .blindedSummaryEdge s = .next t
    ∧ t = { s with
        inputs := { s.inputs.edge { s.inputs.live with
          gateBlind := decide (∃ g : GateNo, (s.gate g).decoder.state = .blind) } with blindSince := none }
        pins := t.pinsNow })
  ∧ (∀ (straps : BitVec 5) (pins : PinLevels) (s : State),
    (s.raised .station = true ↔ s.inputs.latch = .held)
    ∧ (∃ t, exec (.powerUp straps pins) s = .next t ∧ t.inputs.latch = .free ∧ t.inputs.snapshot = t.inputs.live)
    ∧ (∃ t, exec .resetRace s = .next t
        ∧ t.inputs.latch = s.inputs.latch ∧ t.inputs.snapshot = s.inputs.snapshot ∧ t.inputs.live = s.inputs.live)
    ∧ bodyAt s.statusBody 15 3 = byteOf s.inputs.latch.number :: word16 s.inputs.snapshot.number)

/-- O47. STATION_PRESS is debounced and latched, takes the call action, and counts against its entrant (10 R167, 10
R170, 07 R133, 07 R134, 07 R126, 07 R130). That the commands of a station show a level, which the part debounces, is
log entry 10. -/
def Obligations.StationPressActsAndCounts : Prop :=
  (∀ (n : StationNo) (r : RawTime) (s : State),
    s.inputs.live.pressed[n] = false →
    s.inputs.pressedSince[n] = some r →
    200 ≤ s.since r →
    s.race.state ≠ .running →
    s.race.state ≠ .finishing →
    ∃ t, exec (.stationPress n) s = .next t
    ∧ t = { s with inputs := { s.inputs.edge { s.inputs.live with pressed := s.inputs.live.pressed.set n.val true } with
          pressedSince := s.inputs.pressedSince.set n.val none }, pins := t.pinsNow })
  ∧ (∀ (n : StationNo) (r : RawTime) (s : State),
    s.inputs.live.pressed[n] = false →
    s.inputs.pressedSince[n] = some r →
    200 ≤ s.since r →
    s.race.state = .running ∨ s.race.state = .finishing →
    s.cfg.callAction = .report →
    (∀ j : Slot, (s.entrant j).state ≠ .vacant → (s.entrant j).station ≠ some n) →
    ∃ t, exec (.stationPress n) s = .next t
    ∧ t = { s with inputs := { s.inputs.edge { s.inputs.live with pressed := s.inputs.live.pressed.set n.val true } with
          pressedSince := s.inputs.pressedSince.set n.val none }, pins := t.pinsNow })
  ∧ (∀ (n : StationNo) (i : Slot) (r : RawTime) (s : State),
    s.inputs.live.pressed[n] = false →
    s.inputs.pressedSince[n] = some r →
    200 ≤ s.since r →
    s.race.state = .running ∨ s.race.state = .finishing →
    s.cfg.callAction = .report →
    s.slotOfStation n = some i →
    (s.entrant i).state = .racing →
    s.cfg.callLimit = 0 ∨ (s.entrant i).callsUsed < s.cfg.callLimit ∨ s.callTable[4] = none →
    ∃ t, exec (.stationPress n) s = .next t
    ∧ t = { s with
        entrants := s.entrants.set i.val { s.entrant i with callsUsed := min 15 ((s.entrant i).callsUsed + 1) }
        inputs := { s.inputs.edge { s.inputs.live with pressed := s.inputs.live.pressed.set n.val true } with
          pressedSince := s.inputs.pressedSince.set n.val none }
        pins := t.pinsNow })
  ∧ (∀ (n : StationNo) (i : Slot) (r : RawTime) (s : State),
    s.inputs.live.pressed[n] = false →
    s.inputs.pressedSince[n] = some r →
    200 ≤ s.since r →
    s.race.state = .running ∨ s.race.state = .finishing →
    s.cfg.callAction = .report →
    s.slotOfStation n = some i →
    (s.entrant i).state = .racing →
    s.cfg.callLimit ≠ 0 →
    s.cfg.callLimit ≤ (s.entrant i).callsUsed →
    s.callTable[4] = some .blackFlag →
    ∃ t, exec (.stationPress n) s = .next t
    ∧ t = { s with
        entrants := s.entrants.set i.val { s.entrant i with
          callsUsed := min 15 ((s.entrant i).callsUsed + 1), blackFlag := true, activity := true
          effective := t.effectiveFor (t.entrant i) }
        ceiling := { s.ceiling with
          dirty := s.ceiling.dirty.set i.val
            (DirtyClass.mark (s.entrant i).effective (t.entrant i).effective (s.dirtyOf i)) }
        inputs := { s.inputs.edge { s.inputs.live with pressed := s.inputs.live.pressed.set n.val true } with
          pressedSince := s.inputs.pressedSince.set n.val none }
        pins := t.pinsNow })
  ∧ (∀ (n : StationNo) (i : Slot) (r : RawTime) (s : State),
    s.inputs.live.pressed[n] = false →
    s.inputs.pressedSince[n] = some r →
    200 ≤ s.since r →
    s.race.state = .running ∨ s.race.state = .finishing →
    s.cfg.callAction = .report →
    s.slotOfStation n = some i →
    (s.entrant i).state ≠ .racing →
    ∃ t, exec (.stationPress n) s = .next t
    ∧ t = { s with inputs := { s.inputs.edge { s.inputs.live with pressed := s.inputs.live.pressed.set n.val true } with
          pressedSince := s.inputs.pressedSince.set n.val none }, pins := t.pinsNow })
  ∧ (∀ (n : StationNo) (r : RawTime) (s : State),
    s.inputs.live.pressed[n] = false →
    s.inputs.pressedSince[n] = some r →
    200 ≤ s.since r →
    s.race.state = .running ∨ s.race.state = .finishing →
    s.cfg.callAction = .caution →
    (∀ j : Slot, (s.entrant j).state = .racing → (s.entrant j).station ≠ some n) →
    s.race.yellow = false →
    ∃ t, exec (.stationPress n) s = .next t
    ∧ t = { s with
        race := { s.race with yellow := true }
        entrants := t.entrants, ceiling := { s.ceiling with dirty := t.ceiling.dirty }
        inputs := { s.inputs.edge { s.inputs.live with pressed := s.inputs.live.pressed.set n.val true } with
          pressedSince := s.inputs.pressedSince.set n.val none }
        pins := t.pinsNow }
    ∧ (∀ i : Slot, t.entrant i = ({ s.entrant i with
        lapCaution := (s.entrant i).lapCaution || (s.entrant i).state == .racing } : Entrant).recomputedIn t)
    ∧ t.markedFrom s)
  ∧ (∀ (n : StationNo) (back : ResumeTo) (r : RawTime) (s : State),
    s.inputs.live.pressed[n] = false →
    s.inputs.pressedSince[n] = some r →
    200 ≤ s.since r →
    s.race.state = back.race →
    s.cfg.callAction = .suspend →
    (∀ j : Slot, (s.entrant j).state = .racing → (s.entrant j).station ≠ some n) →
    ∃ t, exec (.stationPress n) s = .next t
    ∧ t.suspendedFrom s back .station ∧ t.link = s.link
    ∧ t.inputs = { s.inputs.edge { s.inputs.live with pressed := s.inputs.live.pressed.set n.val true } with
          pressedSince := s.inputs.pressedSince.set n.val none })
  ∧ (∀ (n : StationNo) (down : Bool) (d : Option RawTime) (s : State),
    s.debounce s.inputs.live.pressed[n] down s.inputs.pressedSince[n] = .keeps d →
    ∃ t, exec (if down then .stationPress n else .stationRelease n) s = .next t
    ∧ t = { s with inputs := { s.inputs with pressedSince := s.inputs.pressedSince.set n.val d }, pins := t.pinsNow })
  ∧ (∀ (n : StationNo) (r : RawTime) (s : State),
    s.inputs.live.pressed[n] = false →
    s.inputs.pressedSince[n] = some r →
    200 ≤ s.since r →
    s.race.state = .running ∨ s.race.state = .finishing →
    s.cfg.callAction = .caution →
    (∀ j : Slot, (s.entrant j).state = .racing → (s.entrant j).station ≠ some n) →
    s.race.yellow = true →
    ∃ t, exec (.stationPress n) s = .next t
    ∧ t = { s with inputs := { s.inputs.edge { s.inputs.live with pressed := s.inputs.live.pressed.set n.val true } with
          pressedSince := s.inputs.pressedSince.set n.val none }, pins := t.pinsNow })
  ∧ (∀ (n : StationNo) (i : Slot) (r : RawTime) (s : State),
    s.inputs.live.pressed[n] = false →
    s.inputs.pressedSince[n] = some r →
    200 ≤ s.since r →
    s.race.state = .running ∨ s.race.state = .finishing →
    s.cfg.callAction = .report →
    s.slotOfStation n = some i →
    (s.entrant i).state = .racing →
    s.cfg.callLimit ≠ 0 ∧ s.cfg.callLimit ≤ (s.entrant i).callsUsed →
    ∃ t, exec (.stationPress n) s = .next t
    ∧ t = { (State.report { s with
        entrants := s.entrants.set i.val { s.entrant i with callsUsed := min 15 ((s.entrant i).callsUsed + 1) }
        inputs := { s.inputs.edge { s.inputs.live with pressed := s.inputs.live.pressed.set n.val true } with
          pressedSince := s.inputs.pressedSince.set n.val none } } i .callLimit) with pins := t.pinsNow })
  ∧ (∀ (n : StationNo) (i : Slot) (r : RawTime) (s : State),
    s.inputs.live.pressed[n] = false →
    s.inputs.pressedSince[n] = some r →
    200 ≤ s.since r →
    s.race.state = .running ∨ s.race.state = .finishing →
    s.cfg.callAction = .caution →
    s.slotOfStation n = some i →
    (s.entrant i).state = .racing →
    ∃ u, exec (.yellow 1#8) { s with inputs := { s.inputs.edge { s.inputs.live with pressed := s.inputs.live.pressed.set n.val true } with
          pressedSince := s.inputs.pressedSince.set n.val none } } = .next u
    ∧ ∃ t, exec (.stationPress n) s = .next t
    ∧ (if s.cfg.callLimit ≠ 0 ∧ s.cfg.callLimit ≤ (s.entrant i).callsUsed then t = { (State.report { u with
        entrants := u.entrants.set i.val { u.entrant i with callsUsed := min 15 ((s.entrant i).callsUsed + 1) }
        link := s.link } i .callLimit) with pins := t.pinsNow }
      else t = { { u with
        entrants := u.entrants.set i.val { u.entrant i with callsUsed := min 15 ((s.entrant i).callsUsed + 1) }
        link := s.link } with pins := t.pinsNow }))
  ∧ (∀ (n : StationNo) (i : Slot) (r : RawTime) (s : State),
    s.inputs.live.pressed[n] = false →
    s.inputs.pressedSince[n] = some r →
    200 ≤ s.since r →
    s.race.state = .running ∨ s.race.state = .finishing →
    s.cfg.callAction = .suspend →
    s.slotOfStation n = some i →
    (s.entrant i).state = .racing →
    ∃ u, exec .suspend { s with inputs := { s.inputs.edge { s.inputs.live with pressed := s.inputs.live.pressed.set n.val true } with
          pressedSince := s.inputs.pressedSince.set n.val none } } = .next u
    ∧ ∃ t, exec (.stationPress n) s = .next t
    ∧ (if s.cfg.callLimit ≠ 0 ∧ s.cfg.callLimit ≤ (s.entrant i).callsUsed then t = { (State.report { u with
        entrants := u.entrants.set i.val { u.entrant i with callsUsed := min 15 ((s.entrant i).callsUsed + 1) }
        attention := { u.attention with suspended := some .station }, link := s.link } i .callLimit) with pins := t.pinsNow }
      else t = { { u with
        entrants := u.entrants.set i.val { u.entrant i with callsUsed := min 15 ((s.entrant i).callsUsed + 1) }
        attention := { u.attention with suspended := some .station }, link := s.link } with pins := t.pinsNow }))

/-- O48. GATE_CELL, GATE_BLIND and GATE_UNBLIND move one decoder as sections 1.1 and 1.2 lay down (01 R1, 01 R2, 01
R3, 01 R4, 01 R5, 01 R10, 01 R16, 01 R17, 01 R19, 01 R20). The model's own: the feed of a cell (log entry 10), the
cells the generator has due by a tick (log entry 1), and that a cell not due changes nothing (log entry 3). -/
def Obligations.GateCellsMoveDecoders : Prop :=
  (∀ (g : GateNo) (lvl : Level) (s : State),
    (s.gate g).entry.kind ≠ .unused →
    (s.gate g).fed = none →
    (s.gate g).decoder.waiting = false ∨ (lvl = .mark ∧ (s.gate g).line = .space) →
    (s.gate g).decoder.state = .hunt →
    (runAfter (s.gate g).decoder.run lvl).length < 16 ∨ lvl = .space →
    ∃ t, exec (.gateCell ⟨g, .line⟩ lvl) s = .next t
    ∧ t = { s with
        gates := s.gates.set g.val { s.gate g with
          line := lvl
          decoder := { (s.gate g).decoder with
            run := some (runAfter (s.gate g).decoder.run lvl), waiting := false
            state := if lvl = .space ∧ (s.gate g).decoder.run =
                some { level := .mark, length := 3 } then .assemble else .hunt
            frame := if lvl = .space ∧ (s.gate g).decoder.run = some { level := .mark, length := 3 } then []
              else (s.gate g).decoder.frame } }
        pins := t.pinsNow })
  ∧ (∀ (g : GateNo) (lvl : Level) (s : State),
    (s.gate g).entry.kind ≠ .unused →
    (s.gate g).fed = none →
    (s.gate g).decoder.waiting = false ∨ (lvl = .mark ∧ (s.gate g).line = .space) →
    (s.gate g).decoder.state = .assemble →
    (s.gate g).decoder.frame.length < 7 →
    (runAfter (s.gate g).decoder.run lvl).length < 16 ∨ lvl = .space →
    ∃ t, exec (.gateCell ⟨g, .line⟩ lvl) s = .next t
    ∧ t = { s with
        gates := s.gates.set g.val { s.gate g with
          line := lvl
          decoder := { (s.gate g).decoder with
            run := some (runAfter (s.gate g).decoder.run lvl), waiting := false, frame := (s.gate g).decoder.frame ++ [lvl] } }
        pins := t.pinsNow })
  ∧ (∀ (g : GateNo) (lvl : Level) (s : State),
    (s.gate g).entry.kind ≠ .unused →
    (s.gate g).fed = none →
    (s.gate g).decoder.waiting = false ∨ (lvl = .mark ∧ (s.gate g).line = .space) →
    (s.gate g).decoder.state = .blind →
    (runAfter (s.gate g).decoder.run lvl).length < 4 ∨ lvl = .mark →
    ∃ t, exec (.gateCell ⟨g, .line⟩ lvl) s = .next t
    ∧ t = { s with
        gates := s.gates.set g.val { s.gate g with
          line := lvl, decoder := { (s.gate g).decoder with run := some (runAfter (s.gate g).decoder.run lvl), waiting := false } }
        pins := t.pinsNow })
  ∧ (∀ (lvl : Level) (r : Run),
    runAfter none lvl = { level := lvl, length := 1 }
    ∧ runAfter (some r) lvl = { level := lvl, length := if r.level = lvl then r.length + 1 else 1 })
  ∧ (∀ (g : GateNo) (s : State),
    (s.gate g).entry.kind ≠ .unused →
    (s.gate g).fed = none →
    (s.gate g).decoder.waiting = false ∨ (s.gate g).line = .space →
    (s.gate g).decoder.state ≠ .blind →
    (s.gate g).decoder.run = some { level := .mark, length := 15 } →
    (s.gate g).decoder.burst = none →
    ∃ t, exec (.gateBlind ⟨g, .line⟩) s = .next t
    ∧ t = { s with
        gates := s.gates.set g.val { s.gate g with
          line := .mark
          decoder := {
            state := .blind, run := some { level := .mark, length := 16 }, frame := [], burst := none, waiting := false } }
        inputs := { s.inputs with
          blindSince := if s.inputs.live.gateBlind then none else some (s.inputs.blindSince.getD s.race.raceClock) }
        pins := t.pinsNow })
  ∧ (∀ (g : GateNo) (b : Tally) (s : State),
    (s.gate g).entry.kind ≠ .box →
    (s.gate g).entry.kind ≠ .unused →
    (s.gate g).fed = none →
    (s.gate g).decoder.waiting = false ∨ (s.gate g).line = .space →
    (s.gate g).decoder.state ≠ .blind →
    (s.gate g).decoder.run = some { level := .mark, length := 15 } →
    (s.gate g).decoder.burst = some b →
    ∃ t, exec (.gateBlind ⟨g, .line⟩) s = .next t
    ∧ t = { (State.takeTally { s with
        gates := s.gates.set g.val { s.gate g with
          line := .mark
          decoder := {
            state := .blind, run := some { level := .mark, length := 16 }, frame := [], burst := none, waiting := false } }
        inputs := { s.inputs with
          blindSince := if s.inputs.live.gateBlind then none else some (s.inputs.blindSince.getD s.race.raceClock) } }
        g b) with pins := t.pinsNow })
  ∧ (∀ (g : GateNo) (s : State),
    (s.gate g).entry.kind ≠ .unused →
    (s.gate g).fed = none →
    (s.gate g).decoder.waiting = false →
    (s.gate g).decoder.state = .blind →
    (s.gate g).decoder.run = some { level := .space, length := 3 } →
    ∃ t, exec (.gateUnblind ⟨g, .line⟩) s = .next t
    ∧ t = { s with
        gates := s.gates.set g.val { s.gate g with
          line := .space
          decoder := { (s.gate g).decoder with state := .hunt, run := some { level := .space, length := 4 } } }
        inputs := { s.inputs with
          blindSince := if s.inputs.live.gateBlind = decide (∃ h : GateNo, (t.gate h).decoder.state = .blind) then none
            else some (s.inputs.blindSince.getD s.race.raceClock) }
        pins := t.pinsNow })
  ∧ (∀ (g : GateNo) (lvl : Level) (s : State),
    (s.gate g).entry.kind = .unused ∨ (s.gate g).fed ≠ none →
    s.unmovedBy (.beaconFrame ⟨g, .line⟩ lvl) ∧ s.unmovedBy (.gateBlind ⟨g, .line⟩)
        ∧ s.unmovedBy (.gateUnblind ⟨g, .line⟩))
  ∧ (∀ (g : GateNo) (lvl : Level) (s : State),
    (s.gate g).entry.kind = .unused ∨ (s.gate g).fed ≠ none
      ∨ ((s.gate g).decoder.waiting = true ∧ (lvl = .space ∨ (s.gate g).line = .mark)) →
    ∃ t, exec (.gateCell ⟨g, .line⟩ lvl) s = .next t
    ∧ t = { s with gates := s.gates.set g.val { s.gate g with line := lvl }, pins := t.pinsNow })
  ∧ (∀ (n : Nat),
    generatorCell n = (if 996 ≤ n ∨ n % 12 = 3 ∨ n % 12 = 11 then .space else .mark))
  ∧ (∀ (g : GateNo) (lvl : Level) (n : Nat) (r : RawTime) (s : State),
    (s.gate g).fed = some n →
    s.testStart = some r →
    n < 5 * s.since r + 4 →
    (s.gate g).entry.kind ≠ .unused →
    (s.gate g).decoder.waiting = false →
    generatorCell n = lvl →
    ((s.gate g).decoder.state = .hunt ∧ ((runAfter (s.gate g).decoder.run lvl).length < 16 ∨ lvl = .space))
      ∨ ((s.gate g).decoder.state = .assemble ∧ (s.gate g).decoder.frame.length < 7
          ∧ ((runAfter (s.gate g).decoder.run lvl).length < 16 ∨ lvl = .space))
      ∨ ((s.gate g).decoder.state = .blind ∧ ((runAfter (s.gate g).decoder.run lvl).length < 4 ∨ lvl = .mark)) →
    ∃ u, exec (.gateCell ⟨g, .line⟩ lvl) { s with gates := s.gates.set g.val { s.gate g with fed := none } } = .next u
    ∧ ∃ t, exec (.gateCell ⟨g, .generator⟩ lvl) s = .next t
    ∧ t = { u with
        gates := u.gates.set g.val { u.gate g with fed := some (n + 1), line := (s.gate g).line }, pins := t.pinsNow })
  ∧ (∀ (g : GateNo) (b : Tally) (s : State),
    (s.gate g).entry.kind = .box →
    (s.gate g).entry.kind ≠ .unused →
    (s.gate g).fed = none →
    (s.gate g).decoder.waiting = false ∨ (s.gate g).line = .space →
    (s.gate g).decoder.state ≠ .blind →
    (s.gate g).decoder.run = some { level := .mark, length := 15 } →
    (s.gate g).decoder.burst = some b →
    ∃ t, exec (.gateBlind ⟨g, .line⟩) s = .next t
    ∧ t = { (((b.entries.filter fun e => e.arrived).foldl (fun (u : State)
    (e : CodeEntry) => u.boxReport false g e.code b.last) { s with
        gates := s.gates.set g.val { s.gate g with
          line := .mark
          decoder := {
            state := .blind, run := some { level := .mark, length := 16 }, frame := [], burst := none, waiting := false } }
        inputs := { s.inputs with
          blindSince := if s.inputs.live.gateBlind then none else some (s.inputs.blindSince.getD s.race.raceClock) } }).takeTally g b) with pins := t.pinsNow })
  ∧ (∀ (g : GateNo) (n : Nat) (r : RawTime) (s : State),
    (s.gate g).fed = some n →
    s.testStart = some r →
    n < 5 * s.since r + 4 →
    (s.gate g).entry.kind ≠ .unused →
    (s.gate g).decoder.waiting = false →
    generatorCell n = .mark →
    (s.gate g).decoder.state ≠ .blind →
    (s.gate g).decoder.run = some { level := .mark, length := 15 } →
    (s.gate g).decoder.burst = none →
    ∃ u, exec (.gateBlind ⟨g, .line⟩) { s with gates := s.gates.set g.val { s.gate g with fed := none } } = .next u
    ∧ ∃ t, exec (.gateBlind ⟨g, .generator⟩) s = .next t
    ∧ t = { u with
        gates := u.gates.set g.val { u.gate g with fed := some (n + 1), line := (s.gate g).line }, pins := t.pinsNow })
  ∧ (∀ (g : GateNo) (n : Nat) (r : RawTime) (s : State),
    (s.gate g).fed = some n →
    s.testStart = some r →
    n < 5 * s.since r + 4 →
    (s.gate g).entry.kind ≠ .unused →
    (s.gate g).decoder.waiting = false →
    generatorCell n = .space →
    (s.gate g).decoder.state = .blind →
    (s.gate g).decoder.run = some { level := .space, length := 3 } →
    ∃ u, exec (.gateUnblind ⟨g, .line⟩) { s with gates := s.gates.set g.val { s.gate g with fed := none } } = .next u
    ∧ ∃ t, exec (.gateUnblind ⟨g, .generator⟩) s = .next t
    ∧ t = { u with
        gates := u.gates.set g.val { u.gate g with fed := some (n + 1), line := (s.gate g).line }, pins := t.pinsNow })
  ∧ (∀ (g : GateNo) (lvl : Level) (s : State),
    (∀ n ∈ (s.gate g).fed.toList, ∀ r ∈ s.testStart.toList, 5 * s.since r + 4 ≤ n ∨ generatorCell n ≠ lvl) →
    s.unmovedBy (.gateCell ⟨g, .generator⟩ lvl) ∧ s.unmovedBy (.beaconFrame ⟨g, .generator⟩ lvl)
    ∧ (lvl = .mark → s.unmovedBy (.gateBlind ⟨g, .generator⟩))
    ∧ (lvl = .space → s.unmovedBy (.gateUnblind ⟨g, .generator⟩)))

/-- O49. BEACON_FRAME judges the frame and tallies it in the gate's burst (01 R1, 01 R4, 01 R11, 01 R12, 01 R13, 01
R18, 01 R20, 01 R21, 02 R30). The model's own: the feed of a cell (log entry 10), and the cells the generator has due
by a tick (log entry 1). -/
def Obligations.BeaconFramesJoinBursts : Prop :=
  (∀ (g : GateNo) (lvl : Level) (s : State),
    (s.gate g).entry.kind ≠ .unused →
    (s.gate g).fed = none →
    (s.gate g).decoder.waiting = false →
    (s.gate g).decoder.state = .assemble →
    (s.gate g).decoder.frame.length = 7 →
    (runAfter (s.gate g).decoder.run lvl).length < 16 ∨ lvl = .space →
    (s.gate g).entry.kind ≠ .box →
    ∃ t, exec (.beaconFrame ⟨g, .line⟩ lvl) s = .next t
    ∧ t = { { s with
        gates := s.gates.set g.val { s.gate g with
          line := lvl
          decoder := {
            state := .hunt, run := some (runAfter (s.gate g).decoder.run lvl), frame := [], waiting := false
            burst := some ((((s.gate g).decoder.burst).getD
            { entries := [], invalid := 0, first := s.race.raceClock, last := s.race.raceClock, excess := false, dwell := false }).add
            (judgeFrame (s.gate g).decoder.frame lvl false) s.race.raceClock) } } } with pins := t.pinsNow })
  ∧ (∀ (g : GateNo) (lvl : Level) (code : Nat) (b : Tally) (s : State),
    (s.gate g).entry.kind ≠ .unused →
    (s.gate g).fed = none →
    (s.gate g).decoder.waiting = false →
    (s.gate g).decoder.state = .assemble →
    (s.gate g).decoder.frame.length = 7 →
    (runAfter (s.gate g).decoder.run lvl).length < 16 ∨ lvl = .space →
    (s.gate g).entry.kind = .box →
    judgeFrame (s.gate g).decoder.frame lvl false = some code →
    (((s.gate g).decoder.burst).getD
            { entries := [], invalid := 0, first := s.race.raceClock, last := s.race.raceClock, excess := false, dwell := false }).add
            (judgeFrame (s.gate g).decoder.frame lvl false) s.race.raceClock = b →
    (∃ e ∈ b.entries, e.code = code ∧ e.arrived = false ∧ s.cfg.voteMinimum ≤ e.count) →
    ∃ t, exec (.beaconFrame ⟨g, .line⟩ lvl) s = .next t
    ∧ t = { (State.boxReport { s with
        gates := s.gates.set g.val { s.gate g with
          line := lvl
          decoder := {
            state := .hunt, run := some (runAfter (s.gate g).decoder.run lvl), frame := [], waiting := false
            burst := some ({ b with entries := b.entries.map fun e => if e.code =
                code then { e with arrived := true } else e }) } } }
        true g code s.race.raceClock) with pins := t.pinsNow })
  ∧ (∀ (g : GateNo) (lvl : Level) (n : Nat) (r : RawTime) (s : State),
    (s.gate g).fed = some n →
    s.testStart = some r →
    n < 5 * s.since r + 4 →
    (s.gate g).entry.kind ≠ .unused →
    (s.gate g).decoder.waiting = false →
    generatorCell n = lvl →
    (s.gate g).decoder.state = .assemble →
    (s.gate g).decoder.frame.length = 7 →
    (runAfter (s.gate g).decoder.run lvl).length < 16 ∨ lvl = .space →
    (s.gate g).entry.kind ≠ .box →
    ∃ t, exec (.beaconFrame ⟨g, .generator⟩ lvl) s = .next t
    ∧ t = { { s with
        gates := s.gates.set g.val { s.gate g with
          fed := some (n + 1)
          decoder := {
            state := .hunt, run := some (runAfter (s.gate g).decoder.run lvl), frame := [], waiting := false
            burst := some ((((s.gate g).decoder.burst).getD
            { entries := [], invalid := 0, first := s.race.raceClock, last := s.race.raceClock, excess := false, dwell := false }).add
            (judgeFrame (s.gate g).decoder.frame lvl true) s.race.raceClock) } } } with pins := t.pinsNow })
  ∧ (∀ (a b c d e f p endCell : Level) (underTest : Bool),
    judgeFrame [a, b, c, d, e, f, p] endCell underTest =
        (if endCell = .mark then none
        else if ([a, b, c, d, e, f, p].count .mark) % 2 = 0 then none
        else if [a, b, c, d, e, f] = List.replicate 6 .space then none
        else if [a, b, c, d, e, f] = List.replicate 6 .mark ∧ underTest = false then none
        else some (32 * levelBit a + 16 * levelBit b + 8 * levelBit c + 4 * levelBit d + 2 * levelBit e + levelBit f)))
  ∧ (∀ (b : Tally) (now : RawTime),
    b.add none now = { b with invalid := min 255 (b.invalid + 1), last := now })
  ∧ (∀ (b : Tally) (code : Nat) (now : RawTime),
    ((∃ e ∈ b.entries, e.code = code) → b.add (some code) now = { b with
        last := now
        entries := b.entries.map fun e =>
          if e.code = code then { e with count := min 255 (e.count + 1), last := now } else e })
    ∧ ((∀ e ∈ b.entries, e.code ≠ code) → b.entries.length < 4 → b.add (some code) now = { b with
        last := now
        entries := b.entries ++ [{ code := code, count := 1, first := now, last := now, arrived := false }] })
    ∧ ((∀ e ∈ b.entries, e.code ≠ code) → 4 ≤ b.entries.length →
        b.add (some code) now = { b with last := now, excess := true }))
  ∧ (∀ (arrival : Bool) (g : GateNo) (code : Nat) (time : RawTime) (i : Slot) (s : State),
    (s.slotOfCode code = none → s.boxReport arrival g code time = s)
    ∧ (s.slotOfCode code = some i → s.boxReport arrival g code time =
        s.deliverBox arrival i (s.runningOf (time + BitVec.ofInt 32 ((s.gate g).entry.offset.getD 0)))))
  ∧ (∀ (g : GateNo) (lvl : Level) (b : Tally) (s : State),
    (s.gate g).entry.kind ≠ .unused →
    (s.gate g).fed = none →
    (s.gate g).decoder.waiting = false →
    (s.gate g).decoder.state = .assemble →
    (s.gate g).decoder.frame.length = 7 →
    (runAfter (s.gate g).decoder.run lvl).length < 16 ∨ lvl = .space →
    (s.gate g).entry.kind = .box →
    (((s.gate g).decoder.burst).getD
            { entries := [], invalid := 0, first := s.race.raceClock, last := s.race.raceClock, excess := false, dwell := false }).add
            (judgeFrame (s.gate g).decoder.frame lvl false) s.race.raceClock = b →
    (∀ code ∈ (judgeFrame (s.gate g).decoder.frame lvl false).toList, ∀ e ∈ b.entries,
        e.code = code → e.arrived = true ∨ e.count < s.cfg.voteMinimum) →
    ∃ t, exec (.beaconFrame ⟨g, .line⟩ lvl) s = .next t
    ∧ t = { { s with
        gates := s.gates.set g.val { s.gate g with
          line := lvl
          decoder := {
            state := .hunt, run := some (runAfter (s.gate g).decoder.run lvl), frame := [], waiting := false
            burst := some (b) } } } with pins := t.pinsNow })
  ∧ (∀ (g : GateNo) (lvl : Level) (n : Nat) (r : RawTime) (b : Tally) (s : State),
    (s.gate g).fed = some n →
    s.testStart = some r →
    n < 5 * s.since r + 4 →
    (s.gate g).entry.kind ≠ .unused →
    (s.gate g).decoder.waiting = false →
    generatorCell n = lvl →
    (s.gate g).decoder.state = .assemble →
    (s.gate g).decoder.frame.length = 7 →
    (runAfter (s.gate g).decoder.run lvl).length < 16 ∨ lvl = .space →
    (s.gate g).entry.kind = .box →
    (((s.gate g).decoder.burst).getD
            { entries := [], invalid := 0, first := s.race.raceClock, last := s.race.raceClock, excess := false, dwell := false }).add
            (judgeFrame (s.gate g).decoder.frame lvl true) s.race.raceClock = b →
    ∃ t, exec (.beaconFrame ⟨g, .generator⟩ lvl) s = .next t
    ∧ t = { { s with
        gates := s.gates.set g.val { s.gate g with
          fed := some (n + 1)
          decoder := {
            state := .hunt, run := some (runAfter (s.gate g).decoder.run lvl), frame := [], waiting := false
            burst := some ({ b with
            entries := b.entries.map fun (e : CodeEntry) =>
              if judgeFrame (s.gate g).decoder.frame lvl true = some e.code
                ∧ ∃ x ∈ b.entries, x.code = e.code ∧ x.arrived = false ∧ s.cfg.voteMinimum ≤ x.count then
                { e with arrived := true }
              else e }) } } } with pins := t.pinsNow })

/-- O50. BURST_GAP_EXPIRY and BURST_DWELL_EXPIRY close a burst and hand on its tally (01 R14, 01 R15, 01 R17, 01 R19,
01 R21). That an expiry not yet due changes nothing is the model's reading, log entry 3. -/
def Obligations.BurstExpiriesCloseBursts : Prop :=
  (∀ (g : GateNo) (b : Tally) (s : State),
    (s.gate g).decoder.burst = some b →
    s.cfg.burstGap ≤ s.since b.last →
    (s.gate g).fed = none →
    (s.gate g).entry.kind ≠ .box →
    ∃ t, exec (.burstGapExpiry g) s = .next t
        ∧ t = { (s.modDecoder g fun d => { d with burst := none }).takeTally g b with pins := t.pinsNow })
  ∧ (∀ (g : GateNo) (b : Tally) (s : State),
    (s.gate g).decoder.burst = some b →
    s.cfg.burstGap ≤ s.since b.last →
    (s.gate g).fed = none →
    (s.gate g).entry.kind = .box →
    ∃ t, exec (.burstGapExpiry g) s = .next t
    ∧ t = { (((b.entries.filter fun e => e.arrived).foldl (fun u e => u.boxReport false g e.code b.last)
        (s.modDecoder g fun d => { d with burst := none })).takeTally g b) with pins := t.pinsNow })
  ∧ (∀ (g : GateNo) (b : Tally) (s : State),
    (s.gate g).decoder.burst = some b →
    s.cfg.dwellLimit ≤ s.since b.first →
    (s.gate g).fed = none →
    (s.gate g).entry.kind ≠ .box →
    ∃ t, exec (.burstDwellExpiry g) s = .next t
        ∧ t = { (s.modDecoder g fun d => { d with burst := none }).takeTally g { b with dwell := true } with pins := t.pinsNow })
  ∧ (∀ (g : GateNo) (b : Tally) (c : Instr) (s : State),
    (c = .burstGapExpiry g ∧ s.cfg.burstGap ≤ s.since b.last)
      ∨ (c = .burstDwellExpiry g ∧ s.cfg.dwellLimit ≤ s.since b.first ∧ (s.gate g).entry.kind ≠ .box) →
    (s.gate g).decoder.burst = some b →
    (s.gate g).fed.isSome = true →
    ∃ t, exec c s = .next t
    ∧ t = { s with
        gates := s.gates.set g.val { s.gate g with
          decoder := { (s.gate g).decoder with burst := none }
          counted := (s.gate g).counted
            + if ∃ e ∈ b.entries, e.code = 63 ∧ s.cfg.voteMinimum ≤ e.count then 1 else 0 }
        pins := t.pinsNow })
  ∧ (∀ (g : GateNo) (s : State),
    ((s.gate g).decoder.burst = none → s.unmovedBy (.burstGapExpiry g) ∧ s.unmovedBy (.burstDwellExpiry g))
    ∧ ((s.gate g).entry.kind = .box → s.unmovedBy (.burstDwellExpiry g))
    ∧ (∀ b ∈ (s.gate g).decoder.burst.toList,
        (s.since b.last < s.cfg.burstGap → s.unmovedBy (.burstGapExpiry g))
        ∧ (s.since b.first < s.cfg.dwellLimit → s.unmovedBy (.burstDwellExpiry g))))

/-- O51. The resolver votes a tally, times its passes and routes them; the table delivers each by its treatment (02
R24, 02 R25, 02 R26, 02 R27, 02 R28, 02 R29, 02 R31, 02 R32, 02 R33, 03 R54, 03 R55, 03 R56). -/
def Obligations.VoteFormsTimesAndRoutesPasses : Prop :=
  (∀ (g : GateNo) (b : Tally) (s : State),
    (∃ e ∈ b.entries, s.cfg.voteMinimum ≤ e.count) →
    s.vote g b = (b.entries.filter fun e => decide (s.cfg.voteMinimum ≤ e.count)).map fun e => {
        named := some (e.code, e.count), candidates := [], gate := g, kind := (s.gate g).entry.kind
        lane := (s.gate g).entry.lane, boundary := (s.gate g).entry.boundary, sector := (s.gate g).entry.sector
        first := e.first, raw := passRaw e.first e.last (s.gate g).entry.offset
        running := s.runningOf (passRaw e.first e.last (s.gate g).entry.offset)
        marks := { noisy := decide (b.invalid ≠ 0), excess := b.excess, dwell := b.dwell, unresolved := false, stray := false } })
  ∧ (∀ (g : GateNo) (b : Tally) (s : State),
    (∀ e ∈ b.entries, e.count < s.cfg.voteMinimum) →
    if b.entries = [] ∧ b.invalid < s.cfg.voteMinimum then s.vote g b = []
    else s.vote g b = [{
        named := none, candidates := candidatesOf b.entries, gate := g, kind := (s.gate g).entry.kind
        lane := (s.gate g).entry.lane, boundary := (s.gate g).entry.boundary, sector := (s.gate g).entry.sector
        first := b.first, raw := passRaw b.first b.last (s.gate g).entry.offset
        running := s.runningOf (passRaw b.first b.last (s.gate g).entry.offset)
        marks := { noisy := decide (b.invalid ≠ 0), excess := b.excess, dwell := b.dwell, unresolved := true, stray := false } }])
  ∧ (∀ (l : List CodeEntry),
    (candidatesOf l).length = min 2 l.length
    ∧ (∀ x ∈ candidatesOf l, ∃ e ∈ l, (e.code, e.count) = x)
    ∧ (∀ x ∈ (candidatesOf l).head?.toList, ∀ e ∈ l, e.count ≤ x.2))
  ∧ (∀ (a b : CodeEntry),
    candidatesOf [a] = [(a.code, a.count)]
    ∧ ((b.count < a.count ∨ (a.count = b.count ∧ (a.first - b.first).toInt < 0)) →
        candidatesOf [a, b] = [(a.code, a.count), (b.code, b.count)])
    ∧ ((a.count < b.count ∨ (a.count = b.count ∧ (b.first - a.first).toInt < 0)) →
        candidatesOf [a, b] = [(b.code, b.count), (a.code, a.count)]))
  ∧ (∀ (first last : RawTime) (o : Int),
    passRaw first last (some o) = first + BitVec.ofNat 32 ((last - first).toNat / 2) + BitVec.ofInt 32 o)
  ∧ (∀ (p g : RawTime) (s : State),
    (s.race.state ∈ [RaceState.setup, .staging, .countdown] → s.runningOf p = none)
    ∧ (s.race.state ∉ [RaceState.setup, .staging, .countdown] → s.race.green = some g →
        s.runningOf p = some
          (if (p - g - s.race.suspTotal).toInt < 0 then 0
          else if (s.race.runningClock : Int) < (p - g - s.race.suspTotal).toInt then s.race.runningClock
          else (p - g - s.race.suspTotal).toInt.toNat)))
  ∧ (∀ (p : Pass) (i : Slot) (code count : Nat) (s : State),
    (p.named = none → s.route p = s.enqueuePass p)
    ∧ (p.named = some (code, count) → s.slotOfCode code = some i → s.route p = s.deliver i p)
    ∧ (p.named = some (code, count) → (∀ j : Slot, (s.entrant j).state = .vacant ∨ (s.entrant j).code ≠ some code) →
        s.route p = s.enqueuePass { p with candidates := [(code, count)], marks := { p.marks with stray := true } }))
  ∧ (∀ (p : Pass) (s : State),
    s.resolver.queue.length ≤ 16 →
    s.enqueuePass p = { s with resolver := (s.enqueuePass p).resolver }
    ∧ ∃ e ∈ (s.enqueuePass p).resolver.queue.getLast?.toList,
        e = { pass := p, tag := e.tag, entered := s.race.raceClock, expired := false }
        ∧ (s.enqueuePass p).resolver = { s.resolver with
          queue := (if s.resolver.queue.length = 16 then s.resolver.queue.tail else s.resolver.queue) ++ [e]
          nextTag := e.tag + 1, overrun := s.resolver.overrun || decide (s.resolver.queue.length = 16) }
        ∧ (∀ q ∈ (if s.resolver.queue.length = 16 then s.resolver.queue.tail else s.resolver.queue), q.tag ≠ e.tag)
        ∧ ∀ k : Fin 16, k.val < (e.tag - s.resolver.nextTag).toNat →
          ∃ q ∈ (if s.resolver.queue.length = 16 then s.resolver.queue.tail else s.resolver.queue),
            q.tag = s.resolver.nextTag + BitVec.ofNat 8 k.val)
  ∧ (∀ (g : GateNo) (b : Tally) (s : State),
    s.takeTally g b = (s.vote g b).foldl (fun u p => u.route p) s)
  ∧ (∀ (e : EntrantState) (r : RaceState),
    (e = .staged → r ∈ [RaceState.setup, .staging, .countdown] → treatment e r = .position)
    ∧ (e = .racing → r ∈ [RaceState.running, .finishing] → treatment e r = .full)
    ∧ (e = .racing → r = .suspended → treatment e r = .held)
    ∧ (e = .finished → r ∈ [RaceState.finishing, .suspended, .complete] → treatment e r = .position)
    ∧ (e ∈ [EntrantState.vacant, .retired, .excluded] → treatment e r = .untouched))
  ∧ (∀ (p : Pass) (i : Slot) (s : State),
    treatment (s.entrant i).state s.race.state = .untouched →
    s.deliver i p = s)
  ∧ (∀ (p : Pass) (i : Slot) (s : State),
    treatment (s.entrant i).state s.race.state = .position →
    (if (s.entrant i).state = .staged ∧ s.race.state = .countdown ∧ p.kind ≠ .box then
        s.deliver i p = { (s.passEffects .position i p).1 with
          entrants := (s.passEffects .position i p).1.entrants.set i.val
            { (s.passEffects .position i p).1.entrant i with jumpStart := true } }
      else s.deliver i p = (s.passEffects .position i p).1))
  ∧ (∀ (p : Pass) (i : Slot) (tr : Treatment) (s : State),
    treatment (s.entrant i).state s.race.state = tr →
    tr = .held ∨ tr = .full →
    s.scoredPass tr i p = State.reportAll
        (State.moveDeadline (((s.release i).noteSeen i p.running).passEffects tr i p).1 i p.running) i
        ((((s.release i).noteSeen i p.running).passEffects tr i p).2
          ++ if p.kind ≠ .box ∧ (∃ g ∈ s.race.green.toList, (p.first - g).toInt < 0) then [CallClass.jumpStart] else [])
    ∧ (∀ c : CallClass, ∀ u : State, u.reportAll i [] = u ∧ u.reportAll i [c] = u.report i c)
    ∧ s.deliver i p = (match tr, p.kind, p.boundary, p.running with
        | .full, .line, _, some a => (s.scoredPass tr i p).crossing i a
        | .full, .split, some b, some a => (s.scoredPass tr i p).boundary i b a
        | _, _, _, _ => s.scoredPass tr i p))
  ∧ (∀ (arrival : Bool) (i : Slot) (now : Option RunTime) (tr : Treatment) (s : State),
    treatment (s.entrant i).state s.race.state = tr →
    (tr = .untouched → s.deliverBox arrival i now = s)
    ∧ (tr = .position → s.deliverBox arrival i now = if arrival then s.arriveInBox tr i now else s.leaveBox tr i)
    ∧ (tr = .held ∨ tr = .full → s.deliverBox arrival i now =
        if arrival then (((s.release i).noteSeen i now).arriveInBox tr i now).moveDeadline i now
        else (((s.release i).noteSeen i now).leaveBox tr i).moveDeadline i now))

/-- O52. Claim waits, stop-and-go holds and power holds expire on their clocks; a stop in the box starts a hold (02
R35, 03 R60, 08 R142, 08 R144, 08 R146, 08 R150). That an expiry not yet due changes nothing is the model's reading,
log entry 3. -/
def Obligations.ClaimWaitsAndHoldsExpire : Prop :=
  (∀ (tag : Byte) (e : QueuedPass) (s : State),
    s.queued tag = some e →
    e.expired = false →
    s.cfg.claimWait * 10000 ≤ s.since e.entered →
    ∃ t, exec (.claimWaitExpiry tag) s = .next t
    ∧ t = { s with
        resolver := { s.resolver with
          queue := s.resolver.queue.map fun q => if q.tag = tag then { q with expired := true } else q
          waitLatch := true }
        pins := t.pinsNow })
  ∧ (∀ (tag : Byte) (s : State),
    (∀ q ∈ s.resolver.queue, q.tag = tag → q.expired = true ∨ s.since q.entered < s.cfg.claimWait * 10000) →
    s.unmovedBy (.claimWaitExpiry tag))
  ∧ (∀ (i : Slot) (p : PitPenalty) (h : RunTime) (s : State),
    s.race.state = .running ∨ s.race.state = .finishing →
    (s.entrant i).state ≠ .vacant →
    (s.entrant i).penalties = [p] →
    p.kind = .stopGo ∧ p.state = .serving →
    (s.entrant i).holdTimer = some h →
    h ≤ s.race.runningClock →
    ∃ t, exec (.stopGoHoldExpiry i) s = .next t
    ∧ t = { s with
        entrants := s.entrants.set i.val (t.entrant i), ceiling := { s.ceiling with dirty := t.ceiling.dirty }
        pins := t.pinsNow }
    ∧ t.entrant i = { s.entrant i with
        activity := true, penalties := (t.entrant i).penalties
        holdTimer := (t.entrant i).holdTimer, effective := t.effectiveFor (t.entrant i) }
    ∧ (t.entrant i).penalties = [] ∧ (t.entrant i).holdTimer = none
    ∧ t.markedFrom s)
  ∧ (∀ (i : Slot) (p q : PitPenalty) (rest : List PitPenalty) (h : RunTime) (s : State),
    s.race.state = .running ∨ s.race.state = .finishing →
    (s.entrant i).state ≠ .vacant →
    (s.entrant i).penalties = p :: q :: rest →
    p.kind = .stopGo ∧ p.state = .serving →
    q.state = .pending →
    (s.entrant i).holdTimer = some h →
    h ≤ s.race.runningClock →
    ∃ t, exec (.stopGoHoldExpiry i) s = .next t
    ∧ t = { s with
        entrants := s.entrants.set i.val (t.entrant i), ceiling := { s.ceiling with dirty := t.ceiling.dirty }
        pins := t.pinsNow }
    ∧ t.entrant i = { s.entrant i with
        activity := true, penalties := (t.entrant i).penalties
        holdTimer := (t.entrant i).holdTimer, effective := t.effectiveFor (t.entrant i) }
    ∧ (t.entrant i).penalties = { q with
        state := if q.kind = .stopGo ∧ (s.entrant i).pitStatus = .box then .serving else .active
        remaining := some q.deadline } :: rest
    ∧ (t.entrant i).holdTimer =
        (if q.kind = .stopGo ∧ (s.entrant i).pitStatus = .box
        then some (s.race.runningClock + q.hold.getD 0 * 10000) else none))
  ∧ (∀ (i : Slot) (h : PowerHold) (s : State),
    s.race.state = .running ∨ s.race.state = .finishing →
    (s.entrant i).state ≠ .vacant →
    (s.entrant i).powerHold = some h →
    h.expiry ≤ s.race.runningClock →
    ∃ t, exec (.powerHoldExpiry i) s = .next t
    ∧ t = { s with
        entrants := s.entrants.set i.val { s.entrant i with
          powerHold := none, activity := true, effective := t.effectiveFor (t.entrant i) }
        ceiling := { s.ceiling with dirty := t.ceiling.dirty }, pins := t.pinsNow }
    ∧ t.markedFrom s)
  ∧ (∀ (i : Slot) (s : State),
    ((s.race.state ≠ .running ∧ s.race.state ≠ .finishing)
      ∨ ((∀ h ∈ (s.entrant i).holdTimer.toList, s.race.runningClock < h)
        ∧ (∀ h ∈ (s.entrant i).powerHold.toList, s.race.runningClock < h.expiry))) →
    s.unmovedBy (.stopGoHoldExpiry i) ∧ s.unmovedBy (.powerHoldExpiry i))
  ∧ (∀ (i : Slot) (p : PitPenalty) (rest : List PitPenalty) (now : RunTime) (s : State),
    (s.entrant i).penalties = p :: rest →
    (p.kind = .stopGo ∧ p.state = .active → s.penaltyBoxArrival i now = State.recompute { s with
        entrants := s.entrants.set i.val { s.entrant i with
          penalties := { p with state := .serving } :: rest, holdTimer := some (now + p.hold.getD 0 * 10000) } } i)
    ∧ (p.kind ≠ .stopGo ∨ p.state ≠ .active → s.penaltyBoxArrival i now = s)
    ∧ (p.kind = .stopGo ∧ p.state = .serving → s.penaltyBoxDeparture i = State.recompute { s with
        entrants := s.entrants.set i.val { s.entrant i with
          penalties := { p with state := .active } :: rest, holdTimer := none } } i)
    ∧ (p.kind ≠ .stopGo ∨ p.state ≠ .serving → s.penaltyBoxDeparture i = s))
  ∧ (∀ (i : Slot) (now : RunTime) (s : State),
    (s.entrant i).penalties = [] →
    s.penaltyBoxArrival i now = s ∧ s.penaltyBoxDeparture i = s)
  ∧ (∀ (i : Slot) (tr : Treatment) (now : RunTime) (s : State),
    tr = .held ∨ tr = .full →
    s.arriveInBox tr i (some now) = (s.arriveInBox .position i (some now)).penaltyBoxArrival i now
    ∧ s.arriveInBox tr i none = s.arriveInBox .position i none
    ∧ ((s.entrant i).pitStatus ≠ .box → s.leaveBox tr i = s)
    ∧ ((s.entrant i).pitStatus = .box → s.leaveBox tr i = (s.leaveBox .position i).penaltyBoxDeparture i))
  ∧ (∀ (i : Slot) (tr : Treatment) (p : PitPenalty) (rest : List PitPenalty) (now : RunTime) (s : State),
    tr = .held ∨ tr = .full →
    (s.entrant i).state ≠ .vacant →
    (s.entrant i).penalties = p :: rest →
    p.kind = .stopGo ∧ p.state = .active →
    s.arriveInBox tr i (some now) = { s with
        entrants := s.entrants.set i.val { s.entrant i with
          lane := some 6, pitStatus := .box, boxArrival := some now, boxVisited := true
          pitEntry := if (s.entrant i).pitStatus = .track then none else (s.entrant i).pitEntry
          penalties := { p with state := .serving } :: rest, holdTimer := some (now + p.hold.getD 0 * 10000)
          effective := 0 }
        ceiling := { s.ceiling with
          dirty := s.ceiling.dirty.set i.val ((s.arriveInBox tr i (some now)).dirtyOf i) } })
  ∧ (∀ (i : Slot) (tr : Treatment) (p : PitPenalty) (rest : List PitPenalty) (s : State),
    tr = .held ∨ tr = .full →
    (s.entrant i).state ≠ .vacant →
    (s.entrant i).penalties = p :: rest →
    p.kind = .stopGo ∧ p.state = .serving →
    (s.entrant i).pitStatus = .box →
    s.leaveBox tr i = { s with
        entrants := s.entrants.set i.val { s.entrant i with
          pitStatus := .pitLane, penalties := { p with state := .active } :: rest, holdTimer := none
          effective := s.effectiveFor ((s.leaveBox tr i).entrant i) }
        ceiling := { s.ceiling with dirty := s.ceiling.dirty.set i.val ((s.leaveBox tr i).dirtyOf i) } })

/-- O53. SIGHTING_DEADLINE_EXPIRY makes a Racing entrant Overdue; a pass releases it and moves its deadline on (03
R55, 03 R62, 03 R63, 03 R64, 03 R65, 06 R114, 06 R116, 04 R80). That an expiry that is not due changes nothing is the
model's reading, log entry 3. -/
def Obligations.SightingDeadlinesMakeOverdue : Prop :=
  (∀ (i : Slot) (d : RunTime) (s : State),
    s.race.state = .running ∨ s.race.state = .finishing →
    (s.entrant i).state = .racing →
    (s.entrant i).deadline = some d →
    d ≤ s.race.runningClock →
    s.cfg.autoLocalCaution = false →
    ∃ t, exec (.sightingDeadlineExpiry i) s = .next t
    ∧ t = { s with
        entrants := s.entrants.set i.val { s.entrant i with deadline := none, overdue := true }, pins := t.pinsNow })
  ∧ (∀ (i : Slot) (d : RunTime) (k : Fin 4) (s : State),
    s.race.state = .running ∨ s.race.state = .finishing →
    (s.entrant i).state = .racing →
    (s.entrant i).deadline = some d →
    d ≤ s.race.runningClock →
    s.cfg.autoLocalCaution = true →
    (s.entrant i).sector = k.val →
    ∃ t, exec (.sightingDeadlineExpiry i) s = .next t
    ∧ t = { s with
        race := { s.race with
          caution := s.race.caution.set k.val { s.race.caution[k] with holders := s.race.caution[k].holders ++ [i] } }
        entrants := t.entrants, ceiling := { s.ceiling with dirty := t.ceiling.dirty }, pins := t.pinsNow }
    ∧ (if s.race.caution[k].hostFlag = true ∨ s.race.caution[k].holders ≠ [] then
        t.entrants = s.entrants.set i.val { s.entrant i with deadline := none, overdue := true }
      else ∀ j : Slot, t.entrant j = ({ s.entrant j with
        deadline := if j = i then none else (s.entrant j).deadline
        overdue := (s.entrant j).overdue || j == i
        lapCaution := (s.entrant j).lapCaution
          || ((s.entrant j).state == .racing && (s.entrant j).sector == k.val) } : Entrant).recomputedIn t)
    ∧ t.markedFrom s)
  ∧ (∀ (i : Slot) (s : State),
    ((s.race.state ≠ .running ∧ s.race.state ≠ .finishing) ∨ (s.entrant i).state ≠ .racing
      ∨ (∀ d ∈ (s.entrant i).deadline.toList, s.race.runningClock < d)) →
    s.unmovedBy (.sightingDeadlineExpiry i))
  ∧ (∀ (i : Slot) (s : State),
    (s.entrant i).overdue = false →
    s.release i = s)
  ∧ (∀ (i : Slot) (s : State),
    (s.entrant i).overdue = true →
    s.release i = { s with
        race := { s.race with caution := (s.release i).race.caution }
        entrants := (s.release i).entrants, ceiling := { s.ceiling with dirty := (s.release i).ceiling.dirty } }
    ∧ (∀ k : Fin 4, (s.release i).race.caution[k] = { s.race.caution[k] with
        holders := s.race.caution[k].holders.filter fun j => j != i })
    ∧ (if ∃ k : Fin 4, s.localCaution k.val ≠ (s.release i).localCaution k.val then
        ∀ j : Slot, (s.release i).entrant j
          = ({ s.entrant j with overdue := (s.entrant j).overdue && j != i } : Entrant).recomputedIn (s.release i)
      else (s.release i).entrants = s.entrants.set i.val { s.entrant i with overdue := false }
        ∧ (s.release i).ceiling = s.ceiling))
  ∧ (∀ (i : Slot) (now : RunTime) (s : State),
    (s.noteSeen i (some now) = { s with entrants := s.entrants.set i.val { s.entrant i with
        latestPass := some (match (s.entrant i).latestPass with
          | some u => max now u
          | none => now) } })
    ∧ s.noteSeen i none = s)
  ∧ (∀ (i : Slot) (now : RunTime) (s : State),
    ((s.entrant i).pitStatus = .box → ∀ seen ∈ [none, some now],
        s.moveDeadline i seen = { s with entrants := s.entrants.set i.val { s.entrant i with deadline := none } })
    ∧ ((s.entrant i).pitStatus ≠ .box → s.moveDeadline i none = s
        ∧ (s.cfg.sightingWindow = 0 → s.moveDeadline i (some now) = s)
        ∧ (s.cfg.sightingWindow ≠ 0 → s.moveDeadline i (some now) = { s with
            entrants := s.entrants.set i.val { s.entrant i with
              deadline := some (match (s.entrant i).deadline with
                | some d => max (now + s.cfg.sightingWindow * 10000) d
                | none => now + s.cfg.sightingWindow * 10000) } })))

/-- O54. CEILING_FRAME_START takes the most urgent marked entrant, CEILING_FRAME_END frees the sender,
CEILING_REFRESH marks all (09 R160, 09 R161, 09 R162, 09 R163). The model's own: the Idle sender between two frames
(log entry 16), the ten ticks (11), the signed difference (12), and that an event not due changes nothing (3). -/
def Obligations.CeilingFramesCarryMarkedCeilings : Prop :=
  (∀ (i : Slot) (code : Nat) (s : State),
    s.ceiling.sender = none →
    s.ceiling.paused = false →
    (s.entrant i).code = some code →
    ((s.dirtyOf i = .lowered ∧ ∀ j : Slot, j < i → s.dirtyOf j ≠ .lowered)
      ∨ (s.dirtyOf i = .raised ∧ (∀ j : Slot, s.dirtyOf j ≠ .lowered) ∧ ∀ j : Slot, j < i → s.dirtyOf j ≠ .raised)) →
    ∃ t, exec .ceilingFrameStart s = .next t
    ∧ t = { s with
        ceiling := { s.ceiling with
          dirty := s.ceiling.dirty.set i.val .clean
          sender := some { slot := i, code := code, ceiling := (s.entrant i).effective, since := s.race.raceClock } }
        pins := t.pinsNow })
  ∧ (∀ (s : State),
    (s.ceiling.sender.isSome = true ∨ ∀ j : Slot, s.dirtyOf j = .clean) →
    s.unmovedBy .ceilingFrameStart)
  ∧ (∀ (f : Sending) (s : State),
    s.ceiling.sender = some f →
    10 ≤ s.since f.since →
    ∃ t, exec .ceilingFrameEnd s = .next t
    ∧ t = { s with ceiling := { s.ceiling with sender := none }, pins := t.pinsNow })
  ∧ (∀ (s : State),
    (s.ceiling.sender = none ∨ ∃ f ∈ s.ceiling.sender.toList, s.since f.since < 10) →
    s.unmovedBy .ceilingFrameEnd)
  ∧ (∀ (s : State),
    0 ≤ (s.race.raceClock - s.ceiling.nextRefresh).toInt →
    ∃ t, exec .ceilingRefresh s = .next t
    ∧ t = { s with
        ceiling := { s.ceiling with
          dirty := t.ceiling.dirty, nextRefresh := s.ceiling.nextRefresh + BitVec.ofNat 32 (10 * s.cfg.refreshPeriod) }
        pins := t.pinsNow }
    ∧ ∀ i : Slot, t.dirtyOf i =
        if (s.entrant i).state ≠ .vacant ∧ s.dirtyOf i = .clean then .raised else s.dirtyOf i)
  ∧ (∀ (s : State),
    (s.race.raceClock - s.ceiling.nextRefresh).toInt < 0 →
    s.unmovedBy .ceilingRefresh)

/-- O55. PAUSE_BYTE, RESUMING_BYTE and RETURN_BYTE_ERROR: the pause of the ceiling link (09 R161, 09 R164). The
model's own: a resuming byte starts no frame itself (log entry 16), and a frame may end after ten ticks (log entry
11). -/
def Obligations.PauseBytesHoldTheSender : Prop :=
  (∀ (s : State),
    s.ceiling.paused = false →
    ∃ t, exec .pauseByte s = .next t
    ∧ t = { s with
        ceiling := { s.ceiling with
          paused := true
          holdStart := if s.race.state = .countdown ∨ s.race.state = .running ∨ s.race.state = .finishing
            then some s.race.raceClock else s.ceiling.holdStart }
        pins := t.pinsNow })
  ∧ (∀ (s : State),
    s.ceiling.paused = true →
    s.unmovedBy .pauseByte ∧ s.unmovedBy .ceilingFrameStart)
  ∧ (∀ (b : Byte) (s : State),
    b ≠ 0x13#8 →
    s.ceiling.paused = true →
    ∃ t, exec (.resumingByte b) s = .next t
    ∧ t = { s with ceiling := { s.ceiling with paused := false, holdStart := none }, pins := t.pinsNow }
    ∧ (s.ceiling.sender = none → ∀ i : Slot, ∀ c ∈ (s.entrant i).code.toList,
        (s.dirtyOf i = .lowered ∧ ∀ j : Slot, j < i → s.dirtyOf j ≠ .lowered)
          ∨ (s.dirtyOf i = .raised ∧ (∀ j : Slot, s.dirtyOf j ≠ .lowered) ∧ ∀ j : Slot, j < i → s.dirtyOf j ≠ .raised) →
        t.frameDue = some i ∧ ∃ u, exec .ceilingFrameStart t = .next u
          ∧ u.ceiling.sender
            = some { slot := i, code := c, ceiling := (s.entrant i).effective, since := s.race.raceClock }))
  ∧ (∀ (b : Byte) (s : State),
    b ≠ 0x13#8 →
    s.ceiling.paused = false →
    s.unmovedBy (.resumingByte b))
  ∧ (∀ (s : State),
    s.unmovedBy .returnByteError)
  ∧ (∀ (f : Sending) (s : State),
    s.ceiling.paused = true →
    s.ceiling.sender = some f →
    10 ≤ s.since f.since →
    ∃ t, exec .ceilingFrameEnd s = .next t
    ∧ t = { s with ceiling := { s.ceiling with sender := none }, pins := t.pinsNow } ∧ t.frameDue = none)

/-- O56. The effective ceiling is the lowest of the limits that apply, and R160 marks each change (09 R157, 09 R158,
09 R159, 09 R160). -/
def Obligations.EffectiveCeilingIsLowestLimit : Prop :=
  (∀ (e : Entrant) (s : State),
    s.effectiveFor e ≤ stateCeiling s.cfg.ceilings s.race.yellow e.state s.race.state
    ∧ (s.localCaution e.sector = true → s.effectiveFor e ≤ s.cfg.ceilings.localCaution)
    ∧ (e.pitStatus ≠ .track ∨ e.blackFlag = true → s.effectiveFor e ≤ s.cfg.ceilings.pit)
    ∧ ((∃ p ∈ e.penalties.head?.toList, p.kind = .stopGo ∧ p.state = .serving) → s.effectiveFor e = 0)
    ∧ (∀ h ∈ e.powerHold.toList, s.effectiveFor e ≤ h.level)
    ∧ (∀ v ∈ e.override.toList, s.effectiveFor e ≤ v)
    ∧ (s.effectiveFor e = stateCeiling s.cfg.ceilings s.race.yellow e.state s.race.state
        ∨ (s.localCaution e.sector = true ∧ s.effectiveFor e = s.cfg.ceilings.localCaution)
        ∨ ((e.pitStatus ≠ .track ∨ e.blackFlag = true) ∧ s.effectiveFor e = s.cfg.ceilings.pit)
        ∨ ((∃ p ∈ e.penalties.head?.toList, p.kind = .stopGo ∧ p.state = .serving) ∧ s.effectiveFor e = 0)
        ∨ (∃ h ∈ e.powerHold.toList, s.effectiveFor e = h.level)
        ∨ ∃ v ∈ e.override.toList, s.effectiveFor e = v))
  ∧ (∀ (c : Ceilings) (yellow : Bool),
    stateCeiling c yellow .staged .setup = c.setup ∧ stateCeiling c yellow .staged .staging = c.staging
    ∧ stateCeiling c yellow .staged .countdown = c.countdown
    ∧ (∀ r ∈ [RaceState.running, .finishing],
        stateCeiling c yellow .racing r = if yellow then c.caution else c.running)
    ∧ (∀ r ∈ [RaceState.finishing, .complete],
        stateCeiling c yellow .finished r = if yellow then min c.coolDown c.caution else c.coolDown)
    ∧ (∀ e : EntrantState, stateCeiling c yellow e .suspended = 0)
    ∧ (∀ r : RaceState, stateCeiling c yellow .retired r = 0 ∧ stateCeiling c yellow .excluded r = 0))
  ∧ (∀ (i : Slot) (s : State),
    (s.entrant i).state ≠ .vacant →
    s.recompute i = { s with
        entrants := s.entrants.set i.val { s.entrant i with effective := s.effectiveFor (s.entrant i) }
        ceiling := { s.ceiling with
          dirty := s.ceiling.dirty.set i.val
            (if s.effectiveFor (s.entrant i) < (s.entrant i).effective then .lowered
            else if (s.entrant i).effective < s.effectiveFor (s.entrant i) ∧ s.dirtyOf i = .clean then .raised
            else s.dirtyOf i) } })

/-- O57. A crossing launches a car, is a duplicate, or credits a lap (04 R69, 04 R70, 04 R71, 04 R72, 04 R73, 04 R74,
04 R75, 04 R76, 04 R81, 04 R82, 04 R83, 05 R92). -/
def Obligations.CrossingsLaunchAndCreditLaps : Prop :=
  (∀ (i : Slot) (now : RunTime) (s : State),
    (s.entrant i).latestCrossing = none →
    (s.entrant i).state ≠ .vacant →
    s.crossing i now = { s with
        entrants := (s.crossing i now).entrants, standings := placeAgain i ((s.crossing i now).entrant i).key s.standings
        ceiling := { s.ceiling with dirty := (s.crossing i now).ceiling.dirty } }
    ∧ (∀ j : Slot, j ≠ i → (s.crossing i now).entrant j = s.entrant j)
    ∧ (s.crossing i now).entrant i = { s.entrant i with
        latestCrossing := some now, reachTime := some now, currentSectors := [], sector := 0, lastBoundary := some now
        lapCaution := s.race.yellow || s.localCaution 0, lapsDown := s.highMark - (s.entrant i).laps, gap := none
        effective := s.effectiveFor ((s.crossing i now).entrant i) })
  ∧ (∀ (i : Slot) (now l : RunTime) (s : State),
    (s.entrant i).latestCrossing = some l →
    now < l + s.cfg.lapFloor →
    s.crossing i now = s)
  ∧ (∀ (i : Slot) (now l : RunTime) (s : State),
    (s.entrant i).latestCrossing = some l →
    l + s.cfg.lapFloor ≤ now →
    (s.entrant i).state ≠ .vacant →
    (s.entrant i).penalties = [] →
    s.race.state = .running →
    s.cfg.lapTarget = 0 ∨ min 9999 ((s.entrant i).laps + 1) < s.cfg.lapTarget →
    s.crossing i now = { s with
        entrants := (s.crossing i now).entrants, standings := placeAgain i ((s.crossing i now).entrant i).key s.standings
        ring := (s.crossing i now).ring, highMark := max s.highMark ((s.crossing i now).entrant i).laps
        ceiling := { s.ceiling with dirty := (s.crossing i now).ceiling.dirty } }
    ∧ (∀ j : Slot, j ≠ i → (s.crossing i now).entrant j = s.entrant j)
    ∧ (s.crossing i now).entrant i = { s.entrant i with
        laps := min 9999 ((s.entrant i).laps + 1)
        prevCrossing := some l, latestCrossing := some now, reachTime := some now
        lastLap := some (min (now - l) 16777215)
        lastLapMarks := {
          long := decide (s.cfg.lapCeiling < now - l), caution := (s.entrant i).lapCaution, assigned := false }
        bestLap :=
          if s.cfg.lapCeiling < now - l ∨ (s.entrant i).lapCaution = true
            ∨ (∃ b ∈ (s.entrant i).bestLap.toList, b.ticks ≤ min (now - l) 16777215) then (s.entrant i).bestLap
          else some { ticks := min (now - l) 16777215, lap := min 9999 ((s.entrant i).laps + 1) }
        lastSectors := (s.entrant i).currentSectors
          ++ List.replicate (s.cfg.sectorCount - 1 - (s.entrant i).sector) none
          ++ [(s.entrant i).lastBoundary.bind fun b => if b < now then some (now - b) else none]
        currentSectors := [], sector := 0, lastBoundary := some now
        lapCaution := s.race.yellow || s.localCaution 0
        lapsDown := s.highMark - min 9999 ((s.entrant i).laps + 1)
        gap := if s.highMark < min 9999 ((s.entrant i).laps + 1) then some 0
          else (s.ringTime (min 9999 ((s.entrant i).laps + 1))).map fun lead => now - lead
        effective := ((s.crossing i now).entrant i).effective }
    ∧ (∀ k : Fin 16, (s.crossing i now).ring[k] =
        if s.highMark < min 9999 ((s.entrant i).laps + 1) ∧ k.val = min 9999 ((s.entrant i).laps + 1) % 16 then
          some { lap := min 9999 ((s.entrant i).laps + 1), time := s.leadTime now }
        else s.ring[k]))
  ∧ (∀ (n : Nat) (i : Slot) (now : RunTime) (s : State),
    s.highMark < n →
    (s.measure i n now).highMark = n
    ∧ (s.measure i n now).ringTime n =
        some (match s.ringTime s.highMark with
          | some b => if s.highMark = 0 then now else max now b
          | none => now)
    ∧ ∀ m : Nat, m % 16 ≠ n % 16 → (s.measure i n now).ringTime m = s.ringTime m)
  ∧ (∀ (i : Slot) (b : Nat) (now : RunTime) (s : State),
    (s.entrant i).state ≠ .vacant →
    (b ≤ (s.entrant i).sector → s.boundary i b now = s)
    ∧ ((s.entrant i).sector < b → (s.boundary i b now).entrant i = { s.entrant i with
        currentSectors := (s.entrant i).currentSectors ++ List.replicate (b - 1 - (s.entrant i).sector) none
          ++ [(s.entrant i).lastBoundary.bind fun l => if l < now then some (now - l) else none]
        sector := b, lastBoundary := some now
        lapCaution := (s.entrant i).lapCaution
          || (List.range (b + 1)).any fun k => decide ((s.entrant i).sector < k) && s.localCaution k
        effective := s.effectiveFor ((s.boundary i b now).entrant i) }))
  ∧ (∀ (i : Slot) (now l : RunTime) (s : State),
    (s.entrant i).latestCrossing = some l →
    l + s.cfg.lapFloor ≤ now →
    s.crossing i now = s.credit i l now false)
  ∧ (∀ (i : Slot) (now l : RunTime) (assigned : Bool) (n : Nat) (s : State),
    (s.entrant i).state ≠ .vacant →
    (s.entrant i).latestCrossing = some l →
    min 9999 ((s.entrant i).laps + 1) = n →
    ∃ u : State,
    s.credit i l now assigned = State.judgeCrossing (u.penaltyCrossing i (s.entrant i).lapCaution) i now
    ∧ u = { s with
        entrants := s.entrants.set i.val (u.entrant i)
        standings := placeAgain i { laps := n, reach := some now } s.standings
        ring := u.ring, highMark := max s.highMark n
        ceiling := { s.ceiling with
          dirty := s.ceiling.dirty.set i.val
            (DirtyClass.mark (s.entrant i).effective (u.entrant i).effective (s.dirtyOf i)) } }
    ∧ u.entrant i = { s.entrant i with
        laps := n, prevCrossing := some l, latestCrossing := some now, reachTime := some now
        lastLap := some (min (now - l) 16777215)
        lastLapMarks := {
          long := decide (s.cfg.lapCeiling < now - l), caution := (s.entrant i).lapCaution, assigned := assigned }
        bestLap := judgeBest (s.entrant i).bestLap (min (now - l) 16777215) n (decide (s.cfg.lapCeiling < now - l))
          (s.entrant i).lapCaution
        lastSectors := (s.entrant i).currentSectors
          ++ List.replicate (s.cfg.sectorCount - 1 - (s.entrant i).sector) none
          ++ [(s.entrant i).lastBoundary.bind fun b => if b < now then some (now - b) else none]
        currentSectors := [], sector := 0, lastBoundary := some now
        lapCaution := s.race.yellow || s.localCaution 0
        lapsDown := s.highMark - n
        gap := if s.highMark < n then some 0 else (s.ringTime n).map fun lead => now - lead
        effective := s.effectiveFor (u.entrant i) }
    ∧ (∀ k : Fin 16, u.ring[k] =
        if s.highMark < n ∧ k.val = n % 16 then some { lap := n, time := s.leadTime now } else s.ring[k]))
  ∧ (∀ (best : Option BestLap) (ticks lap : Nat) (long caution : Bool) (now : RunTime) (s : State),
    judgeBest best ticks lap long caution =
      (if long = true ∨ caution = true ∨ (∃ b ∈ best.toList, b.ticks ≤ ticks) then best
      else some { ticks := ticks, lap := lap })
    ∧ s.leadTime now =
      (if s.highMark = 0 then now else max now ((s.ringTime s.highMark).getD 0))
    ∧ ∀ m : Nat, s.ringTime m = (match s.ring[m % 16]? with
      | some (some r) => if r.lap = m then some r.time else none
      | _ => none))

/-- O58. PitIn and PitOut act on the head of the pit-penalty queue (08 R143, 08 R145). -/
def Obligations.PitPassesServePenalties : Prop :=
  (∀ (i : Slot) (p : PitPenalty) (rest : List PitPenalty) (s : State),
    (s.entrant i).penalties = p :: rest →
    (s.entrant i).state ≠ .vacant →
    (p.kind = .driveThrough ∧ p.state = .active → s.penaltyPitIn i = { s with
        entrants := s.entrants.set i.val { s.entrant i with penalties := { p with state := .serving } :: rest } })
    ∧ (p.kind = .driveThrough ∧ p.state = .serving → s.penaltyPitIn i = s)
    ∧ (p.kind = .stopGo ∧ p.state = .active → s.penaltyPitIn i = s)
    ∧ (p.kind = .stopGo ∧ p.state = .serving →
        s.penaltyPitIn i = State.recompute { s with entrants := s.entrants.set i.val { s.entrant i with
          penalties := { p with state := .active } :: rest, holdTimer := none } } i)
    ∧ (p.kind = .driveThrough ∧ p.state = .serving ∧ (s.entrant i).pitStatus ≠ .track → ∀ caution : Bool,
        s.penaltyCrossing i caution = s)
    ∧ (p.kind = .stopGo → s.penaltyPitOut i = s))
  ∧ (∀ (i : Slot) (s : State),
    (s.entrant i).penalties = [] →
    s.penaltyPitIn i = s ∧ s.penaltyPitOut i = s)
  ∧ (∀ (i : Slot) (p : PitPenalty) (s : State),
    (s.entrant i).penalties = [p] →
    p.kind = .driveThrough →
    p.state = .active ∨ p.state = .serving →
    s.penaltyPitOut i = { s with
        entrants := s.entrants.set i.val { s.entrant i with penalties := [], activity := true } }
    ∧ (s.penaltyPitOut i).raised .penalty = true)
  ∧ (∀ (i : Slot) (p q : PitPenalty) (rest : List PitPenalty) (s : State),
    (s.entrant i).penalties = p :: q :: rest →
    p.kind = .driveThrough →
    p.state = .active ∨ p.state = .serving →
    q.state = .pending →
    (s.entrant i).pitStatus = .track →
    s.penaltyPitOut i = { s with
        entrants := s.entrants.set i.val { s.entrant i with
          penalties := { q with state := .active, remaining := some q.deadline } :: rest, activity := true } }
    ∧ (s.penaltyPitOut i).raised .penalty = true)

/-- O59. A credited crossing counts down the head of the queue; a missed penalty and every infraction are called by
the Call Table (08 R141, 08 R142, 08 R147, 08 R148, 08 R149, 08 R151, 08 R152, 07 R126, 07 R130, 07 R135). -/
def Obligations.MissedPenaltiesEscalate : Prop :=
  (∀ (i : Slot) (p : PitPenalty) (rest : List PitPenalty) (r : Nat) (s : State),
    (s.entrant i).penalties = p :: rest →
    p.state = .active →
    p.remaining = some r →
    s.penaltyCrossing i true = s
    ∧ (1 < r → s.penaltyCrossing i false = { s with
        entrants := s.entrants.set i.val { s.entrant i with penalties := { p with remaining := some (r - 1) } :: rest } }))
  ∧ (∀ (i : Slot) (p : PitPenalty) (rest : List PitPenalty) (r : Nat) (s : State),
    (s.entrant i).penalties = p :: rest →
    p.kind = .driveThrough →
    p.state = .serving →
    p.remaining = some r →
    1 < r →
    (s.entrant i).pitStatus = .track →
    s.penaltyCrossing i false = { s with
        entrants := s.entrants.set i.val { s.entrant i with
          penalties := { p with state := .active, remaining := some (r - 1) } :: rest } }
    ∧ s.penaltyCrossing i true = { s with
        entrants := s.entrants.set i.val { s.entrant i with penalties := { p with state := .active } :: rest } })
  ∧ (∀ (i : Slot) (p : PitPenalty) (s : State),
    (s.entrant i).penalties = [p] →
    p.kind = .driveThrough →
    p.state = .active →
    p.remaining = some 1 →
    s.callTable[5] = none →
    s.penaltyCrossing i false = { s with
        entrants := s.entrants.set i.val { s.entrant i with penalties := [], activity := true } })
  ∧ (∀ (i : Slot) (p q : PitPenalty) (rest : List PitPenalty) (s : State),
    (s.entrant i).penalties = p :: q :: rest →
    p.kind = .driveThrough →
    p.state = .active →
    p.remaining = some 1 →
    q.state = .pending →
    (s.entrant i).pitStatus ≠ .box →
    s.callTable[5] = none →
    s.penaltyCrossing i false = { s with
        entrants := s.entrants.set i.val { s.entrant i with
          penalties := { q with state := .active, remaining := some q.deadline } :: rest, activity := true } })
  ∧ (∀ (i : Slot) (p : PitPenalty) (rest : List PitPenalty) (h d v : Nat) (s : State),
    (s.entrant i).penalties = p :: rest →
    p.kind = .driveThrough →
    p.state = .active →
    p.remaining = some 1 →
    (s.entrant i).pitStatus ≠ .box →
    (s.entrant i).state = .racing →
    s.callTable[5] = some (.stopGo h d v) →
    s.penaltyCrossing i false = { s with
        entrants := s.entrants.set i.val { s.entrant i with
          activity := true
          penalties := {
              kind := .stopGo, cls := .missedDriveThrough, hold := some h, deadline := d, conversion := v
              escalation := true, state := .active, remaining := some d
              calledAt := s.race.runningClock, calledLap := (s.entrant i).laps } :: rest } })
  ∧ (∀ (i : Slot) (s : State),
    (s.entrant i).penalties = [] →
    s.penaltyCrossing i false = s ∧ s.penaltyCrossing i true = s)
  ∧ (∀ (i : Slot) (cls : CallClass) (s : State),
    (s.entrant i).state ≠ .racing ∨ s.rulingFor cls = none →
    s.report i cls = s)
  ∧ (∀ (i : Slot) (cls : CallClass) (s : State),
    (s.entrant i).state = .racing →
    s.rulingFor cls = some .blackFlag →
    s.report i cls = State.recompute { s with
        entrants := s.entrants.set i.val { s.entrant i with activity := true, blackFlag := true } } i)
  ∧ (∀ (i : Slot) (cls : CallClass) (l d : Nat) (s : State),
    (s.entrant i).state = .racing →
    s.rulingFor cls = some (.powerHold l d) →
    s.report i cls = State.recompute { s with
        entrants := s.entrants.set i.val { s.entrant i with
          activity := true
          powerHold := some (match (s.entrant i).powerHold with
            | none => { level := l, expiry := s.race.runningClock + d * 10000 }
            | some h =>
              { level := min h.level l
                expiry := s.race.runningClock + min (h.expiry - s.race.runningClock + d * 10000) 600000 }) } } i)
  ∧ (∀ (i : Slot) (cls : CallClass) (n : Nat) (s : State),
    (s.entrant i).state = .racing →
    s.rulingFor cls = some (.lapDeduction n) →
    s.report i cls = { s with
        entrants := s.entrants.set i.val { s.entrant i with activity := true, laps := (s.entrant i).laps - n }
        standings := placeAgain i { laps := (s.entrant i).laps - n, reach := (s.entrant i).reachTime } s.standings })
  ∧ (∀ (i : Slot) (cls : CallClass) (k : PenaltyKind) (h d v : Nat) (s : State),
    (s.entrant i).state = .racing →
    s.rulingFor cls = some (if k = .stopGo then .stopGo h d v else .driveThrough d v) →
    cls ∈ [CallClass.missedDriveThrough, .missedStopGo] ∨ (s.entrant i).penalties = [] →
    s.report i cls = (if k = .stopGo ∧ (s.entrant i).pitStatus = .box then State.recompute { s with
        entrants := s.entrants.set i.val { s.entrant i with
          activity := true, holdTimer := some (s.race.runningClock + h * 10000)
          penalties := {
            kind := k, cls := cls, hold := if k = .stopGo then some h else none, deadline := d, conversion := v
            escalation := cls == .missedDriveThrough || cls == .missedStopGo, state := .serving, remaining := some d
            calledAt := s.race.runningClock, calledLap := (s.entrant i).laps } :: (s.entrant i).penalties } } i
      else { s with
        entrants := s.entrants.set i.val { s.entrant i with
          activity := true
          penalties := {
            kind := k, cls := cls, hold := if k = .stopGo then some h else none, deadline := d, conversion := v
            escalation := cls == .missedDriveThrough || cls == .missedStopGo, state := .active, remaining := some d
            calledAt := s.race.runningClock, calledLap := (s.entrant i).laps } :: (s.entrant i).penalties } }))
  ∧ (∀ (i : Slot) (cls : CallClass) (k : PenaltyKind) (h d v : Nat) (s : State),
    (s.entrant i).state = .racing →
    s.rulingFor cls = some (if k = .stopGo then .stopGo h d v else .driveThrough d v) →
    cls ∉ [CallClass.missedDriveThrough, .missedStopGo] →
    (s.entrant i).penalties ≠ [] →
    (∀ p ∈ (s.entrant i).penalties.take 1, p.state ≠ .pending) →
    s.report i cls = (if (s.entrant i).penalties.length < 4 then { s with
        entrants := s.entrants.set i.val { s.entrant i with
          activity := true
          penalties := (s.entrant i).penalties ++ [{
            kind := k, cls := cls, hold := if k = .stopGo then some h else none, deadline := d, conversion := v
            escalation := cls == .missedDriveThrough || cls == .missedStopGo, state := .pending, remaining := none
            calledAt := s.race.runningClock, calledLap := (s.entrant i).laps }] } }
      else State.recompute { s with
        entrants := s.entrants.set i.val { s.entrant i with activity := true, blackFlag := true } } i))
  ∧ (∀ (i : Slot) (p : PitPenalty) (rest : List PitPenalty) (cls : CallClass) (s : State),
    (s.entrant i).penalties = p :: rest →
    p.state = .active →
    p.remaining = some 1 ∨ p.remaining = some 0 →
    cls = (if p.kind = .driveThrough then CallClass.missedDriveThrough else .missedStopGo) →
    s.penaltyCrossing i false = (State.report { s with
        entrants := s.entrants.set i.val { s.entrant i with activity := true, penalties := rest } } i cls).judgeHead i)
  ∧ (∀ (i : Slot) (s : State),
    ((s.entrant i).penalties = [] → s.judgeHead i = s)
    ∧ ∀ q ∈ (s.entrant i).penalties.head?.toList,
      (q.state ≠ .pending → s.judgeHead i = s)
      ∧ (q.state = .pending → s.judgeHead i =
          if q.kind = .stopGo ∧ (s.entrant i).pitStatus = .box then State.recompute { s with
            entrants := s.entrants.set i.val { s.entrant i with
              holdTimer := some (s.race.runningClock + q.hold.getD 0 * 10000)
              penalties := { q with state := .serving, remaining := some q.deadline } :: (s.entrant i).penalties.tail } } i
          else { s with
            entrants := s.entrants.set i.val { s.entrant i with
              penalties := { q with state := .active, remaining := some q.deadline } :: (s.entrant i).penalties.tail } }))
  ∧ (∀ (i : Slot) (p : PitPenalty) (rest : List PitPenalty) (h d v : Nat) (s : State),
    (s.entrant i).penalties = p :: rest →
    p.kind = .stopGo →
    p.state = .active →
    p.remaining = some 1 →
    (s.entrant i).pitStatus ≠ .box →
    (s.entrant i).state = .racing →
    s.callTable[6] = some (.stopGo h d v) →
    s.penaltyCrossing i false = { s with
        entrants := s.entrants.set i.val { s.entrant i with
          activity := true
          penalties := {
              kind := .stopGo, cls := .missedStopGo, hold := some h, deadline := d, conversion := v
              escalation := true, state := .active, remaining := some d
              calledAt := s.race.runningClock, calledLap := (s.entrant i).laps } :: rest } })
  ∧ (∀ (i : Slot) (p : PitPenalty) (s : State),
    (s.entrant i).penalties = [p] →
    p.kind = .stopGo →
    p.state = .active →
    p.remaining = some 1 →
    (s.entrant i).state = .racing →
    s.callTable[6] = some .blackFlag →
    s.penaltyCrossing i false = State.recompute { s with
        entrants := s.entrants.set i.val { s.entrant i with penalties := [], activity := true, blackFlag := true } } i)

/-- O60. What a pass at each kind of gate does to lane, pit status and infractions (03 R54, 03 R57, 03 R58, 03 R59,
03 R60, 03 R61, 07 R126). -/
def Obligations.PassesMoveLaneAndPitStatus : Prop :=
  (∀ (tr : Treatment) (i : Slot) (p : Pass) (s : State),
    (s.entrant i).state ≠ .vacant →
    (s.entrant i).pitStatus = .track →
    (p.kind = .line ∧ p.lane ≠ some 6) ∨ p.kind = .split ∨ p.kind = .switch →
    (s.passEffects tr i p).1 = { s with entrants := s.entrants.set i.val { s.entrant i with lane := p.lane } }
    ∧ (s.passEffects tr i p).2 =
        (if tr = .full ∧ (s.entrant i).lane ≠ p.lane ∧ (∃ l ∈ (s.entrant i).lane.toList, l ≤ 5) then
          (if p.kind = .switch then
            (if s.race.yellow = true ∨ ∃ k ∈ p.sector.toList, s.localCaution k =
                true then [.switchUnderCaution] else [])
          else [.laneFault])
        else []))
  ∧ (∀ (tr : Treatment) (i : Slot) (p : Pass) (s : State),
    (s.entrant i).state ≠ .vacant →
    (s.entrant i).pitStatus = .pitLane →
    (p.kind = .line ∧ p.lane ≠ some 6) ∨ p.kind = .split ∨ p.kind = .switch →
    ((s.passEffects tr i p).1.entrant i) = { s.entrant i with
        lane := p.lane, pitStatus := .track, effective := ((s.passEffects tr i p).1.entrant i).effective }
    ∧ (s.passEffects tr i p).1 = { s with
        entrants := s.entrants.set i.val ((s.passEffects tr i p).1.entrant i)
        ceiling := { s.ceiling with dirty := (s.passEffects tr i p).1.ceiling.dirty } })
  ∧ (∀ (tr : Treatment) (i : Slot) (p : Pass) (s : State),
    (s.entrant i).state ≠ .vacant →
    (s.entrant i).penalties = [] →
    p.kind = .pitIn →
    (s.passEffects tr i p).2 = []
    ∧ (s.passEffects tr i p).1 = State.recompute { s with entrants := s.entrants.set i.val { s.entrant i with
        lane := some 6, pitStatus := .pitLane, pitEntry := p.running, boxArrival := none, boxVisited := false } } i)
  ∧ (∀ (tr : Treatment) (i : Slot) (p : Pass) (s : State),
    (s.entrant i).state ≠ .vacant →
    (p.kind = .line ∧ p.lane = some 6) ∨ p.kind = .box →
    (s.passEffects tr i p).2 = []
    ∧ ((s.entrant i).pitStatus ≠ .track → (s.passEffects tr i p).1 =
        { s with entrants := s.entrants.set i.val { s.entrant i with lane := some 6 } })
    ∧ ((s.entrant i).pitStatus = .track → (s.passEffects tr i p).1 =
    State.recompute { s with entrants := s.entrants.set i.val { s.entrant i with
        lane := some 6, pitStatus := .pitLane, pitEntry := none, boxVisited := false } } i))
  ∧ (∀ (tr : Treatment) (i : Slot) (p : Pass) (s : State),
    (s.entrant i).state ≠ .vacant →
    (s.entrant i).penalties = [] →
    (s.entrant i).pitStatus ≠ .box →
    p.kind = .pitOut →
    (s.passEffects tr i p).1 = State.recompute { s with entrants := s.entrants.set i.val { s.entrant i with
        lane := none, pitStatus := .track
        pitStops := if (tr = .held ∨ tr = .full) ∧ (s.entrant i).boxVisited = true
          then min 255 ((s.entrant i).pitStops + 1) else (s.entrant i).pitStops } } i
    ∧ (s.passEffects tr i p).2 =
        (if tr = .full ∧ s.cfg.pitMinimum ≠ 0
          ∧ (∃ a ∈ (s.entrant i).pitEntry.toList, ∃ b ∈ p.running.toList, a ≤ b ∧ b - a < s.cfg.pitMinimum)
        then [.pitSpeeding] else []))
  ∧ (∀ (tr : Treatment) (i : Slot) (now : Option RunTime) (s : State),
    (s.entrant i).state ≠ .vacant →
    (s.entrant i).penalties = [] ∨ tr = .position →
    s.arriveInBox tr i now = State.recompute { s with entrants := s.entrants.set i.val { s.entrant i with
        lane := some 6, pitStatus := .box, boxArrival := now, boxVisited := true
        pitEntry := if (s.entrant i).pitStatus = .track then none else (s.entrant i).pitEntry } } i
    ∧ ((s.entrant i).pitStatus ≠ .box → s.leaveBox tr i = s)
    ∧ ((s.entrant i).pitStatus = .box → s.leaveBox tr i = State.recompute { s with
        entrants := s.entrants.set i.val { s.entrant i with pitStatus := .pitLane } } i))
  ∧ (∀ (tr : Treatment) (i : Slot) (p : Pass) (s : State),
    (s.entrant i).state ≠ .vacant →
    p.kind = .pitIn →
    (s.passEffects tr i p).2 = []
    ∧ (s.passEffects tr i p).1 = (if tr = .held ∨ tr = .full then State.penaltyPitIn (State.recompute { s with
          entrants := s.entrants.set i.val { s.entrant i with
            lane := some 6, pitStatus := .pitLane, pitEntry := p.running, boxArrival := none, boxVisited := false } } i) i else State.recompute { s with
          entrants := s.entrants.set i.val { s.entrant i with
            lane := some 6, pitStatus := .pitLane, pitEntry := p.running, boxArrival := none, boxVisited := false } } i))
  ∧ (∀ (tr : Treatment) (i : Slot) (p : Pass) (w s : State),
    (s.entrant i).state ≠ .vacant →
    s.leaveBox tr i = w →
    p.kind = .pitOut →
    (s.passEffects tr i p).1 =
      (if tr = .held ∨ tr = .full then State.penaltyPitOut (State.recompute { w with
          entrants := w.entrants.set i.val { w.entrant i with
            lane := none, pitStatus := .track
            pitStops := if (w.entrant i).boxVisited = true
              then min 255 ((w.entrant i).pitStops + 1) else (w.entrant i).pitStops } } i) i
      else State.recompute { w with
          entrants := w.entrants.set i.val { w.entrant i with lane := none, pitStatus := .track } } i)
    ∧ (s.passEffects tr i p).2 =
        (if tr = .full ∧ s.cfg.pitMinimum ≠ 0
          ∧ (∃ a ∈ (s.entrant i).pitEntry.toList, ∃ b ∈ p.running.toList, a ≤ b ∧ b - a < s.cfg.pitMinimum)
        then [.pitSpeeding] else []))
  ∧ (∀ (tr : Treatment) (i : Slot) (p : Pass) (w s : State),
    (s.entrant i).state ≠ .vacant →
    s.leaveBox tr i = w →
    (s.entrant i).pitStatus ≠ .track →
    (p.kind = .line ∧ p.lane ≠ some 6) ∨ p.kind = .split ∨ p.kind = .switch →
    (s.passEffects tr i p).1 = State.recompute { w with
        entrants := w.entrants.set i.val { w.entrant i with lane := p.lane, pitStatus := .track } } i
    ∧ (s.passEffects tr i p).2 =
        (if tr = .full ∧ (s.entrant i).lane ≠ p.lane ∧ (∃ l ∈ (s.entrant i).lane.toList, l ≤ 5) then
          (if p.kind = .switch then
            (if s.race.yellow = true ∨ (∃ k ∈ p.sector.toList, s.localCaution k = true)
            then [.switchUnderCaution] else [])
          else [.laneFault])
        else []))
  ∧ (∀ (tr : Treatment) (i : Slot) (now : Option RunTime) (w s : State),
    (s.entrant i).state ≠ .vacant →
    State.recompute { s with entrants := s.entrants.set i.val { s.entrant i with
        lane := some 6, pitStatus := .box, boxArrival := now, boxVisited := true,
        pitEntry := if (s.entrant i).pitStatus = .track then none else (s.entrant i).pitEntry } } i = w →
    s.arriveInBox tr i now = (match now with
        | some a => if tr = .held ∨ tr = .full then w.penaltyBoxArrival i a else w
        | none => w))
  ∧ (∀ (tr : Treatment) (i : Slot) (w s : State),
    (s.entrant i).state ≠ .vacant →
    State.recompute { s with entrants := s.entrants.set i.val { s.entrant i with pitStatus := .pitLane } } i = w →
    s.leaveBox tr i = (if (s.entrant i).pitStatus ≠ .box then s
      else if tr = .held ∨ tr = .full then w.penaltyBoxDeparture i else w))

end ObligationStatements
end

