-- ==== Sys2Proof/Laws/State.lean ====
section
/-! SUPPORT. What each plain update of the state leaves in each field, one lemma a field, true by `rfl`; and a record, a
gate or a dirty class read after one has been replaced. -/

namespace Sys2Proof.Machine

/-! ### `modEntrant` -/

@[simp] theorem State.modEntrant_cfg (s : State) (i : Slot) (f : Entrant → Entrant) :
    (s.modEntrant i f).cfg = s.cfg := rfl
@[simp] theorem State.modEntrant_gates (s : State) (i : Slot) (f : Entrant → Entrant) :
    (s.modEntrant i f).gates = s.gates := rfl
@[simp] theorem State.modEntrant_testStart (s : State) (i : Slot) (f : Entrant → Entrant) :
    (s.modEntrant i f).testStart = s.testStart := rfl
@[simp] theorem State.modEntrant_resolver (s : State) (i : Slot) (f : Entrant → Entrant) :
    (s.modEntrant i f).resolver = s.resolver := rfl
@[simp] theorem State.modEntrant_entrants (s : State) (i : Slot) (f : Entrant → Entrant) :
    (s.modEntrant i f).entrants = s.entrants.set i.val (f (s.entrant i)) := rfl
@[simp] theorem State.modEntrant_ring (s : State) (i : Slot) (f : Entrant → Entrant) :
    (s.modEntrant i f).ring = s.ring := rfl
@[simp] theorem State.modEntrant_highMark (s : State) (i : Slot) (f : Entrant → Entrant) :
    (s.modEntrant i f).highMark = s.highMark := rfl
@[simp] theorem State.modEntrant_standings (s : State) (i : Slot) (f : Entrant → Entrant) :
    (s.modEntrant i f).standings = s.standings := rfl
@[simp] theorem State.modEntrant_race (s : State) (i : Slot) (f : Entrant → Entrant) :
    (s.modEntrant i f).race = s.race := rfl
@[simp] theorem State.modEntrant_callTable (s : State) (i : Slot) (f : Entrant → Entrant) :
    (s.modEntrant i f).callTable = s.callTable := rfl
@[simp] theorem State.modEntrant_ceiling (s : State) (i : Slot) (f : Entrant → Entrant) :
    (s.modEntrant i f).ceiling = s.ceiling := rfl
@[simp] theorem State.modEntrant_inputs (s : State) (i : Slot) (f : Entrant → Entrant) :
    (s.modEntrant i f).inputs = s.inputs := rfl
@[simp] theorem State.modEntrant_attention (s : State) (i : Slot) (f : Entrant → Entrant) :
    (s.modEntrant i f).attention = s.attention := rfl
@[simp] theorem State.modEntrant_link (s : State) (i : Slot) (f : Entrant → Entrant) :
    (s.modEntrant i f).link = s.link := rfl
@[simp] theorem State.modEntrant_pins (s : State) (i : Slot) (f : Entrant → Entrant) :
    (s.modEntrant i f).pins = s.pins := rfl
@[simp] theorem State.modEntrant_pending (s : State) (i : Slot) (f : Entrant → Entrant) :
    (s.modEntrant i f).pending = s.pending := rfl

/-! ### `modGate` -/

@[simp] theorem State.modGate_cfg (s : State) (g : GateNo) (f : Gate → Gate) : (s.modGate g f).cfg = s.cfg := rfl
@[simp] theorem State.modGate_gates (s : State) (g : GateNo) (f : Gate → Gate) :
    (s.modGate g f).gates = s.gates.set g.val (f (s.gate g)) := rfl
@[simp] theorem State.modGate_testStart (s : State) (g : GateNo) (f : Gate → Gate) :
    (s.modGate g f).testStart = s.testStart := rfl
@[simp] theorem State.modGate_resolver (s : State) (g : GateNo) (f : Gate → Gate) :
    (s.modGate g f).resolver = s.resolver := rfl
@[simp] theorem State.modGate_entrants (s : State) (g : GateNo) (f : Gate → Gate) :
    (s.modGate g f).entrants = s.entrants := rfl
@[simp] theorem State.modGate_ring (s : State) (g : GateNo) (f : Gate → Gate) : (s.modGate g f).ring = s.ring := rfl
@[simp] theorem State.modGate_highMark (s : State) (g : GateNo) (f : Gate → Gate) :
    (s.modGate g f).highMark = s.highMark := rfl
@[simp] theorem State.modGate_standings (s : State) (g : GateNo) (f : Gate → Gate) :
    (s.modGate g f).standings = s.standings := rfl
@[simp] theorem State.modGate_race (s : State) (g : GateNo) (f : Gate → Gate) : (s.modGate g f).race = s.race := rfl
@[simp] theorem State.modGate_callTable (s : State) (g : GateNo) (f : Gate → Gate) :
    (s.modGate g f).callTable = s.callTable := rfl
@[simp] theorem State.modGate_ceiling (s : State) (g : GateNo) (f : Gate → Gate) :
    (s.modGate g f).ceiling = s.ceiling := rfl
@[simp] theorem State.modGate_inputs (s : State) (g : GateNo) (f : Gate → Gate) :
    (s.modGate g f).inputs = s.inputs := rfl
@[simp] theorem State.modGate_attention (s : State) (g : GateNo) (f : Gate → Gate) :
    (s.modGate g f).attention = s.attention := rfl
@[simp] theorem State.modGate_link (s : State) (g : GateNo) (f : Gate → Gate) : (s.modGate g f).link = s.link := rfl
@[simp] theorem State.modGate_pins (s : State) (g : GateNo) (f : Gate → Gate) : (s.modGate g f).pins = s.pins := rfl
@[simp] theorem State.modGate_pending (s : State) (g : GateNo) (f : Gate → Gate) :
    (s.modGate g f).pending = s.pending := rfl

/-! ### `modDecoder` -/

@[simp] theorem State.modDecoder_cfg (s : State) (g : GateNo) (f : Decoder → Decoder) :
    (s.modDecoder g f).cfg = s.cfg := rfl
@[simp] theorem State.modDecoder_gates (s : State) (g : GateNo) (f : Decoder → Decoder) :
    (s.modDecoder g f).gates = s.gates.set g.val { s.gate g with decoder := f (s.gate g).decoder } := rfl
@[simp] theorem State.modDecoder_testStart (s : State) (g : GateNo) (f : Decoder → Decoder) :
    (s.modDecoder g f).testStart = s.testStart := rfl
@[simp] theorem State.modDecoder_resolver (s : State) (g : GateNo) (f : Decoder → Decoder) :
    (s.modDecoder g f).resolver = s.resolver := rfl
@[simp] theorem State.modDecoder_entrants (s : State) (g : GateNo) (f : Decoder → Decoder) :
    (s.modDecoder g f).entrants = s.entrants := rfl
@[simp] theorem State.modDecoder_ring (s : State) (g : GateNo) (f : Decoder → Decoder) :
    (s.modDecoder g f).ring = s.ring := rfl
@[simp] theorem State.modDecoder_highMark (s : State) (g : GateNo) (f : Decoder → Decoder) :
    (s.modDecoder g f).highMark = s.highMark := rfl
@[simp] theorem State.modDecoder_standings (s : State) (g : GateNo) (f : Decoder → Decoder) :
    (s.modDecoder g f).standings = s.standings := rfl
@[simp] theorem State.modDecoder_race (s : State) (g : GateNo) (f : Decoder → Decoder) :
    (s.modDecoder g f).race = s.race := rfl
@[simp] theorem State.modDecoder_callTable (s : State) (g : GateNo) (f : Decoder → Decoder) :
    (s.modDecoder g f).callTable = s.callTable := rfl
@[simp] theorem State.modDecoder_ceiling (s : State) (g : GateNo) (f : Decoder → Decoder) :
    (s.modDecoder g f).ceiling = s.ceiling := rfl
@[simp] theorem State.modDecoder_inputs (s : State) (g : GateNo) (f : Decoder → Decoder) :
    (s.modDecoder g f).inputs = s.inputs := rfl
@[simp] theorem State.modDecoder_attention (s : State) (g : GateNo) (f : Decoder → Decoder) :
    (s.modDecoder g f).attention = s.attention := rfl
@[simp] theorem State.modDecoder_link (s : State) (g : GateNo) (f : Decoder → Decoder) :
    (s.modDecoder g f).link = s.link := rfl
@[simp] theorem State.modDecoder_pins (s : State) (g : GateNo) (f : Decoder → Decoder) :
    (s.modDecoder g f).pins = s.pins := rfl
@[simp] theorem State.modDecoder_pending (s : State) (g : GateNo) (f : Decoder → Decoder) :
    (s.modDecoder g f).pending = s.pending := rfl

/-! ### `setDirty` -/

@[simp] theorem State.setDirty_cfg (s : State) (i : Slot) (d : DirtyClass) : (s.setDirty i d).cfg = s.cfg := rfl
@[simp] theorem State.setDirty_gates (s : State) (i : Slot) (d : DirtyClass) : (s.setDirty i d).gates = s.gates := rfl
@[simp] theorem State.setDirty_testStart (s : State) (i : Slot) (d : DirtyClass) :
    (s.setDirty i d).testStart = s.testStart := rfl
@[simp] theorem State.setDirty_resolver (s : State) (i : Slot) (d : DirtyClass) :
    (s.setDirty i d).resolver = s.resolver := rfl
@[simp] theorem State.setDirty_entrants (s : State) (i : Slot) (d : DirtyClass) :
    (s.setDirty i d).entrants = s.entrants := rfl
@[simp] theorem State.setDirty_ring (s : State) (i : Slot) (d : DirtyClass) : (s.setDirty i d).ring = s.ring := rfl
@[simp] theorem State.setDirty_highMark (s : State) (i : Slot) (d : DirtyClass) :
    (s.setDirty i d).highMark = s.highMark := rfl
@[simp] theorem State.setDirty_standings (s : State) (i : Slot) (d : DirtyClass) :
    (s.setDirty i d).standings = s.standings := rfl
@[simp] theorem State.setDirty_race (s : State) (i : Slot) (d : DirtyClass) : (s.setDirty i d).race = s.race := rfl
@[simp] theorem State.setDirty_callTable (s : State) (i : Slot) (d : DirtyClass) :
    (s.setDirty i d).callTable = s.callTable := rfl
@[simp] theorem State.setDirty_ceiling (s : State) (i : Slot) (d : DirtyClass) :
    (s.setDirty i d).ceiling = { s.ceiling with dirty := s.ceiling.dirty.set i.val d } := rfl
@[simp] theorem State.setDirty_inputs (s : State) (i : Slot) (d : DirtyClass) :
    (s.setDirty i d).inputs = s.inputs := rfl
@[simp] theorem State.setDirty_attention (s : State) (i : Slot) (d : DirtyClass) :
    (s.setDirty i d).attention = s.attention := rfl
@[simp] theorem State.setDirty_link (s : State) (i : Slot) (d : DirtyClass) : (s.setDirty i d).link = s.link := rfl
@[simp] theorem State.setDirty_pins (s : State) (i : Slot) (d : DirtyClass) : (s.setDirty i d).pins = s.pins := rfl
@[simp] theorem State.setDirty_pending (s : State) (i : Slot) (d : DirtyClass) :
    (s.setDirty i d).pending = s.pending := rfl

/-! ### `tick` -/

@[simp] theorem State.tick_cfg (s : State) : (s.tick).cfg = s.cfg := rfl
@[simp] theorem State.tick_gates (s : State) : (s.tick).gates = s.gates := rfl
@[simp] theorem State.tick_testStart (s : State) : (s.tick).testStart = s.testStart := rfl
@[simp] theorem State.tick_resolver (s : State) : (s.tick).resolver = s.resolver := rfl
@[simp] theorem State.tick_entrants (s : State) : (s.tick).entrants = s.entrants := rfl
@[simp] theorem State.tick_ring (s : State) : (s.tick).ring = s.ring := rfl
@[simp] theorem State.tick_highMark (s : State) : (s.tick).highMark = s.highMark := rfl
@[simp] theorem State.tick_standings (s : State) : (s.tick).standings = s.standings := rfl
@[simp] theorem State.tick_callTable (s : State) : (s.tick).callTable = s.callTable := rfl
@[simp] theorem State.tick_ceiling (s : State) : (s.tick).ceiling = s.ceiling := rfl
@[simp] theorem State.tick_inputs (s : State) : (s.tick).inputs = s.inputs := rfl
@[simp] theorem State.tick_attention (s : State) : (s.tick).attention = s.attention := rfl
@[simp] theorem State.tick_link (s : State) : (s.tick).link = s.link := rfl
@[simp] theorem State.tick_pins (s : State) : (s.tick).pins = s.pins := rfl
@[simp] theorem State.tick_pending (s : State) : (s.tick).pending = s.pending := rfl

/-! ### `enterRace` -/

@[simp] theorem State.enterRace_cfg (s : State) (r : RaceState) : (s.enterRace r).cfg = s.cfg := rfl
@[simp] theorem State.enterRace_gates (s : State) (r : RaceState) : (s.enterRace r).gates = s.gates := rfl
@[simp] theorem State.enterRace_testStart (s : State) (r : RaceState) : (s.enterRace r).testStart = s.testStart := rfl
@[simp] theorem State.enterRace_resolver (s : State) (r : RaceState) : (s.enterRace r).resolver = s.resolver := rfl
@[simp] theorem State.enterRace_entrants (s : State) (r : RaceState) : (s.enterRace r).entrants = s.entrants := rfl
@[simp] theorem State.enterRace_ring (s : State) (r : RaceState) : (s.enterRace r).ring = s.ring := rfl
@[simp] theorem State.enterRace_highMark (s : State) (r : RaceState) : (s.enterRace r).highMark = s.highMark := rfl
@[simp] theorem State.enterRace_standings (s : State) (r : RaceState) : (s.enterRace r).standings = s.standings := rfl
@[simp] theorem State.enterRace_race (s : State) (r : RaceState) :
    (s.enterRace r).race = { s.race with state := r } := rfl
@[simp] theorem State.enterRace_callTable (s : State) (r : RaceState) : (s.enterRace r).callTable = s.callTable := rfl
@[simp] theorem State.enterRace_ceiling (s : State) (r : RaceState) :
    (s.enterRace r).ceiling = { s.ceiling with holdStart := s.holdStartOn r } := rfl
@[simp] theorem State.enterRace_inputs (s : State) (r : RaceState) : (s.enterRace r).inputs = s.inputs := rfl
@[simp] theorem State.enterRace_attention (s : State) (r : RaceState) :
    (s.enterRace r).attention = { s.attention with race := true } := rfl
@[simp] theorem State.enterRace_link (s : State) (r : RaceState) : (s.enterRace r).link = s.link := rfl
@[simp] theorem State.enterRace_pins (s : State) (r : RaceState) : (s.enterRace r).pins = s.pins := rfl
@[simp] theorem State.enterRace_pending (s : State) (r : RaceState) : (s.enterRace r).pending = s.pending := rfl

/-! ### `settle` -/

@[simp] theorem State.settle_cfg (s : State) : (s.settle).cfg = s.cfg := rfl
@[simp] theorem State.settle_gates (s : State) : (s.settle).gates = s.gates := rfl
@[simp] theorem State.settle_testStart (s : State) : (s.settle).testStart = s.testStart := rfl
@[simp] theorem State.settle_resolver (s : State) : (s.settle).resolver = s.resolver := rfl
@[simp] theorem State.settle_entrants (s : State) : (s.settle).entrants = s.entrants := rfl
@[simp] theorem State.settle_ring (s : State) : (s.settle).ring = s.ring := rfl
@[simp] theorem State.settle_highMark (s : State) : (s.settle).highMark = s.highMark := rfl
@[simp] theorem State.settle_standings (s : State) : (s.settle).standings = s.standings := rfl
@[simp] theorem State.settle_race (s : State) : (s.settle).race = s.race := rfl
@[simp] theorem State.settle_callTable (s : State) : (s.settle).callTable = s.callTable := rfl
@[simp] theorem State.settle_ceiling (s : State) : (s.settle).ceiling = s.ceiling := rfl
@[simp] theorem State.settle_inputs (s : State) : (s.settle).inputs = s.inputs := rfl
@[simp] theorem State.settle_attention (s : State) : (s.settle).attention = s.attention := rfl
@[simp] theorem State.settle_link (s : State) : (s.settle).link = s.link := rfl
@[simp] theorem State.settle_pins (s : State) : (s.settle).pins = s.pinsNow := rfl
@[simp] theorem State.settle_pending (s : State) : (s.settle).pending = s.pending := rfl

/-! ### `setRx` -/

@[simp] theorem State.setRx_cfg (s : State) (r : RxState) : (s.setRx r).cfg = s.cfg := rfl
@[simp] theorem State.setRx_gates (s : State) (r : RxState) : (s.setRx r).gates = s.gates := rfl
@[simp] theorem State.setRx_testStart (s : State) (r : RxState) : (s.setRx r).testStart = s.testStart := rfl
@[simp] theorem State.setRx_resolver (s : State) (r : RxState) : (s.setRx r).resolver = s.resolver := rfl
@[simp] theorem State.setRx_entrants (s : State) (r : RxState) : (s.setRx r).entrants = s.entrants := rfl
@[simp] theorem State.setRx_ring (s : State) (r : RxState) : (s.setRx r).ring = s.ring := rfl
@[simp] theorem State.setRx_highMark (s : State) (r : RxState) : (s.setRx r).highMark = s.highMark := rfl
@[simp] theorem State.setRx_standings (s : State) (r : RxState) : (s.setRx r).standings = s.standings := rfl
@[simp] theorem State.setRx_race (s : State) (r : RxState) : (s.setRx r).race = s.race := rfl
@[simp] theorem State.setRx_callTable (s : State) (r : RxState) : (s.setRx r).callTable = s.callTable := rfl
@[simp] theorem State.setRx_ceiling (s : State) (r : RxState) : (s.setRx r).ceiling = s.ceiling := rfl
@[simp] theorem State.setRx_inputs (s : State) (r : RxState) : (s.setRx r).inputs = s.inputs := rfl
@[simp] theorem State.setRx_attention (s : State) (r : RxState) : (s.setRx r).attention = s.attention := rfl
@[simp] theorem State.setRx_link (s : State) (r : RxState) :
    (s.setRx r).link = { s.link with rx := r, lastByte := s.race.raceClock } := rfl
@[simp] theorem State.setRx_pins (s : State) (r : RxState) : (s.setRx r).pins = s.pins := rfl
@[simp] theorem State.setRx_pending (s : State) (r : RxState) : (s.setRx r).pending = s.pending := rfl

/-! ### `dropFrame` -/

@[simp] theorem State.dropFrame_cfg (s : State) : (s.dropFrame).cfg = s.cfg := rfl
@[simp] theorem State.dropFrame_gates (s : State) : (s.dropFrame).gates = s.gates := rfl
@[simp] theorem State.dropFrame_testStart (s : State) : (s.dropFrame).testStart = s.testStart := rfl
@[simp] theorem State.dropFrame_resolver (s : State) : (s.dropFrame).resolver = s.resolver := rfl
@[simp] theorem State.dropFrame_entrants (s : State) : (s.dropFrame).entrants = s.entrants := rfl
@[simp] theorem State.dropFrame_ring (s : State) : (s.dropFrame).ring = s.ring := rfl
@[simp] theorem State.dropFrame_highMark (s : State) : (s.dropFrame).highMark = s.highMark := rfl
@[simp] theorem State.dropFrame_standings (s : State) : (s.dropFrame).standings = s.standings := rfl
@[simp] theorem State.dropFrame_race (s : State) : (s.dropFrame).race = s.race := rfl
@[simp] theorem State.dropFrame_callTable (s : State) : (s.dropFrame).callTable = s.callTable := rfl
@[simp] theorem State.dropFrame_ceiling (s : State) : (s.dropFrame).ceiling = s.ceiling := rfl
@[simp] theorem State.dropFrame_inputs (s : State) : (s.dropFrame).inputs = s.inputs := rfl
@[simp] theorem State.dropFrame_attention (s : State) : (s.dropFrame).attention = s.attention := rfl
@[simp] theorem State.dropFrame_link (s : State) : (s.dropFrame).link = { s.link with rx := .hunt } := rfl
@[simp] theorem State.dropFrame_pins (s : State) : (s.dropFrame).pins = s.pins := rfl
@[simp] theorem State.dropFrame_pending (s : State) : (s.dropFrame).pending = s.pending := rfl

/-! ### `replace` -/

@[simp] theorem State.replace_cfg (s : State) (i : Slot) : (s.replace i).cfg = s.cfg := rfl
@[simp] theorem State.replace_gates (s : State) (i : Slot) : (s.replace i).gates = s.gates := rfl
@[simp] theorem State.replace_testStart (s : State) (i : Slot) : (s.replace i).testStart = s.testStart := rfl
@[simp] theorem State.replace_resolver (s : State) (i : Slot) : (s.replace i).resolver = s.resolver := rfl
@[simp] theorem State.replace_entrants (s : State) (i : Slot) : (s.replace i).entrants = s.entrants := rfl
@[simp] theorem State.replace_ring (s : State) (i : Slot) : (s.replace i).ring = s.ring := rfl
@[simp] theorem State.replace_highMark (s : State) (i : Slot) : (s.replace i).highMark = s.highMark := rfl
@[simp] theorem State.replace_standings (s : State) (i : Slot) :
    (s.replace i).standings = placeAgain i (s.entrant i).key s.standings := rfl
@[simp] theorem State.replace_race (s : State) (i : Slot) : (s.replace i).race = s.race := rfl
@[simp] theorem State.replace_callTable (s : State) (i : Slot) : (s.replace i).callTable = s.callTable := rfl
@[simp] theorem State.replace_ceiling (s : State) (i : Slot) : (s.replace i).ceiling = s.ceiling := rfl
@[simp] theorem State.replace_inputs (s : State) (i : Slot) : (s.replace i).inputs = s.inputs := rfl
@[simp] theorem State.replace_attention (s : State) (i : Slot) : (s.replace i).attention = s.attention := rfl
@[simp] theorem State.replace_link (s : State) (i : Slot) : (s.replace i).link = s.link := rfl
@[simp] theorem State.replace_pins (s : State) (i : Slot) : (s.replace i).pins = s.pins := rfl
@[simp] theorem State.replace_pending (s : State) (i : Slot) : (s.replace i).pending = s.pending := rfl

/-! ### `joinStandings` -/

@[simp] theorem State.joinStandings_cfg (s : State) (i : Slot) : (s.joinStandings i).cfg = s.cfg := rfl
@[simp] theorem State.joinStandings_gates (s : State) (i : Slot) : (s.joinStandings i).gates = s.gates := rfl
@[simp] theorem State.joinStandings_testStart (s : State) (i : Slot) :
    (s.joinStandings i).testStart = s.testStart := rfl
@[simp] theorem State.joinStandings_resolver (s : State) (i : Slot) : (s.joinStandings i).resolver = s.resolver := rfl
@[simp] theorem State.joinStandings_entrants (s : State) (i : Slot) : (s.joinStandings i).entrants = s.entrants := rfl
@[simp] theorem State.joinStandings_ring (s : State) (i : Slot) : (s.joinStandings i).ring = s.ring := rfl
@[simp] theorem State.joinStandings_highMark (s : State) (i : Slot) : (s.joinStandings i).highMark = s.highMark := rfl
@[simp] theorem State.joinStandings_standings (s : State) (i : Slot) :
    (s.joinStandings i).standings = s.standings ++ [{ slot := i, key := Key.lowest }] := rfl
@[simp] theorem State.joinStandings_race (s : State) (i : Slot) : (s.joinStandings i).race = s.race := rfl
@[simp] theorem State.joinStandings_callTable (s : State) (i : Slot) :
    (s.joinStandings i).callTable = s.callTable := rfl
@[simp] theorem State.joinStandings_ceiling (s : State) (i : Slot) : (s.joinStandings i).ceiling = s.ceiling := rfl
@[simp] theorem State.joinStandings_inputs (s : State) (i : Slot) : (s.joinStandings i).inputs = s.inputs := rfl
@[simp] theorem State.joinStandings_attention (s : State) (i : Slot) :
    (s.joinStandings i).attention = s.attention := rfl
@[simp] theorem State.joinStandings_link (s : State) (i : Slot) : (s.joinStandings i).link = s.link := rfl
@[simp] theorem State.joinStandings_pins (s : State) (i : Slot) : (s.joinStandings i).pins = s.pins := rfl
@[simp] theorem State.joinStandings_pending (s : State) (i : Slot) : (s.joinStandings i).pending = s.pending := rfl

/-! ### `leaveStandings` -/

@[simp] theorem State.leaveStandings_cfg (s : State) (i : Slot) : (s.leaveStandings i).cfg = s.cfg := rfl
@[simp] theorem State.leaveStandings_gates (s : State) (i : Slot) : (s.leaveStandings i).gates = s.gates := rfl
@[simp] theorem State.leaveStandings_testStart (s : State) (i : Slot) :
    (s.leaveStandings i).testStart = s.testStart := rfl
@[simp] theorem State.leaveStandings_resolver (s : State) (i : Slot) :
    (s.leaveStandings i).resolver = s.resolver := rfl
@[simp] theorem State.leaveStandings_entrants (s : State) (i : Slot) :
    (s.leaveStandings i).entrants = s.entrants := rfl
@[simp] theorem State.leaveStandings_ring (s : State) (i : Slot) : (s.leaveStandings i).ring = s.ring := rfl
@[simp] theorem State.leaveStandings_highMark (s : State) (i : Slot) :
    (s.leaveStandings i).highMark = s.highMark := rfl
@[simp] theorem State.leaveStandings_standings (s : State) (i : Slot) :
    (s.leaveStandings i).standings = withoutSlot i s.standings := rfl
@[simp] theorem State.leaveStandings_race (s : State) (i : Slot) : (s.leaveStandings i).race = s.race := rfl
@[simp] theorem State.leaveStandings_callTable (s : State) (i : Slot) :
    (s.leaveStandings i).callTable = s.callTable := rfl
@[simp] theorem State.leaveStandings_ceiling (s : State) (i : Slot) : (s.leaveStandings i).ceiling = s.ceiling := rfl
@[simp] theorem State.leaveStandings_inputs (s : State) (i : Slot) : (s.leaveStandings i).inputs = s.inputs := rfl
@[simp] theorem State.leaveStandings_attention (s : State) (i : Slot) :
    (s.leaveStandings i).attention = s.attention := rfl
@[simp] theorem State.leaveStandings_link (s : State) (i : Slot) : (s.leaveStandings i).link = s.link := rfl
@[simp] theorem State.leaveStandings_pins (s : State) (i : Slot) : (s.leaveStandings i).pins = s.pins := rfl
@[simp] theorem State.leaveStandings_pending (s : State) (i : Slot) : (s.leaveStandings i).pending = s.pending := rfl

/-! ### `rebuildStandings` -/

@[simp] theorem State.rebuildStandings_cfg (s : State) : (s.rebuildStandings).cfg = s.cfg := rfl
@[simp] theorem State.rebuildStandings_gates (s : State) : (s.rebuildStandings).gates = s.gates := rfl
@[simp] theorem State.rebuildStandings_testStart (s : State) : (s.rebuildStandings).testStart = s.testStart := rfl
@[simp] theorem State.rebuildStandings_resolver (s : State) : (s.rebuildStandings).resolver = s.resolver := rfl
@[simp] theorem State.rebuildStandings_entrants (s : State) : (s.rebuildStandings).entrants = s.entrants := rfl
@[simp] theorem State.rebuildStandings_ring (s : State) : (s.rebuildStandings).ring = s.ring := rfl
@[simp] theorem State.rebuildStandings_highMark (s : State) : (s.rebuildStandings).highMark = s.highMark := rfl
@[simp] theorem State.rebuildStandings_race (s : State) : (s.rebuildStandings).race = s.race := rfl
@[simp] theorem State.rebuildStandings_callTable (s : State) : (s.rebuildStandings).callTable = s.callTable := rfl
@[simp] theorem State.rebuildStandings_ceiling (s : State) : (s.rebuildStandings).ceiling = s.ceiling := rfl
@[simp] theorem State.rebuildStandings_inputs (s : State) : (s.rebuildStandings).inputs = s.inputs := rfl
@[simp] theorem State.rebuildStandings_attention (s : State) : (s.rebuildStandings).attention = s.attention := rfl
@[simp] theorem State.rebuildStandings_link (s : State) : (s.rebuildStandings).link = s.link := rfl
@[simp] theorem State.rebuildStandings_pins (s : State) : (s.rebuildStandings).pins = s.pins := rfl
@[simp] theorem State.rebuildStandings_pending (s : State) : (s.rebuildStandings).pending = s.pending := rfl

/-! ### `enqueuePass` -/

@[simp] theorem State.enqueuePass_cfg (s : State) (p : Pass) : (s.enqueuePass p).cfg = s.cfg := rfl
@[simp] theorem State.enqueuePass_gates (s : State) (p : Pass) : (s.enqueuePass p).gates = s.gates := rfl
@[simp] theorem State.enqueuePass_testStart (s : State) (p : Pass) : (s.enqueuePass p).testStart = s.testStart := rfl
@[simp] theorem State.enqueuePass_entrants (s : State) (p : Pass) : (s.enqueuePass p).entrants = s.entrants := rfl
@[simp] theorem State.enqueuePass_ring (s : State) (p : Pass) : (s.enqueuePass p).ring = s.ring := rfl
@[simp] theorem State.enqueuePass_highMark (s : State) (p : Pass) : (s.enqueuePass p).highMark = s.highMark := rfl
@[simp] theorem State.enqueuePass_standings (s : State) (p : Pass) : (s.enqueuePass p).standings = s.standings := rfl
@[simp] theorem State.enqueuePass_race (s : State) (p : Pass) : (s.enqueuePass p).race = s.race := rfl
@[simp] theorem State.enqueuePass_callTable (s : State) (p : Pass) : (s.enqueuePass p).callTable = s.callTable := rfl
@[simp] theorem State.enqueuePass_ceiling (s : State) (p : Pass) : (s.enqueuePass p).ceiling = s.ceiling := rfl
@[simp] theorem State.enqueuePass_inputs (s : State) (p : Pass) : (s.enqueuePass p).inputs = s.inputs := rfl
@[simp] theorem State.enqueuePass_attention (s : State) (p : Pass) : (s.enqueuePass p).attention = s.attention := rfl
@[simp] theorem State.enqueuePass_link (s : State) (p : Pass) : (s.enqueuePass p).link = s.link := rfl
@[simp] theorem State.enqueuePass_pins (s : State) (p : Pass) : (s.enqueuePass p).pins = s.pins := rfl
@[simp] theorem State.enqueuePass_pending (s : State) (p : Pass) : (s.enqueuePass p).pending = s.pending := rfl

/-! ### `settleEntry` -/

@[simp] theorem State.settleEntry_cfg (s : State) (tag : Byte) : (s.settleEntry tag).cfg = s.cfg := rfl
@[simp] theorem State.settleEntry_gates (s : State) (tag : Byte) : (s.settleEntry tag).gates = s.gates := rfl
@[simp] theorem State.settleEntry_testStart (s : State) (tag : Byte) :
    (s.settleEntry tag).testStart = s.testStart := rfl
@[simp] theorem State.settleEntry_entrants (s : State) (tag : Byte) : (s.settleEntry tag).entrants = s.entrants := rfl
@[simp] theorem State.settleEntry_ring (s : State) (tag : Byte) : (s.settleEntry tag).ring = s.ring := rfl
@[simp] theorem State.settleEntry_highMark (s : State) (tag : Byte) : (s.settleEntry tag).highMark = s.highMark := rfl
@[simp] theorem State.settleEntry_standings (s : State) (tag : Byte) :
    (s.settleEntry tag).standings = s.standings := rfl
@[simp] theorem State.settleEntry_race (s : State) (tag : Byte) : (s.settleEntry tag).race = s.race := rfl
@[simp] theorem State.settleEntry_callTable (s : State) (tag : Byte) :
    (s.settleEntry tag).callTable = s.callTable := rfl
@[simp] theorem State.settleEntry_ceiling (s : State) (tag : Byte) : (s.settleEntry tag).ceiling = s.ceiling := rfl
@[simp] theorem State.settleEntry_inputs (s : State) (tag : Byte) : (s.settleEntry tag).inputs = s.inputs := rfl
@[simp] theorem State.settleEntry_attention (s : State) (tag : Byte) :
    (s.settleEntry tag).attention = s.attention := rfl
@[simp] theorem State.settleEntry_link (s : State) (tag : Byte) : (s.settleEntry tag).link = s.link := rfl
@[simp] theorem State.settleEntry_pins (s : State) (tag : Byte) : (s.settleEntry tag).pins = s.pins := rfl
@[simp] theorem State.settleEntry_pending (s : State) (tag : Byte) : (s.settleEntry tag).pending = s.pending := rfl

/-! ### `inputEdge` -/

@[simp] theorem State.inputEdge_cfg (s : State) (l : InputLevels) : (s.inputEdge l).cfg = s.cfg := rfl
@[simp] theorem State.inputEdge_gates (s : State) (l : InputLevels) : (s.inputEdge l).gates = s.gates := rfl
@[simp] theorem State.inputEdge_testStart (s : State) (l : InputLevels) :
    (s.inputEdge l).testStart = s.testStart := rfl
@[simp] theorem State.inputEdge_resolver (s : State) (l : InputLevels) : (s.inputEdge l).resolver = s.resolver := rfl
@[simp] theorem State.inputEdge_entrants (s : State) (l : InputLevels) : (s.inputEdge l).entrants = s.entrants := rfl
@[simp] theorem State.inputEdge_ring (s : State) (l : InputLevels) : (s.inputEdge l).ring = s.ring := rfl
@[simp] theorem State.inputEdge_highMark (s : State) (l : InputLevels) : (s.inputEdge l).highMark = s.highMark := rfl
@[simp] theorem State.inputEdge_standings (s : State) (l : InputLevels) :
    (s.inputEdge l).standings = s.standings := rfl
@[simp] theorem State.inputEdge_race (s : State) (l : InputLevels) : (s.inputEdge l).race = s.race := rfl
@[simp] theorem State.inputEdge_callTable (s : State) (l : InputLevels) :
    (s.inputEdge l).callTable = s.callTable := rfl
@[simp] theorem State.inputEdge_ceiling (s : State) (l : InputLevels) : (s.inputEdge l).ceiling = s.ceiling := rfl
@[simp] theorem State.inputEdge_inputs (s : State) (l : InputLevels) : (s.inputEdge l).inputs = s.inputs.edge l := rfl
@[simp] theorem State.inputEdge_attention (s : State) (l : InputLevels) :
    (s.inputEdge l).attention = s.attention := rfl
@[simp] theorem State.inputEdge_link (s : State) (l : InputLevels) : (s.inputEdge l).link = s.link := rfl
@[simp] theorem State.inputEdge_pins (s : State) (l : InputLevels) : (s.inputEdge l).pins = s.pins := rfl
@[simp] theorem State.inputEdge_pending (s : State) (l : InputLevels) : (s.inputEdge l).pending = s.pending := rfl

/-! ### `watchBlind` -/

@[simp] theorem State.watchBlind_cfg (s : State) : (s.watchBlind).cfg = s.cfg := rfl
@[simp] theorem State.watchBlind_gates (s : State) : (s.watchBlind).gates = s.gates := rfl
@[simp] theorem State.watchBlind_testStart (s : State) : (s.watchBlind).testStart = s.testStart := rfl
@[simp] theorem State.watchBlind_resolver (s : State) : (s.watchBlind).resolver = s.resolver := rfl
@[simp] theorem State.watchBlind_entrants (s : State) : (s.watchBlind).entrants = s.entrants := rfl
@[simp] theorem State.watchBlind_ring (s : State) : (s.watchBlind).ring = s.ring := rfl
@[simp] theorem State.watchBlind_highMark (s : State) : (s.watchBlind).highMark = s.highMark := rfl
@[simp] theorem State.watchBlind_standings (s : State) : (s.watchBlind).standings = s.standings := rfl
@[simp] theorem State.watchBlind_race (s : State) : (s.watchBlind).race = s.race := rfl
@[simp] theorem State.watchBlind_callTable (s : State) : (s.watchBlind).callTable = s.callTable := rfl
@[simp] theorem State.watchBlind_ceiling (s : State) : (s.watchBlind).ceiling = s.ceiling := rfl
@[simp] theorem State.watchBlind_attention (s : State) : (s.watchBlind).attention = s.attention := rfl
@[simp] theorem State.watchBlind_link (s : State) : (s.watchBlind).link = s.link := rfl
@[simp] theorem State.watchBlind_pins (s : State) : (s.watchBlind).pins = s.pins := rfl
@[simp] theorem State.watchBlind_pending (s : State) : (s.watchBlind).pending = s.pending := rfl

/-! ### `setPressedSince` -/

@[simp] theorem State.setPressedSince_cfg (s : State) (n : StationNo) (d : Option RawTime) :
    (s.setPressedSince n d).cfg = s.cfg := rfl
@[simp] theorem State.setPressedSince_gates (s : State) (n : StationNo) (d : Option RawTime) :
    (s.setPressedSince n d).gates = s.gates := rfl
@[simp] theorem State.setPressedSince_testStart (s : State) (n : StationNo) (d : Option RawTime) :
    (s.setPressedSince n d).testStart = s.testStart := rfl
@[simp] theorem State.setPressedSince_resolver (s : State) (n : StationNo) (d : Option RawTime) :
    (s.setPressedSince n d).resolver = s.resolver := rfl
@[simp] theorem State.setPressedSince_entrants (s : State) (n : StationNo) (d : Option RawTime) :
    (s.setPressedSince n d).entrants = s.entrants := rfl
@[simp] theorem State.setPressedSince_ring (s : State) (n : StationNo) (d : Option RawTime) :
    (s.setPressedSince n d).ring = s.ring := rfl
@[simp] theorem State.setPressedSince_highMark (s : State) (n : StationNo) (d : Option RawTime) :
    (s.setPressedSince n d).highMark = s.highMark := rfl
@[simp] theorem State.setPressedSince_standings (s : State) (n : StationNo) (d : Option RawTime) :
    (s.setPressedSince n d).standings = s.standings := rfl
@[simp] theorem State.setPressedSince_race (s : State) (n : StationNo) (d : Option RawTime) :
    (s.setPressedSince n d).race = s.race := rfl
@[simp] theorem State.setPressedSince_callTable (s : State) (n : StationNo) (d : Option RawTime) :
    (s.setPressedSince n d).callTable = s.callTable := rfl
@[simp] theorem State.setPressedSince_ceiling (s : State) (n : StationNo) (d : Option RawTime) :
    (s.setPressedSince n d).ceiling = s.ceiling := rfl
@[simp] theorem State.setPressedSince_inputs (s : State) (n : StationNo) (d : Option RawTime) :
    (s.setPressedSince n d).inputs = { s.inputs with pressedSince := s.inputs.pressedSince.set n.val d } := rfl
@[simp] theorem State.setPressedSince_attention (s : State) (n : StationNo) (d : Option RawTime) :
    (s.setPressedSince n d).attention = s.attention := rfl
@[simp] theorem State.setPressedSince_link (s : State) (n : StationNo) (d : Option RawTime) :
    (s.setPressedSince n d).link = s.link := rfl
@[simp] theorem State.setPressedSince_pins (s : State) (n : StationNo) (d : Option RawTime) :
    (s.setPressedSince n d).pins = s.pins := rfl
@[simp] theorem State.setPressedSince_pending (s : State) (n : StationNo) (d : Option RawTime) :
    (s.setPressedSince n d).pending = s.pending := rfl

/-! ### `setRedSince` -/

@[simp] theorem State.setRedSince_cfg (s : State) (d : Option RawTime) : (s.setRedSince d).cfg = s.cfg := rfl
@[simp] theorem State.setRedSince_gates (s : State) (d : Option RawTime) : (s.setRedSince d).gates = s.gates := rfl
@[simp] theorem State.setRedSince_testStart (s : State) (d : Option RawTime) :
    (s.setRedSince d).testStart = s.testStart := rfl
@[simp] theorem State.setRedSince_resolver (s : State) (d : Option RawTime) :
    (s.setRedSince d).resolver = s.resolver := rfl
@[simp] theorem State.setRedSince_entrants (s : State) (d : Option RawTime) :
    (s.setRedSince d).entrants = s.entrants := rfl
@[simp] theorem State.setRedSince_ring (s : State) (d : Option RawTime) : (s.setRedSince d).ring = s.ring := rfl
@[simp] theorem State.setRedSince_highMark (s : State) (d : Option RawTime) :
    (s.setRedSince d).highMark = s.highMark := rfl
@[simp] theorem State.setRedSince_standings (s : State) (d : Option RawTime) :
    (s.setRedSince d).standings = s.standings := rfl
@[simp] theorem State.setRedSince_race (s : State) (d : Option RawTime) : (s.setRedSince d).race = s.race := rfl
@[simp] theorem State.setRedSince_callTable (s : State) (d : Option RawTime) :
    (s.setRedSince d).callTable = s.callTable := rfl
@[simp] theorem State.setRedSince_ceiling (s : State) (d : Option RawTime) :
    (s.setRedSince d).ceiling = s.ceiling := rfl
@[simp] theorem State.setRedSince_inputs (s : State) (d : Option RawTime) :
    (s.setRedSince d).inputs = { s.inputs with redSince := d } := rfl
@[simp] theorem State.setRedSince_attention (s : State) (d : Option RawTime) :
    (s.setRedSince d).attention = s.attention := rfl
@[simp] theorem State.setRedSince_link (s : State) (d : Option RawTime) : (s.setRedSince d).link = s.link := rfl
@[simp] theorem State.setRedSince_pins (s : State) (d : Option RawTime) : (s.setRedSince d).pins = s.pins := rfl
@[simp] theorem State.setRedSince_pending (s : State) (d : Option RawTime) :
    (s.setRedSince d).pending = s.pending := rfl

/-! ### `setPowerSince` -/

@[simp] theorem State.setPowerSince_cfg (s : State) (d : Option RawTime) : (s.setPowerSince d).cfg = s.cfg := rfl
@[simp] theorem State.setPowerSince_gates (s : State) (d : Option RawTime) :
    (s.setPowerSince d).gates = s.gates := rfl
@[simp] theorem State.setPowerSince_testStart (s : State) (d : Option RawTime) :
    (s.setPowerSince d).testStart = s.testStart := rfl
@[simp] theorem State.setPowerSince_resolver (s : State) (d : Option RawTime) :
    (s.setPowerSince d).resolver = s.resolver := rfl
@[simp] theorem State.setPowerSince_entrants (s : State) (d : Option RawTime) :
    (s.setPowerSince d).entrants = s.entrants := rfl
@[simp] theorem State.setPowerSince_ring (s : State) (d : Option RawTime) : (s.setPowerSince d).ring = s.ring := rfl
@[simp] theorem State.setPowerSince_highMark (s : State) (d : Option RawTime) :
    (s.setPowerSince d).highMark = s.highMark := rfl
@[simp] theorem State.setPowerSince_standings (s : State) (d : Option RawTime) :
    (s.setPowerSince d).standings = s.standings := rfl
@[simp] theorem State.setPowerSince_race (s : State) (d : Option RawTime) : (s.setPowerSince d).race = s.race := rfl
@[simp] theorem State.setPowerSince_callTable (s : State) (d : Option RawTime) :
    (s.setPowerSince d).callTable = s.callTable := rfl
@[simp] theorem State.setPowerSince_ceiling (s : State) (d : Option RawTime) :
    (s.setPowerSince d).ceiling = s.ceiling := rfl
@[simp] theorem State.setPowerSince_inputs (s : State) (d : Option RawTime) :
    (s.setPowerSince d).inputs = { s.inputs with powerSince := d } := rfl
@[simp] theorem State.setPowerSince_attention (s : State) (d : Option RawTime) :
    (s.setPowerSince d).attention = s.attention := rfl
@[simp] theorem State.setPowerSince_link (s : State) (d : Option RawTime) : (s.setPowerSince d).link = s.link := rfl
@[simp] theorem State.setPowerSince_pins (s : State) (d : Option RawTime) : (s.setPowerSince d).pins = s.pins := rfl
@[simp] theorem State.setPowerSince_pending (s : State) (d : Option RawTime) :
    (s.setPowerSince d).pending = s.pending := rfl

/-! ### `respond` -/

@[simp] theorem respond_cfg (r : State × Answer) : (respond r).cfg = r.1.cfg := rfl
@[simp] theorem respond_gates (r : State × Answer) : (respond r).gates = r.1.gates := rfl
@[simp] theorem respond_testStart (r : State × Answer) : (respond r).testStart = r.1.testStart := rfl
@[simp] theorem respond_resolver (r : State × Answer) : (respond r).resolver = r.1.resolver := rfl
@[simp] theorem respond_entrants (r : State × Answer) : (respond r).entrants = r.1.entrants := rfl
@[simp] theorem respond_ring (r : State × Answer) : (respond r).ring = r.1.ring := rfl
@[simp] theorem respond_highMark (r : State × Answer) : (respond r).highMark = r.1.highMark := rfl
@[simp] theorem respond_standings (r : State × Answer) : (respond r).standings = r.1.standings := rfl
@[simp] theorem respond_race (r : State × Answer) : (respond r).race = r.1.race := rfl
@[simp] theorem respond_callTable (r : State × Answer) : (respond r).callTable = r.1.callTable := rfl
@[simp] theorem respond_ceiling (r : State × Answer) : (respond r).ceiling = r.1.ceiling := rfl
@[simp] theorem respond_inputs (r : State × Answer) : (respond r).inputs = r.1.inputs := rfl
@[simp] theorem respond_attention (r : State × Answer) : (respond r).attention = r.1.attention := rfl
@[simp] theorem respond_link (r : State × Answer) :
    (respond r).link = { r.1.link with tx := .waiting r.2 r.1.race.raceClock } := rfl
@[simp] theorem respond_pins (r : State × Answer) : (respond r).pins = r.1.pins := rfl
@[simp] theorem respond_pending (r : State × Answer) : (respond r).pending = r.1.pending := rfl

/-! ### Subfields of the updates above -/

@[simp] theorem State.tick_clock (s : State) : s.tick.race.raceClock = s.race.raceClock + 1 := rfl

@[simp] theorem State.tick_state (s : State) : s.tick.race.state = s.race.state := rfl

@[simp] theorem State.settleEntry_queue (s : State) (tag : Byte) :
    (s.settleEntry tag).resolver.queue = s.resolver.queue.filter fun e => e.tag != tag := rfl

@[simp] theorem State.settleEntry_waitLatch (s : State) (tag : Byte) :
    (s.settleEntry tag).resolver.waitLatch = false := rfl

@[simp] theorem State.settleEntry_nextTag (s : State) (tag : Byte) :
    (s.settleEntry tag).resolver.nextTag = s.resolver.nextTag := rfl

@[simp] theorem State.settleEntry_overrun (s : State) (tag : Byte) :
    (s.settleEntry tag).resolver.overrun = s.resolver.overrun := rfl

@[simp] theorem State.enqueuePass_waitLatch (s : State) (p : Pass) :
    (s.enqueuePass p).resolver.waitLatch = s.resolver.waitLatch := rfl

@[simp] theorem State.watchBlind_live (s : State) : s.watchBlind.inputs.live = s.inputs.live := rfl

@[simp] theorem State.watchBlind_latch (s : State) : s.watchBlind.inputs.latch = s.inputs.latch := rfl

@[simp] theorem State.watchBlind_snapshot (s : State) : s.watchBlind.inputs.snapshot = s.inputs.snapshot := rfl

/-- At an edge the latch takes the levels it is given and keeps the departures of the inputs. -/
@[simp] theorem InputLatch.edge_frame (l : InputLatch) (live : InputLevels) :
    (l.edge live).live = live ∧ (l.edge live).pressedSince = l.pressedSince ∧ (l.edge live).redSince = l.redSince
      ∧ (l.edge live).powerSince = l.powerSince ∧ (l.edge live).blindSince = l.blindSince := by
  unfold InputLatch.edge
  (repeat' split) <;> exact ⟨rfl, rfl, rfl, rfl, rfl⟩

/-- An input that shows its debounced level makes no edge and stands in no departure (R167). -/
@[simp] theorem State.debounce_same (s : State) (live : Bool) (d : Option RawTime) :
    s.debounce live live d = .keeps none := by simp [State.debounce]

/-- An input makes its edge just where it shows the other level and has for 20 ms (R167). -/
theorem State.debounce_edge (s : State) (live shows : Bool) (d : Option RawTime) :
    s.debounce live shows d = .edge ↔ shows ≠ live ∧ ∃ t ∈ d.toList, 200 ≤ s.since t := by
  cases d <;> by_cases h : shows = live <;> simp [State.debounce, State.departureOver, h]

@[simp] theorem State.settle_settle (s : State) : s.settle.settle = s.settle := rfl

/-! ### Reading a record, a gate or a dirty class after a replacement -/

/-- The record at any slot after one is replaced. -/
theorem State.entrant_modEntrant (s : State) (i j : Slot) (f : Entrant → Entrant) :
    (s.modEntrant i f).entrant j = if j = i then f (s.entrant i) else s.entrant j := by
  by_cases h : j = i
  · subst h; simp [State.entrant, State.modEntrant]
  · have h' : i.val ≠ j.val := fun e => h (Fin.ext e.symm)
    simp [State.entrant, State.modEntrant, h, Vector.getElem_set_ne, h']

@[simp] theorem State.entrant_modEntrant_same (s : State) (i : Slot) (f : Entrant → Entrant) :
    (s.modEntrant i f).entrant i = f (s.entrant i) := by simp [State.entrant_modEntrant]

@[simp] theorem State.entrant_modEntrant_other (s : State) {i j : Slot} (f : Entrant → Entrant) (h : j ≠ i) :
    (s.modEntrant i f).entrant j = s.entrant j := by simp [State.entrant_modEntrant, h]

/-- The gate of any number after one is replaced. -/
theorem State.gate_modGate (s : State) (g k : GateNo) (f : Gate → Gate) :
    (s.modGate g f).gate k = if k = g then f (s.gate g) else s.gate k := by
  by_cases h : k = g
  · subst h; simp [State.gate, State.modGate]
  · have h' : g.val ≠ k.val := fun e => h (Fin.ext e.symm)
    simp [State.gate, State.modGate, h, Vector.getElem_set_ne, h']

@[simp] theorem State.gate_modGate_same (s : State) (g : GateNo) (f : Gate → Gate) :
    (s.modGate g f).gate g = f (s.gate g) := by simp [State.gate_modGate]

@[simp] theorem State.gate_modGate_other (s : State) {g k : GateNo} (f : Gate → Gate) (h : k ≠ g) :
    (s.modGate g f).gate k = s.gate k := by simp [State.gate_modGate, h]

/-- The dirty class of any slot after one is replaced. -/
theorem State.dirtyOf_setDirty (s : State) (i j : Slot) (d : DirtyClass) :
    (s.setDirty i d).dirtyOf j = if j = i then d else s.dirtyOf j := by
  by_cases h : j = i
  · subst h; simp [State.dirtyOf, State.setDirty]
  · have h' : i.val ≠ j.val := fun e => h (Fin.ext e.symm)
    simp [State.dirtyOf, State.setDirty, h, Vector.getElem_set_ne, h']

@[simp] theorem State.dirtyOf_setDirty_same (s : State) (i : Slot) (d : DirtyClass) :
    (s.setDirty i d).dirtyOf i = d := by simp [State.dirtyOf_setDirty]

@[simp] theorem State.dirtyOf_setDirty_other (s : State) {i j : Slot} (d : DirtyClass) (h : j ≠ i) :
    (s.setDirty i d).dirtyOf j = s.dirtyOf j := by simp [State.dirtyOf_setDirty, h]

/-! ### Reads that an update of another field does not touch -/

/-- Equal tables of records read alike. -/
theorem State.entrant_congr {s t : State} (h : t.entrants = s.entrants) (i : Slot) : t.entrant i = s.entrant i := by
  simp [State.entrant, h]

/-- Equal gate arrays read alike. -/
theorem State.gate_congr {s t : State} (h : t.gates = s.gates) (g : GateNo) : t.gate g = s.gate g := by
  simp [State.gate, h]

/-- Equal dirty classes read alike. -/
theorem State.dirtyOf_congr {s t : State} (h : t.ceiling.dirty = s.ceiling.dirty) (i : Slot) :
    t.dirtyOf i = s.dirtyOf i := by
  simp [State.dirtyOf, h]

@[simp] theorem State.modGate_entrant (s : State) (g : GateNo) (f : Gate → Gate) (i : Slot) :
    (s.modGate g f).entrant i = s.entrant i := rfl

@[simp] theorem State.modDecoder_entrant (s : State) (g : GateNo) (f : Decoder → Decoder) (i : Slot) :
    (s.modDecoder g f).entrant i = s.entrant i := rfl

@[simp] theorem State.setDirty_entrant (s : State) (j : Slot) (d : DirtyClass) (i : Slot) :
    (s.setDirty j d).entrant i = s.entrant i := rfl

@[simp] theorem State.enterRace_entrant (s : State) (r : RaceState) (i : Slot) :
    (s.enterRace r).entrant i = s.entrant i := rfl

@[simp] theorem State.settle_entrant (s : State) (i : Slot) : s.settle.entrant i = s.entrant i := rfl

@[simp] theorem State.replace_entrant (s : State) (j i : Slot) : (s.replace j).entrant i = s.entrant i := rfl

@[simp] theorem State.joinStandings_entrant (s : State) (j i : Slot) :
    (s.joinStandings j).entrant i = s.entrant i := rfl

@[simp] theorem State.leaveStandings_entrant (s : State) (j i : Slot) :
    (s.leaveStandings j).entrant i = s.entrant i := rfl

@[simp] theorem State.enqueuePass_entrant (s : State) (p : Pass) (i : Slot) :
    (s.enqueuePass p).entrant i = s.entrant i := rfl

@[simp] theorem State.settleEntry_entrant (s : State) (tag : Byte) (i : Slot) :
    (s.settleEntry tag).entrant i = s.entrant i := rfl

@[simp] theorem State.watchBlind_entrant (s : State) (i : Slot) : s.watchBlind.entrant i = s.entrant i := rfl

@[simp] theorem State.watchBlind_gate (s : State) (g : GateNo) : s.watchBlind.gate g = s.gate g := rfl

@[simp] theorem State.enqueuePass_gate (s : State) (p : Pass) (g : GateNo) : (s.enqueuePass p).gate g = s.gate g := rfl

@[simp] theorem State.enterRace_gate (s : State) (r : RaceState) (g : GateNo) : (s.enterRace r).gate g = s.gate g := rfl

@[simp] theorem State.replace_gate (s : State) (i : Slot) (g : GateNo) : (s.replace i).gate g = s.gate g := rfl

@[simp] theorem State.modEntrant_gate (s : State) (i : Slot) (f : Entrant → Entrant) (g : GateNo) :
    (s.modEntrant i f).gate g = s.gate g := rfl

@[simp] theorem State.modEntrant_dirtyOf (s : State) (i : Slot) (f : Entrant → Entrant) (j : Slot) :
    (s.modEntrant i f).dirtyOf j = s.dirtyOf j := rfl

/-- A gate's entry outlives a change of its decoder, as do its part of the self-test and its result. -/
theorem State.gate_modDecoder (s : State) (g k : GateNo) (f : Decoder → Decoder) :
    (s.modDecoder g f).gate k
      = if k = g then { s.gate g with decoder := f (s.gate g).decoder } else s.gate k := by
  simp [State.modDecoder, State.gate_modGate]

/-- What a cell from a source is at a gate, said once: only the line's cells reach a gate on its line, and only the
generator's due one a gate under test (R20). -/
theorem State.cellKindAt_reaches {s : State} {g : GateNo} {src : Source} {lvl : Level}
    (h : s.cellKindAt ⟨g, src⟩ lvl ≠ .ignored) :
    s.cellKindAt ⟨g, src⟩ lvl = (s.gate g).cellKind lvl
      ∧ ((src = .line ∧ (s.gate g).fed = none)
        ∨ ∃ n, src = .generator ∧ (s.gate g).fed = some n ∧ s.generatorDue g = true ∧ generatorCell n = lvl) := by
  unfold State.cellKindAt at h ⊢
  cases src <;> cases hf : (s.gate g).fed <;> simp_all

/-! ### Folds over the slots -/

/-- What every step of a fold keeps, the fold keeps. -/
theorem foldl_keeps {σ α β : Type} (g : σ → β) (f : σ → α → σ) (h : ∀ s a, g (f s a) = g s) (l : List α) (s : σ) :
    g (l.foldl f s) = g s := by
  induction l generalizing s with
  | nil => rfl
  | cons a l ih => simp [ih, h]

/-- What the work for every slot keeps, the work for all slots keeps. -/
theorem State.forSlots_keeps {β : Type} (g : State → β) (f : State → Slot → State) (h : ∀ s i, g (f s i) = g s)
    (s : State) : g (s.forSlots f) = g s := foldl_keeps g f h allSlots s

/-- A property every step of a fold hands on, the fold hands on. -/
theorem foldl_induction {σ α : Type} (P : σ → Prop) (f : σ → α → σ) (h : ∀ s a, P s → P (f s a)) (l : List α) (s : σ)
    (h0 : P s) : P (l.foldl f s) := by
  induction l generalizing s with
  | nil => exact h0
  | cons a l ih => exact ih _ (h s a h0)

/-- A property the work for each slot hands on holds after the work for all of them. -/
theorem State.forSlots_induction (P : State → Prop) (f : State → Slot → State) (h : ∀ s i, P s → P (f s i))
    (s : State) (h0 : P s) : P (s.forSlots f) := foldl_induction P f h allSlots s h0

/-- A state written out reads its records from its table. -/
theorem State.entrant_mk (a : RaceConfig) (b : Vector Gate 24) (c : Option RawTime) (d : Resolver) (e : Vector Entrant 24)
    (f : Vector (Option RingEntry) 16) (g : Nat) (h : List Standing) (k : Sequencer) (l : Vector (Option Ruling) 7)
    (m : CeilingUnit) (n : InputLatch) (o : Attention) (p : CommandLink) (q : Pins) (r : List Instr) (j : Slot) :
    (State.mk a b c d e f g h k l m n o p q r).entrant j = e[j.val] := rfl

/-- The table's record at a slot is the slot's record. -/
theorem State.entrants_getElem (s : State) (j : Slot) : s.entrants[j.val] = s.entrant j := rfl

/-- Every slot is among those a pass over the slots takes. -/
theorem mem_allSlots (i : Slot) : i ∈ allSlots := List.mem_finRange i

end Sys2Proof.Machine
end

