-- ==== Sys2Proof/Laws/Ceilings.lean ====
section
/-! SUPPORT. What the Ceiling Unit's and the Caution Map's shared operations can change, and what they leave as it is. -/

set_option linter.all false

namespace Sys2Proof.Machine

/-- What `recompute` leaves as it is. -/
@[simp] theorem State.recompute_frame (s : State) (i : Slot) :
    (s.recompute i).cfg = s.cfg ∧ (s.recompute i).gates = s.gates ∧ (s.recompute i).testStart = s.testStart
    ∧ (s.recompute i).resolver = s.resolver ∧ (s.recompute i).ring = s.ring ∧ (s.recompute i).highMark = s.highMark
    ∧ (s.recompute i).standings = s.standings ∧ (s.recompute i).race = s.race
    ∧ (s.recompute i).callTable = s.callTable ∧ (s.recompute i).ceiling.sender = s.ceiling.sender
    ∧ (s.recompute i).ceiling.paused = s.ceiling.paused ∧ (s.recompute i).ceiling.holdStart = s.ceiling.holdStart
    ∧ (s.recompute i).ceiling.nextRefresh = s.ceiling.nextRefresh ∧ (s.recompute i).inputs = s.inputs
    ∧ (s.recompute i).attention = s.attention ∧ (s.recompute i).link = s.link ∧ (s.recompute i).pins = s.pins
    ∧ (s.recompute i).pending = s.pending := by
  refine ⟨?_, ?_, ?_, ?_, ?_, ?_, ?_, ?_, ?_, ?_, ?_, ?_, ?_, ?_, ?_, ?_, ?_, ?_⟩ <;>
    (unfold State.recompute; (try dsimp only) <;> ((repeat' split) <;> (try simp)))

@[simp] theorem State.recompute_gate (s : State) (i : Slot) (n : GateNo) :
    (s.recompute i).gate n = s.gate n := State.gate_congr (by simp) n

/-- The fields of the records that `recompute` leaves as they are. -/
@[simp] theorem State.recompute_records (s : State) (i : Slot) (j : Slot) :
    ((s.recompute i).entrant j).code = (s.entrant j).code ∧ ((s.recompute i).entrant j).state = (s.entrant j).state
    ∧ ((s.recompute i).entrant j).station = (s.entrant j).station
    ∧ ((s.recompute i).entrant j).lane = (s.entrant j).lane
    ∧ ((s.recompute i).entrant j).pitStatus = (s.entrant j).pitStatus
    ∧ ((s.recompute i).entrant j).pitEntry = (s.entrant j).pitEntry
    ∧ ((s.recompute i).entrant j).boxArrival = (s.entrant j).boxArrival
    ∧ ((s.recompute i).entrant j).boxVisited = (s.entrant j).boxVisited
    ∧ ((s.recompute i).entrant j).pitStops = (s.entrant j).pitStops
    ∧ ((s.recompute i).entrant j).laps = (s.entrant j).laps
    ∧ ((s.recompute i).entrant j).latestCrossing = (s.entrant j).latestCrossing
    ∧ ((s.recompute i).entrant j).prevCrossing = (s.entrant j).prevCrossing
    ∧ ((s.recompute i).entrant j).reachTime = (s.entrant j).reachTime
    ∧ ((s.recompute i).entrant j).lastLap = (s.entrant j).lastLap
    ∧ ((s.recompute i).entrant j).lastLapMarks = (s.entrant j).lastLapMarks
    ∧ ((s.recompute i).entrant j).bestLap = (s.entrant j).bestLap
    ∧ ((s.recompute i).entrant j).sector = (s.entrant j).sector
    ∧ ((s.recompute i).entrant j).currentSectors = (s.entrant j).currentSectors
    ∧ ((s.recompute i).entrant j).lastSectors = (s.entrant j).lastSectors
    ∧ ((s.recompute i).entrant j).lastBoundary = (s.entrant j).lastBoundary
    ∧ ((s.recompute i).entrant j).lapCaution = (s.entrant j).lapCaution
    ∧ ((s.recompute i).entrant j).gap = (s.entrant j).gap
    ∧ ((s.recompute i).entrant j).lapsDown = (s.entrant j).lapsDown
    ∧ ((s.recompute i).entrant j).latestPass = (s.entrant j).latestPass
    ∧ ((s.recompute i).entrant j).deadline = (s.entrant j).deadline
    ∧ ((s.recompute i).entrant j).overdue = (s.entrant j).overdue
    ∧ ((s.recompute i).entrant j).jumpStart = (s.entrant j).jumpStart
    ∧ ((s.recompute i).entrant j).callsUsed = (s.entrant j).callsUsed
    ∧ ((s.recompute i).entrant j).override = (s.entrant j).override
    ∧ ((s.recompute i).entrant j).activity = (s.entrant j).activity
    ∧ ((s.recompute i).entrant j).finishStatus = (s.entrant j).finishStatus
    ∧ ((s.recompute i).entrant j).finishTime = (s.entrant j).finishTime
    ∧ ((s.recompute i).entrant j).penalties = (s.entrant j).penalties
    ∧ ((s.recompute i).entrant j).holdTimer = (s.entrant j).holdTimer
    ∧ ((s.recompute i).entrant j).powerHold = (s.entrant j).powerHold
    ∧ ((s.recompute i).entrant j).blackFlag = (s.entrant j).blackFlag := by
  refine ⟨?_, ?_, ?_, ?_, ?_, ?_, ?_, ?_, ?_, ?_, ?_, ?_, ?_, ?_, ?_, ?_, ?_, ?_, ?_, ?_, ?_, ?_, ?_, ?_, ?_, ?_, ?_, ?_, ?_, ?_, ?_, ?_, ?_, ?_, ?_, ?_⟩ <;>
    (unfold State.recompute; (try dsimp only) <;> ((repeat' split) <;> (try simp [State.entrant_modEntrant, State.entrant_mk, State.entrants_getElem]) <;> (try (split <;> simp_all))))

/-- What `recomputeAll` leaves as it is. -/
@[simp] theorem State.recomputeAll_frame (s : State) :
    (s.recomputeAll).cfg = s.cfg ∧ (s.recomputeAll).gates = s.gates ∧ (s.recomputeAll).testStart = s.testStart
    ∧ (s.recomputeAll).resolver = s.resolver ∧ (s.recomputeAll).ring = s.ring
    ∧ (s.recomputeAll).highMark = s.highMark ∧ (s.recomputeAll).standings = s.standings
    ∧ (s.recomputeAll).race = s.race ∧ (s.recomputeAll).callTable = s.callTable
    ∧ (s.recomputeAll).ceiling.sender = s.ceiling.sender ∧ (s.recomputeAll).ceiling.paused = s.ceiling.paused
    ∧ (s.recomputeAll).ceiling.holdStart = s.ceiling.holdStart
    ∧ (s.recomputeAll).ceiling.nextRefresh = s.ceiling.nextRefresh ∧ (s.recomputeAll).inputs = s.inputs
    ∧ (s.recomputeAll).attention = s.attention ∧ (s.recomputeAll).link = s.link ∧ (s.recomputeAll).pins = s.pins
    ∧ (s.recomputeAll).pending = s.pending := by
  unfold State.recomputeAll State.forSlots
  induction allSlots generalizing s with
  | nil => exact ⟨rfl, rfl, rfl, rfl, rfl, rfl, rfl, rfl, rfl, rfl, rfl, rfl, rfl, rfl, rfl, rfl, rfl, rfl⟩
  | cons x l ih =>
    simp only [List.foldl_cons, ih]
    refine ⟨?_, ?_, ?_, ?_, ?_, ?_, ?_, ?_, ?_, ?_, ?_, ?_, ?_, ?_, ?_, ?_, ?_, ?_⟩ <;> ((repeat' split) <;> (try simp))

@[simp] theorem State.recomputeAll_gate (s : State) (n : GateNo) :
    (s.recomputeAll).gate n = s.gate n := State.gate_congr (by simp) n

/-- The fields of the records that `recomputeAll` leaves as they are. -/
@[simp] theorem State.recomputeAll_records (s : State) (j : Slot) :
    ((s.recomputeAll).entrant j).code = (s.entrant j).code
    ∧ ((s.recomputeAll).entrant j).state = (s.entrant j).state
    ∧ ((s.recomputeAll).entrant j).station = (s.entrant j).station
    ∧ ((s.recomputeAll).entrant j).lane = (s.entrant j).lane
    ∧ ((s.recomputeAll).entrant j).pitStatus = (s.entrant j).pitStatus
    ∧ ((s.recomputeAll).entrant j).pitEntry = (s.entrant j).pitEntry
    ∧ ((s.recomputeAll).entrant j).boxArrival = (s.entrant j).boxArrival
    ∧ ((s.recomputeAll).entrant j).boxVisited = (s.entrant j).boxVisited
    ∧ ((s.recomputeAll).entrant j).pitStops = (s.entrant j).pitStops
    ∧ ((s.recomputeAll).entrant j).laps = (s.entrant j).laps
    ∧ ((s.recomputeAll).entrant j).latestCrossing = (s.entrant j).latestCrossing
    ∧ ((s.recomputeAll).entrant j).prevCrossing = (s.entrant j).prevCrossing
    ∧ ((s.recomputeAll).entrant j).reachTime = (s.entrant j).reachTime
    ∧ ((s.recomputeAll).entrant j).lastLap = (s.entrant j).lastLap
    ∧ ((s.recomputeAll).entrant j).lastLapMarks = (s.entrant j).lastLapMarks
    ∧ ((s.recomputeAll).entrant j).bestLap = (s.entrant j).bestLap
    ∧ ((s.recomputeAll).entrant j).sector = (s.entrant j).sector
    ∧ ((s.recomputeAll).entrant j).currentSectors = (s.entrant j).currentSectors
    ∧ ((s.recomputeAll).entrant j).lastSectors = (s.entrant j).lastSectors
    ∧ ((s.recomputeAll).entrant j).lastBoundary = (s.entrant j).lastBoundary
    ∧ ((s.recomputeAll).entrant j).lapCaution = (s.entrant j).lapCaution
    ∧ ((s.recomputeAll).entrant j).gap = (s.entrant j).gap
    ∧ ((s.recomputeAll).entrant j).lapsDown = (s.entrant j).lapsDown
    ∧ ((s.recomputeAll).entrant j).latestPass = (s.entrant j).latestPass
    ∧ ((s.recomputeAll).entrant j).deadline = (s.entrant j).deadline
    ∧ ((s.recomputeAll).entrant j).overdue = (s.entrant j).overdue
    ∧ ((s.recomputeAll).entrant j).jumpStart = (s.entrant j).jumpStart
    ∧ ((s.recomputeAll).entrant j).callsUsed = (s.entrant j).callsUsed
    ∧ ((s.recomputeAll).entrant j).override = (s.entrant j).override
    ∧ ((s.recomputeAll).entrant j).activity = (s.entrant j).activity
    ∧ ((s.recomputeAll).entrant j).finishStatus = (s.entrant j).finishStatus
    ∧ ((s.recomputeAll).entrant j).finishTime = (s.entrant j).finishTime
    ∧ ((s.recomputeAll).entrant j).penalties = (s.entrant j).penalties
    ∧ ((s.recomputeAll).entrant j).holdTimer = (s.entrant j).holdTimer
    ∧ ((s.recomputeAll).entrant j).powerHold = (s.entrant j).powerHold
    ∧ ((s.recomputeAll).entrant j).blackFlag = (s.entrant j).blackFlag := by
  unfold State.recomputeAll State.forSlots
  induction allSlots generalizing s with
  | nil => exact ⟨rfl, rfl, rfl, rfl, rfl, rfl, rfl, rfl, rfl, rfl, rfl, rfl, rfl, rfl, rfl, rfl, rfl, rfl, rfl, rfl, rfl, rfl, rfl, rfl, rfl, rfl, rfl, rfl, rfl, rfl, rfl, rfl, rfl, rfl, rfl, rfl⟩
  | cons x l ih =>
    simp only [List.foldl_cons, ih]
    refine ⟨?_, ?_, ?_, ?_, ?_, ?_, ?_, ?_, ?_, ?_, ?_, ?_, ?_, ?_, ?_, ?_, ?_, ?_, ?_, ?_, ?_, ?_, ?_, ?_, ?_, ?_, ?_, ?_, ?_, ?_, ?_, ?_, ?_, ?_, ?_, ?_⟩ <;> ((repeat' split) <;> (try simp [State.entrant_modEntrant, State.entrant_mk, State.entrants_getElem]) <;> (try (split <;> simp_all)))

/-- What `startFrame` leaves as it is. -/
@[simp] theorem State.startFrame_frame (s : State) (i : Slot) :
    (s.startFrame i).cfg = s.cfg ∧ (s.startFrame i).gates = s.gates ∧ (s.startFrame i).testStart = s.testStart
    ∧ (s.startFrame i).resolver = s.resolver ∧ (s.startFrame i).entrants = s.entrants
    ∧ (s.startFrame i).ring = s.ring ∧ (s.startFrame i).highMark = s.highMark
    ∧ (s.startFrame i).standings = s.standings ∧ (s.startFrame i).race = s.race
    ∧ (s.startFrame i).callTable = s.callTable ∧ (s.startFrame i).ceiling.paused = s.ceiling.paused
    ∧ (s.startFrame i).ceiling.holdStart = s.ceiling.holdStart
    ∧ (s.startFrame i).ceiling.nextRefresh = s.ceiling.nextRefresh ∧ (s.startFrame i).inputs = s.inputs
    ∧ (s.startFrame i).attention = s.attention ∧ (s.startFrame i).link = s.link ∧ (s.startFrame i).pins = s.pins
    ∧ (s.startFrame i).pending = s.pending := by
  refine ⟨?_, ?_, ?_, ?_, ?_, ?_, ?_, ?_, ?_, ?_, ?_, ?_, ?_, ?_, ?_, ?_, ?_, ?_⟩ <;>
    (unfold State.startFrame; (try dsimp only) <;> ((repeat' split) <;> (try simp)))

@[simp] theorem State.startFrame_entrant (s : State) (i : Slot) (j : Slot) :
    (s.startFrame i).entrant j = s.entrant j := State.entrant_congr (by simp) j

@[simp] theorem State.startFrame_gate (s : State) (i : Slot) (n : GateNo) :
    (s.startFrame i).gate n = s.gate n := State.gate_congr (by simp) n

/-- What `returnByte` leaves as it is. -/
@[simp] theorem State.returnByte_frame (s : State) (b : Byte) :
    (s.returnByte b).cfg = s.cfg ∧ (s.returnByte b).gates = s.gates ∧ (s.returnByte b).testStart = s.testStart
    ∧ (s.returnByte b).resolver = s.resolver ∧ (s.returnByte b).entrants = s.entrants
    ∧ (s.returnByte b).ring = s.ring ∧ (s.returnByte b).highMark = s.highMark
    ∧ (s.returnByte b).standings = s.standings ∧ (s.returnByte b).race = s.race
    ∧ (s.returnByte b).callTable = s.callTable ∧ (s.returnByte b).ceiling.dirty = s.ceiling.dirty
    ∧ (s.returnByte b).ceiling.sender = s.ceiling.sender
    ∧ (s.returnByte b).ceiling.nextRefresh = s.ceiling.nextRefresh ∧ (s.returnByte b).inputs = s.inputs
    ∧ (s.returnByte b).attention = s.attention ∧ (s.returnByte b).link = s.link ∧ (s.returnByte b).pins = s.pins
    ∧ (s.returnByte b).pending = s.pending := by
  refine ⟨?_, ?_, ?_, ?_, ?_, ?_, ?_, ?_, ?_, ?_, ?_, ?_, ?_, ?_, ?_, ?_, ?_, ?_⟩ <;>
    (unfold State.returnByte; (try dsimp only) <;> ((repeat' split) <;> (try simp)))

@[simp] theorem State.returnByte_entrant (s : State) (b : Byte) (j : Slot) :
    (s.returnByte b).entrant j = s.entrant j := State.entrant_congr (by simp) j

@[simp] theorem State.returnByte_gate (s : State) (b : Byte) (n : GateNo) :
    (s.returnByte b).gate n = s.gate n := State.gate_congr (by simp) n

/-- What `notice` leaves as it is. -/
@[simp] theorem State.notice_frame (s : State) (c : Entrant → Bool) :
    (s.notice c).cfg = s.cfg ∧ (s.notice c).gates = s.gates ∧ (s.notice c).testStart = s.testStart
    ∧ (s.notice c).resolver = s.resolver ∧ (s.notice c).ring = s.ring ∧ (s.notice c).highMark = s.highMark
    ∧ (s.notice c).standings = s.standings ∧ (s.notice c).race = s.race ∧ (s.notice c).callTable = s.callTable
    ∧ (s.notice c).ceiling = s.ceiling ∧ (s.notice c).inputs = s.inputs ∧ (s.notice c).attention = s.attention
    ∧ (s.notice c).link = s.link ∧ (s.notice c).pins = s.pins ∧ (s.notice c).pending = s.pending := by
  unfold State.notice State.forSlots
  induction allSlots generalizing s with
  | nil => exact ⟨rfl, rfl, rfl, rfl, rfl, rfl, rfl, rfl, rfl, rfl, rfl, rfl, rfl, rfl, rfl⟩
  | cons x l ih =>
    simp only [List.foldl_cons, ih]
    refine ⟨?_, ?_, ?_, ?_, ?_, ?_, ?_, ?_, ?_, ?_, ?_, ?_, ?_, ?_, ?_⟩ <;> ((repeat' split) <;> (try simp))

@[simp] theorem State.notice_gate (s : State) (c : Entrant → Bool) (n : GateNo) :
    (s.notice c).gate n = s.gate n := State.gate_congr (by simp) n

/-- The fields of the records that `notice` leaves as they are. -/
@[simp] theorem State.notice_records (s : State) (c : Entrant → Bool) (j : Slot) :
    ((s.notice c).entrant j).code = (s.entrant j).code ∧ ((s.notice c).entrant j).state = (s.entrant j).state
    ∧ ((s.notice c).entrant j).station = (s.entrant j).station ∧ ((s.notice c).entrant j).lane = (s.entrant j).lane
    ∧ ((s.notice c).entrant j).pitStatus = (s.entrant j).pitStatus
    ∧ ((s.notice c).entrant j).pitEntry = (s.entrant j).pitEntry
    ∧ ((s.notice c).entrant j).boxArrival = (s.entrant j).boxArrival
    ∧ ((s.notice c).entrant j).boxVisited = (s.entrant j).boxVisited
    ∧ ((s.notice c).entrant j).pitStops = (s.entrant j).pitStops
    ∧ ((s.notice c).entrant j).laps = (s.entrant j).laps
    ∧ ((s.notice c).entrant j).latestCrossing = (s.entrant j).latestCrossing
    ∧ ((s.notice c).entrant j).prevCrossing = (s.entrant j).prevCrossing
    ∧ ((s.notice c).entrant j).reachTime = (s.entrant j).reachTime
    ∧ ((s.notice c).entrant j).lastLap = (s.entrant j).lastLap
    ∧ ((s.notice c).entrant j).lastLapMarks = (s.entrant j).lastLapMarks
    ∧ ((s.notice c).entrant j).bestLap = (s.entrant j).bestLap
    ∧ ((s.notice c).entrant j).sector = (s.entrant j).sector
    ∧ ((s.notice c).entrant j).currentSectors = (s.entrant j).currentSectors
    ∧ ((s.notice c).entrant j).lastSectors = (s.entrant j).lastSectors
    ∧ ((s.notice c).entrant j).lastBoundary = (s.entrant j).lastBoundary
    ∧ ((s.notice c).entrant j).gap = (s.entrant j).gap ∧ ((s.notice c).entrant j).lapsDown = (s.entrant j).lapsDown
    ∧ ((s.notice c).entrant j).latestPass = (s.entrant j).latestPass
    ∧ ((s.notice c).entrant j).deadline = (s.entrant j).deadline
    ∧ ((s.notice c).entrant j).overdue = (s.entrant j).overdue
    ∧ ((s.notice c).entrant j).jumpStart = (s.entrant j).jumpStart
    ∧ ((s.notice c).entrant j).callsUsed = (s.entrant j).callsUsed
    ∧ ((s.notice c).entrant j).override = (s.entrant j).override
    ∧ ((s.notice c).entrant j).effective = (s.entrant j).effective
    ∧ ((s.notice c).entrant j).activity = (s.entrant j).activity
    ∧ ((s.notice c).entrant j).finishStatus = (s.entrant j).finishStatus
    ∧ ((s.notice c).entrant j).finishTime = (s.entrant j).finishTime
    ∧ ((s.notice c).entrant j).penalties = (s.entrant j).penalties
    ∧ ((s.notice c).entrant j).holdTimer = (s.entrant j).holdTimer
    ∧ ((s.notice c).entrant j).powerHold = (s.entrant j).powerHold
    ∧ ((s.notice c).entrant j).blackFlag = (s.entrant j).blackFlag := by
  unfold State.notice State.forSlots
  induction allSlots generalizing s with
  | nil => exact ⟨rfl, rfl, rfl, rfl, rfl, rfl, rfl, rfl, rfl, rfl, rfl, rfl, rfl, rfl, rfl, rfl, rfl, rfl, rfl, rfl, rfl, rfl, rfl, rfl, rfl, rfl, rfl, rfl, rfl, rfl, rfl, rfl, rfl, rfl, rfl, rfl⟩
  | cons x l ih =>
    simp only [List.foldl_cons, ih]
    refine ⟨?_, ?_, ?_, ?_, ?_, ?_, ?_, ?_, ?_, ?_, ?_, ?_, ?_, ?_, ?_, ?_, ?_, ?_, ?_, ?_, ?_, ?_, ?_, ?_, ?_, ?_, ?_, ?_, ?_, ?_, ?_, ?_, ?_, ?_, ?_, ?_⟩ <;> ((repeat' split) <;> (try simp [State.entrant_modEntrant, State.entrant_mk, State.entrants_getElem]) <;> (try (split <;> simp_all)))

/-- What `setYellow` leaves as it is. -/
@[simp] theorem State.setYellow_frame (s : State) (on : Bool) :
    (s.setYellow on).cfg = s.cfg ∧ (s.setYellow on).gates = s.gates ∧ (s.setYellow on).testStart = s.testStart
    ∧ (s.setYellow on).resolver = s.resolver ∧ (s.setYellow on).ring = s.ring
    ∧ (s.setYellow on).highMark = s.highMark ∧ (s.setYellow on).standings = s.standings
    ∧ (s.setYellow on).race.raceClock = s.race.raceClock ∧ (s.setYellow on).race.state = s.race.state
    ∧ (s.setYellow on).race.resume = s.race.resume ∧ (s.setYellow on).race.suspStart = s.race.suspStart
    ∧ (s.setYellow on).race.suspTotal = s.race.suspTotal ∧ (s.setYellow on).race.green = s.race.green
    ∧ (s.setYellow on).race.runningClock = s.race.runningClock ∧ (s.setYellow on).race.countdown = s.race.countdown
    ∧ (s.setYellow on).race.finishDeadline = s.race.finishDeadline ∧ (s.setYellow on).race.caution = s.race.caution
    ∧ (s.setYellow on).race.powerSetting = s.race.powerSetting ∧ (s.setYellow on).callTable = s.callTable
    ∧ (s.setYellow on).ceiling.sender = s.ceiling.sender ∧ (s.setYellow on).ceiling.paused = s.ceiling.paused
    ∧ (s.setYellow on).ceiling.holdStart = s.ceiling.holdStart
    ∧ (s.setYellow on).ceiling.nextRefresh = s.ceiling.nextRefresh ∧ (s.setYellow on).inputs = s.inputs
    ∧ (s.setYellow on).attention = s.attention ∧ (s.setYellow on).link = s.link ∧ (s.setYellow on).pins = s.pins
    ∧ (s.setYellow on).pending = s.pending := by
  refine ⟨?_, ?_, ?_, ?_, ?_, ?_, ?_, ?_, ?_, ?_, ?_, ?_, ?_, ?_, ?_, ?_, ?_, ?_, ?_, ?_, ?_, ?_, ?_, ?_, ?_, ?_, ?_, ?_⟩ <;>
    (unfold State.setYellow; (try dsimp only) <;> ((repeat' split) <;> (try simp)))

@[simp] theorem State.setYellow_gate (s : State) (on : Bool) (n : GateNo) :
    (s.setYellow on).gate n = s.gate n := State.gate_congr (by simp) n

/-- The fields of the records that `setYellow` leaves as they are. -/
@[simp] theorem State.setYellow_records (s : State) (on : Bool) (j : Slot) :
    ((s.setYellow on).entrant j).code = (s.entrant j).code
    ∧ ((s.setYellow on).entrant j).state = (s.entrant j).state
    ∧ ((s.setYellow on).entrant j).station = (s.entrant j).station
    ∧ ((s.setYellow on).entrant j).lane = (s.entrant j).lane
    ∧ ((s.setYellow on).entrant j).pitStatus = (s.entrant j).pitStatus
    ∧ ((s.setYellow on).entrant j).pitEntry = (s.entrant j).pitEntry
    ∧ ((s.setYellow on).entrant j).boxArrival = (s.entrant j).boxArrival
    ∧ ((s.setYellow on).entrant j).boxVisited = (s.entrant j).boxVisited
    ∧ ((s.setYellow on).entrant j).pitStops = (s.entrant j).pitStops
    ∧ ((s.setYellow on).entrant j).laps = (s.entrant j).laps
    ∧ ((s.setYellow on).entrant j).latestCrossing = (s.entrant j).latestCrossing
    ∧ ((s.setYellow on).entrant j).prevCrossing = (s.entrant j).prevCrossing
    ∧ ((s.setYellow on).entrant j).reachTime = (s.entrant j).reachTime
    ∧ ((s.setYellow on).entrant j).lastLap = (s.entrant j).lastLap
    ∧ ((s.setYellow on).entrant j).lastLapMarks = (s.entrant j).lastLapMarks
    ∧ ((s.setYellow on).entrant j).bestLap = (s.entrant j).bestLap
    ∧ ((s.setYellow on).entrant j).sector = (s.entrant j).sector
    ∧ ((s.setYellow on).entrant j).currentSectors = (s.entrant j).currentSectors
    ∧ ((s.setYellow on).entrant j).lastSectors = (s.entrant j).lastSectors
    ∧ ((s.setYellow on).entrant j).lastBoundary = (s.entrant j).lastBoundary
    ∧ ((s.setYellow on).entrant j).gap = (s.entrant j).gap
    ∧ ((s.setYellow on).entrant j).lapsDown = (s.entrant j).lapsDown
    ∧ ((s.setYellow on).entrant j).latestPass = (s.entrant j).latestPass
    ∧ ((s.setYellow on).entrant j).deadline = (s.entrant j).deadline
    ∧ ((s.setYellow on).entrant j).overdue = (s.entrant j).overdue
    ∧ ((s.setYellow on).entrant j).jumpStart = (s.entrant j).jumpStart
    ∧ ((s.setYellow on).entrant j).callsUsed = (s.entrant j).callsUsed
    ∧ ((s.setYellow on).entrant j).override = (s.entrant j).override
    ∧ ((s.setYellow on).entrant j).activity = (s.entrant j).activity
    ∧ ((s.setYellow on).entrant j).finishStatus = (s.entrant j).finishStatus
    ∧ ((s.setYellow on).entrant j).finishTime = (s.entrant j).finishTime
    ∧ ((s.setYellow on).entrant j).penalties = (s.entrant j).penalties
    ∧ ((s.setYellow on).entrant j).holdTimer = (s.entrant j).holdTimer
    ∧ ((s.setYellow on).entrant j).powerHold = (s.entrant j).powerHold
    ∧ ((s.setYellow on).entrant j).blackFlag = (s.entrant j).blackFlag := by
  refine ⟨?_, ?_, ?_, ?_, ?_, ?_, ?_, ?_, ?_, ?_, ?_, ?_, ?_, ?_, ?_, ?_, ?_, ?_, ?_, ?_, ?_, ?_, ?_, ?_, ?_, ?_, ?_, ?_, ?_, ?_, ?_, ?_, ?_, ?_, ?_⟩ <;>
    (unfold State.setYellow; (try dsimp only) <;> ((repeat' split) <;> (try simp [State.entrant_modEntrant, State.entrant_mk, State.entrants_getElem]) <;> (try (split <;> simp_all))))

/-- What `modSector` leaves as it is. -/
@[simp] theorem State.modSector_frame (s : State) (k : Nat) (f : SectorCaution → SectorCaution) :
    (s.modSector k f).cfg = s.cfg ∧ (s.modSector k f).gates = s.gates ∧ (s.modSector k f).testStart = s.testStart
    ∧ (s.modSector k f).resolver = s.resolver ∧ (s.modSector k f).entrants = s.entrants
    ∧ (s.modSector k f).ring = s.ring ∧ (s.modSector k f).highMark = s.highMark
    ∧ (s.modSector k f).standings = s.standings ∧ (s.modSector k f).race.raceClock = s.race.raceClock
    ∧ (s.modSector k f).race.state = s.race.state ∧ (s.modSector k f).race.resume = s.race.resume
    ∧ (s.modSector k f).race.suspStart = s.race.suspStart ∧ (s.modSector k f).race.suspTotal = s.race.suspTotal
    ∧ (s.modSector k f).race.green = s.race.green ∧ (s.modSector k f).race.runningClock = s.race.runningClock
    ∧ (s.modSector k f).race.countdown = s.race.countdown
    ∧ (s.modSector k f).race.finishDeadline = s.race.finishDeadline ∧ (s.modSector k f).race.yellow = s.race.yellow
    ∧ (s.modSector k f).race.powerSetting = s.race.powerSetting ∧ (s.modSector k f).callTable = s.callTable
    ∧ (s.modSector k f).ceiling = s.ceiling ∧ (s.modSector k f).inputs = s.inputs
    ∧ (s.modSector k f).attention = s.attention ∧ (s.modSector k f).link = s.link ∧ (s.modSector k f).pins = s.pins
    ∧ (s.modSector k f).pending = s.pending := by
  refine ⟨?_, ?_, ?_, ?_, ?_, ?_, ?_, ?_, ?_, ?_, ?_, ?_, ?_, ?_, ?_, ?_, ?_, ?_, ?_, ?_, ?_, ?_, ?_, ?_, ?_, ?_⟩ <;>
    (unfold State.modSector; (try dsimp only) <;> ((repeat' split) <;> (try simp)))

@[simp] theorem State.modSector_entrant (s : State) (k : Nat) (f : SectorCaution → SectorCaution) (j : Slot) :
    (s.modSector k f).entrant j = s.entrant j := State.entrant_congr (by simp) j

@[simp] theorem State.modSector_gate (s : State) (k : Nat) (f : SectorCaution → SectorCaution) (n : GateNo) :
    (s.modSector k f).gate n = s.gate n := State.gate_congr (by simp) n

/-- What `changeSector` leaves as it is. -/
@[simp] theorem State.changeSector_frame (s : State) (k : Nat) (f : SectorCaution → SectorCaution) :
    (s.changeSector k f).cfg = s.cfg ∧ (s.changeSector k f).gates = s.gates
    ∧ (s.changeSector k f).testStart = s.testStart ∧ (s.changeSector k f).resolver = s.resolver
    ∧ (s.changeSector k f).ring = s.ring ∧ (s.changeSector k f).highMark = s.highMark
    ∧ (s.changeSector k f).standings = s.standings ∧ (s.changeSector k f).race.raceClock = s.race.raceClock
    ∧ (s.changeSector k f).race.state = s.race.state ∧ (s.changeSector k f).race.resume = s.race.resume
    ∧ (s.changeSector k f).race.suspStart = s.race.suspStart
    ∧ (s.changeSector k f).race.suspTotal = s.race.suspTotal ∧ (s.changeSector k f).race.green = s.race.green
    ∧ (s.changeSector k f).race.runningClock = s.race.runningClock
    ∧ (s.changeSector k f).race.countdown = s.race.countdown
    ∧ (s.changeSector k f).race.finishDeadline = s.race.finishDeadline
    ∧ (s.changeSector k f).race.yellow = s.race.yellow
    ∧ (s.changeSector k f).race.powerSetting = s.race.powerSetting ∧ (s.changeSector k f).callTable = s.callTable
    ∧ (s.changeSector k f).ceiling.sender = s.ceiling.sender
    ∧ (s.changeSector k f).ceiling.paused = s.ceiling.paused
    ∧ (s.changeSector k f).ceiling.holdStart = s.ceiling.holdStart
    ∧ (s.changeSector k f).ceiling.nextRefresh = s.ceiling.nextRefresh ∧ (s.changeSector k f).inputs = s.inputs
    ∧ (s.changeSector k f).attention = s.attention ∧ (s.changeSector k f).link = s.link
    ∧ (s.changeSector k f).pins = s.pins ∧ (s.changeSector k f).pending = s.pending := by
  refine ⟨?_, ?_, ?_, ?_, ?_, ?_, ?_, ?_, ?_, ?_, ?_, ?_, ?_, ?_, ?_, ?_, ?_, ?_, ?_, ?_, ?_, ?_, ?_, ?_, ?_, ?_, ?_, ?_⟩ <;>
    (unfold State.changeSector; (try dsimp only) <;> ((repeat' split) <;> (try simp)))

@[simp] theorem State.changeSector_gate (s : State) (k : Nat) (f : SectorCaution → SectorCaution) (n : GateNo) :
    (s.changeSector k f).gate n = s.gate n := State.gate_congr (by simp) n

/-- The fields of the records that `changeSector` leaves as they are. -/
@[simp] theorem State.changeSector_records (s : State) (k : Nat) (f : SectorCaution → SectorCaution) (j : Slot) :
    ((s.changeSector k f).entrant j).code = (s.entrant j).code
    ∧ ((s.changeSector k f).entrant j).state = (s.entrant j).state
    ∧ ((s.changeSector k f).entrant j).station = (s.entrant j).station
    ∧ ((s.changeSector k f).entrant j).lane = (s.entrant j).lane
    ∧ ((s.changeSector k f).entrant j).pitStatus = (s.entrant j).pitStatus
    ∧ ((s.changeSector k f).entrant j).pitEntry = (s.entrant j).pitEntry
    ∧ ((s.changeSector k f).entrant j).boxArrival = (s.entrant j).boxArrival
    ∧ ((s.changeSector k f).entrant j).boxVisited = (s.entrant j).boxVisited
    ∧ ((s.changeSector k f).entrant j).pitStops = (s.entrant j).pitStops
    ∧ ((s.changeSector k f).entrant j).laps = (s.entrant j).laps
    ∧ ((s.changeSector k f).entrant j).latestCrossing = (s.entrant j).latestCrossing
    ∧ ((s.changeSector k f).entrant j).prevCrossing = (s.entrant j).prevCrossing
    ∧ ((s.changeSector k f).entrant j).reachTime = (s.entrant j).reachTime
    ∧ ((s.changeSector k f).entrant j).lastLap = (s.entrant j).lastLap
    ∧ ((s.changeSector k f).entrant j).lastLapMarks = (s.entrant j).lastLapMarks
    ∧ ((s.changeSector k f).entrant j).bestLap = (s.entrant j).bestLap
    ∧ ((s.changeSector k f).entrant j).sector = (s.entrant j).sector
    ∧ ((s.changeSector k f).entrant j).currentSectors = (s.entrant j).currentSectors
    ∧ ((s.changeSector k f).entrant j).lastSectors = (s.entrant j).lastSectors
    ∧ ((s.changeSector k f).entrant j).lastBoundary = (s.entrant j).lastBoundary
    ∧ ((s.changeSector k f).entrant j).gap = (s.entrant j).gap
    ∧ ((s.changeSector k f).entrant j).lapsDown = (s.entrant j).lapsDown
    ∧ ((s.changeSector k f).entrant j).latestPass = (s.entrant j).latestPass
    ∧ ((s.changeSector k f).entrant j).deadline = (s.entrant j).deadline
    ∧ ((s.changeSector k f).entrant j).overdue = (s.entrant j).overdue
    ∧ ((s.changeSector k f).entrant j).jumpStart = (s.entrant j).jumpStart
    ∧ ((s.changeSector k f).entrant j).callsUsed = (s.entrant j).callsUsed
    ∧ ((s.changeSector k f).entrant j).override = (s.entrant j).override
    ∧ ((s.changeSector k f).entrant j).activity = (s.entrant j).activity
    ∧ ((s.changeSector k f).entrant j).finishStatus = (s.entrant j).finishStatus
    ∧ ((s.changeSector k f).entrant j).finishTime = (s.entrant j).finishTime
    ∧ ((s.changeSector k f).entrant j).penalties = (s.entrant j).penalties
    ∧ ((s.changeSector k f).entrant j).holdTimer = (s.entrant j).holdTimer
    ∧ ((s.changeSector k f).entrant j).powerHold = (s.entrant j).powerHold
    ∧ ((s.changeSector k f).entrant j).blackFlag = (s.entrant j).blackFlag := by
  refine ⟨?_, ?_, ?_, ?_, ?_, ?_, ?_, ?_, ?_, ?_, ?_, ?_, ?_, ?_, ?_, ?_, ?_, ?_, ?_, ?_, ?_, ?_, ?_, ?_, ?_, ?_, ?_, ?_, ?_, ?_, ?_, ?_, ?_, ?_, ?_⟩ <;>
    (unfold State.changeSector; (try dsimp only) <;> ((repeat' split) <;> (try simp [State.entrant_modEntrant, State.entrant_mk, State.entrants_getElem]) <;> (try (split <;> simp_all))))

/-- What `setHostFlag` leaves as it is. -/
@[simp] theorem State.setHostFlag_frame (s : State) (k : Nat) (on : Bool) :
    (s.setHostFlag k on).cfg = s.cfg ∧ (s.setHostFlag k on).gates = s.gates
    ∧ (s.setHostFlag k on).testStart = s.testStart ∧ (s.setHostFlag k on).resolver = s.resolver
    ∧ (s.setHostFlag k on).ring = s.ring ∧ (s.setHostFlag k on).highMark = s.highMark
    ∧ (s.setHostFlag k on).standings = s.standings ∧ (s.setHostFlag k on).race.raceClock = s.race.raceClock
    ∧ (s.setHostFlag k on).race.state = s.race.state ∧ (s.setHostFlag k on).race.resume = s.race.resume
    ∧ (s.setHostFlag k on).race.suspStart = s.race.suspStart
    ∧ (s.setHostFlag k on).race.suspTotal = s.race.suspTotal ∧ (s.setHostFlag k on).race.green = s.race.green
    ∧ (s.setHostFlag k on).race.runningClock = s.race.runningClock
    ∧ (s.setHostFlag k on).race.countdown = s.race.countdown
    ∧ (s.setHostFlag k on).race.finishDeadline = s.race.finishDeadline
    ∧ (s.setHostFlag k on).race.yellow = s.race.yellow
    ∧ (s.setHostFlag k on).race.powerSetting = s.race.powerSetting ∧ (s.setHostFlag k on).callTable = s.callTable
    ∧ (s.setHostFlag k on).ceiling.sender = s.ceiling.sender
    ∧ (s.setHostFlag k on).ceiling.paused = s.ceiling.paused
    ∧ (s.setHostFlag k on).ceiling.holdStart = s.ceiling.holdStart
    ∧ (s.setHostFlag k on).ceiling.nextRefresh = s.ceiling.nextRefresh ∧ (s.setHostFlag k on).inputs = s.inputs
    ∧ (s.setHostFlag k on).attention = s.attention ∧ (s.setHostFlag k on).link = s.link
    ∧ (s.setHostFlag k on).pins = s.pins ∧ (s.setHostFlag k on).pending = s.pending := by
  refine ⟨?_, ?_, ?_, ?_, ?_, ?_, ?_, ?_, ?_, ?_, ?_, ?_, ?_, ?_, ?_, ?_, ?_, ?_, ?_, ?_, ?_, ?_, ?_, ?_, ?_, ?_, ?_, ?_⟩ <;>
    (unfold State.setHostFlag; (try dsimp only) <;> ((repeat' split) <;> (try simp)))

@[simp] theorem State.setHostFlag_gate (s : State) (k : Nat) (on : Bool) (n : GateNo) :
    (s.setHostFlag k on).gate n = s.gate n := State.gate_congr (by simp) n

/-- The fields of the records that `setHostFlag` leaves as they are. -/
@[simp] theorem State.setHostFlag_records (s : State) (k : Nat) (on : Bool) (j : Slot) :
    ((s.setHostFlag k on).entrant j).code = (s.entrant j).code
    ∧ ((s.setHostFlag k on).entrant j).state = (s.entrant j).state
    ∧ ((s.setHostFlag k on).entrant j).station = (s.entrant j).station
    ∧ ((s.setHostFlag k on).entrant j).lane = (s.entrant j).lane
    ∧ ((s.setHostFlag k on).entrant j).pitStatus = (s.entrant j).pitStatus
    ∧ ((s.setHostFlag k on).entrant j).pitEntry = (s.entrant j).pitEntry
    ∧ ((s.setHostFlag k on).entrant j).boxArrival = (s.entrant j).boxArrival
    ∧ ((s.setHostFlag k on).entrant j).boxVisited = (s.entrant j).boxVisited
    ∧ ((s.setHostFlag k on).entrant j).pitStops = (s.entrant j).pitStops
    ∧ ((s.setHostFlag k on).entrant j).laps = (s.entrant j).laps
    ∧ ((s.setHostFlag k on).entrant j).latestCrossing = (s.entrant j).latestCrossing
    ∧ ((s.setHostFlag k on).entrant j).prevCrossing = (s.entrant j).prevCrossing
    ∧ ((s.setHostFlag k on).entrant j).reachTime = (s.entrant j).reachTime
    ∧ ((s.setHostFlag k on).entrant j).lastLap = (s.entrant j).lastLap
    ∧ ((s.setHostFlag k on).entrant j).lastLapMarks = (s.entrant j).lastLapMarks
    ∧ ((s.setHostFlag k on).entrant j).bestLap = (s.entrant j).bestLap
    ∧ ((s.setHostFlag k on).entrant j).sector = (s.entrant j).sector
    ∧ ((s.setHostFlag k on).entrant j).currentSectors = (s.entrant j).currentSectors
    ∧ ((s.setHostFlag k on).entrant j).lastSectors = (s.entrant j).lastSectors
    ∧ ((s.setHostFlag k on).entrant j).lastBoundary = (s.entrant j).lastBoundary
    ∧ ((s.setHostFlag k on).entrant j).gap = (s.entrant j).gap
    ∧ ((s.setHostFlag k on).entrant j).lapsDown = (s.entrant j).lapsDown
    ∧ ((s.setHostFlag k on).entrant j).latestPass = (s.entrant j).latestPass
    ∧ ((s.setHostFlag k on).entrant j).deadline = (s.entrant j).deadline
    ∧ ((s.setHostFlag k on).entrant j).overdue = (s.entrant j).overdue
    ∧ ((s.setHostFlag k on).entrant j).jumpStart = (s.entrant j).jumpStart
    ∧ ((s.setHostFlag k on).entrant j).callsUsed = (s.entrant j).callsUsed
    ∧ ((s.setHostFlag k on).entrant j).override = (s.entrant j).override
    ∧ ((s.setHostFlag k on).entrant j).activity = (s.entrant j).activity
    ∧ ((s.setHostFlag k on).entrant j).finishStatus = (s.entrant j).finishStatus
    ∧ ((s.setHostFlag k on).entrant j).finishTime = (s.entrant j).finishTime
    ∧ ((s.setHostFlag k on).entrant j).penalties = (s.entrant j).penalties
    ∧ ((s.setHostFlag k on).entrant j).holdTimer = (s.entrant j).holdTimer
    ∧ ((s.setHostFlag k on).entrant j).powerHold = (s.entrant j).powerHold
    ∧ ((s.setHostFlag k on).entrant j).blackFlag = (s.entrant j).blackFlag := by
  refine ⟨?_, ?_, ?_, ?_, ?_, ?_, ?_, ?_, ?_, ?_, ?_, ?_, ?_, ?_, ?_, ?_, ?_, ?_, ?_, ?_, ?_, ?_, ?_, ?_, ?_, ?_, ?_, ?_, ?_, ?_, ?_, ?_, ?_, ?_, ?_⟩ <;>
    (unfold State.setHostFlag; (try dsimp only) <;> ((repeat' split) <;> (try simp [State.entrant_modEntrant, State.entrant_mk, State.entrants_getElem]) <;> (try (split <;> simp_all))))

/-- What `addHolder` leaves as it is. -/
@[simp] theorem State.addHolder_frame (s : State) (k : Nat) (i : Slot) :
    (s.addHolder k i).cfg = s.cfg ∧ (s.addHolder k i).gates = s.gates ∧ (s.addHolder k i).testStart = s.testStart
    ∧ (s.addHolder k i).resolver = s.resolver ∧ (s.addHolder k i).ring = s.ring
    ∧ (s.addHolder k i).highMark = s.highMark ∧ (s.addHolder k i).standings = s.standings
    ∧ (s.addHolder k i).race.raceClock = s.race.raceClock ∧ (s.addHolder k i).race.state = s.race.state
    ∧ (s.addHolder k i).race.resume = s.race.resume ∧ (s.addHolder k i).race.suspStart = s.race.suspStart
    ∧ (s.addHolder k i).race.suspTotal = s.race.suspTotal ∧ (s.addHolder k i).race.green = s.race.green
    ∧ (s.addHolder k i).race.runningClock = s.race.runningClock
    ∧ (s.addHolder k i).race.countdown = s.race.countdown
    ∧ (s.addHolder k i).race.finishDeadline = s.race.finishDeadline ∧ (s.addHolder k i).race.yellow = s.race.yellow
    ∧ (s.addHolder k i).race.powerSetting = s.race.powerSetting ∧ (s.addHolder k i).callTable = s.callTable
    ∧ (s.addHolder k i).ceiling.sender = s.ceiling.sender ∧ (s.addHolder k i).ceiling.paused = s.ceiling.paused
    ∧ (s.addHolder k i).ceiling.holdStart = s.ceiling.holdStart
    ∧ (s.addHolder k i).ceiling.nextRefresh = s.ceiling.nextRefresh ∧ (s.addHolder k i).inputs = s.inputs
    ∧ (s.addHolder k i).attention = s.attention ∧ (s.addHolder k i).link = s.link ∧ (s.addHolder k i).pins = s.pins
    ∧ (s.addHolder k i).pending = s.pending := by
  refine ⟨?_, ?_, ?_, ?_, ?_, ?_, ?_, ?_, ?_, ?_, ?_, ?_, ?_, ?_, ?_, ?_, ?_, ?_, ?_, ?_, ?_, ?_, ?_, ?_, ?_, ?_, ?_, ?_⟩ <;>
    (unfold State.addHolder; (try dsimp only) <;> ((repeat' split) <;> (try simp)))

@[simp] theorem State.addHolder_gate (s : State) (k : Nat) (i : Slot) (n : GateNo) :
    (s.addHolder k i).gate n = s.gate n := State.gate_congr (by simp) n

/-- The fields of the records that `addHolder` leaves as they are. -/
@[simp] theorem State.addHolder_records (s : State) (k : Nat) (i : Slot) (j : Slot) :
    ((s.addHolder k i).entrant j).code = (s.entrant j).code
    ∧ ((s.addHolder k i).entrant j).state = (s.entrant j).state
    ∧ ((s.addHolder k i).entrant j).station = (s.entrant j).station
    ∧ ((s.addHolder k i).entrant j).lane = (s.entrant j).lane
    ∧ ((s.addHolder k i).entrant j).pitStatus = (s.entrant j).pitStatus
    ∧ ((s.addHolder k i).entrant j).pitEntry = (s.entrant j).pitEntry
    ∧ ((s.addHolder k i).entrant j).boxArrival = (s.entrant j).boxArrival
    ∧ ((s.addHolder k i).entrant j).boxVisited = (s.entrant j).boxVisited
    ∧ ((s.addHolder k i).entrant j).pitStops = (s.entrant j).pitStops
    ∧ ((s.addHolder k i).entrant j).laps = (s.entrant j).laps
    ∧ ((s.addHolder k i).entrant j).latestCrossing = (s.entrant j).latestCrossing
    ∧ ((s.addHolder k i).entrant j).prevCrossing = (s.entrant j).prevCrossing
    ∧ ((s.addHolder k i).entrant j).reachTime = (s.entrant j).reachTime
    ∧ ((s.addHolder k i).entrant j).lastLap = (s.entrant j).lastLap
    ∧ ((s.addHolder k i).entrant j).lastLapMarks = (s.entrant j).lastLapMarks
    ∧ ((s.addHolder k i).entrant j).bestLap = (s.entrant j).bestLap
    ∧ ((s.addHolder k i).entrant j).sector = (s.entrant j).sector
    ∧ ((s.addHolder k i).entrant j).currentSectors = (s.entrant j).currentSectors
    ∧ ((s.addHolder k i).entrant j).lastSectors = (s.entrant j).lastSectors
    ∧ ((s.addHolder k i).entrant j).lastBoundary = (s.entrant j).lastBoundary
    ∧ ((s.addHolder k i).entrant j).gap = (s.entrant j).gap
    ∧ ((s.addHolder k i).entrant j).lapsDown = (s.entrant j).lapsDown
    ∧ ((s.addHolder k i).entrant j).latestPass = (s.entrant j).latestPass
    ∧ ((s.addHolder k i).entrant j).deadline = (s.entrant j).deadline
    ∧ ((s.addHolder k i).entrant j).overdue = (s.entrant j).overdue
    ∧ ((s.addHolder k i).entrant j).jumpStart = (s.entrant j).jumpStart
    ∧ ((s.addHolder k i).entrant j).callsUsed = (s.entrant j).callsUsed
    ∧ ((s.addHolder k i).entrant j).override = (s.entrant j).override
    ∧ ((s.addHolder k i).entrant j).activity = (s.entrant j).activity
    ∧ ((s.addHolder k i).entrant j).finishStatus = (s.entrant j).finishStatus
    ∧ ((s.addHolder k i).entrant j).finishTime = (s.entrant j).finishTime
    ∧ ((s.addHolder k i).entrant j).penalties = (s.entrant j).penalties
    ∧ ((s.addHolder k i).entrant j).holdTimer = (s.entrant j).holdTimer
    ∧ ((s.addHolder k i).entrant j).powerHold = (s.entrant j).powerHold
    ∧ ((s.addHolder k i).entrant j).blackFlag = (s.entrant j).blackFlag := by
  refine ⟨?_, ?_, ?_, ?_, ?_, ?_, ?_, ?_, ?_, ?_, ?_, ?_, ?_, ?_, ?_, ?_, ?_, ?_, ?_, ?_, ?_, ?_, ?_, ?_, ?_, ?_, ?_, ?_, ?_, ?_, ?_, ?_, ?_, ?_, ?_⟩ <;>
    (unfold State.addHolder; (try dsimp only) <;> ((repeat' split) <;> (try simp [State.entrant_modEntrant, State.entrant_mk, State.entrants_getElem]) <;> (try (split <;> simp_all))))

/-- What `dropHolder` leaves as it is. -/
@[simp] theorem State.dropHolder_frame (s : State) (i : Slot) :
    (s.dropHolder i).cfg = s.cfg ∧ (s.dropHolder i).gates = s.gates ∧ (s.dropHolder i).testStart = s.testStart
    ∧ (s.dropHolder i).resolver = s.resolver ∧ (s.dropHolder i).ring = s.ring
    ∧ (s.dropHolder i).highMark = s.highMark ∧ (s.dropHolder i).standings = s.standings
    ∧ (s.dropHolder i).race.raceClock = s.race.raceClock ∧ (s.dropHolder i).race.state = s.race.state
    ∧ (s.dropHolder i).race.resume = s.race.resume ∧ (s.dropHolder i).race.suspStart = s.race.suspStart
    ∧ (s.dropHolder i).race.suspTotal = s.race.suspTotal ∧ (s.dropHolder i).race.green = s.race.green
    ∧ (s.dropHolder i).race.runningClock = s.race.runningClock ∧ (s.dropHolder i).race.countdown = s.race.countdown
    ∧ (s.dropHolder i).race.finishDeadline = s.race.finishDeadline ∧ (s.dropHolder i).race.yellow = s.race.yellow
    ∧ (s.dropHolder i).race.powerSetting = s.race.powerSetting ∧ (s.dropHolder i).callTable = s.callTable
    ∧ (s.dropHolder i).ceiling.sender = s.ceiling.sender ∧ (s.dropHolder i).ceiling.paused = s.ceiling.paused
    ∧ (s.dropHolder i).ceiling.holdStart = s.ceiling.holdStart
    ∧ (s.dropHolder i).ceiling.nextRefresh = s.ceiling.nextRefresh ∧ (s.dropHolder i).inputs = s.inputs
    ∧ (s.dropHolder i).attention = s.attention ∧ (s.dropHolder i).link = s.link ∧ (s.dropHolder i).pins = s.pins
    ∧ (s.dropHolder i).pending = s.pending := by
  unfold State.dropHolder
  generalize ([0, 1, 2, 3] : List Nat) = l
  induction l generalizing s with
  | nil => exact ⟨rfl, rfl, rfl, rfl, rfl, rfl, rfl, rfl, rfl, rfl, rfl, rfl, rfl, rfl, rfl, rfl, rfl, rfl, rfl, rfl, rfl, rfl, rfl, rfl, rfl, rfl, rfl, rfl⟩
  | cons x l ih =>
    simp only [List.foldl_cons, ih]
    refine ⟨?_, ?_, ?_, ?_, ?_, ?_, ?_, ?_, ?_, ?_, ?_, ?_, ?_, ?_, ?_, ?_, ?_, ?_, ?_, ?_, ?_, ?_, ?_, ?_, ?_, ?_, ?_, ?_⟩ <;> ((repeat' split) <;> (try simp))

@[simp] theorem State.dropHolder_gate (s : State) (i : Slot) (n : GateNo) :
    (s.dropHolder i).gate n = s.gate n := State.gate_congr (by simp) n

/-- The fields of the records that `dropHolder` leaves as they are. -/
@[simp] theorem State.dropHolder_records (s : State) (i : Slot) (j : Slot) :
    ((s.dropHolder i).entrant j).code = (s.entrant j).code
    ∧ ((s.dropHolder i).entrant j).state = (s.entrant j).state
    ∧ ((s.dropHolder i).entrant j).station = (s.entrant j).station
    ∧ ((s.dropHolder i).entrant j).lane = (s.entrant j).lane
    ∧ ((s.dropHolder i).entrant j).pitStatus = (s.entrant j).pitStatus
    ∧ ((s.dropHolder i).entrant j).pitEntry = (s.entrant j).pitEntry
    ∧ ((s.dropHolder i).entrant j).boxArrival = (s.entrant j).boxArrival
    ∧ ((s.dropHolder i).entrant j).boxVisited = (s.entrant j).boxVisited
    ∧ ((s.dropHolder i).entrant j).pitStops = (s.entrant j).pitStops
    ∧ ((s.dropHolder i).entrant j).laps = (s.entrant j).laps
    ∧ ((s.dropHolder i).entrant j).latestCrossing = (s.entrant j).latestCrossing
    ∧ ((s.dropHolder i).entrant j).prevCrossing = (s.entrant j).prevCrossing
    ∧ ((s.dropHolder i).entrant j).reachTime = (s.entrant j).reachTime
    ∧ ((s.dropHolder i).entrant j).lastLap = (s.entrant j).lastLap
    ∧ ((s.dropHolder i).entrant j).lastLapMarks = (s.entrant j).lastLapMarks
    ∧ ((s.dropHolder i).entrant j).bestLap = (s.entrant j).bestLap
    ∧ ((s.dropHolder i).entrant j).sector = (s.entrant j).sector
    ∧ ((s.dropHolder i).entrant j).currentSectors = (s.entrant j).currentSectors
    ∧ ((s.dropHolder i).entrant j).lastSectors = (s.entrant j).lastSectors
    ∧ ((s.dropHolder i).entrant j).lastBoundary = (s.entrant j).lastBoundary
    ∧ ((s.dropHolder i).entrant j).gap = (s.entrant j).gap
    ∧ ((s.dropHolder i).entrant j).lapsDown = (s.entrant j).lapsDown
    ∧ ((s.dropHolder i).entrant j).latestPass = (s.entrant j).latestPass
    ∧ ((s.dropHolder i).entrant j).deadline = (s.entrant j).deadline
    ∧ ((s.dropHolder i).entrant j).overdue = (s.entrant j).overdue
    ∧ ((s.dropHolder i).entrant j).jumpStart = (s.entrant j).jumpStart
    ∧ ((s.dropHolder i).entrant j).callsUsed = (s.entrant j).callsUsed
    ∧ ((s.dropHolder i).entrant j).override = (s.entrant j).override
    ∧ ((s.dropHolder i).entrant j).activity = (s.entrant j).activity
    ∧ ((s.dropHolder i).entrant j).finishStatus = (s.entrant j).finishStatus
    ∧ ((s.dropHolder i).entrant j).finishTime = (s.entrant j).finishTime
    ∧ ((s.dropHolder i).entrant j).penalties = (s.entrant j).penalties
    ∧ ((s.dropHolder i).entrant j).holdTimer = (s.entrant j).holdTimer
    ∧ ((s.dropHolder i).entrant j).powerHold = (s.entrant j).powerHold
    ∧ ((s.dropHolder i).entrant j).blackFlag = (s.entrant j).blackFlag := by
  unfold State.dropHolder
  generalize ([0, 1, 2, 3] : List Nat) = l
  induction l generalizing s with
  | nil => exact ⟨rfl, rfl, rfl, rfl, rfl, rfl, rfl, rfl, rfl, rfl, rfl, rfl, rfl, rfl, rfl, rfl, rfl, rfl, rfl, rfl, rfl, rfl, rfl, rfl, rfl, rfl, rfl, rfl, rfl, rfl, rfl, rfl, rfl, rfl, rfl⟩
  | cons x l ih =>
    simp only [List.foldl_cons, ih]
    refine ⟨?_, ?_, ?_, ?_, ?_, ?_, ?_, ?_, ?_, ?_, ?_, ?_, ?_, ?_, ?_, ?_, ?_, ?_, ?_, ?_, ?_, ?_, ?_, ?_, ?_, ?_, ?_, ?_, ?_, ?_, ?_, ?_, ?_, ?_, ?_⟩ <;> ((repeat' split) <;> (try simp [State.entrant_modEntrant, State.entrant_mk, State.entrants_getElem]) <;> (try (split <;> simp_all)))

/-- What `release` leaves as it is. -/
@[simp] theorem State.release_frame (s : State) (i : Slot) :
    (s.release i).cfg = s.cfg ∧ (s.release i).gates = s.gates ∧ (s.release i).testStart = s.testStart
    ∧ (s.release i).resolver = s.resolver ∧ (s.release i).ring = s.ring ∧ (s.release i).highMark = s.highMark
    ∧ (s.release i).standings = s.standings ∧ (s.release i).race.raceClock = s.race.raceClock
    ∧ (s.release i).race.state = s.race.state ∧ (s.release i).race.resume = s.race.resume
    ∧ (s.release i).race.suspStart = s.race.suspStart ∧ (s.release i).race.suspTotal = s.race.suspTotal
    ∧ (s.release i).race.green = s.race.green ∧ (s.release i).race.runningClock = s.race.runningClock
    ∧ (s.release i).race.countdown = s.race.countdown ∧ (s.release i).race.finishDeadline = s.race.finishDeadline
    ∧ (s.release i).race.yellow = s.race.yellow ∧ (s.release i).race.powerSetting = s.race.powerSetting
    ∧ (s.release i).callTable = s.callTable ∧ (s.release i).ceiling.sender = s.ceiling.sender
    ∧ (s.release i).ceiling.paused = s.ceiling.paused ∧ (s.release i).ceiling.holdStart = s.ceiling.holdStart
    ∧ (s.release i).ceiling.nextRefresh = s.ceiling.nextRefresh ∧ (s.release i).inputs = s.inputs
    ∧ (s.release i).attention = s.attention ∧ (s.release i).link = s.link ∧ (s.release i).pins = s.pins
    ∧ (s.release i).pending = s.pending := by
  refine ⟨?_, ?_, ?_, ?_, ?_, ?_, ?_, ?_, ?_, ?_, ?_, ?_, ?_, ?_, ?_, ?_, ?_, ?_, ?_, ?_, ?_, ?_, ?_, ?_, ?_, ?_, ?_, ?_⟩ <;>
    (unfold State.release; (try dsimp only) <;> ((repeat' split) <;> (try simp)))

@[simp] theorem State.release_gate (s : State) (i : Slot) (n : GateNo) :
    (s.release i).gate n = s.gate n := State.gate_congr (by simp) n

/-- The fields of the records that `release` leaves as they are. -/
@[simp] theorem State.release_records (s : State) (i : Slot) (j : Slot) :
    ((s.release i).entrant j).code = (s.entrant j).code ∧ ((s.release i).entrant j).state = (s.entrant j).state
    ∧ ((s.release i).entrant j).station = (s.entrant j).station
    ∧ ((s.release i).entrant j).lane = (s.entrant j).lane
    ∧ ((s.release i).entrant j).pitStatus = (s.entrant j).pitStatus
    ∧ ((s.release i).entrant j).pitEntry = (s.entrant j).pitEntry
    ∧ ((s.release i).entrant j).boxArrival = (s.entrant j).boxArrival
    ∧ ((s.release i).entrant j).boxVisited = (s.entrant j).boxVisited
    ∧ ((s.release i).entrant j).pitStops = (s.entrant j).pitStops
    ∧ ((s.release i).entrant j).laps = (s.entrant j).laps
    ∧ ((s.release i).entrant j).latestCrossing = (s.entrant j).latestCrossing
    ∧ ((s.release i).entrant j).prevCrossing = (s.entrant j).prevCrossing
    ∧ ((s.release i).entrant j).reachTime = (s.entrant j).reachTime
    ∧ ((s.release i).entrant j).lastLap = (s.entrant j).lastLap
    ∧ ((s.release i).entrant j).lastLapMarks = (s.entrant j).lastLapMarks
    ∧ ((s.release i).entrant j).bestLap = (s.entrant j).bestLap
    ∧ ((s.release i).entrant j).sector = (s.entrant j).sector
    ∧ ((s.release i).entrant j).currentSectors = (s.entrant j).currentSectors
    ∧ ((s.release i).entrant j).lastSectors = (s.entrant j).lastSectors
    ∧ ((s.release i).entrant j).lastBoundary = (s.entrant j).lastBoundary
    ∧ ((s.release i).entrant j).gap = (s.entrant j).gap
    ∧ ((s.release i).entrant j).lapsDown = (s.entrant j).lapsDown
    ∧ ((s.release i).entrant j).latestPass = (s.entrant j).latestPass
    ∧ ((s.release i).entrant j).deadline = (s.entrant j).deadline
    ∧ ((s.release i).entrant j).jumpStart = (s.entrant j).jumpStart
    ∧ ((s.release i).entrant j).callsUsed = (s.entrant j).callsUsed
    ∧ ((s.release i).entrant j).override = (s.entrant j).override
    ∧ ((s.release i).entrant j).activity = (s.entrant j).activity
    ∧ ((s.release i).entrant j).finishStatus = (s.entrant j).finishStatus
    ∧ ((s.release i).entrant j).finishTime = (s.entrant j).finishTime
    ∧ ((s.release i).entrant j).penalties = (s.entrant j).penalties
    ∧ ((s.release i).entrant j).holdTimer = (s.entrant j).holdTimer
    ∧ ((s.release i).entrant j).powerHold = (s.entrant j).powerHold
    ∧ ((s.release i).entrant j).blackFlag = (s.entrant j).blackFlag := by
  refine ⟨?_, ?_, ?_, ?_, ?_, ?_, ?_, ?_, ?_, ?_, ?_, ?_, ?_, ?_, ?_, ?_, ?_, ?_, ?_, ?_, ?_, ?_, ?_, ?_, ?_, ?_, ?_, ?_, ?_, ?_, ?_, ?_, ?_, ?_⟩ <;>
    (unfold State.release; (try dsimp only) <;> ((repeat' split) <;> (try simp [State.entrant_modEntrant, State.entrant_mk, State.entrants_getElem]) <;> (try (split <;> simp_all))))

/-- What `expireSighting` leaves as it is. -/
@[simp] theorem State.expireSighting_frame (s : State) (i : Slot) :
    (s.expireSighting i).cfg = s.cfg ∧ (s.expireSighting i).gates = s.gates
    ∧ (s.expireSighting i).testStart = s.testStart ∧ (s.expireSighting i).resolver = s.resolver
    ∧ (s.expireSighting i).ring = s.ring ∧ (s.expireSighting i).highMark = s.highMark
    ∧ (s.expireSighting i).standings = s.standings ∧ (s.expireSighting i).race.raceClock = s.race.raceClock
    ∧ (s.expireSighting i).race.state = s.race.state ∧ (s.expireSighting i).race.resume = s.race.resume
    ∧ (s.expireSighting i).race.suspStart = s.race.suspStart
    ∧ (s.expireSighting i).race.suspTotal = s.race.suspTotal ∧ (s.expireSighting i).race.green = s.race.green
    ∧ (s.expireSighting i).race.runningClock = s.race.runningClock
    ∧ (s.expireSighting i).race.countdown = s.race.countdown
    ∧ (s.expireSighting i).race.finishDeadline = s.race.finishDeadline
    ∧ (s.expireSighting i).race.yellow = s.race.yellow
    ∧ (s.expireSighting i).race.powerSetting = s.race.powerSetting ∧ (s.expireSighting i).callTable = s.callTable
    ∧ (s.expireSighting i).ceiling.sender = s.ceiling.sender
    ∧ (s.expireSighting i).ceiling.paused = s.ceiling.paused
    ∧ (s.expireSighting i).ceiling.holdStart = s.ceiling.holdStart
    ∧ (s.expireSighting i).ceiling.nextRefresh = s.ceiling.nextRefresh ∧ (s.expireSighting i).inputs = s.inputs
    ∧ (s.expireSighting i).attention = s.attention ∧ (s.expireSighting i).link = s.link
    ∧ (s.expireSighting i).pins = s.pins ∧ (s.expireSighting i).pending = s.pending := by
  refine ⟨?_, ?_, ?_, ?_, ?_, ?_, ?_, ?_, ?_, ?_, ?_, ?_, ?_, ?_, ?_, ?_, ?_, ?_, ?_, ?_, ?_, ?_, ?_, ?_, ?_, ?_, ?_, ?_⟩ <;>
    (unfold State.expireSighting; (try dsimp only) <;> ((repeat' split) <;> (try simp)))

@[simp] theorem State.expireSighting_gate (s : State) (i : Slot) (n : GateNo) :
    (s.expireSighting i).gate n = s.gate n := State.gate_congr (by simp) n

/-- The fields of the records that `expireSighting` leaves as they are. -/
@[simp] theorem State.expireSighting_records (s : State) (i : Slot) (j : Slot) :
    ((s.expireSighting i).entrant j).code = (s.entrant j).code
    ∧ ((s.expireSighting i).entrant j).state = (s.entrant j).state
    ∧ ((s.expireSighting i).entrant j).station = (s.entrant j).station
    ∧ ((s.expireSighting i).entrant j).lane = (s.entrant j).lane
    ∧ ((s.expireSighting i).entrant j).pitStatus = (s.entrant j).pitStatus
    ∧ ((s.expireSighting i).entrant j).pitEntry = (s.entrant j).pitEntry
    ∧ ((s.expireSighting i).entrant j).boxArrival = (s.entrant j).boxArrival
    ∧ ((s.expireSighting i).entrant j).boxVisited = (s.entrant j).boxVisited
    ∧ ((s.expireSighting i).entrant j).pitStops = (s.entrant j).pitStops
    ∧ ((s.expireSighting i).entrant j).laps = (s.entrant j).laps
    ∧ ((s.expireSighting i).entrant j).latestCrossing = (s.entrant j).latestCrossing
    ∧ ((s.expireSighting i).entrant j).prevCrossing = (s.entrant j).prevCrossing
    ∧ ((s.expireSighting i).entrant j).reachTime = (s.entrant j).reachTime
    ∧ ((s.expireSighting i).entrant j).lastLap = (s.entrant j).lastLap
    ∧ ((s.expireSighting i).entrant j).lastLapMarks = (s.entrant j).lastLapMarks
    ∧ ((s.expireSighting i).entrant j).bestLap = (s.entrant j).bestLap
    ∧ ((s.expireSighting i).entrant j).sector = (s.entrant j).sector
    ∧ ((s.expireSighting i).entrant j).currentSectors = (s.entrant j).currentSectors
    ∧ ((s.expireSighting i).entrant j).lastSectors = (s.entrant j).lastSectors
    ∧ ((s.expireSighting i).entrant j).lastBoundary = (s.entrant j).lastBoundary
    ∧ ((s.expireSighting i).entrant j).gap = (s.entrant j).gap
    ∧ ((s.expireSighting i).entrant j).lapsDown = (s.entrant j).lapsDown
    ∧ ((s.expireSighting i).entrant j).latestPass = (s.entrant j).latestPass
    ∧ ((s.expireSighting i).entrant j).jumpStart = (s.entrant j).jumpStart
    ∧ ((s.expireSighting i).entrant j).callsUsed = (s.entrant j).callsUsed
    ∧ ((s.expireSighting i).entrant j).override = (s.entrant j).override
    ∧ ((s.expireSighting i).entrant j).activity = (s.entrant j).activity
    ∧ ((s.expireSighting i).entrant j).finishStatus = (s.entrant j).finishStatus
    ∧ ((s.expireSighting i).entrant j).finishTime = (s.entrant j).finishTime
    ∧ ((s.expireSighting i).entrant j).penalties = (s.entrant j).penalties
    ∧ ((s.expireSighting i).entrant j).holdTimer = (s.entrant j).holdTimer
    ∧ ((s.expireSighting i).entrant j).powerHold = (s.entrant j).powerHold
    ∧ ((s.expireSighting i).entrant j).blackFlag = (s.entrant j).blackFlag := by
  refine ⟨?_, ?_, ?_, ?_, ?_, ?_, ?_, ?_, ?_, ?_, ?_, ?_, ?_, ?_, ?_, ?_, ?_, ?_, ?_, ?_, ?_, ?_, ?_, ?_, ?_, ?_, ?_, ?_, ?_, ?_, ?_, ?_, ?_⟩ <;>
    (unfold State.expireSighting; (try dsimp only) <;> ((repeat' split) <;> (try simp [State.entrant_modEntrant, State.entrant_mk, State.entrants_getElem]) <;> (try (split <;> simp_all))))

/-! ### What a recomputation does -/

/-- A recomputation writes the effective ceiling of the entrant's own record, unless it is Vacant, and nothing else of
any record. -/
theorem State.recompute_entrant (s : State) (i j : Slot) :
    (s.recompute i).entrant j
      = if j = i ∧ (s.entrant i).state ≠ .vacant then { s.entrant i with effective := s.effectiveFor (s.entrant i) }
        else s.entrant j := by
  unfold State.recompute
  by_cases hv : (s.entrant i).state = .vacant
  · simp [hv]
  · by_cases hj : j = i
    · subst hj; simp [hv]
    · simp [hv, hj]

/-- A recomputation marks the entrant by the move of its ceiling, and no other. -/
theorem State.recompute_dirtyOf (s : State) (i j : Slot) :
    (s.recompute i).dirtyOf j
      = if j = i ∧ (s.entrant i).state ≠ .vacant then
          DirtyClass.mark (s.entrant i).effective (s.effectiveFor (s.entrant i)) (s.dirtyOf i)
        else s.dirtyOf j := by
  unfold State.recompute
  by_cases hv : (s.entrant i).state = .vacant
  · simp [hv]
  · simp [hv, State.dirtyOf_setDirty]

/-- The effective ceiling reads the configuration, the race state, the yellow flag and the Caution Map. -/
theorem State.effectiveFor_congr {s t : State} (e : Entrant) (hc : t.cfg = s.cfg) (hr : t.race.state = s.race.state)
    (hy : t.race.yellow = s.race.yellow) (hm : t.race.caution = s.race.caution) :
    t.effectiveFor e = s.effectiveFor e := by
  have hl : t.localCaution e.sector = s.localCaution e.sector := by unfold State.localCaution; rw [hm]
  unfold State.effectiveFor State.limits
  rw [hl, hc, hr, hy]

/-- A record's own effective ceiling is no input of the next one. -/
@[simp] theorem State.effectiveFor_effective (s : State) (e : Entrant) (v : Nat) :
    s.effectiveFor { e with effective := v } = s.effectiveFor e := rfl

/-- A recomputation leaves what effective ceilings are computed from. -/
@[simp] theorem State.recompute_effectiveFor (s : State) (i : Slot) (e : Entrant) :
    (s.recompute i).effectiveFor e = s.effectiveFor e :=
  State.effectiveFor_congr e (by simp) (by simp) (by simp) (by simp)

/-- What a fold of recomputations does to one record and its mark: the slots of the list are recomputed once each. -/
theorem State.foldl_recompute (l : List Slot) (hl : l.Nodup) (s : State) (j : Slot) :
    (l.foldl State.recompute s).entrant j
        = (if j ∈ l ∧ (s.entrant j).state ≠ .vacant then { s.entrant j with effective := s.effectiveFor (s.entrant j) }
          else s.entrant j)
      ∧ (l.foldl State.recompute s).dirtyOf j
        = (if j ∈ l ∧ (s.entrant j).state ≠ .vacant then
            DirtyClass.mark (s.entrant j).effective (s.effectiveFor (s.entrant j)) (s.dirtyOf j)
          else s.dirtyOf j) := by
  induction l generalizing s with
  | nil => simp
  | cons i l ih =>
    obtain ⟨hi, hl⟩ := List.nodup_cons.mp hl
    have h := ih hl (s.recompute i)
    simp only [List.foldl_cons, h, State.recompute_effectiveFor, State.recompute_entrant, State.recompute_dirtyOf]
    by_cases hj : j = i
    · subst hj; by_cases hv : (s.entrant j).state = .vacant <;> simp [hi, hv]
    · by_cases hm : j ∈ l <;> simp [hj, hm]

/-- What the recomputation of every entrant does to a record: an entrant's effective ceiling becomes the one R158 gives,
and a Vacant record stays as it is. -/
theorem State.recomputeAll_entrant (s : State) (j : Slot) :
    s.recomputeAll.entrant j
      = if (s.entrant j).state ≠ .vacant then { s.entrant j with effective := s.effectiveFor (s.entrant j) }
        else s.entrant j := by
  have h := (State.foldl_recompute allSlots (by decide) s j).1
  simpa [mem_allSlots, State.recomputeAll, State.forSlots] using h

/-- What the recomputation of every entrant does to a mark. -/
theorem State.recomputeAll_dirtyOf (s : State) (j : Slot) :
    s.recomputeAll.dirtyOf j
      = if (s.entrant j).state ≠ .vacant then
          DirtyClass.mark (s.entrant j).effective (s.effectiveFor (s.entrant j)) (s.dirtyOf j)
        else s.dirtyOf j := by
  have h := (State.foldl_recompute allSlots (by decide) s j).2
  simpa [mem_allSlots, State.recomputeAll, State.forSlots] using h

/-- The recomputation of every entrant leaves what effective ceilings are computed from. -/
@[simp] theorem State.recomputeAll_effectiveFor (s : State) (e : Entrant) :
    s.recomputeAll.effectiveFor e = s.effectiveFor e :=
  State.effectiveFor_congr e (by simp) (by simp) (by simp) (by simp)

/-- A least value of a list and a start is at most the start and at most every value. -/
theorem foldl_min_le (l : List Nat) (a : Nat) : l.foldl min a ≤ a ∧ ∀ x ∈ l, l.foldl min a ≤ x := by
  induction l generalizing a with
  | nil => simp
  | cons y l ih =>
    have h := ih (min a y)
    simp only [List.foldl_cons, List.mem_cons, forall_eq_or_imp]
    exact ⟨h.1.trans (min_le_left _ _), h.1.trans (min_le_right _ _), h.2⟩

/-- The least value of a list and a start is one of them. -/
theorem foldl_min_mem (l : List Nat) (a : Nat) : l.foldl min a = a ∨ l.foldl min a ∈ l := by
  induction l generalizing a with
  | nil => simp
  | cons y l ih =>
    simp only [List.foldl_cons, List.mem_cons]
    rcases ih (min a y) with h | h
    · rcases min_choice a y with e | e
      · exact .inl (h.trans e)
      · exact .inr (.inl (h.trans e))
    · exact .inr (.inr h)

/-- The three ways a byte on the return line acts (R164). -/
theorem State.returnByte_cases (s : State) (b : Byte) :
    (s.returnByte b = s ∧ (b = pauseCode ↔ s.ceiling.paused = true))
      ∨ (b = pauseCode ∧ s.ceiling.paused = false ∧ (s.returnByte b).ceiling.paused = true)
      ∨ (b ≠ pauseCode ∧ s.ceiling.paused = true ∧ (s.returnByte b).ceiling.paused = false
          ∧ (s.returnByte b).ceiling.holdStart = none) := by
  unfold State.returnByte
  by_cases hb : b = pauseCode <;> by_cases hp : s.ceiling.paused <;> simp [hb, hp]

/-! ### What a caution notice and a release do -/

/-- The notice sets the lap caution mark of every Racing entrant it concerns, and writes nothing else. -/
theorem State.notice_entrant (s : State) (c : Entrant → Bool) (j : Slot) :
    (s.notice c).entrant j
      = if (s.entrant j).state = .racing ∧ c (s.entrant j) = true then { s.entrant j with lapCaution := true }
        else s.entrant j := by
  have key : ∀ (l : List Slot), l.Nodup → ∀ s : State,
      (l.foldl (fun s i =>
          if (s.entrant i).state == .racing && c (s.entrant i) then
            s.modEntrant i fun e => { e with lapCaution := true }
          else s) s).entrant j
        = if j ∈ l ∧ (s.entrant j).state = .racing ∧ c (s.entrant j) = true then { s.entrant j with lapCaution := true }
          else s.entrant j := by
    intro l
    induction l with
    | nil => simp
    | cons i l ih =>
      intro hl s
      obtain ⟨hi, hl⟩ := List.nodup_cons.mp hl
      rw [List.foldl_cons, ih hl]
      by_cases hj : j = i
      · subst hj
        by_cases h : (s.entrant j).state = .racing ∧ c (s.entrant j) = true
        · simp [hi, h]
        · have h' : ((s.entrant j).state == EntrantState.racing && c (s.entrant j)) = false := by
            simpa using h
          simp [hi, h, h']
      · by_cases h : ((s.entrant i).state == EntrantState.racing && c (s.entrant i)) = true
        · simp [hj, h]
        · simp [hj, h]
  have h := key allSlots (by decide) s
  simpa [mem_allSlots, State.notice, State.forSlots] using h

/-- The release of an entrant that is not Overdue changes nothing (R65). -/
theorem State.release_not_overdue (s : State) (i : Slot) (h : (s.entrant i).overdue = false) : s.release i = s := by
  simp [State.release, h]

/-- A yellow flag that already has the value stays as it is (R113). -/
theorem State.setYellow_same (s : State) : s.setYellow s.race.yellow = s := by simp [State.setYellow]

/-- The yellow flag takes the value it is given (R113). -/
@[simp] theorem State.setYellow_yellow (s : State) (on : Bool) : (s.setYellow on).race.yellow = on := by
  unfold State.setYellow
  by_cases h : s.race.yellow = on
  · simp [h]
  · cases on <;> simp [h]

end Sys2Proof.Machine
end

