-- ==== Sys2Proof/Laws/Penalties.lean ====
section
/-! SUPPORT. What the Penalty Unit's and the Call Unit's shared operations can change, and what they leave as it is. -/

set_option linter.all false

namespace Sys2Proof.Machine

/-- What `markActivity` leaves as it is. -/
@[simp] theorem State.markActivity_frame (s : State) (i : Slot) :
    (s.markActivity i).cfg = s.cfg ∧ (s.markActivity i).gates = s.gates
    ∧ (s.markActivity i).testStart = s.testStart ∧ (s.markActivity i).resolver = s.resolver
    ∧ (s.markActivity i).ring = s.ring ∧ (s.markActivity i).highMark = s.highMark
    ∧ (s.markActivity i).standings = s.standings ∧ (s.markActivity i).race = s.race
    ∧ (s.markActivity i).callTable = s.callTable ∧ (s.markActivity i).ceiling = s.ceiling
    ∧ (s.markActivity i).inputs = s.inputs ∧ (s.markActivity i).attention = s.attention
    ∧ (s.markActivity i).link = s.link ∧ (s.markActivity i).pins = s.pins ∧ (s.markActivity i).pending = s.pending := by
  refine ⟨?_, ?_, ?_, ?_, ?_, ?_, ?_, ?_, ?_, ?_, ?_, ?_, ?_, ?_, ?_⟩ <;>
    (unfold State.markActivity; (try dsimp only) <;> ((repeat' split) <;> (try simp)))

@[simp] theorem State.markActivity_gate (s : State) (i : Slot) (n : GateNo) :
    (s.markActivity i).gate n = s.gate n := State.gate_congr (by simp) n

/-- The fields of the records that `markActivity` leaves as they are. -/
@[simp] theorem State.markActivity_records (s : State) (i : Slot) (j : Slot) :
    ((s.markActivity i).entrant j).code = (s.entrant j).code
    ∧ ((s.markActivity i).entrant j).state = (s.entrant j).state
    ∧ ((s.markActivity i).entrant j).station = (s.entrant j).station
    ∧ ((s.markActivity i).entrant j).lane = (s.entrant j).lane
    ∧ ((s.markActivity i).entrant j).pitStatus = (s.entrant j).pitStatus
    ∧ ((s.markActivity i).entrant j).pitEntry = (s.entrant j).pitEntry
    ∧ ((s.markActivity i).entrant j).boxArrival = (s.entrant j).boxArrival
    ∧ ((s.markActivity i).entrant j).boxVisited = (s.entrant j).boxVisited
    ∧ ((s.markActivity i).entrant j).pitStops = (s.entrant j).pitStops
    ∧ ((s.markActivity i).entrant j).laps = (s.entrant j).laps
    ∧ ((s.markActivity i).entrant j).latestCrossing = (s.entrant j).latestCrossing
    ∧ ((s.markActivity i).entrant j).prevCrossing = (s.entrant j).prevCrossing
    ∧ ((s.markActivity i).entrant j).reachTime = (s.entrant j).reachTime
    ∧ ((s.markActivity i).entrant j).lastLap = (s.entrant j).lastLap
    ∧ ((s.markActivity i).entrant j).lastLapMarks = (s.entrant j).lastLapMarks
    ∧ ((s.markActivity i).entrant j).bestLap = (s.entrant j).bestLap
    ∧ ((s.markActivity i).entrant j).sector = (s.entrant j).sector
    ∧ ((s.markActivity i).entrant j).currentSectors = (s.entrant j).currentSectors
    ∧ ((s.markActivity i).entrant j).lastSectors = (s.entrant j).lastSectors
    ∧ ((s.markActivity i).entrant j).lastBoundary = (s.entrant j).lastBoundary
    ∧ ((s.markActivity i).entrant j).lapCaution = (s.entrant j).lapCaution
    ∧ ((s.markActivity i).entrant j).gap = (s.entrant j).gap
    ∧ ((s.markActivity i).entrant j).lapsDown = (s.entrant j).lapsDown
    ∧ ((s.markActivity i).entrant j).latestPass = (s.entrant j).latestPass
    ∧ ((s.markActivity i).entrant j).deadline = (s.entrant j).deadline
    ∧ ((s.markActivity i).entrant j).overdue = (s.entrant j).overdue
    ∧ ((s.markActivity i).entrant j).jumpStart = (s.entrant j).jumpStart
    ∧ ((s.markActivity i).entrant j).callsUsed = (s.entrant j).callsUsed
    ∧ ((s.markActivity i).entrant j).override = (s.entrant j).override
    ∧ ((s.markActivity i).entrant j).effective = (s.entrant j).effective
    ∧ ((s.markActivity i).entrant j).finishStatus = (s.entrant j).finishStatus
    ∧ ((s.markActivity i).entrant j).finishTime = (s.entrant j).finishTime
    ∧ ((s.markActivity i).entrant j).penalties = (s.entrant j).penalties
    ∧ ((s.markActivity i).entrant j).holdTimer = (s.entrant j).holdTimer
    ∧ ((s.markActivity i).entrant j).powerHold = (s.entrant j).powerHold
    ∧ ((s.markActivity i).entrant j).blackFlag = (s.entrant j).blackFlag := by
  refine ⟨?_, ?_, ?_, ?_, ?_, ?_, ?_, ?_, ?_, ?_, ?_, ?_, ?_, ?_, ?_, ?_, ?_, ?_, ?_, ?_, ?_, ?_, ?_, ?_, ?_, ?_, ?_, ?_, ?_, ?_, ?_, ?_, ?_, ?_, ?_, ?_⟩ <;>
    (unfold State.markActivity; (try dsimp only) <;> ((repeat' split) <;> (try simp [State.entrant_modEntrant, State.entrant_mk, State.entrants_getElem]) <;> (try (split <;> simp_all))))

/-- What `setPenalties` leaves as it is. -/
@[simp] theorem State.setPenalties_frame (s : State) (i : Slot) (q : List PitPenalty) :
    (s.setPenalties i q).cfg = s.cfg ∧ (s.setPenalties i q).gates = s.gates
    ∧ (s.setPenalties i q).testStart = s.testStart ∧ (s.setPenalties i q).resolver = s.resolver
    ∧ (s.setPenalties i q).ring = s.ring ∧ (s.setPenalties i q).highMark = s.highMark
    ∧ (s.setPenalties i q).standings = s.standings ∧ (s.setPenalties i q).race = s.race
    ∧ (s.setPenalties i q).callTable = s.callTable ∧ (s.setPenalties i q).ceiling = s.ceiling
    ∧ (s.setPenalties i q).inputs = s.inputs ∧ (s.setPenalties i q).attention = s.attention
    ∧ (s.setPenalties i q).link = s.link ∧ (s.setPenalties i q).pins = s.pins
    ∧ (s.setPenalties i q).pending = s.pending := by
  refine ⟨?_, ?_, ?_, ?_, ?_, ?_, ?_, ?_, ?_, ?_, ?_, ?_, ?_, ?_, ?_⟩ <;>
    (unfold State.setPenalties; (try dsimp only) <;> ((repeat' split) <;> (try simp)))

@[simp] theorem State.setPenalties_gate (s : State) (i : Slot) (q : List PitPenalty) (n : GateNo) :
    (s.setPenalties i q).gate n = s.gate n := State.gate_congr (by simp) n

/-- The fields of the records that `setPenalties` leaves as they are. -/
@[simp] theorem State.setPenalties_records (s : State) (i : Slot) (q : List PitPenalty) (j : Slot) :
    ((s.setPenalties i q).entrant j).code = (s.entrant j).code
    ∧ ((s.setPenalties i q).entrant j).state = (s.entrant j).state
    ∧ ((s.setPenalties i q).entrant j).station = (s.entrant j).station
    ∧ ((s.setPenalties i q).entrant j).lane = (s.entrant j).lane
    ∧ ((s.setPenalties i q).entrant j).pitStatus = (s.entrant j).pitStatus
    ∧ ((s.setPenalties i q).entrant j).pitEntry = (s.entrant j).pitEntry
    ∧ ((s.setPenalties i q).entrant j).boxArrival = (s.entrant j).boxArrival
    ∧ ((s.setPenalties i q).entrant j).boxVisited = (s.entrant j).boxVisited
    ∧ ((s.setPenalties i q).entrant j).pitStops = (s.entrant j).pitStops
    ∧ ((s.setPenalties i q).entrant j).laps = (s.entrant j).laps
    ∧ ((s.setPenalties i q).entrant j).latestCrossing = (s.entrant j).latestCrossing
    ∧ ((s.setPenalties i q).entrant j).prevCrossing = (s.entrant j).prevCrossing
    ∧ ((s.setPenalties i q).entrant j).reachTime = (s.entrant j).reachTime
    ∧ ((s.setPenalties i q).entrant j).lastLap = (s.entrant j).lastLap
    ∧ ((s.setPenalties i q).entrant j).lastLapMarks = (s.entrant j).lastLapMarks
    ∧ ((s.setPenalties i q).entrant j).bestLap = (s.entrant j).bestLap
    ∧ ((s.setPenalties i q).entrant j).sector = (s.entrant j).sector
    ∧ ((s.setPenalties i q).entrant j).currentSectors = (s.entrant j).currentSectors
    ∧ ((s.setPenalties i q).entrant j).lastSectors = (s.entrant j).lastSectors
    ∧ ((s.setPenalties i q).entrant j).lastBoundary = (s.entrant j).lastBoundary
    ∧ ((s.setPenalties i q).entrant j).lapCaution = (s.entrant j).lapCaution
    ∧ ((s.setPenalties i q).entrant j).gap = (s.entrant j).gap
    ∧ ((s.setPenalties i q).entrant j).lapsDown = (s.entrant j).lapsDown
    ∧ ((s.setPenalties i q).entrant j).latestPass = (s.entrant j).latestPass
    ∧ ((s.setPenalties i q).entrant j).deadline = (s.entrant j).deadline
    ∧ ((s.setPenalties i q).entrant j).overdue = (s.entrant j).overdue
    ∧ ((s.setPenalties i q).entrant j).jumpStart = (s.entrant j).jumpStart
    ∧ ((s.setPenalties i q).entrant j).callsUsed = (s.entrant j).callsUsed
    ∧ ((s.setPenalties i q).entrant j).override = (s.entrant j).override
    ∧ ((s.setPenalties i q).entrant j).effective = (s.entrant j).effective
    ∧ ((s.setPenalties i q).entrant j).activity = (s.entrant j).activity
    ∧ ((s.setPenalties i q).entrant j).finishStatus = (s.entrant j).finishStatus
    ∧ ((s.setPenalties i q).entrant j).finishTime = (s.entrant j).finishTime
    ∧ ((s.setPenalties i q).entrant j).holdTimer = (s.entrant j).holdTimer
    ∧ ((s.setPenalties i q).entrant j).powerHold = (s.entrant j).powerHold
    ∧ ((s.setPenalties i q).entrant j).blackFlag = (s.entrant j).blackFlag := by
  refine ⟨?_, ?_, ?_, ?_, ?_, ?_, ?_, ?_, ?_, ?_, ?_, ?_, ?_, ?_, ?_, ?_, ?_, ?_, ?_, ?_, ?_, ?_, ?_, ?_, ?_, ?_, ?_, ?_, ?_, ?_, ?_, ?_, ?_, ?_, ?_, ?_⟩ <;>
    (unfold State.setPenalties; (try dsimp only) <;> ((repeat' split) <;> (try simp [State.entrant_modEntrant, State.entrant_mk, State.entrants_getElem]) <;> (try (split <;> simp_all))))

/-- What `setHoldTimer` leaves as it is. -/
@[simp] theorem State.setHoldTimer_frame (s : State) (i : Slot) (t : Option RunTime) :
    (s.setHoldTimer i t).cfg = s.cfg ∧ (s.setHoldTimer i t).gates = s.gates
    ∧ (s.setHoldTimer i t).testStart = s.testStart ∧ (s.setHoldTimer i t).resolver = s.resolver
    ∧ (s.setHoldTimer i t).ring = s.ring ∧ (s.setHoldTimer i t).highMark = s.highMark
    ∧ (s.setHoldTimer i t).standings = s.standings ∧ (s.setHoldTimer i t).race = s.race
    ∧ (s.setHoldTimer i t).callTable = s.callTable ∧ (s.setHoldTimer i t).ceiling = s.ceiling
    ∧ (s.setHoldTimer i t).inputs = s.inputs ∧ (s.setHoldTimer i t).attention = s.attention
    ∧ (s.setHoldTimer i t).link = s.link ∧ (s.setHoldTimer i t).pins = s.pins
    ∧ (s.setHoldTimer i t).pending = s.pending := by
  refine ⟨?_, ?_, ?_, ?_, ?_, ?_, ?_, ?_, ?_, ?_, ?_, ?_, ?_, ?_, ?_⟩ <;>
    (unfold State.setHoldTimer; (try dsimp only) <;> ((repeat' split) <;> (try simp)))

@[simp] theorem State.setHoldTimer_gate (s : State) (i : Slot) (t : Option RunTime) (n : GateNo) :
    (s.setHoldTimer i t).gate n = s.gate n := State.gate_congr (by simp) n

/-- The fields of the records that `setHoldTimer` leaves as they are. -/
@[simp] theorem State.setHoldTimer_records (s : State) (i : Slot) (t : Option RunTime) (j : Slot) :
    ((s.setHoldTimer i t).entrant j).code = (s.entrant j).code
    ∧ ((s.setHoldTimer i t).entrant j).state = (s.entrant j).state
    ∧ ((s.setHoldTimer i t).entrant j).station = (s.entrant j).station
    ∧ ((s.setHoldTimer i t).entrant j).lane = (s.entrant j).lane
    ∧ ((s.setHoldTimer i t).entrant j).pitStatus = (s.entrant j).pitStatus
    ∧ ((s.setHoldTimer i t).entrant j).pitEntry = (s.entrant j).pitEntry
    ∧ ((s.setHoldTimer i t).entrant j).boxArrival = (s.entrant j).boxArrival
    ∧ ((s.setHoldTimer i t).entrant j).boxVisited = (s.entrant j).boxVisited
    ∧ ((s.setHoldTimer i t).entrant j).pitStops = (s.entrant j).pitStops
    ∧ ((s.setHoldTimer i t).entrant j).laps = (s.entrant j).laps
    ∧ ((s.setHoldTimer i t).entrant j).latestCrossing = (s.entrant j).latestCrossing
    ∧ ((s.setHoldTimer i t).entrant j).prevCrossing = (s.entrant j).prevCrossing
    ∧ ((s.setHoldTimer i t).entrant j).reachTime = (s.entrant j).reachTime
    ∧ ((s.setHoldTimer i t).entrant j).lastLap = (s.entrant j).lastLap
    ∧ ((s.setHoldTimer i t).entrant j).lastLapMarks = (s.entrant j).lastLapMarks
    ∧ ((s.setHoldTimer i t).entrant j).bestLap = (s.entrant j).bestLap
    ∧ ((s.setHoldTimer i t).entrant j).sector = (s.entrant j).sector
    ∧ ((s.setHoldTimer i t).entrant j).currentSectors = (s.entrant j).currentSectors
    ∧ ((s.setHoldTimer i t).entrant j).lastSectors = (s.entrant j).lastSectors
    ∧ ((s.setHoldTimer i t).entrant j).lastBoundary = (s.entrant j).lastBoundary
    ∧ ((s.setHoldTimer i t).entrant j).lapCaution = (s.entrant j).lapCaution
    ∧ ((s.setHoldTimer i t).entrant j).gap = (s.entrant j).gap
    ∧ ((s.setHoldTimer i t).entrant j).lapsDown = (s.entrant j).lapsDown
    ∧ ((s.setHoldTimer i t).entrant j).latestPass = (s.entrant j).latestPass
    ∧ ((s.setHoldTimer i t).entrant j).deadline = (s.entrant j).deadline
    ∧ ((s.setHoldTimer i t).entrant j).overdue = (s.entrant j).overdue
    ∧ ((s.setHoldTimer i t).entrant j).jumpStart = (s.entrant j).jumpStart
    ∧ ((s.setHoldTimer i t).entrant j).callsUsed = (s.entrant j).callsUsed
    ∧ ((s.setHoldTimer i t).entrant j).override = (s.entrant j).override
    ∧ ((s.setHoldTimer i t).entrant j).effective = (s.entrant j).effective
    ∧ ((s.setHoldTimer i t).entrant j).activity = (s.entrant j).activity
    ∧ ((s.setHoldTimer i t).entrant j).finishStatus = (s.entrant j).finishStatus
    ∧ ((s.setHoldTimer i t).entrant j).finishTime = (s.entrant j).finishTime
    ∧ ((s.setHoldTimer i t).entrant j).penalties = (s.entrant j).penalties
    ∧ ((s.setHoldTimer i t).entrant j).powerHold = (s.entrant j).powerHold
    ∧ ((s.setHoldTimer i t).entrant j).blackFlag = (s.entrant j).blackFlag := by
  refine ⟨?_, ?_, ?_, ?_, ?_, ?_, ?_, ?_, ?_, ?_, ?_, ?_, ?_, ?_, ?_, ?_, ?_, ?_, ?_, ?_, ?_, ?_, ?_, ?_, ?_, ?_, ?_, ?_, ?_, ?_, ?_, ?_, ?_, ?_, ?_, ?_⟩ <;>
    (unfold State.setHoldTimer; (try dsimp only) <;> ((repeat' split) <;> (try simp [State.entrant_modEntrant, State.entrant_mk, State.entrants_getElem]) <;> (try (split <;> simp_all))))

/-- What `setPowerHold` leaves as it is. -/
@[simp] theorem State.setPowerHold_frame (s : State) (i : Slot) (h : Option PowerHold) :
    (s.setPowerHold i h).cfg = s.cfg ∧ (s.setPowerHold i h).gates = s.gates
    ∧ (s.setPowerHold i h).testStart = s.testStart ∧ (s.setPowerHold i h).resolver = s.resolver
    ∧ (s.setPowerHold i h).ring = s.ring ∧ (s.setPowerHold i h).highMark = s.highMark
    ∧ (s.setPowerHold i h).standings = s.standings ∧ (s.setPowerHold i h).race = s.race
    ∧ (s.setPowerHold i h).callTable = s.callTable ∧ (s.setPowerHold i h).ceiling.sender = s.ceiling.sender
    ∧ (s.setPowerHold i h).ceiling.paused = s.ceiling.paused
    ∧ (s.setPowerHold i h).ceiling.holdStart = s.ceiling.holdStart
    ∧ (s.setPowerHold i h).ceiling.nextRefresh = s.ceiling.nextRefresh ∧ (s.setPowerHold i h).inputs = s.inputs
    ∧ (s.setPowerHold i h).attention = s.attention ∧ (s.setPowerHold i h).link = s.link
    ∧ (s.setPowerHold i h).pins = s.pins ∧ (s.setPowerHold i h).pending = s.pending := by
  refine ⟨?_, ?_, ?_, ?_, ?_, ?_, ?_, ?_, ?_, ?_, ?_, ?_, ?_, ?_, ?_, ?_, ?_, ?_⟩ <;>
    (unfold State.setPowerHold; (try dsimp only) <;> ((repeat' split) <;> (try simp)))

@[simp] theorem State.setPowerHold_gate (s : State) (i : Slot) (h : Option PowerHold) (n : GateNo) :
    (s.setPowerHold i h).gate n = s.gate n := State.gate_congr (by simp) n

/-- The fields of the records that `setPowerHold` leaves as they are. -/
@[simp] theorem State.setPowerHold_records (s : State) (i : Slot) (h : Option PowerHold) (j : Slot) :
    ((s.setPowerHold i h).entrant j).code = (s.entrant j).code
    ∧ ((s.setPowerHold i h).entrant j).state = (s.entrant j).state
    ∧ ((s.setPowerHold i h).entrant j).station = (s.entrant j).station
    ∧ ((s.setPowerHold i h).entrant j).lane = (s.entrant j).lane
    ∧ ((s.setPowerHold i h).entrant j).pitStatus = (s.entrant j).pitStatus
    ∧ ((s.setPowerHold i h).entrant j).pitEntry = (s.entrant j).pitEntry
    ∧ ((s.setPowerHold i h).entrant j).boxArrival = (s.entrant j).boxArrival
    ∧ ((s.setPowerHold i h).entrant j).boxVisited = (s.entrant j).boxVisited
    ∧ ((s.setPowerHold i h).entrant j).pitStops = (s.entrant j).pitStops
    ∧ ((s.setPowerHold i h).entrant j).laps = (s.entrant j).laps
    ∧ ((s.setPowerHold i h).entrant j).latestCrossing = (s.entrant j).latestCrossing
    ∧ ((s.setPowerHold i h).entrant j).prevCrossing = (s.entrant j).prevCrossing
    ∧ ((s.setPowerHold i h).entrant j).reachTime = (s.entrant j).reachTime
    ∧ ((s.setPowerHold i h).entrant j).lastLap = (s.entrant j).lastLap
    ∧ ((s.setPowerHold i h).entrant j).lastLapMarks = (s.entrant j).lastLapMarks
    ∧ ((s.setPowerHold i h).entrant j).bestLap = (s.entrant j).bestLap
    ∧ ((s.setPowerHold i h).entrant j).sector = (s.entrant j).sector
    ∧ ((s.setPowerHold i h).entrant j).currentSectors = (s.entrant j).currentSectors
    ∧ ((s.setPowerHold i h).entrant j).lastSectors = (s.entrant j).lastSectors
    ∧ ((s.setPowerHold i h).entrant j).lastBoundary = (s.entrant j).lastBoundary
    ∧ ((s.setPowerHold i h).entrant j).lapCaution = (s.entrant j).lapCaution
    ∧ ((s.setPowerHold i h).entrant j).gap = (s.entrant j).gap
    ∧ ((s.setPowerHold i h).entrant j).lapsDown = (s.entrant j).lapsDown
    ∧ ((s.setPowerHold i h).entrant j).latestPass = (s.entrant j).latestPass
    ∧ ((s.setPowerHold i h).entrant j).deadline = (s.entrant j).deadline
    ∧ ((s.setPowerHold i h).entrant j).overdue = (s.entrant j).overdue
    ∧ ((s.setPowerHold i h).entrant j).jumpStart = (s.entrant j).jumpStart
    ∧ ((s.setPowerHold i h).entrant j).callsUsed = (s.entrant j).callsUsed
    ∧ ((s.setPowerHold i h).entrant j).override = (s.entrant j).override
    ∧ ((s.setPowerHold i h).entrant j).activity = (s.entrant j).activity
    ∧ ((s.setPowerHold i h).entrant j).finishStatus = (s.entrant j).finishStatus
    ∧ ((s.setPowerHold i h).entrant j).finishTime = (s.entrant j).finishTime
    ∧ ((s.setPowerHold i h).entrant j).penalties = (s.entrant j).penalties
    ∧ ((s.setPowerHold i h).entrant j).holdTimer = (s.entrant j).holdTimer
    ∧ ((s.setPowerHold i h).entrant j).blackFlag = (s.entrant j).blackFlag := by
  refine ⟨?_, ?_, ?_, ?_, ?_, ?_, ?_, ?_, ?_, ?_, ?_, ?_, ?_, ?_, ?_, ?_, ?_, ?_, ?_, ?_, ?_, ?_, ?_, ?_, ?_, ?_, ?_, ?_, ?_, ?_, ?_, ?_, ?_, ?_, ?_⟩ <;>
    (unfold State.setPowerHold; (try dsimp only) <;> ((repeat' split) <;> (try simp [State.entrant_modEntrant, State.entrant_mk, State.entrants_getElem]) <;> (try (split <;> simp_all))))

/-- What `setBlackFlag` leaves as it is. -/
@[simp] theorem State.setBlackFlag_frame (s : State) (i : Slot) (on : Bool) :
    (s.setBlackFlag i on).cfg = s.cfg ∧ (s.setBlackFlag i on).gates = s.gates
    ∧ (s.setBlackFlag i on).testStart = s.testStart ∧ (s.setBlackFlag i on).resolver = s.resolver
    ∧ (s.setBlackFlag i on).ring = s.ring ∧ (s.setBlackFlag i on).highMark = s.highMark
    ∧ (s.setBlackFlag i on).standings = s.standings ∧ (s.setBlackFlag i on).race = s.race
    ∧ (s.setBlackFlag i on).callTable = s.callTable ∧ (s.setBlackFlag i on).ceiling.sender = s.ceiling.sender
    ∧ (s.setBlackFlag i on).ceiling.paused = s.ceiling.paused
    ∧ (s.setBlackFlag i on).ceiling.holdStart = s.ceiling.holdStart
    ∧ (s.setBlackFlag i on).ceiling.nextRefresh = s.ceiling.nextRefresh ∧ (s.setBlackFlag i on).inputs = s.inputs
    ∧ (s.setBlackFlag i on).attention = s.attention ∧ (s.setBlackFlag i on).link = s.link
    ∧ (s.setBlackFlag i on).pins = s.pins ∧ (s.setBlackFlag i on).pending = s.pending := by
  refine ⟨?_, ?_, ?_, ?_, ?_, ?_, ?_, ?_, ?_, ?_, ?_, ?_, ?_, ?_, ?_, ?_, ?_, ?_⟩ <;>
    (unfold State.setBlackFlag; (try dsimp only) <;> ((repeat' split) <;> (try simp)))

@[simp] theorem State.setBlackFlag_gate (s : State) (i : Slot) (on : Bool) (n : GateNo) :
    (s.setBlackFlag i on).gate n = s.gate n := State.gate_congr (by simp) n

/-- The fields of the records that `setBlackFlag` leaves as they are. -/
@[simp] theorem State.setBlackFlag_records (s : State) (i : Slot) (on : Bool) (j : Slot) :
    ((s.setBlackFlag i on).entrant j).code = (s.entrant j).code
    ∧ ((s.setBlackFlag i on).entrant j).state = (s.entrant j).state
    ∧ ((s.setBlackFlag i on).entrant j).station = (s.entrant j).station
    ∧ ((s.setBlackFlag i on).entrant j).lane = (s.entrant j).lane
    ∧ ((s.setBlackFlag i on).entrant j).pitStatus = (s.entrant j).pitStatus
    ∧ ((s.setBlackFlag i on).entrant j).pitEntry = (s.entrant j).pitEntry
    ∧ ((s.setBlackFlag i on).entrant j).boxArrival = (s.entrant j).boxArrival
    ∧ ((s.setBlackFlag i on).entrant j).boxVisited = (s.entrant j).boxVisited
    ∧ ((s.setBlackFlag i on).entrant j).pitStops = (s.entrant j).pitStops
    ∧ ((s.setBlackFlag i on).entrant j).laps = (s.entrant j).laps
    ∧ ((s.setBlackFlag i on).entrant j).latestCrossing = (s.entrant j).latestCrossing
    ∧ ((s.setBlackFlag i on).entrant j).prevCrossing = (s.entrant j).prevCrossing
    ∧ ((s.setBlackFlag i on).entrant j).reachTime = (s.entrant j).reachTime
    ∧ ((s.setBlackFlag i on).entrant j).lastLap = (s.entrant j).lastLap
    ∧ ((s.setBlackFlag i on).entrant j).lastLapMarks = (s.entrant j).lastLapMarks
    ∧ ((s.setBlackFlag i on).entrant j).bestLap = (s.entrant j).bestLap
    ∧ ((s.setBlackFlag i on).entrant j).sector = (s.entrant j).sector
    ∧ ((s.setBlackFlag i on).entrant j).currentSectors = (s.entrant j).currentSectors
    ∧ ((s.setBlackFlag i on).entrant j).lastSectors = (s.entrant j).lastSectors
    ∧ ((s.setBlackFlag i on).entrant j).lastBoundary = (s.entrant j).lastBoundary
    ∧ ((s.setBlackFlag i on).entrant j).lapCaution = (s.entrant j).lapCaution
    ∧ ((s.setBlackFlag i on).entrant j).gap = (s.entrant j).gap
    ∧ ((s.setBlackFlag i on).entrant j).lapsDown = (s.entrant j).lapsDown
    ∧ ((s.setBlackFlag i on).entrant j).latestPass = (s.entrant j).latestPass
    ∧ ((s.setBlackFlag i on).entrant j).deadline = (s.entrant j).deadline
    ∧ ((s.setBlackFlag i on).entrant j).overdue = (s.entrant j).overdue
    ∧ ((s.setBlackFlag i on).entrant j).jumpStart = (s.entrant j).jumpStart
    ∧ ((s.setBlackFlag i on).entrant j).callsUsed = (s.entrant j).callsUsed
    ∧ ((s.setBlackFlag i on).entrant j).override = (s.entrant j).override
    ∧ ((s.setBlackFlag i on).entrant j).activity = (s.entrant j).activity
    ∧ ((s.setBlackFlag i on).entrant j).finishStatus = (s.entrant j).finishStatus
    ∧ ((s.setBlackFlag i on).entrant j).finishTime = (s.entrant j).finishTime
    ∧ ((s.setBlackFlag i on).entrant j).penalties = (s.entrant j).penalties
    ∧ ((s.setBlackFlag i on).entrant j).holdTimer = (s.entrant j).holdTimer
    ∧ ((s.setBlackFlag i on).entrant j).powerHold = (s.entrant j).powerHold := by
  refine ⟨?_, ?_, ?_, ?_, ?_, ?_, ?_, ?_, ?_, ?_, ?_, ?_, ?_, ?_, ?_, ?_, ?_, ?_, ?_, ?_, ?_, ?_, ?_, ?_, ?_, ?_, ?_, ?_, ?_, ?_, ?_, ?_, ?_, ?_, ?_⟩ <;>
    (unfold State.setBlackFlag; (try dsimp only) <;> ((repeat' split) <;> (try simp [State.entrant_modEntrant, State.entrant_mk, State.entrants_getElem]) <;> (try (split <;> simp_all))))

/-- What `serveHead` leaves as it is. -/
@[simp] theorem State.serveHead_frame (s : State) (i : Slot) (p : PitPenalty) (rest : List PitPenalty) (u : RunTime) :
    (s.serveHead i p rest u).cfg = s.cfg ∧ (s.serveHead i p rest u).gates = s.gates
    ∧ (s.serveHead i p rest u).testStart = s.testStart ∧ (s.serveHead i p rest u).resolver = s.resolver
    ∧ (s.serveHead i p rest u).ring = s.ring ∧ (s.serveHead i p rest u).highMark = s.highMark
    ∧ (s.serveHead i p rest u).standings = s.standings ∧ (s.serveHead i p rest u).race = s.race
    ∧ (s.serveHead i p rest u).callTable = s.callTable ∧ (s.serveHead i p rest u).ceiling.sender = s.ceiling.sender
    ∧ (s.serveHead i p rest u).ceiling.paused = s.ceiling.paused
    ∧ (s.serveHead i p rest u).ceiling.holdStart = s.ceiling.holdStart
    ∧ (s.serveHead i p rest u).ceiling.nextRefresh = s.ceiling.nextRefresh
    ∧ (s.serveHead i p rest u).inputs = s.inputs ∧ (s.serveHead i p rest u).attention = s.attention
    ∧ (s.serveHead i p rest u).link = s.link ∧ (s.serveHead i p rest u).pins = s.pins
    ∧ (s.serveHead i p rest u).pending = s.pending := by
  refine ⟨?_, ?_, ?_, ?_, ?_, ?_, ?_, ?_, ?_, ?_, ?_, ?_, ?_, ?_, ?_, ?_, ?_, ?_⟩ <;>
    (unfold State.serveHead; (try dsimp only) <;> ((repeat' split) <;> (try simp)))

@[simp] theorem State.serveHead_gate (s : State) (i : Slot) (p : PitPenalty) (rest : List PitPenalty) (u : RunTime) (n : GateNo) :
    (s.serveHead i p rest u).gate n = s.gate n := State.gate_congr (by simp) n

/-- The fields of the records that `serveHead` leaves as they are. -/
@[simp] theorem State.serveHead_records (s : State) (i : Slot) (p : PitPenalty) (rest : List PitPenalty) (u : RunTime) (j : Slot) :
    ((s.serveHead i p rest u).entrant j).code = (s.entrant j).code
    ∧ ((s.serveHead i p rest u).entrant j).state = (s.entrant j).state
    ∧ ((s.serveHead i p rest u).entrant j).station = (s.entrant j).station
    ∧ ((s.serveHead i p rest u).entrant j).lane = (s.entrant j).lane
    ∧ ((s.serveHead i p rest u).entrant j).pitStatus = (s.entrant j).pitStatus
    ∧ ((s.serveHead i p rest u).entrant j).pitEntry = (s.entrant j).pitEntry
    ∧ ((s.serveHead i p rest u).entrant j).boxArrival = (s.entrant j).boxArrival
    ∧ ((s.serveHead i p rest u).entrant j).boxVisited = (s.entrant j).boxVisited
    ∧ ((s.serveHead i p rest u).entrant j).pitStops = (s.entrant j).pitStops
    ∧ ((s.serveHead i p rest u).entrant j).laps = (s.entrant j).laps
    ∧ ((s.serveHead i p rest u).entrant j).latestCrossing = (s.entrant j).latestCrossing
    ∧ ((s.serveHead i p rest u).entrant j).prevCrossing = (s.entrant j).prevCrossing
    ∧ ((s.serveHead i p rest u).entrant j).reachTime = (s.entrant j).reachTime
    ∧ ((s.serveHead i p rest u).entrant j).lastLap = (s.entrant j).lastLap
    ∧ ((s.serveHead i p rest u).entrant j).lastLapMarks = (s.entrant j).lastLapMarks
    ∧ ((s.serveHead i p rest u).entrant j).bestLap = (s.entrant j).bestLap
    ∧ ((s.serveHead i p rest u).entrant j).sector = (s.entrant j).sector
    ∧ ((s.serveHead i p rest u).entrant j).currentSectors = (s.entrant j).currentSectors
    ∧ ((s.serveHead i p rest u).entrant j).lastSectors = (s.entrant j).lastSectors
    ∧ ((s.serveHead i p rest u).entrant j).lastBoundary = (s.entrant j).lastBoundary
    ∧ ((s.serveHead i p rest u).entrant j).lapCaution = (s.entrant j).lapCaution
    ∧ ((s.serveHead i p rest u).entrant j).gap = (s.entrant j).gap
    ∧ ((s.serveHead i p rest u).entrant j).lapsDown = (s.entrant j).lapsDown
    ∧ ((s.serveHead i p rest u).entrant j).latestPass = (s.entrant j).latestPass
    ∧ ((s.serveHead i p rest u).entrant j).deadline = (s.entrant j).deadline
    ∧ ((s.serveHead i p rest u).entrant j).overdue = (s.entrant j).overdue
    ∧ ((s.serveHead i p rest u).entrant j).jumpStart = (s.entrant j).jumpStart
    ∧ ((s.serveHead i p rest u).entrant j).callsUsed = (s.entrant j).callsUsed
    ∧ ((s.serveHead i p rest u).entrant j).override = (s.entrant j).override
    ∧ ((s.serveHead i p rest u).entrant j).activity = (s.entrant j).activity
    ∧ ((s.serveHead i p rest u).entrant j).finishStatus = (s.entrant j).finishStatus
    ∧ ((s.serveHead i p rest u).entrant j).finishTime = (s.entrant j).finishTime
    ∧ ((s.serveHead i p rest u).entrant j).powerHold = (s.entrant j).powerHold
    ∧ ((s.serveHead i p rest u).entrant j).blackFlag = (s.entrant j).blackFlag := by
  refine ⟨?_, ?_, ?_, ?_, ?_, ?_, ?_, ?_, ?_, ?_, ?_, ?_, ?_, ?_, ?_, ?_, ?_, ?_, ?_, ?_, ?_, ?_, ?_, ?_, ?_, ?_, ?_, ?_, ?_, ?_, ?_, ?_, ?_, ?_⟩ <;>
    (unfold State.serveHead; (try dsimp only) <;> ((repeat' split) <;> (try simp [State.entrant_modEntrant, State.entrant_mk, State.entrants_getElem]) <;> (try (split <;> simp_all))))

/-- What `unserveHead` leaves as it is. -/
@[simp] theorem State.unserveHead_frame (s : State) (i : Slot) (p : PitPenalty) (rest : List PitPenalty) :
    (s.unserveHead i p rest).cfg = s.cfg ∧ (s.unserveHead i p rest).gates = s.gates
    ∧ (s.unserveHead i p rest).testStart = s.testStart ∧ (s.unserveHead i p rest).resolver = s.resolver
    ∧ (s.unserveHead i p rest).ring = s.ring ∧ (s.unserveHead i p rest).highMark = s.highMark
    ∧ (s.unserveHead i p rest).standings = s.standings ∧ (s.unserveHead i p rest).race = s.race
    ∧ (s.unserveHead i p rest).callTable = s.callTable ∧ (s.unserveHead i p rest).ceiling.sender = s.ceiling.sender
    ∧ (s.unserveHead i p rest).ceiling.paused = s.ceiling.paused
    ∧ (s.unserveHead i p rest).ceiling.holdStart = s.ceiling.holdStart
    ∧ (s.unserveHead i p rest).ceiling.nextRefresh = s.ceiling.nextRefresh
    ∧ (s.unserveHead i p rest).inputs = s.inputs ∧ (s.unserveHead i p rest).attention = s.attention
    ∧ (s.unserveHead i p rest).link = s.link ∧ (s.unserveHead i p rest).pins = s.pins
    ∧ (s.unserveHead i p rest).pending = s.pending := by
  refine ⟨?_, ?_, ?_, ?_, ?_, ?_, ?_, ?_, ?_, ?_, ?_, ?_, ?_, ?_, ?_, ?_, ?_, ?_⟩ <;>
    (unfold State.unserveHead; (try dsimp only) <;> ((repeat' split) <;> (try simp)))

@[simp] theorem State.unserveHead_gate (s : State) (i : Slot) (p : PitPenalty) (rest : List PitPenalty) (n : GateNo) :
    (s.unserveHead i p rest).gate n = s.gate n := State.gate_congr (by simp) n

/-- The fields of the records that `unserveHead` leaves as they are. -/
@[simp] theorem State.unserveHead_records (s : State) (i : Slot) (p : PitPenalty) (rest : List PitPenalty) (j : Slot) :
    ((s.unserveHead i p rest).entrant j).code = (s.entrant j).code
    ∧ ((s.unserveHead i p rest).entrant j).state = (s.entrant j).state
    ∧ ((s.unserveHead i p rest).entrant j).station = (s.entrant j).station
    ∧ ((s.unserveHead i p rest).entrant j).lane = (s.entrant j).lane
    ∧ ((s.unserveHead i p rest).entrant j).pitStatus = (s.entrant j).pitStatus
    ∧ ((s.unserveHead i p rest).entrant j).pitEntry = (s.entrant j).pitEntry
    ∧ ((s.unserveHead i p rest).entrant j).boxArrival = (s.entrant j).boxArrival
    ∧ ((s.unserveHead i p rest).entrant j).boxVisited = (s.entrant j).boxVisited
    ∧ ((s.unserveHead i p rest).entrant j).pitStops = (s.entrant j).pitStops
    ∧ ((s.unserveHead i p rest).entrant j).laps = (s.entrant j).laps
    ∧ ((s.unserveHead i p rest).entrant j).latestCrossing = (s.entrant j).latestCrossing
    ∧ ((s.unserveHead i p rest).entrant j).prevCrossing = (s.entrant j).prevCrossing
    ∧ ((s.unserveHead i p rest).entrant j).reachTime = (s.entrant j).reachTime
    ∧ ((s.unserveHead i p rest).entrant j).lastLap = (s.entrant j).lastLap
    ∧ ((s.unserveHead i p rest).entrant j).lastLapMarks = (s.entrant j).lastLapMarks
    ∧ ((s.unserveHead i p rest).entrant j).bestLap = (s.entrant j).bestLap
    ∧ ((s.unserveHead i p rest).entrant j).sector = (s.entrant j).sector
    ∧ ((s.unserveHead i p rest).entrant j).currentSectors = (s.entrant j).currentSectors
    ∧ ((s.unserveHead i p rest).entrant j).lastSectors = (s.entrant j).lastSectors
    ∧ ((s.unserveHead i p rest).entrant j).lastBoundary = (s.entrant j).lastBoundary
    ∧ ((s.unserveHead i p rest).entrant j).lapCaution = (s.entrant j).lapCaution
    ∧ ((s.unserveHead i p rest).entrant j).gap = (s.entrant j).gap
    ∧ ((s.unserveHead i p rest).entrant j).lapsDown = (s.entrant j).lapsDown
    ∧ ((s.unserveHead i p rest).entrant j).latestPass = (s.entrant j).latestPass
    ∧ ((s.unserveHead i p rest).entrant j).deadline = (s.entrant j).deadline
    ∧ ((s.unserveHead i p rest).entrant j).overdue = (s.entrant j).overdue
    ∧ ((s.unserveHead i p rest).entrant j).jumpStart = (s.entrant j).jumpStart
    ∧ ((s.unserveHead i p rest).entrant j).callsUsed = (s.entrant j).callsUsed
    ∧ ((s.unserveHead i p rest).entrant j).override = (s.entrant j).override
    ∧ ((s.unserveHead i p rest).entrant j).activity = (s.entrant j).activity
    ∧ ((s.unserveHead i p rest).entrant j).finishStatus = (s.entrant j).finishStatus
    ∧ ((s.unserveHead i p rest).entrant j).finishTime = (s.entrant j).finishTime
    ∧ ((s.unserveHead i p rest).entrant j).powerHold = (s.entrant j).powerHold
    ∧ ((s.unserveHead i p rest).entrant j).blackFlag = (s.entrant j).blackFlag := by
  refine ⟨?_, ?_, ?_, ?_, ?_, ?_, ?_, ?_, ?_, ?_, ?_, ?_, ?_, ?_, ?_, ?_, ?_, ?_, ?_, ?_, ?_, ?_, ?_, ?_, ?_, ?_, ?_, ?_, ?_, ?_, ?_, ?_, ?_, ?_⟩ <;>
    (unfold State.unserveHead; (try dsimp only) <;> ((repeat' split) <;> (try simp [State.entrant_modEntrant, State.entrant_mk, State.entrants_getElem]) <;> (try (split <;> simp_all))))

/-- What `judgeHead` leaves as it is. -/
@[simp] theorem State.judgeHead_frame (s : State) (i : Slot) :
    (s.judgeHead i).cfg = s.cfg ∧ (s.judgeHead i).gates = s.gates ∧ (s.judgeHead i).testStart = s.testStart
    ∧ (s.judgeHead i).resolver = s.resolver ∧ (s.judgeHead i).ring = s.ring ∧ (s.judgeHead i).highMark = s.highMark
    ∧ (s.judgeHead i).standings = s.standings ∧ (s.judgeHead i).race = s.race
    ∧ (s.judgeHead i).callTable = s.callTable ∧ (s.judgeHead i).ceiling.sender = s.ceiling.sender
    ∧ (s.judgeHead i).ceiling.paused = s.ceiling.paused ∧ (s.judgeHead i).ceiling.holdStart = s.ceiling.holdStart
    ∧ (s.judgeHead i).ceiling.nextRefresh = s.ceiling.nextRefresh ∧ (s.judgeHead i).inputs = s.inputs
    ∧ (s.judgeHead i).attention = s.attention ∧ (s.judgeHead i).link = s.link ∧ (s.judgeHead i).pins = s.pins
    ∧ (s.judgeHead i).pending = s.pending := by
  refine ⟨?_, ?_, ?_, ?_, ?_, ?_, ?_, ?_, ?_, ?_, ?_, ?_, ?_, ?_, ?_, ?_, ?_, ?_⟩ <;>
    (unfold State.judgeHead; (try dsimp only) <;> ((repeat' split) <;> (try simp)))

@[simp] theorem State.judgeHead_gate (s : State) (i : Slot) (n : GateNo) :
    (s.judgeHead i).gate n = s.gate n := State.gate_congr (by simp) n

/-- The fields of the records that `judgeHead` leaves as they are. -/
@[simp] theorem State.judgeHead_records (s : State) (i : Slot) (j : Slot) :
    ((s.judgeHead i).entrant j).code = (s.entrant j).code ∧ ((s.judgeHead i).entrant j).state = (s.entrant j).state
    ∧ ((s.judgeHead i).entrant j).station = (s.entrant j).station
    ∧ ((s.judgeHead i).entrant j).lane = (s.entrant j).lane
    ∧ ((s.judgeHead i).entrant j).pitStatus = (s.entrant j).pitStatus
    ∧ ((s.judgeHead i).entrant j).pitEntry = (s.entrant j).pitEntry
    ∧ ((s.judgeHead i).entrant j).boxArrival = (s.entrant j).boxArrival
    ∧ ((s.judgeHead i).entrant j).boxVisited = (s.entrant j).boxVisited
    ∧ ((s.judgeHead i).entrant j).pitStops = (s.entrant j).pitStops
    ∧ ((s.judgeHead i).entrant j).laps = (s.entrant j).laps
    ∧ ((s.judgeHead i).entrant j).latestCrossing = (s.entrant j).latestCrossing
    ∧ ((s.judgeHead i).entrant j).prevCrossing = (s.entrant j).prevCrossing
    ∧ ((s.judgeHead i).entrant j).reachTime = (s.entrant j).reachTime
    ∧ ((s.judgeHead i).entrant j).lastLap = (s.entrant j).lastLap
    ∧ ((s.judgeHead i).entrant j).lastLapMarks = (s.entrant j).lastLapMarks
    ∧ ((s.judgeHead i).entrant j).bestLap = (s.entrant j).bestLap
    ∧ ((s.judgeHead i).entrant j).sector = (s.entrant j).sector
    ∧ ((s.judgeHead i).entrant j).currentSectors = (s.entrant j).currentSectors
    ∧ ((s.judgeHead i).entrant j).lastSectors = (s.entrant j).lastSectors
    ∧ ((s.judgeHead i).entrant j).lastBoundary = (s.entrant j).lastBoundary
    ∧ ((s.judgeHead i).entrant j).lapCaution = (s.entrant j).lapCaution
    ∧ ((s.judgeHead i).entrant j).gap = (s.entrant j).gap
    ∧ ((s.judgeHead i).entrant j).lapsDown = (s.entrant j).lapsDown
    ∧ ((s.judgeHead i).entrant j).latestPass = (s.entrant j).latestPass
    ∧ ((s.judgeHead i).entrant j).deadline = (s.entrant j).deadline
    ∧ ((s.judgeHead i).entrant j).overdue = (s.entrant j).overdue
    ∧ ((s.judgeHead i).entrant j).jumpStart = (s.entrant j).jumpStart
    ∧ ((s.judgeHead i).entrant j).callsUsed = (s.entrant j).callsUsed
    ∧ ((s.judgeHead i).entrant j).override = (s.entrant j).override
    ∧ ((s.judgeHead i).entrant j).activity = (s.entrant j).activity
    ∧ ((s.judgeHead i).entrant j).finishStatus = (s.entrant j).finishStatus
    ∧ ((s.judgeHead i).entrant j).finishTime = (s.entrant j).finishTime
    ∧ ((s.judgeHead i).entrant j).powerHold = (s.entrant j).powerHold
    ∧ ((s.judgeHead i).entrant j).blackFlag = (s.entrant j).blackFlag := by
  refine ⟨?_, ?_, ?_, ?_, ?_, ?_, ?_, ?_, ?_, ?_, ?_, ?_, ?_, ?_, ?_, ?_, ?_, ?_, ?_, ?_, ?_, ?_, ?_, ?_, ?_, ?_, ?_, ?_, ?_, ?_, ?_, ?_, ?_, ?_⟩ <;>
    (unfold State.judgeHead; (try dsimp only) <;> ((repeat' split) <;> (try simp [State.entrant_modEntrant, State.entrant_mk, State.entrants_getElem]) <;> (try (split <;> simp_all))))

/-- What `dropHead` leaves as it is. -/
@[simp] theorem State.dropHead_frame (s : State) (i : Slot) :
    (s.dropHead i).cfg = s.cfg ∧ (s.dropHead i).gates = s.gates ∧ (s.dropHead i).testStart = s.testStart
    ∧ (s.dropHead i).resolver = s.resolver ∧ (s.dropHead i).ring = s.ring ∧ (s.dropHead i).highMark = s.highMark
    ∧ (s.dropHead i).standings = s.standings ∧ (s.dropHead i).race = s.race
    ∧ (s.dropHead i).callTable = s.callTable ∧ (s.dropHead i).ceiling.sender = s.ceiling.sender
    ∧ (s.dropHead i).ceiling.paused = s.ceiling.paused ∧ (s.dropHead i).ceiling.holdStart = s.ceiling.holdStart
    ∧ (s.dropHead i).ceiling.nextRefresh = s.ceiling.nextRefresh ∧ (s.dropHead i).inputs = s.inputs
    ∧ (s.dropHead i).attention = s.attention ∧ (s.dropHead i).link = s.link ∧ (s.dropHead i).pins = s.pins
    ∧ (s.dropHead i).pending = s.pending := by
  refine ⟨?_, ?_, ?_, ?_, ?_, ?_, ?_, ?_, ?_, ?_, ?_, ?_, ?_, ?_, ?_, ?_, ?_, ?_⟩ <;>
    (unfold State.dropHead; (try dsimp only) <;> ((repeat' split) <;> (try simp)))

@[simp] theorem State.dropHead_gate (s : State) (i : Slot) (n : GateNo) :
    (s.dropHead i).gate n = s.gate n := State.gate_congr (by simp) n

/-- The fields of the records that `dropHead` leaves as they are. -/
@[simp] theorem State.dropHead_records (s : State) (i : Slot) (j : Slot) :
    ((s.dropHead i).entrant j).code = (s.entrant j).code ∧ ((s.dropHead i).entrant j).state = (s.entrant j).state
    ∧ ((s.dropHead i).entrant j).station = (s.entrant j).station
    ∧ ((s.dropHead i).entrant j).lane = (s.entrant j).lane
    ∧ ((s.dropHead i).entrant j).pitStatus = (s.entrant j).pitStatus
    ∧ ((s.dropHead i).entrant j).pitEntry = (s.entrant j).pitEntry
    ∧ ((s.dropHead i).entrant j).boxArrival = (s.entrant j).boxArrival
    ∧ ((s.dropHead i).entrant j).boxVisited = (s.entrant j).boxVisited
    ∧ ((s.dropHead i).entrant j).pitStops = (s.entrant j).pitStops
    ∧ ((s.dropHead i).entrant j).laps = (s.entrant j).laps
    ∧ ((s.dropHead i).entrant j).latestCrossing = (s.entrant j).latestCrossing
    ∧ ((s.dropHead i).entrant j).prevCrossing = (s.entrant j).prevCrossing
    ∧ ((s.dropHead i).entrant j).reachTime = (s.entrant j).reachTime
    ∧ ((s.dropHead i).entrant j).lastLap = (s.entrant j).lastLap
    ∧ ((s.dropHead i).entrant j).lastLapMarks = (s.entrant j).lastLapMarks
    ∧ ((s.dropHead i).entrant j).bestLap = (s.entrant j).bestLap
    ∧ ((s.dropHead i).entrant j).sector = (s.entrant j).sector
    ∧ ((s.dropHead i).entrant j).currentSectors = (s.entrant j).currentSectors
    ∧ ((s.dropHead i).entrant j).lastSectors = (s.entrant j).lastSectors
    ∧ ((s.dropHead i).entrant j).lastBoundary = (s.entrant j).lastBoundary
    ∧ ((s.dropHead i).entrant j).lapCaution = (s.entrant j).lapCaution
    ∧ ((s.dropHead i).entrant j).gap = (s.entrant j).gap
    ∧ ((s.dropHead i).entrant j).lapsDown = (s.entrant j).lapsDown
    ∧ ((s.dropHead i).entrant j).latestPass = (s.entrant j).latestPass
    ∧ ((s.dropHead i).entrant j).deadline = (s.entrant j).deadline
    ∧ ((s.dropHead i).entrant j).overdue = (s.entrant j).overdue
    ∧ ((s.dropHead i).entrant j).jumpStart = (s.entrant j).jumpStart
    ∧ ((s.dropHead i).entrant j).callsUsed = (s.entrant j).callsUsed
    ∧ ((s.dropHead i).entrant j).override = (s.entrant j).override
    ∧ ((s.dropHead i).entrant j).activity = (s.entrant j).activity
    ∧ ((s.dropHead i).entrant j).finishStatus = (s.entrant j).finishStatus
    ∧ ((s.dropHead i).entrant j).finishTime = (s.entrant j).finishTime
    ∧ ((s.dropHead i).entrant j).powerHold = (s.entrant j).powerHold
    ∧ ((s.dropHead i).entrant j).blackFlag = (s.entrant j).blackFlag := by
  refine ⟨?_, ?_, ?_, ?_, ?_, ?_, ?_, ?_, ?_, ?_, ?_, ?_, ?_, ?_, ?_, ?_, ?_, ?_, ?_, ?_, ?_, ?_, ?_, ?_, ?_, ?_, ?_, ?_, ?_, ?_, ?_, ?_, ?_, ?_⟩ <;>
    (unfold State.dropHead; (try dsimp only) <;> ((repeat' split) <;> (try simp [State.entrant_modEntrant, State.entrant_mk, State.entrants_getElem]) <;> (try (split <;> simp_all))))

/-- What `serveOut` leaves as it is. -/
@[simp] theorem State.serveOut_frame (s : State) (i : Slot) :
    (s.serveOut i).cfg = s.cfg ∧ (s.serveOut i).gates = s.gates ∧ (s.serveOut i).testStart = s.testStart
    ∧ (s.serveOut i).resolver = s.resolver ∧ (s.serveOut i).ring = s.ring ∧ (s.serveOut i).highMark = s.highMark
    ∧ (s.serveOut i).standings = s.standings ∧ (s.serveOut i).race = s.race
    ∧ (s.serveOut i).callTable = s.callTable ∧ (s.serveOut i).ceiling.sender = s.ceiling.sender
    ∧ (s.serveOut i).ceiling.paused = s.ceiling.paused ∧ (s.serveOut i).ceiling.holdStart = s.ceiling.holdStart
    ∧ (s.serveOut i).ceiling.nextRefresh = s.ceiling.nextRefresh ∧ (s.serveOut i).inputs = s.inputs
    ∧ (s.serveOut i).attention = s.attention ∧ (s.serveOut i).link = s.link ∧ (s.serveOut i).pins = s.pins
    ∧ (s.serveOut i).pending = s.pending := by
  refine ⟨?_, ?_, ?_, ?_, ?_, ?_, ?_, ?_, ?_, ?_, ?_, ?_, ?_, ?_, ?_, ?_, ?_, ?_⟩ <;>
    (unfold State.serveOut; (try dsimp only) <;> ((repeat' split) <;> (try simp)))

@[simp] theorem State.serveOut_gate (s : State) (i : Slot) (n : GateNo) :
    (s.serveOut i).gate n = s.gate n := State.gate_congr (by simp) n

/-- The fields of the records that `serveOut` leaves as they are. -/
@[simp] theorem State.serveOut_records (s : State) (i : Slot) (j : Slot) :
    ((s.serveOut i).entrant j).code = (s.entrant j).code ∧ ((s.serveOut i).entrant j).state = (s.entrant j).state
    ∧ ((s.serveOut i).entrant j).station = (s.entrant j).station
    ∧ ((s.serveOut i).entrant j).lane = (s.entrant j).lane
    ∧ ((s.serveOut i).entrant j).pitStatus = (s.entrant j).pitStatus
    ∧ ((s.serveOut i).entrant j).pitEntry = (s.entrant j).pitEntry
    ∧ ((s.serveOut i).entrant j).boxArrival = (s.entrant j).boxArrival
    ∧ ((s.serveOut i).entrant j).boxVisited = (s.entrant j).boxVisited
    ∧ ((s.serveOut i).entrant j).pitStops = (s.entrant j).pitStops
    ∧ ((s.serveOut i).entrant j).laps = (s.entrant j).laps
    ∧ ((s.serveOut i).entrant j).latestCrossing = (s.entrant j).latestCrossing
    ∧ ((s.serveOut i).entrant j).prevCrossing = (s.entrant j).prevCrossing
    ∧ ((s.serveOut i).entrant j).reachTime = (s.entrant j).reachTime
    ∧ ((s.serveOut i).entrant j).lastLap = (s.entrant j).lastLap
    ∧ ((s.serveOut i).entrant j).lastLapMarks = (s.entrant j).lastLapMarks
    ∧ ((s.serveOut i).entrant j).bestLap = (s.entrant j).bestLap
    ∧ ((s.serveOut i).entrant j).sector = (s.entrant j).sector
    ∧ ((s.serveOut i).entrant j).currentSectors = (s.entrant j).currentSectors
    ∧ ((s.serveOut i).entrant j).lastSectors = (s.entrant j).lastSectors
    ∧ ((s.serveOut i).entrant j).lastBoundary = (s.entrant j).lastBoundary
    ∧ ((s.serveOut i).entrant j).lapCaution = (s.entrant j).lapCaution
    ∧ ((s.serveOut i).entrant j).gap = (s.entrant j).gap
    ∧ ((s.serveOut i).entrant j).lapsDown = (s.entrant j).lapsDown
    ∧ ((s.serveOut i).entrant j).latestPass = (s.entrant j).latestPass
    ∧ ((s.serveOut i).entrant j).deadline = (s.entrant j).deadline
    ∧ ((s.serveOut i).entrant j).overdue = (s.entrant j).overdue
    ∧ ((s.serveOut i).entrant j).jumpStart = (s.entrant j).jumpStart
    ∧ ((s.serveOut i).entrant j).callsUsed = (s.entrant j).callsUsed
    ∧ ((s.serveOut i).entrant j).override = (s.entrant j).override
    ∧ ((s.serveOut i).entrant j).finishStatus = (s.entrant j).finishStatus
    ∧ ((s.serveOut i).entrant j).finishTime = (s.entrant j).finishTime
    ∧ ((s.serveOut i).entrant j).powerHold = (s.entrant j).powerHold
    ∧ ((s.serveOut i).entrant j).blackFlag = (s.entrant j).blackFlag := by
  refine ⟨?_, ?_, ?_, ?_, ?_, ?_, ?_, ?_, ?_, ?_, ?_, ?_, ?_, ?_, ?_, ?_, ?_, ?_, ?_, ?_, ?_, ?_, ?_, ?_, ?_, ?_, ?_, ?_, ?_, ?_, ?_, ?_, ?_⟩ <;>
    (unfold State.serveOut; (try dsimp only) <;> ((repeat' split) <;> (try simp [State.entrant_modEntrant, State.entrant_mk, State.entrants_getElem]) <;> (try (split <;> simp_all))))

/-- What `placePenalty` leaves as it is. -/
@[simp] theorem State.placePenalty_frame (s : State) (i : Slot) (p : PitPenalty) :
    (s.placePenalty i p).cfg = s.cfg ∧ (s.placePenalty i p).gates = s.gates
    ∧ (s.placePenalty i p).testStart = s.testStart ∧ (s.placePenalty i p).resolver = s.resolver
    ∧ (s.placePenalty i p).ring = s.ring ∧ (s.placePenalty i p).highMark = s.highMark
    ∧ (s.placePenalty i p).standings = s.standings ∧ (s.placePenalty i p).race = s.race
    ∧ (s.placePenalty i p).callTable = s.callTable ∧ (s.placePenalty i p).ceiling.sender = s.ceiling.sender
    ∧ (s.placePenalty i p).ceiling.paused = s.ceiling.paused
    ∧ (s.placePenalty i p).ceiling.holdStart = s.ceiling.holdStart
    ∧ (s.placePenalty i p).ceiling.nextRefresh = s.ceiling.nextRefresh ∧ (s.placePenalty i p).inputs = s.inputs
    ∧ (s.placePenalty i p).attention = s.attention ∧ (s.placePenalty i p).link = s.link
    ∧ (s.placePenalty i p).pins = s.pins ∧ (s.placePenalty i p).pending = s.pending := by
  refine ⟨?_, ?_, ?_, ?_, ?_, ?_, ?_, ?_, ?_, ?_, ?_, ?_, ?_, ?_, ?_, ?_, ?_, ?_⟩ <;>
    (unfold State.placePenalty; (try dsimp only) <;> ((repeat' split) <;> (try simp)))

@[simp] theorem State.placePenalty_gate (s : State) (i : Slot) (p : PitPenalty) (n : GateNo) :
    (s.placePenalty i p).gate n = s.gate n := State.gate_congr (by simp) n

/-- The fields of the records that `placePenalty` leaves as they are. -/
@[simp] theorem State.placePenalty_records (s : State) (i : Slot) (p : PitPenalty) (j : Slot) :
    ((s.placePenalty i p).entrant j).code = (s.entrant j).code
    ∧ ((s.placePenalty i p).entrant j).state = (s.entrant j).state
    ∧ ((s.placePenalty i p).entrant j).station = (s.entrant j).station
    ∧ ((s.placePenalty i p).entrant j).lane = (s.entrant j).lane
    ∧ ((s.placePenalty i p).entrant j).pitStatus = (s.entrant j).pitStatus
    ∧ ((s.placePenalty i p).entrant j).pitEntry = (s.entrant j).pitEntry
    ∧ ((s.placePenalty i p).entrant j).boxArrival = (s.entrant j).boxArrival
    ∧ ((s.placePenalty i p).entrant j).boxVisited = (s.entrant j).boxVisited
    ∧ ((s.placePenalty i p).entrant j).pitStops = (s.entrant j).pitStops
    ∧ ((s.placePenalty i p).entrant j).laps = (s.entrant j).laps
    ∧ ((s.placePenalty i p).entrant j).latestCrossing = (s.entrant j).latestCrossing
    ∧ ((s.placePenalty i p).entrant j).prevCrossing = (s.entrant j).prevCrossing
    ∧ ((s.placePenalty i p).entrant j).reachTime = (s.entrant j).reachTime
    ∧ ((s.placePenalty i p).entrant j).lastLap = (s.entrant j).lastLap
    ∧ ((s.placePenalty i p).entrant j).lastLapMarks = (s.entrant j).lastLapMarks
    ∧ ((s.placePenalty i p).entrant j).bestLap = (s.entrant j).bestLap
    ∧ ((s.placePenalty i p).entrant j).sector = (s.entrant j).sector
    ∧ ((s.placePenalty i p).entrant j).currentSectors = (s.entrant j).currentSectors
    ∧ ((s.placePenalty i p).entrant j).lastSectors = (s.entrant j).lastSectors
    ∧ ((s.placePenalty i p).entrant j).lastBoundary = (s.entrant j).lastBoundary
    ∧ ((s.placePenalty i p).entrant j).lapCaution = (s.entrant j).lapCaution
    ∧ ((s.placePenalty i p).entrant j).gap = (s.entrant j).gap
    ∧ ((s.placePenalty i p).entrant j).lapsDown = (s.entrant j).lapsDown
    ∧ ((s.placePenalty i p).entrant j).latestPass = (s.entrant j).latestPass
    ∧ ((s.placePenalty i p).entrant j).deadline = (s.entrant j).deadline
    ∧ ((s.placePenalty i p).entrant j).overdue = (s.entrant j).overdue
    ∧ ((s.placePenalty i p).entrant j).jumpStart = (s.entrant j).jumpStart
    ∧ ((s.placePenalty i p).entrant j).callsUsed = (s.entrant j).callsUsed
    ∧ ((s.placePenalty i p).entrant j).override = (s.entrant j).override
    ∧ ((s.placePenalty i p).entrant j).activity = (s.entrant j).activity
    ∧ ((s.placePenalty i p).entrant j).finishStatus = (s.entrant j).finishStatus
    ∧ ((s.placePenalty i p).entrant j).finishTime = (s.entrant j).finishTime
    ∧ ((s.placePenalty i p).entrant j).powerHold = (s.entrant j).powerHold := by
  refine ⟨?_, ?_, ?_, ?_, ?_, ?_, ?_, ?_, ?_, ?_, ?_, ?_, ?_, ?_, ?_, ?_, ?_, ?_, ?_, ?_, ?_, ?_, ?_, ?_, ?_, ?_, ?_, ?_, ?_, ?_, ?_, ?_, ?_⟩ <;>
    (unfold State.placePenalty; (try dsimp only) <;> ((repeat' split) <;> (try simp [State.entrant_modEntrant, State.entrant_mk, State.entrants_getElem]) <;> (try (split <;> simp_all))))

/-- What `deductLaps` leaves as it is. -/
@[simp] theorem State.deductLaps_frame (s : State) (i : Slot) (k : Nat) :
    (s.deductLaps i k).cfg = s.cfg ∧ (s.deductLaps i k).gates = s.gates
    ∧ (s.deductLaps i k).testStart = s.testStart ∧ (s.deductLaps i k).resolver = s.resolver
    ∧ (s.deductLaps i k).ring = s.ring ∧ (s.deductLaps i k).highMark = s.highMark
    ∧ (s.deductLaps i k).race = s.race ∧ (s.deductLaps i k).callTable = s.callTable
    ∧ (s.deductLaps i k).ceiling = s.ceiling ∧ (s.deductLaps i k).inputs = s.inputs
    ∧ (s.deductLaps i k).attention = s.attention ∧ (s.deductLaps i k).link = s.link
    ∧ (s.deductLaps i k).pins = s.pins ∧ (s.deductLaps i k).pending = s.pending := by
  refine ⟨?_, ?_, ?_, ?_, ?_, ?_, ?_, ?_, ?_, ?_, ?_, ?_, ?_, ?_⟩ <;>
    (unfold State.deductLaps; (try dsimp only) <;> ((repeat' split) <;> (try simp)))

@[simp] theorem State.deductLaps_gate (s : State) (i : Slot) (k : Nat) (n : GateNo) :
    (s.deductLaps i k).gate n = s.gate n := State.gate_congr (by simp) n

/-- The fields of the records that `deductLaps` leaves as they are. -/
@[simp] theorem State.deductLaps_records (s : State) (i : Slot) (k : Nat) (j : Slot) :
    ((s.deductLaps i k).entrant j).code = (s.entrant j).code
    ∧ ((s.deductLaps i k).entrant j).state = (s.entrant j).state
    ∧ ((s.deductLaps i k).entrant j).station = (s.entrant j).station
    ∧ ((s.deductLaps i k).entrant j).lane = (s.entrant j).lane
    ∧ ((s.deductLaps i k).entrant j).pitStatus = (s.entrant j).pitStatus
    ∧ ((s.deductLaps i k).entrant j).pitEntry = (s.entrant j).pitEntry
    ∧ ((s.deductLaps i k).entrant j).boxArrival = (s.entrant j).boxArrival
    ∧ ((s.deductLaps i k).entrant j).boxVisited = (s.entrant j).boxVisited
    ∧ ((s.deductLaps i k).entrant j).pitStops = (s.entrant j).pitStops
    ∧ ((s.deductLaps i k).entrant j).latestCrossing = (s.entrant j).latestCrossing
    ∧ ((s.deductLaps i k).entrant j).prevCrossing = (s.entrant j).prevCrossing
    ∧ ((s.deductLaps i k).entrant j).reachTime = (s.entrant j).reachTime
    ∧ ((s.deductLaps i k).entrant j).lastLap = (s.entrant j).lastLap
    ∧ ((s.deductLaps i k).entrant j).lastLapMarks = (s.entrant j).lastLapMarks
    ∧ ((s.deductLaps i k).entrant j).bestLap = (s.entrant j).bestLap
    ∧ ((s.deductLaps i k).entrant j).sector = (s.entrant j).sector
    ∧ ((s.deductLaps i k).entrant j).currentSectors = (s.entrant j).currentSectors
    ∧ ((s.deductLaps i k).entrant j).lastSectors = (s.entrant j).lastSectors
    ∧ ((s.deductLaps i k).entrant j).lastBoundary = (s.entrant j).lastBoundary
    ∧ ((s.deductLaps i k).entrant j).lapCaution = (s.entrant j).lapCaution
    ∧ ((s.deductLaps i k).entrant j).gap = (s.entrant j).gap
    ∧ ((s.deductLaps i k).entrant j).lapsDown = (s.entrant j).lapsDown
    ∧ ((s.deductLaps i k).entrant j).latestPass = (s.entrant j).latestPass
    ∧ ((s.deductLaps i k).entrant j).deadline = (s.entrant j).deadline
    ∧ ((s.deductLaps i k).entrant j).overdue = (s.entrant j).overdue
    ∧ ((s.deductLaps i k).entrant j).jumpStart = (s.entrant j).jumpStart
    ∧ ((s.deductLaps i k).entrant j).callsUsed = (s.entrant j).callsUsed
    ∧ ((s.deductLaps i k).entrant j).override = (s.entrant j).override
    ∧ ((s.deductLaps i k).entrant j).effective = (s.entrant j).effective
    ∧ ((s.deductLaps i k).entrant j).activity = (s.entrant j).activity
    ∧ ((s.deductLaps i k).entrant j).finishStatus = (s.entrant j).finishStatus
    ∧ ((s.deductLaps i k).entrant j).finishTime = (s.entrant j).finishTime
    ∧ ((s.deductLaps i k).entrant j).penalties = (s.entrant j).penalties
    ∧ ((s.deductLaps i k).entrant j).holdTimer = (s.entrant j).holdTimer
    ∧ ((s.deductLaps i k).entrant j).powerHold = (s.entrant j).powerHold
    ∧ ((s.deductLaps i k).entrant j).blackFlag = (s.entrant j).blackFlag := by
  refine ⟨?_, ?_, ?_, ?_, ?_, ?_, ?_, ?_, ?_, ?_, ?_, ?_, ?_, ?_, ?_, ?_, ?_, ?_, ?_, ?_, ?_, ?_, ?_, ?_, ?_, ?_, ?_, ?_, ?_, ?_, ?_, ?_, ?_, ?_, ?_, ?_⟩ <;>
    (unfold State.deductLaps; (try dsimp only) <;> ((repeat' split) <;> (try simp [State.entrant_modEntrant, State.entrant_mk, State.entrants_getElem]) <;> (try (split <;> simp_all))))

/-- What `carryRuling` leaves as it is. -/
@[simp] theorem State.carryRuling_frame (s : State) (c : Call) :
    (s.carryRuling c).cfg = s.cfg ∧ (s.carryRuling c).gates = s.gates ∧ (s.carryRuling c).testStart = s.testStart
    ∧ (s.carryRuling c).resolver = s.resolver ∧ (s.carryRuling c).ring = s.ring
    ∧ (s.carryRuling c).highMark = s.highMark ∧ (s.carryRuling c).race = s.race
    ∧ (s.carryRuling c).callTable = s.callTable ∧ (s.carryRuling c).ceiling.sender = s.ceiling.sender
    ∧ (s.carryRuling c).ceiling.paused = s.ceiling.paused
    ∧ (s.carryRuling c).ceiling.holdStart = s.ceiling.holdStart
    ∧ (s.carryRuling c).ceiling.nextRefresh = s.ceiling.nextRefresh ∧ (s.carryRuling c).inputs = s.inputs
    ∧ (s.carryRuling c).attention = s.attention ∧ (s.carryRuling c).link = s.link ∧ (s.carryRuling c).pins = s.pins
    ∧ (s.carryRuling c).pending = s.pending := by
  refine ⟨?_, ?_, ?_, ?_, ?_, ?_, ?_, ?_, ?_, ?_, ?_, ?_, ?_, ?_, ?_, ?_, ?_⟩ <;>
    (unfold State.carryRuling; (try dsimp only) <;> ((repeat' split) <;> (try simp)))

@[simp] theorem State.carryRuling_gate (s : State) (c : Call) (n : GateNo) :
    (s.carryRuling c).gate n = s.gate n := State.gate_congr (by simp) n

/-- The fields of the records that `carryRuling` leaves as they are. -/
@[simp] theorem State.carryRuling_records (s : State) (c : Call) (j : Slot) :
    ((s.carryRuling c).entrant j).code = (s.entrant j).code
    ∧ ((s.carryRuling c).entrant j).state = (s.entrant j).state
    ∧ ((s.carryRuling c).entrant j).station = (s.entrant j).station
    ∧ ((s.carryRuling c).entrant j).lane = (s.entrant j).lane
    ∧ ((s.carryRuling c).entrant j).pitStatus = (s.entrant j).pitStatus
    ∧ ((s.carryRuling c).entrant j).pitEntry = (s.entrant j).pitEntry
    ∧ ((s.carryRuling c).entrant j).boxArrival = (s.entrant j).boxArrival
    ∧ ((s.carryRuling c).entrant j).boxVisited = (s.entrant j).boxVisited
    ∧ ((s.carryRuling c).entrant j).pitStops = (s.entrant j).pitStops
    ∧ ((s.carryRuling c).entrant j).latestCrossing = (s.entrant j).latestCrossing
    ∧ ((s.carryRuling c).entrant j).prevCrossing = (s.entrant j).prevCrossing
    ∧ ((s.carryRuling c).entrant j).reachTime = (s.entrant j).reachTime
    ∧ ((s.carryRuling c).entrant j).lastLap = (s.entrant j).lastLap
    ∧ ((s.carryRuling c).entrant j).lastLapMarks = (s.entrant j).lastLapMarks
    ∧ ((s.carryRuling c).entrant j).bestLap = (s.entrant j).bestLap
    ∧ ((s.carryRuling c).entrant j).sector = (s.entrant j).sector
    ∧ ((s.carryRuling c).entrant j).currentSectors = (s.entrant j).currentSectors
    ∧ ((s.carryRuling c).entrant j).lastSectors = (s.entrant j).lastSectors
    ∧ ((s.carryRuling c).entrant j).lastBoundary = (s.entrant j).lastBoundary
    ∧ ((s.carryRuling c).entrant j).lapCaution = (s.entrant j).lapCaution
    ∧ ((s.carryRuling c).entrant j).gap = (s.entrant j).gap
    ∧ ((s.carryRuling c).entrant j).lapsDown = (s.entrant j).lapsDown
    ∧ ((s.carryRuling c).entrant j).latestPass = (s.entrant j).latestPass
    ∧ ((s.carryRuling c).entrant j).deadline = (s.entrant j).deadline
    ∧ ((s.carryRuling c).entrant j).overdue = (s.entrant j).overdue
    ∧ ((s.carryRuling c).entrant j).jumpStart = (s.entrant j).jumpStart
    ∧ ((s.carryRuling c).entrant j).callsUsed = (s.entrant j).callsUsed
    ∧ ((s.carryRuling c).entrant j).override = (s.entrant j).override
    ∧ ((s.carryRuling c).entrant j).activity = (s.entrant j).activity
    ∧ ((s.carryRuling c).entrant j).finishStatus = (s.entrant j).finishStatus
    ∧ ((s.carryRuling c).entrant j).finishTime = (s.entrant j).finishTime := by
  refine ⟨?_, ?_, ?_, ?_, ?_, ?_, ?_, ?_, ?_, ?_, ?_, ?_, ?_, ?_, ?_, ?_, ?_, ?_, ?_, ?_, ?_, ?_, ?_, ?_, ?_, ?_, ?_, ?_, ?_, ?_, ?_⟩ <;>
    (unfold State.carryRuling; (try dsimp only) <;> ((repeat' split) <;> (try simp [State.entrant_modEntrant, State.entrant_mk, State.entrants_getElem]) <;> (try (split <;> simp_all))))

/-- What `penaltyPitIn` leaves as it is. -/
@[simp] theorem State.penaltyPitIn_frame (s : State) (i : Slot) :
    (s.penaltyPitIn i).cfg = s.cfg ∧ (s.penaltyPitIn i).gates = s.gates
    ∧ (s.penaltyPitIn i).testStart = s.testStart ∧ (s.penaltyPitIn i).resolver = s.resolver
    ∧ (s.penaltyPitIn i).ring = s.ring ∧ (s.penaltyPitIn i).highMark = s.highMark
    ∧ (s.penaltyPitIn i).standings = s.standings ∧ (s.penaltyPitIn i).race = s.race
    ∧ (s.penaltyPitIn i).callTable = s.callTable ∧ (s.penaltyPitIn i).ceiling.sender = s.ceiling.sender
    ∧ (s.penaltyPitIn i).ceiling.paused = s.ceiling.paused
    ∧ (s.penaltyPitIn i).ceiling.holdStart = s.ceiling.holdStart
    ∧ (s.penaltyPitIn i).ceiling.nextRefresh = s.ceiling.nextRefresh ∧ (s.penaltyPitIn i).inputs = s.inputs
    ∧ (s.penaltyPitIn i).attention = s.attention ∧ (s.penaltyPitIn i).link = s.link
    ∧ (s.penaltyPitIn i).pins = s.pins ∧ (s.penaltyPitIn i).pending = s.pending := by
  refine ⟨?_, ?_, ?_, ?_, ?_, ?_, ?_, ?_, ?_, ?_, ?_, ?_, ?_, ?_, ?_, ?_, ?_, ?_⟩ <;>
    (unfold State.penaltyPitIn; (try dsimp only) <;> ((repeat' split) <;> (try simp)))

@[simp] theorem State.penaltyPitIn_gate (s : State) (i : Slot) (n : GateNo) :
    (s.penaltyPitIn i).gate n = s.gate n := State.gate_congr (by simp) n

/-- The fields of the records that `penaltyPitIn` leaves as they are. -/
@[simp] theorem State.penaltyPitIn_records (s : State) (i : Slot) (j : Slot) :
    ((s.penaltyPitIn i).entrant j).code = (s.entrant j).code
    ∧ ((s.penaltyPitIn i).entrant j).state = (s.entrant j).state
    ∧ ((s.penaltyPitIn i).entrant j).station = (s.entrant j).station
    ∧ ((s.penaltyPitIn i).entrant j).lane = (s.entrant j).lane
    ∧ ((s.penaltyPitIn i).entrant j).pitStatus = (s.entrant j).pitStatus
    ∧ ((s.penaltyPitIn i).entrant j).pitEntry = (s.entrant j).pitEntry
    ∧ ((s.penaltyPitIn i).entrant j).boxArrival = (s.entrant j).boxArrival
    ∧ ((s.penaltyPitIn i).entrant j).boxVisited = (s.entrant j).boxVisited
    ∧ ((s.penaltyPitIn i).entrant j).pitStops = (s.entrant j).pitStops
    ∧ ((s.penaltyPitIn i).entrant j).laps = (s.entrant j).laps
    ∧ ((s.penaltyPitIn i).entrant j).latestCrossing = (s.entrant j).latestCrossing
    ∧ ((s.penaltyPitIn i).entrant j).prevCrossing = (s.entrant j).prevCrossing
    ∧ ((s.penaltyPitIn i).entrant j).reachTime = (s.entrant j).reachTime
    ∧ ((s.penaltyPitIn i).entrant j).lastLap = (s.entrant j).lastLap
    ∧ ((s.penaltyPitIn i).entrant j).lastLapMarks = (s.entrant j).lastLapMarks
    ∧ ((s.penaltyPitIn i).entrant j).bestLap = (s.entrant j).bestLap
    ∧ ((s.penaltyPitIn i).entrant j).sector = (s.entrant j).sector
    ∧ ((s.penaltyPitIn i).entrant j).currentSectors = (s.entrant j).currentSectors
    ∧ ((s.penaltyPitIn i).entrant j).lastSectors = (s.entrant j).lastSectors
    ∧ ((s.penaltyPitIn i).entrant j).lastBoundary = (s.entrant j).lastBoundary
    ∧ ((s.penaltyPitIn i).entrant j).lapCaution = (s.entrant j).lapCaution
    ∧ ((s.penaltyPitIn i).entrant j).gap = (s.entrant j).gap
    ∧ ((s.penaltyPitIn i).entrant j).lapsDown = (s.entrant j).lapsDown
    ∧ ((s.penaltyPitIn i).entrant j).latestPass = (s.entrant j).latestPass
    ∧ ((s.penaltyPitIn i).entrant j).deadline = (s.entrant j).deadline
    ∧ ((s.penaltyPitIn i).entrant j).overdue = (s.entrant j).overdue
    ∧ ((s.penaltyPitIn i).entrant j).jumpStart = (s.entrant j).jumpStart
    ∧ ((s.penaltyPitIn i).entrant j).callsUsed = (s.entrant j).callsUsed
    ∧ ((s.penaltyPitIn i).entrant j).override = (s.entrant j).override
    ∧ ((s.penaltyPitIn i).entrant j).activity = (s.entrant j).activity
    ∧ ((s.penaltyPitIn i).entrant j).finishStatus = (s.entrant j).finishStatus
    ∧ ((s.penaltyPitIn i).entrant j).finishTime = (s.entrant j).finishTime
    ∧ ((s.penaltyPitIn i).entrant j).powerHold = (s.entrant j).powerHold
    ∧ ((s.penaltyPitIn i).entrant j).blackFlag = (s.entrant j).blackFlag := by
  refine ⟨?_, ?_, ?_, ?_, ?_, ?_, ?_, ?_, ?_, ?_, ?_, ?_, ?_, ?_, ?_, ?_, ?_, ?_, ?_, ?_, ?_, ?_, ?_, ?_, ?_, ?_, ?_, ?_, ?_, ?_, ?_, ?_, ?_, ?_⟩ <;>
    (unfold State.penaltyPitIn; (try dsimp only) <;> ((repeat' split) <;> (try simp [State.entrant_modEntrant, State.entrant_mk, State.entrants_getElem]) <;> (try (split <;> simp_all))))

/-- What `penaltyBoxArrival` leaves as it is. -/
@[simp] theorem State.penaltyBoxArrival_frame (s : State) (i : Slot) (t : RunTime) :
    (s.penaltyBoxArrival i t).cfg = s.cfg ∧ (s.penaltyBoxArrival i t).gates = s.gates
    ∧ (s.penaltyBoxArrival i t).testStart = s.testStart ∧ (s.penaltyBoxArrival i t).resolver = s.resolver
    ∧ (s.penaltyBoxArrival i t).ring = s.ring ∧ (s.penaltyBoxArrival i t).highMark = s.highMark
    ∧ (s.penaltyBoxArrival i t).standings = s.standings ∧ (s.penaltyBoxArrival i t).race = s.race
    ∧ (s.penaltyBoxArrival i t).callTable = s.callTable
    ∧ (s.penaltyBoxArrival i t).ceiling.sender = s.ceiling.sender
    ∧ (s.penaltyBoxArrival i t).ceiling.paused = s.ceiling.paused
    ∧ (s.penaltyBoxArrival i t).ceiling.holdStart = s.ceiling.holdStart
    ∧ (s.penaltyBoxArrival i t).ceiling.nextRefresh = s.ceiling.nextRefresh
    ∧ (s.penaltyBoxArrival i t).inputs = s.inputs ∧ (s.penaltyBoxArrival i t).attention = s.attention
    ∧ (s.penaltyBoxArrival i t).link = s.link ∧ (s.penaltyBoxArrival i t).pins = s.pins
    ∧ (s.penaltyBoxArrival i t).pending = s.pending := by
  refine ⟨?_, ?_, ?_, ?_, ?_, ?_, ?_, ?_, ?_, ?_, ?_, ?_, ?_, ?_, ?_, ?_, ?_, ?_⟩ <;>
    (unfold State.penaltyBoxArrival; (try dsimp only) <;> ((repeat' split) <;> (try simp)))

@[simp] theorem State.penaltyBoxArrival_gate (s : State) (i : Slot) (t : RunTime) (n : GateNo) :
    (s.penaltyBoxArrival i t).gate n = s.gate n := State.gate_congr (by simp) n

/-- The fields of the records that `penaltyBoxArrival` leaves as they are. -/
@[simp] theorem State.penaltyBoxArrival_records (s : State) (i : Slot) (t : RunTime) (j : Slot) :
    ((s.penaltyBoxArrival i t).entrant j).code = (s.entrant j).code
    ∧ ((s.penaltyBoxArrival i t).entrant j).state = (s.entrant j).state
    ∧ ((s.penaltyBoxArrival i t).entrant j).station = (s.entrant j).station
    ∧ ((s.penaltyBoxArrival i t).entrant j).lane = (s.entrant j).lane
    ∧ ((s.penaltyBoxArrival i t).entrant j).pitStatus = (s.entrant j).pitStatus
    ∧ ((s.penaltyBoxArrival i t).entrant j).pitEntry = (s.entrant j).pitEntry
    ∧ ((s.penaltyBoxArrival i t).entrant j).boxArrival = (s.entrant j).boxArrival
    ∧ ((s.penaltyBoxArrival i t).entrant j).boxVisited = (s.entrant j).boxVisited
    ∧ ((s.penaltyBoxArrival i t).entrant j).pitStops = (s.entrant j).pitStops
    ∧ ((s.penaltyBoxArrival i t).entrant j).laps = (s.entrant j).laps
    ∧ ((s.penaltyBoxArrival i t).entrant j).latestCrossing = (s.entrant j).latestCrossing
    ∧ ((s.penaltyBoxArrival i t).entrant j).prevCrossing = (s.entrant j).prevCrossing
    ∧ ((s.penaltyBoxArrival i t).entrant j).reachTime = (s.entrant j).reachTime
    ∧ ((s.penaltyBoxArrival i t).entrant j).lastLap = (s.entrant j).lastLap
    ∧ ((s.penaltyBoxArrival i t).entrant j).lastLapMarks = (s.entrant j).lastLapMarks
    ∧ ((s.penaltyBoxArrival i t).entrant j).bestLap = (s.entrant j).bestLap
    ∧ ((s.penaltyBoxArrival i t).entrant j).sector = (s.entrant j).sector
    ∧ ((s.penaltyBoxArrival i t).entrant j).currentSectors = (s.entrant j).currentSectors
    ∧ ((s.penaltyBoxArrival i t).entrant j).lastSectors = (s.entrant j).lastSectors
    ∧ ((s.penaltyBoxArrival i t).entrant j).lastBoundary = (s.entrant j).lastBoundary
    ∧ ((s.penaltyBoxArrival i t).entrant j).lapCaution = (s.entrant j).lapCaution
    ∧ ((s.penaltyBoxArrival i t).entrant j).gap = (s.entrant j).gap
    ∧ ((s.penaltyBoxArrival i t).entrant j).lapsDown = (s.entrant j).lapsDown
    ∧ ((s.penaltyBoxArrival i t).entrant j).latestPass = (s.entrant j).latestPass
    ∧ ((s.penaltyBoxArrival i t).entrant j).deadline = (s.entrant j).deadline
    ∧ ((s.penaltyBoxArrival i t).entrant j).overdue = (s.entrant j).overdue
    ∧ ((s.penaltyBoxArrival i t).entrant j).jumpStart = (s.entrant j).jumpStart
    ∧ ((s.penaltyBoxArrival i t).entrant j).callsUsed = (s.entrant j).callsUsed
    ∧ ((s.penaltyBoxArrival i t).entrant j).override = (s.entrant j).override
    ∧ ((s.penaltyBoxArrival i t).entrant j).activity = (s.entrant j).activity
    ∧ ((s.penaltyBoxArrival i t).entrant j).finishStatus = (s.entrant j).finishStatus
    ∧ ((s.penaltyBoxArrival i t).entrant j).finishTime = (s.entrant j).finishTime
    ∧ ((s.penaltyBoxArrival i t).entrant j).powerHold = (s.entrant j).powerHold
    ∧ ((s.penaltyBoxArrival i t).entrant j).blackFlag = (s.entrant j).blackFlag := by
  refine ⟨?_, ?_, ?_, ?_, ?_, ?_, ?_, ?_, ?_, ?_, ?_, ?_, ?_, ?_, ?_, ?_, ?_, ?_, ?_, ?_, ?_, ?_, ?_, ?_, ?_, ?_, ?_, ?_, ?_, ?_, ?_, ?_, ?_, ?_⟩ <;>
    (unfold State.penaltyBoxArrival; (try dsimp only) <;> ((repeat' split) <;> (try simp [State.entrant_modEntrant, State.entrant_mk, State.entrants_getElem]) <;> (try (split <;> simp_all))))

/-- What `penaltyBoxDeparture` leaves as it is. -/
@[simp] theorem State.penaltyBoxDeparture_frame (s : State) (i : Slot) :
    (s.penaltyBoxDeparture i).cfg = s.cfg ∧ (s.penaltyBoxDeparture i).gates = s.gates
    ∧ (s.penaltyBoxDeparture i).testStart = s.testStart ∧ (s.penaltyBoxDeparture i).resolver = s.resolver
    ∧ (s.penaltyBoxDeparture i).ring = s.ring ∧ (s.penaltyBoxDeparture i).highMark = s.highMark
    ∧ (s.penaltyBoxDeparture i).standings = s.standings ∧ (s.penaltyBoxDeparture i).race = s.race
    ∧ (s.penaltyBoxDeparture i).callTable = s.callTable
    ∧ (s.penaltyBoxDeparture i).ceiling.sender = s.ceiling.sender
    ∧ (s.penaltyBoxDeparture i).ceiling.paused = s.ceiling.paused
    ∧ (s.penaltyBoxDeparture i).ceiling.holdStart = s.ceiling.holdStart
    ∧ (s.penaltyBoxDeparture i).ceiling.nextRefresh = s.ceiling.nextRefresh
    ∧ (s.penaltyBoxDeparture i).inputs = s.inputs ∧ (s.penaltyBoxDeparture i).attention = s.attention
    ∧ (s.penaltyBoxDeparture i).link = s.link ∧ (s.penaltyBoxDeparture i).pins = s.pins
    ∧ (s.penaltyBoxDeparture i).pending = s.pending := by
  refine ⟨?_, ?_, ?_, ?_, ?_, ?_, ?_, ?_, ?_, ?_, ?_, ?_, ?_, ?_, ?_, ?_, ?_, ?_⟩ <;>
    (unfold State.penaltyBoxDeparture; (try dsimp only) <;> ((repeat' split) <;> (try simp)))

@[simp] theorem State.penaltyBoxDeparture_gate (s : State) (i : Slot) (n : GateNo) :
    (s.penaltyBoxDeparture i).gate n = s.gate n := State.gate_congr (by simp) n

/-- The fields of the records that `penaltyBoxDeparture` leaves as they are. -/
@[simp] theorem State.penaltyBoxDeparture_records (s : State) (i : Slot) (j : Slot) :
    ((s.penaltyBoxDeparture i).entrant j).code = (s.entrant j).code
    ∧ ((s.penaltyBoxDeparture i).entrant j).state = (s.entrant j).state
    ∧ ((s.penaltyBoxDeparture i).entrant j).station = (s.entrant j).station
    ∧ ((s.penaltyBoxDeparture i).entrant j).lane = (s.entrant j).lane
    ∧ ((s.penaltyBoxDeparture i).entrant j).pitStatus = (s.entrant j).pitStatus
    ∧ ((s.penaltyBoxDeparture i).entrant j).pitEntry = (s.entrant j).pitEntry
    ∧ ((s.penaltyBoxDeparture i).entrant j).boxArrival = (s.entrant j).boxArrival
    ∧ ((s.penaltyBoxDeparture i).entrant j).boxVisited = (s.entrant j).boxVisited
    ∧ ((s.penaltyBoxDeparture i).entrant j).pitStops = (s.entrant j).pitStops
    ∧ ((s.penaltyBoxDeparture i).entrant j).laps = (s.entrant j).laps
    ∧ ((s.penaltyBoxDeparture i).entrant j).latestCrossing = (s.entrant j).latestCrossing
    ∧ ((s.penaltyBoxDeparture i).entrant j).prevCrossing = (s.entrant j).prevCrossing
    ∧ ((s.penaltyBoxDeparture i).entrant j).reachTime = (s.entrant j).reachTime
    ∧ ((s.penaltyBoxDeparture i).entrant j).lastLap = (s.entrant j).lastLap
    ∧ ((s.penaltyBoxDeparture i).entrant j).lastLapMarks = (s.entrant j).lastLapMarks
    ∧ ((s.penaltyBoxDeparture i).entrant j).bestLap = (s.entrant j).bestLap
    ∧ ((s.penaltyBoxDeparture i).entrant j).sector = (s.entrant j).sector
    ∧ ((s.penaltyBoxDeparture i).entrant j).currentSectors = (s.entrant j).currentSectors
    ∧ ((s.penaltyBoxDeparture i).entrant j).lastSectors = (s.entrant j).lastSectors
    ∧ ((s.penaltyBoxDeparture i).entrant j).lastBoundary = (s.entrant j).lastBoundary
    ∧ ((s.penaltyBoxDeparture i).entrant j).lapCaution = (s.entrant j).lapCaution
    ∧ ((s.penaltyBoxDeparture i).entrant j).gap = (s.entrant j).gap
    ∧ ((s.penaltyBoxDeparture i).entrant j).lapsDown = (s.entrant j).lapsDown
    ∧ ((s.penaltyBoxDeparture i).entrant j).latestPass = (s.entrant j).latestPass
    ∧ ((s.penaltyBoxDeparture i).entrant j).deadline = (s.entrant j).deadline
    ∧ ((s.penaltyBoxDeparture i).entrant j).overdue = (s.entrant j).overdue
    ∧ ((s.penaltyBoxDeparture i).entrant j).jumpStart = (s.entrant j).jumpStart
    ∧ ((s.penaltyBoxDeparture i).entrant j).callsUsed = (s.entrant j).callsUsed
    ∧ ((s.penaltyBoxDeparture i).entrant j).override = (s.entrant j).override
    ∧ ((s.penaltyBoxDeparture i).entrant j).activity = (s.entrant j).activity
    ∧ ((s.penaltyBoxDeparture i).entrant j).finishStatus = (s.entrant j).finishStatus
    ∧ ((s.penaltyBoxDeparture i).entrant j).finishTime = (s.entrant j).finishTime
    ∧ ((s.penaltyBoxDeparture i).entrant j).powerHold = (s.entrant j).powerHold
    ∧ ((s.penaltyBoxDeparture i).entrant j).blackFlag = (s.entrant j).blackFlag := by
  refine ⟨?_, ?_, ?_, ?_, ?_, ?_, ?_, ?_, ?_, ?_, ?_, ?_, ?_, ?_, ?_, ?_, ?_, ?_, ?_, ?_, ?_, ?_, ?_, ?_, ?_, ?_, ?_, ?_, ?_, ?_, ?_, ?_, ?_, ?_⟩ <;>
    (unfold State.penaltyBoxDeparture; (try dsimp only) <;> ((repeat' split) <;> (try simp [State.entrant_modEntrant, State.entrant_mk, State.entrants_getElem]) <;> (try (split <;> simp_all))))

/-- What `penaltyPitOut` leaves as it is. -/
@[simp] theorem State.penaltyPitOut_frame (s : State) (i : Slot) :
    (s.penaltyPitOut i).cfg = s.cfg ∧ (s.penaltyPitOut i).gates = s.gates
    ∧ (s.penaltyPitOut i).testStart = s.testStart ∧ (s.penaltyPitOut i).resolver = s.resolver
    ∧ (s.penaltyPitOut i).ring = s.ring ∧ (s.penaltyPitOut i).highMark = s.highMark
    ∧ (s.penaltyPitOut i).standings = s.standings ∧ (s.penaltyPitOut i).race = s.race
    ∧ (s.penaltyPitOut i).callTable = s.callTable ∧ (s.penaltyPitOut i).ceiling.sender = s.ceiling.sender
    ∧ (s.penaltyPitOut i).ceiling.paused = s.ceiling.paused
    ∧ (s.penaltyPitOut i).ceiling.holdStart = s.ceiling.holdStart
    ∧ (s.penaltyPitOut i).ceiling.nextRefresh = s.ceiling.nextRefresh ∧ (s.penaltyPitOut i).inputs = s.inputs
    ∧ (s.penaltyPitOut i).attention = s.attention ∧ (s.penaltyPitOut i).link = s.link
    ∧ (s.penaltyPitOut i).pins = s.pins ∧ (s.penaltyPitOut i).pending = s.pending := by
  refine ⟨?_, ?_, ?_, ?_, ?_, ?_, ?_, ?_, ?_, ?_, ?_, ?_, ?_, ?_, ?_, ?_, ?_, ?_⟩ <;>
    (unfold State.penaltyPitOut; (try dsimp only) <;> ((repeat' split) <;> (try simp)))

@[simp] theorem State.penaltyPitOut_gate (s : State) (i : Slot) (n : GateNo) :
    (s.penaltyPitOut i).gate n = s.gate n := State.gate_congr (by simp) n

/-- The fields of the records that `penaltyPitOut` leaves as they are. -/
@[simp] theorem State.penaltyPitOut_records (s : State) (i : Slot) (j : Slot) :
    ((s.penaltyPitOut i).entrant j).code = (s.entrant j).code
    ∧ ((s.penaltyPitOut i).entrant j).state = (s.entrant j).state
    ∧ ((s.penaltyPitOut i).entrant j).station = (s.entrant j).station
    ∧ ((s.penaltyPitOut i).entrant j).lane = (s.entrant j).lane
    ∧ ((s.penaltyPitOut i).entrant j).pitStatus = (s.entrant j).pitStatus
    ∧ ((s.penaltyPitOut i).entrant j).pitEntry = (s.entrant j).pitEntry
    ∧ ((s.penaltyPitOut i).entrant j).boxArrival = (s.entrant j).boxArrival
    ∧ ((s.penaltyPitOut i).entrant j).boxVisited = (s.entrant j).boxVisited
    ∧ ((s.penaltyPitOut i).entrant j).pitStops = (s.entrant j).pitStops
    ∧ ((s.penaltyPitOut i).entrant j).laps = (s.entrant j).laps
    ∧ ((s.penaltyPitOut i).entrant j).latestCrossing = (s.entrant j).latestCrossing
    ∧ ((s.penaltyPitOut i).entrant j).prevCrossing = (s.entrant j).prevCrossing
    ∧ ((s.penaltyPitOut i).entrant j).reachTime = (s.entrant j).reachTime
    ∧ ((s.penaltyPitOut i).entrant j).lastLap = (s.entrant j).lastLap
    ∧ ((s.penaltyPitOut i).entrant j).lastLapMarks = (s.entrant j).lastLapMarks
    ∧ ((s.penaltyPitOut i).entrant j).bestLap = (s.entrant j).bestLap
    ∧ ((s.penaltyPitOut i).entrant j).sector = (s.entrant j).sector
    ∧ ((s.penaltyPitOut i).entrant j).currentSectors = (s.entrant j).currentSectors
    ∧ ((s.penaltyPitOut i).entrant j).lastSectors = (s.entrant j).lastSectors
    ∧ ((s.penaltyPitOut i).entrant j).lastBoundary = (s.entrant j).lastBoundary
    ∧ ((s.penaltyPitOut i).entrant j).lapCaution = (s.entrant j).lapCaution
    ∧ ((s.penaltyPitOut i).entrant j).gap = (s.entrant j).gap
    ∧ ((s.penaltyPitOut i).entrant j).lapsDown = (s.entrant j).lapsDown
    ∧ ((s.penaltyPitOut i).entrant j).latestPass = (s.entrant j).latestPass
    ∧ ((s.penaltyPitOut i).entrant j).deadline = (s.entrant j).deadline
    ∧ ((s.penaltyPitOut i).entrant j).overdue = (s.entrant j).overdue
    ∧ ((s.penaltyPitOut i).entrant j).jumpStart = (s.entrant j).jumpStart
    ∧ ((s.penaltyPitOut i).entrant j).callsUsed = (s.entrant j).callsUsed
    ∧ ((s.penaltyPitOut i).entrant j).override = (s.entrant j).override
    ∧ ((s.penaltyPitOut i).entrant j).finishStatus = (s.entrant j).finishStatus
    ∧ ((s.penaltyPitOut i).entrant j).finishTime = (s.entrant j).finishTime
    ∧ ((s.penaltyPitOut i).entrant j).powerHold = (s.entrant j).powerHold
    ∧ ((s.penaltyPitOut i).entrant j).blackFlag = (s.entrant j).blackFlag := by
  refine ⟨?_, ?_, ?_, ?_, ?_, ?_, ?_, ?_, ?_, ?_, ?_, ?_, ?_, ?_, ?_, ?_, ?_, ?_, ?_, ?_, ?_, ?_, ?_, ?_, ?_, ?_, ?_, ?_, ?_, ?_, ?_, ?_, ?_⟩ <;>
    (unfold State.penaltyPitOut; (try dsimp only) <;> ((repeat' split) <;> (try simp [State.entrant_modEntrant, State.entrant_mk, State.entrants_getElem]) <;> (try (split <;> simp_all))))

/-- What `waiveEntry` leaves as it is. -/
@[simp] theorem State.waiveEntry_frame (s : State) (i : Slot) (pos : Nat) :
    (s.waiveEntry i pos).cfg = s.cfg ∧ (s.waiveEntry i pos).gates = s.gates
    ∧ (s.waiveEntry i pos).testStart = s.testStart ∧ (s.waiveEntry i pos).resolver = s.resolver
    ∧ (s.waiveEntry i pos).ring = s.ring ∧ (s.waiveEntry i pos).highMark = s.highMark
    ∧ (s.waiveEntry i pos).standings = s.standings ∧ (s.waiveEntry i pos).race = s.race
    ∧ (s.waiveEntry i pos).callTable = s.callTable ∧ (s.waiveEntry i pos).ceiling.sender = s.ceiling.sender
    ∧ (s.waiveEntry i pos).ceiling.paused = s.ceiling.paused
    ∧ (s.waiveEntry i pos).ceiling.holdStart = s.ceiling.holdStart
    ∧ (s.waiveEntry i pos).ceiling.nextRefresh = s.ceiling.nextRefresh ∧ (s.waiveEntry i pos).inputs = s.inputs
    ∧ (s.waiveEntry i pos).attention = s.attention ∧ (s.waiveEntry i pos).link = s.link
    ∧ (s.waiveEntry i pos).pins = s.pins ∧ (s.waiveEntry i pos).pending = s.pending := by
  refine ⟨?_, ?_, ?_, ?_, ?_, ?_, ?_, ?_, ?_, ?_, ?_, ?_, ?_, ?_, ?_, ?_, ?_, ?_⟩ <;>
    (unfold State.waiveEntry; (try dsimp only) <;> ((repeat' split) <;> (try simp)))

@[simp] theorem State.waiveEntry_gate (s : State) (i : Slot) (pos : Nat) (n : GateNo) :
    (s.waiveEntry i pos).gate n = s.gate n := State.gate_congr (by simp) n

/-- The fields of the records that `waiveEntry` leaves as they are. -/
@[simp] theorem State.waiveEntry_records (s : State) (i : Slot) (pos : Nat) (j : Slot) :
    ((s.waiveEntry i pos).entrant j).code = (s.entrant j).code
    ∧ ((s.waiveEntry i pos).entrant j).state = (s.entrant j).state
    ∧ ((s.waiveEntry i pos).entrant j).station = (s.entrant j).station
    ∧ ((s.waiveEntry i pos).entrant j).lane = (s.entrant j).lane
    ∧ ((s.waiveEntry i pos).entrant j).pitStatus = (s.entrant j).pitStatus
    ∧ ((s.waiveEntry i pos).entrant j).pitEntry = (s.entrant j).pitEntry
    ∧ ((s.waiveEntry i pos).entrant j).boxArrival = (s.entrant j).boxArrival
    ∧ ((s.waiveEntry i pos).entrant j).boxVisited = (s.entrant j).boxVisited
    ∧ ((s.waiveEntry i pos).entrant j).pitStops = (s.entrant j).pitStops
    ∧ ((s.waiveEntry i pos).entrant j).laps = (s.entrant j).laps
    ∧ ((s.waiveEntry i pos).entrant j).latestCrossing = (s.entrant j).latestCrossing
    ∧ ((s.waiveEntry i pos).entrant j).prevCrossing = (s.entrant j).prevCrossing
    ∧ ((s.waiveEntry i pos).entrant j).reachTime = (s.entrant j).reachTime
    ∧ ((s.waiveEntry i pos).entrant j).lastLap = (s.entrant j).lastLap
    ∧ ((s.waiveEntry i pos).entrant j).lastLapMarks = (s.entrant j).lastLapMarks
    ∧ ((s.waiveEntry i pos).entrant j).bestLap = (s.entrant j).bestLap
    ∧ ((s.waiveEntry i pos).entrant j).sector = (s.entrant j).sector
    ∧ ((s.waiveEntry i pos).entrant j).currentSectors = (s.entrant j).currentSectors
    ∧ ((s.waiveEntry i pos).entrant j).lastSectors = (s.entrant j).lastSectors
    ∧ ((s.waiveEntry i pos).entrant j).lastBoundary = (s.entrant j).lastBoundary
    ∧ ((s.waiveEntry i pos).entrant j).lapCaution = (s.entrant j).lapCaution
    ∧ ((s.waiveEntry i pos).entrant j).gap = (s.entrant j).gap
    ∧ ((s.waiveEntry i pos).entrant j).lapsDown = (s.entrant j).lapsDown
    ∧ ((s.waiveEntry i pos).entrant j).latestPass = (s.entrant j).latestPass
    ∧ ((s.waiveEntry i pos).entrant j).deadline = (s.entrant j).deadline
    ∧ ((s.waiveEntry i pos).entrant j).overdue = (s.entrant j).overdue
    ∧ ((s.waiveEntry i pos).entrant j).jumpStart = (s.entrant j).jumpStart
    ∧ ((s.waiveEntry i pos).entrant j).callsUsed = (s.entrant j).callsUsed
    ∧ ((s.waiveEntry i pos).entrant j).override = (s.entrant j).override
    ∧ ((s.waiveEntry i pos).entrant j).activity = (s.entrant j).activity
    ∧ ((s.waiveEntry i pos).entrant j).finishStatus = (s.entrant j).finishStatus
    ∧ ((s.waiveEntry i pos).entrant j).finishTime = (s.entrant j).finishTime
    ∧ ((s.waiveEntry i pos).entrant j).powerHold = (s.entrant j).powerHold
    ∧ ((s.waiveEntry i pos).entrant j).blackFlag = (s.entrant j).blackFlag := by
  refine ⟨?_, ?_, ?_, ?_, ?_, ?_, ?_, ?_, ?_, ?_, ?_, ?_, ?_, ?_, ?_, ?_, ?_, ?_, ?_, ?_, ?_, ?_, ?_, ?_, ?_, ?_, ?_, ?_, ?_, ?_, ?_, ?_, ?_, ?_⟩ <;>
    (unfold State.waiveEntry; (try dsimp only) <;> ((repeat' split) <;> (try simp [State.entrant_modEntrant, State.entrant_mk, State.entrants_getElem]) <;> (try (split <;> simp_all))))

/-- What `clearPenalties` leaves as it is. -/
@[simp] theorem State.clearPenalties_frame (s : State) (i : Slot) :
    (s.clearPenalties i).cfg = s.cfg ∧ (s.clearPenalties i).gates = s.gates
    ∧ (s.clearPenalties i).testStart = s.testStart ∧ (s.clearPenalties i).resolver = s.resolver
    ∧ (s.clearPenalties i).ring = s.ring ∧ (s.clearPenalties i).highMark = s.highMark
    ∧ (s.clearPenalties i).standings = s.standings ∧ (s.clearPenalties i).race = s.race
    ∧ (s.clearPenalties i).callTable = s.callTable ∧ (s.clearPenalties i).ceiling.sender = s.ceiling.sender
    ∧ (s.clearPenalties i).ceiling.paused = s.ceiling.paused
    ∧ (s.clearPenalties i).ceiling.holdStart = s.ceiling.holdStart
    ∧ (s.clearPenalties i).ceiling.nextRefresh = s.ceiling.nextRefresh ∧ (s.clearPenalties i).inputs = s.inputs
    ∧ (s.clearPenalties i).attention = s.attention ∧ (s.clearPenalties i).link = s.link
    ∧ (s.clearPenalties i).pins = s.pins ∧ (s.clearPenalties i).pending = s.pending := by
  refine ⟨?_, ?_, ?_, ?_, ?_, ?_, ?_, ?_, ?_, ?_, ?_, ?_, ?_, ?_, ?_, ?_, ?_, ?_⟩ <;>
    (unfold State.clearPenalties; (try dsimp only) <;> ((repeat' split) <;> (try simp)))

@[simp] theorem State.clearPenalties_gate (s : State) (i : Slot) (n : GateNo) :
    (s.clearPenalties i).gate n = s.gate n := State.gate_congr (by simp) n

/-- The fields of the records that `clearPenalties` leaves as they are. -/
@[simp] theorem State.clearPenalties_records (s : State) (i : Slot) (j : Slot) :
    ((s.clearPenalties i).entrant j).code = (s.entrant j).code
    ∧ ((s.clearPenalties i).entrant j).state = (s.entrant j).state
    ∧ ((s.clearPenalties i).entrant j).station = (s.entrant j).station
    ∧ ((s.clearPenalties i).entrant j).lane = (s.entrant j).lane
    ∧ ((s.clearPenalties i).entrant j).pitStatus = (s.entrant j).pitStatus
    ∧ ((s.clearPenalties i).entrant j).pitEntry = (s.entrant j).pitEntry
    ∧ ((s.clearPenalties i).entrant j).boxArrival = (s.entrant j).boxArrival
    ∧ ((s.clearPenalties i).entrant j).boxVisited = (s.entrant j).boxVisited
    ∧ ((s.clearPenalties i).entrant j).pitStops = (s.entrant j).pitStops
    ∧ ((s.clearPenalties i).entrant j).laps = (s.entrant j).laps
    ∧ ((s.clearPenalties i).entrant j).latestCrossing = (s.entrant j).latestCrossing
    ∧ ((s.clearPenalties i).entrant j).prevCrossing = (s.entrant j).prevCrossing
    ∧ ((s.clearPenalties i).entrant j).reachTime = (s.entrant j).reachTime
    ∧ ((s.clearPenalties i).entrant j).lastLap = (s.entrant j).lastLap
    ∧ ((s.clearPenalties i).entrant j).lastLapMarks = (s.entrant j).lastLapMarks
    ∧ ((s.clearPenalties i).entrant j).bestLap = (s.entrant j).bestLap
    ∧ ((s.clearPenalties i).entrant j).sector = (s.entrant j).sector
    ∧ ((s.clearPenalties i).entrant j).currentSectors = (s.entrant j).currentSectors
    ∧ ((s.clearPenalties i).entrant j).lastSectors = (s.entrant j).lastSectors
    ∧ ((s.clearPenalties i).entrant j).lastBoundary = (s.entrant j).lastBoundary
    ∧ ((s.clearPenalties i).entrant j).lapCaution = (s.entrant j).lapCaution
    ∧ ((s.clearPenalties i).entrant j).gap = (s.entrant j).gap
    ∧ ((s.clearPenalties i).entrant j).lapsDown = (s.entrant j).lapsDown
    ∧ ((s.clearPenalties i).entrant j).latestPass = (s.entrant j).latestPass
    ∧ ((s.clearPenalties i).entrant j).deadline = (s.entrant j).deadline
    ∧ ((s.clearPenalties i).entrant j).overdue = (s.entrant j).overdue
    ∧ ((s.clearPenalties i).entrant j).jumpStart = (s.entrant j).jumpStart
    ∧ ((s.clearPenalties i).entrant j).callsUsed = (s.entrant j).callsUsed
    ∧ ((s.clearPenalties i).entrant j).override = (s.entrant j).override
    ∧ ((s.clearPenalties i).entrant j).activity = (s.entrant j).activity
    ∧ ((s.clearPenalties i).entrant j).finishStatus = (s.entrant j).finishStatus
    ∧ ((s.clearPenalties i).entrant j).finishTime = (s.entrant j).finishTime
    ∧ ((s.clearPenalties i).entrant j).blackFlag = (s.entrant j).blackFlag := by
  refine ⟨?_, ?_, ?_, ?_, ?_, ?_, ?_, ?_, ?_, ?_, ?_, ?_, ?_, ?_, ?_, ?_, ?_, ?_, ?_, ?_, ?_, ?_, ?_, ?_, ?_, ?_, ?_, ?_, ?_, ?_, ?_, ?_, ?_⟩ <;>
    (unfold State.clearPenalties; (try dsimp only) <;> ((repeat' split) <;> (try simp [State.entrant_modEntrant, State.entrant_mk, State.entrants_getElem]) <;> (try (split <;> simp_all))))

/-- What `convertPenalties` leaves as it is. -/
@[simp] theorem State.convertPenalties_frame (s : State) (i : Slot) :
    (s.convertPenalties i).cfg = s.cfg ∧ (s.convertPenalties i).gates = s.gates
    ∧ (s.convertPenalties i).testStart = s.testStart ∧ (s.convertPenalties i).resolver = s.resolver
    ∧ (s.convertPenalties i).ring = s.ring ∧ (s.convertPenalties i).highMark = s.highMark
    ∧ (s.convertPenalties i).race = s.race ∧ (s.convertPenalties i).callTable = s.callTable
    ∧ (s.convertPenalties i).ceiling.sender = s.ceiling.sender
    ∧ (s.convertPenalties i).ceiling.paused = s.ceiling.paused
    ∧ (s.convertPenalties i).ceiling.holdStart = s.ceiling.holdStart
    ∧ (s.convertPenalties i).ceiling.nextRefresh = s.ceiling.nextRefresh ∧ (s.convertPenalties i).inputs = s.inputs
    ∧ (s.convertPenalties i).attention = s.attention ∧ (s.convertPenalties i).link = s.link
    ∧ (s.convertPenalties i).pins = s.pins ∧ (s.convertPenalties i).pending = s.pending := by
  refine ⟨?_, ?_, ?_, ?_, ?_, ?_, ?_, ?_, ?_, ?_, ?_, ?_, ?_, ?_, ?_, ?_, ?_⟩ <;>
    (unfold State.convertPenalties; (try dsimp only) <;> ((repeat' split) <;> (try simp)))

@[simp] theorem State.convertPenalties_gate (s : State) (i : Slot) (n : GateNo) :
    (s.convertPenalties i).gate n = s.gate n := State.gate_congr (by simp) n

/-- The fields of the records that `convertPenalties` leaves as they are. -/
@[simp] theorem State.convertPenalties_records (s : State) (i : Slot) (j : Slot) :
    ((s.convertPenalties i).entrant j).code = (s.entrant j).code
    ∧ ((s.convertPenalties i).entrant j).state = (s.entrant j).state
    ∧ ((s.convertPenalties i).entrant j).station = (s.entrant j).station
    ∧ ((s.convertPenalties i).entrant j).lane = (s.entrant j).lane
    ∧ ((s.convertPenalties i).entrant j).pitStatus = (s.entrant j).pitStatus
    ∧ ((s.convertPenalties i).entrant j).pitEntry = (s.entrant j).pitEntry
    ∧ ((s.convertPenalties i).entrant j).boxArrival = (s.entrant j).boxArrival
    ∧ ((s.convertPenalties i).entrant j).boxVisited = (s.entrant j).boxVisited
    ∧ ((s.convertPenalties i).entrant j).pitStops = (s.entrant j).pitStops
    ∧ ((s.convertPenalties i).entrant j).latestCrossing = (s.entrant j).latestCrossing
    ∧ ((s.convertPenalties i).entrant j).prevCrossing = (s.entrant j).prevCrossing
    ∧ ((s.convertPenalties i).entrant j).reachTime = (s.entrant j).reachTime
    ∧ ((s.convertPenalties i).entrant j).lastLap = (s.entrant j).lastLap
    ∧ ((s.convertPenalties i).entrant j).lastLapMarks = (s.entrant j).lastLapMarks
    ∧ ((s.convertPenalties i).entrant j).bestLap = (s.entrant j).bestLap
    ∧ ((s.convertPenalties i).entrant j).sector = (s.entrant j).sector
    ∧ ((s.convertPenalties i).entrant j).currentSectors = (s.entrant j).currentSectors
    ∧ ((s.convertPenalties i).entrant j).lastSectors = (s.entrant j).lastSectors
    ∧ ((s.convertPenalties i).entrant j).lastBoundary = (s.entrant j).lastBoundary
    ∧ ((s.convertPenalties i).entrant j).lapCaution = (s.entrant j).lapCaution
    ∧ ((s.convertPenalties i).entrant j).gap = (s.entrant j).gap
    ∧ ((s.convertPenalties i).entrant j).lapsDown = (s.entrant j).lapsDown
    ∧ ((s.convertPenalties i).entrant j).latestPass = (s.entrant j).latestPass
    ∧ ((s.convertPenalties i).entrant j).deadline = (s.entrant j).deadline
    ∧ ((s.convertPenalties i).entrant j).overdue = (s.entrant j).overdue
    ∧ ((s.convertPenalties i).entrant j).jumpStart = (s.entrant j).jumpStart
    ∧ ((s.convertPenalties i).entrant j).callsUsed = (s.entrant j).callsUsed
    ∧ ((s.convertPenalties i).entrant j).override = (s.entrant j).override
    ∧ ((s.convertPenalties i).entrant j).finishStatus = (s.entrant j).finishStatus
    ∧ ((s.convertPenalties i).entrant j).finishTime = (s.entrant j).finishTime
    ∧ ((s.convertPenalties i).entrant j).blackFlag = (s.entrant j).blackFlag := by
  refine ⟨?_, ?_, ?_, ?_, ?_, ?_, ?_, ?_, ?_, ?_, ?_, ?_, ?_, ?_, ?_, ?_, ?_, ?_, ?_, ?_, ?_, ?_, ?_, ?_, ?_, ?_, ?_, ?_, ?_, ?_, ?_⟩ <;>
    (unfold State.convertPenalties; (try dsimp only) <;> ((repeat' split) <;> (try simp [State.entrant_modEntrant, State.entrant_mk, State.entrants_getElem]) <;> (try (split <;> simp_all))))

/-- What `makeCall` leaves as it is. -/
@[simp] theorem State.makeCall_frame (s : State) (i : Slot) (c : CallClass) (r : Ruling) :
    (s.makeCall i c r).cfg = s.cfg ∧ (s.makeCall i c r).gates = s.gates
    ∧ (s.makeCall i c r).testStart = s.testStart ∧ (s.makeCall i c r).resolver = s.resolver
    ∧ (s.makeCall i c r).ring = s.ring ∧ (s.makeCall i c r).highMark = s.highMark
    ∧ (s.makeCall i c r).race = s.race ∧ (s.makeCall i c r).callTable = s.callTable
    ∧ (s.makeCall i c r).ceiling.sender = s.ceiling.sender ∧ (s.makeCall i c r).ceiling.paused = s.ceiling.paused
    ∧ (s.makeCall i c r).ceiling.holdStart = s.ceiling.holdStart
    ∧ (s.makeCall i c r).ceiling.nextRefresh = s.ceiling.nextRefresh ∧ (s.makeCall i c r).inputs = s.inputs
    ∧ (s.makeCall i c r).attention = s.attention ∧ (s.makeCall i c r).link = s.link
    ∧ (s.makeCall i c r).pins = s.pins ∧ (s.makeCall i c r).pending = s.pending := by
  refine ⟨?_, ?_, ?_, ?_, ?_, ?_, ?_, ?_, ?_, ?_, ?_, ?_, ?_, ?_, ?_, ?_, ?_⟩ <;>
    (unfold State.makeCall; (try dsimp only) <;> ((repeat' split) <;> (try simp)))

@[simp] theorem State.makeCall_gate (s : State) (i : Slot) (c : CallClass) (r : Ruling) (n : GateNo) :
    (s.makeCall i c r).gate n = s.gate n := State.gate_congr (by simp) n

/-- The fields of the records that `makeCall` leaves as they are. -/
@[simp] theorem State.makeCall_records (s : State) (i : Slot) (c : CallClass) (r : Ruling) (j : Slot) :
    ((s.makeCall i c r).entrant j).code = (s.entrant j).code
    ∧ ((s.makeCall i c r).entrant j).state = (s.entrant j).state
    ∧ ((s.makeCall i c r).entrant j).station = (s.entrant j).station
    ∧ ((s.makeCall i c r).entrant j).lane = (s.entrant j).lane
    ∧ ((s.makeCall i c r).entrant j).pitStatus = (s.entrant j).pitStatus
    ∧ ((s.makeCall i c r).entrant j).pitEntry = (s.entrant j).pitEntry
    ∧ ((s.makeCall i c r).entrant j).boxArrival = (s.entrant j).boxArrival
    ∧ ((s.makeCall i c r).entrant j).boxVisited = (s.entrant j).boxVisited
    ∧ ((s.makeCall i c r).entrant j).pitStops = (s.entrant j).pitStops
    ∧ ((s.makeCall i c r).entrant j).latestCrossing = (s.entrant j).latestCrossing
    ∧ ((s.makeCall i c r).entrant j).prevCrossing = (s.entrant j).prevCrossing
    ∧ ((s.makeCall i c r).entrant j).reachTime = (s.entrant j).reachTime
    ∧ ((s.makeCall i c r).entrant j).lastLap = (s.entrant j).lastLap
    ∧ ((s.makeCall i c r).entrant j).lastLapMarks = (s.entrant j).lastLapMarks
    ∧ ((s.makeCall i c r).entrant j).bestLap = (s.entrant j).bestLap
    ∧ ((s.makeCall i c r).entrant j).sector = (s.entrant j).sector
    ∧ ((s.makeCall i c r).entrant j).currentSectors = (s.entrant j).currentSectors
    ∧ ((s.makeCall i c r).entrant j).lastSectors = (s.entrant j).lastSectors
    ∧ ((s.makeCall i c r).entrant j).lastBoundary = (s.entrant j).lastBoundary
    ∧ ((s.makeCall i c r).entrant j).lapCaution = (s.entrant j).lapCaution
    ∧ ((s.makeCall i c r).entrant j).gap = (s.entrant j).gap
    ∧ ((s.makeCall i c r).entrant j).lapsDown = (s.entrant j).lapsDown
    ∧ ((s.makeCall i c r).entrant j).latestPass = (s.entrant j).latestPass
    ∧ ((s.makeCall i c r).entrant j).deadline = (s.entrant j).deadline
    ∧ ((s.makeCall i c r).entrant j).overdue = (s.entrant j).overdue
    ∧ ((s.makeCall i c r).entrant j).jumpStart = (s.entrant j).jumpStart
    ∧ ((s.makeCall i c r).entrant j).callsUsed = (s.entrant j).callsUsed
    ∧ ((s.makeCall i c r).entrant j).override = (s.entrant j).override
    ∧ ((s.makeCall i c r).entrant j).finishStatus = (s.entrant j).finishStatus
    ∧ ((s.makeCall i c r).entrant j).finishTime = (s.entrant j).finishTime := by
  refine ⟨?_, ?_, ?_, ?_, ?_, ?_, ?_, ?_, ?_, ?_, ?_, ?_, ?_, ?_, ?_, ?_, ?_, ?_, ?_, ?_, ?_, ?_, ?_, ?_, ?_, ?_, ?_, ?_, ?_, ?_⟩ <;>
    (unfold State.makeCall; (try dsimp only) <;> ((repeat' split) <;> (try simp [State.entrant_modEntrant, State.entrant_mk, State.entrants_getElem]) <;> (try (split <;> simp_all))))

/-- What `report` leaves as it is. -/
@[simp] theorem State.report_frame (s : State) (i : Slot) (c : CallClass) :
    (s.report i c).cfg = s.cfg ∧ (s.report i c).gates = s.gates ∧ (s.report i c).testStart = s.testStart
    ∧ (s.report i c).resolver = s.resolver ∧ (s.report i c).ring = s.ring ∧ (s.report i c).highMark = s.highMark
    ∧ (s.report i c).race = s.race ∧ (s.report i c).callTable = s.callTable
    ∧ (s.report i c).ceiling.sender = s.ceiling.sender ∧ (s.report i c).ceiling.paused = s.ceiling.paused
    ∧ (s.report i c).ceiling.holdStart = s.ceiling.holdStart
    ∧ (s.report i c).ceiling.nextRefresh = s.ceiling.nextRefresh ∧ (s.report i c).inputs = s.inputs
    ∧ (s.report i c).attention = s.attention ∧ (s.report i c).link = s.link ∧ (s.report i c).pins = s.pins
    ∧ (s.report i c).pending = s.pending := by
  refine ⟨?_, ?_, ?_, ?_, ?_, ?_, ?_, ?_, ?_, ?_, ?_, ?_, ?_, ?_, ?_, ?_, ?_⟩ <;>
    (unfold State.report; (try dsimp only) <;> ((repeat' split) <;> (try simp)))

@[simp] theorem State.report_gate (s : State) (i : Slot) (c : CallClass) (n : GateNo) :
    (s.report i c).gate n = s.gate n := State.gate_congr (by simp) n

/-- The fields of the records that `report` leaves as they are. -/
@[simp] theorem State.report_records (s : State) (i : Slot) (c : CallClass) (j : Slot) :
    ((s.report i c).entrant j).code = (s.entrant j).code ∧ ((s.report i c).entrant j).state = (s.entrant j).state
    ∧ ((s.report i c).entrant j).station = (s.entrant j).station
    ∧ ((s.report i c).entrant j).lane = (s.entrant j).lane
    ∧ ((s.report i c).entrant j).pitStatus = (s.entrant j).pitStatus
    ∧ ((s.report i c).entrant j).pitEntry = (s.entrant j).pitEntry
    ∧ ((s.report i c).entrant j).boxArrival = (s.entrant j).boxArrival
    ∧ ((s.report i c).entrant j).boxVisited = (s.entrant j).boxVisited
    ∧ ((s.report i c).entrant j).pitStops = (s.entrant j).pitStops
    ∧ ((s.report i c).entrant j).latestCrossing = (s.entrant j).latestCrossing
    ∧ ((s.report i c).entrant j).prevCrossing = (s.entrant j).prevCrossing
    ∧ ((s.report i c).entrant j).reachTime = (s.entrant j).reachTime
    ∧ ((s.report i c).entrant j).lastLap = (s.entrant j).lastLap
    ∧ ((s.report i c).entrant j).lastLapMarks = (s.entrant j).lastLapMarks
    ∧ ((s.report i c).entrant j).bestLap = (s.entrant j).bestLap
    ∧ ((s.report i c).entrant j).sector = (s.entrant j).sector
    ∧ ((s.report i c).entrant j).currentSectors = (s.entrant j).currentSectors
    ∧ ((s.report i c).entrant j).lastSectors = (s.entrant j).lastSectors
    ∧ ((s.report i c).entrant j).lastBoundary = (s.entrant j).lastBoundary
    ∧ ((s.report i c).entrant j).lapCaution = (s.entrant j).lapCaution
    ∧ ((s.report i c).entrant j).gap = (s.entrant j).gap
    ∧ ((s.report i c).entrant j).lapsDown = (s.entrant j).lapsDown
    ∧ ((s.report i c).entrant j).latestPass = (s.entrant j).latestPass
    ∧ ((s.report i c).entrant j).deadline = (s.entrant j).deadline
    ∧ ((s.report i c).entrant j).overdue = (s.entrant j).overdue
    ∧ ((s.report i c).entrant j).jumpStart = (s.entrant j).jumpStart
    ∧ ((s.report i c).entrant j).callsUsed = (s.entrant j).callsUsed
    ∧ ((s.report i c).entrant j).override = (s.entrant j).override
    ∧ ((s.report i c).entrant j).finishStatus = (s.entrant j).finishStatus
    ∧ ((s.report i c).entrant j).finishTime = (s.entrant j).finishTime := by
  refine ⟨?_, ?_, ?_, ?_, ?_, ?_, ?_, ?_, ?_, ?_, ?_, ?_, ?_, ?_, ?_, ?_, ?_, ?_, ?_, ?_, ?_, ?_, ?_, ?_, ?_, ?_, ?_, ?_, ?_, ?_⟩ <;>
    (unfold State.report; (try dsimp only) <;> ((repeat' split) <;> (try simp [State.entrant_modEntrant, State.entrant_mk, State.entrants_getElem]) <;> (try (split <;> simp_all))))

/-- What `reportAll` leaves as it is. -/
@[simp] theorem State.reportAll_frame (s : State) (i : Slot) (cs : List CallClass) :
    (s.reportAll i cs).cfg = s.cfg ∧ (s.reportAll i cs).gates = s.gates
    ∧ (s.reportAll i cs).testStart = s.testStart ∧ (s.reportAll i cs).resolver = s.resolver
    ∧ (s.reportAll i cs).ring = s.ring ∧ (s.reportAll i cs).highMark = s.highMark
    ∧ (s.reportAll i cs).race = s.race ∧ (s.reportAll i cs).callTable = s.callTable
    ∧ (s.reportAll i cs).ceiling.sender = s.ceiling.sender ∧ (s.reportAll i cs).ceiling.paused = s.ceiling.paused
    ∧ (s.reportAll i cs).ceiling.holdStart = s.ceiling.holdStart
    ∧ (s.reportAll i cs).ceiling.nextRefresh = s.ceiling.nextRefresh ∧ (s.reportAll i cs).inputs = s.inputs
    ∧ (s.reportAll i cs).attention = s.attention ∧ (s.reportAll i cs).link = s.link
    ∧ (s.reportAll i cs).pins = s.pins ∧ (s.reportAll i cs).pending = s.pending := by
  unfold State.reportAll
  induction cs generalizing s with
  | nil => exact ⟨rfl, rfl, rfl, rfl, rfl, rfl, rfl, rfl, rfl, rfl, rfl, rfl, rfl, rfl, rfl, rfl, rfl⟩
  | cons x l ih =>
    simp only [List.foldl_cons, ih]
    refine ⟨?_, ?_, ?_, ?_, ?_, ?_, ?_, ?_, ?_, ?_, ?_, ?_, ?_, ?_, ?_, ?_, ?_⟩ <;> ((repeat' split) <;> (try simp))

@[simp] theorem State.reportAll_gate (s : State) (i : Slot) (cs : List CallClass) (n : GateNo) :
    (s.reportAll i cs).gate n = s.gate n := State.gate_congr (by simp) n

/-- The fields of the records that `reportAll` leaves as they are. -/
@[simp] theorem State.reportAll_records (s : State) (i : Slot) (cs : List CallClass) (j : Slot) :
    ((s.reportAll i cs).entrant j).code = (s.entrant j).code
    ∧ ((s.reportAll i cs).entrant j).state = (s.entrant j).state
    ∧ ((s.reportAll i cs).entrant j).station = (s.entrant j).station
    ∧ ((s.reportAll i cs).entrant j).lane = (s.entrant j).lane
    ∧ ((s.reportAll i cs).entrant j).pitStatus = (s.entrant j).pitStatus
    ∧ ((s.reportAll i cs).entrant j).pitEntry = (s.entrant j).pitEntry
    ∧ ((s.reportAll i cs).entrant j).boxArrival = (s.entrant j).boxArrival
    ∧ ((s.reportAll i cs).entrant j).boxVisited = (s.entrant j).boxVisited
    ∧ ((s.reportAll i cs).entrant j).pitStops = (s.entrant j).pitStops
    ∧ ((s.reportAll i cs).entrant j).latestCrossing = (s.entrant j).latestCrossing
    ∧ ((s.reportAll i cs).entrant j).prevCrossing = (s.entrant j).prevCrossing
    ∧ ((s.reportAll i cs).entrant j).reachTime = (s.entrant j).reachTime
    ∧ ((s.reportAll i cs).entrant j).lastLap = (s.entrant j).lastLap
    ∧ ((s.reportAll i cs).entrant j).lastLapMarks = (s.entrant j).lastLapMarks
    ∧ ((s.reportAll i cs).entrant j).bestLap = (s.entrant j).bestLap
    ∧ ((s.reportAll i cs).entrant j).sector = (s.entrant j).sector
    ∧ ((s.reportAll i cs).entrant j).currentSectors = (s.entrant j).currentSectors
    ∧ ((s.reportAll i cs).entrant j).lastSectors = (s.entrant j).lastSectors
    ∧ ((s.reportAll i cs).entrant j).lastBoundary = (s.entrant j).lastBoundary
    ∧ ((s.reportAll i cs).entrant j).lapCaution = (s.entrant j).lapCaution
    ∧ ((s.reportAll i cs).entrant j).gap = (s.entrant j).gap
    ∧ ((s.reportAll i cs).entrant j).lapsDown = (s.entrant j).lapsDown
    ∧ ((s.reportAll i cs).entrant j).latestPass = (s.entrant j).latestPass
    ∧ ((s.reportAll i cs).entrant j).deadline = (s.entrant j).deadline
    ∧ ((s.reportAll i cs).entrant j).overdue = (s.entrant j).overdue
    ∧ ((s.reportAll i cs).entrant j).jumpStart = (s.entrant j).jumpStart
    ∧ ((s.reportAll i cs).entrant j).callsUsed = (s.entrant j).callsUsed
    ∧ ((s.reportAll i cs).entrant j).override = (s.entrant j).override
    ∧ ((s.reportAll i cs).entrant j).finishStatus = (s.entrant j).finishStatus
    ∧ ((s.reportAll i cs).entrant j).finishTime = (s.entrant j).finishTime := by
  unfold State.reportAll
  induction cs generalizing s with
  | nil => exact ⟨rfl, rfl, rfl, rfl, rfl, rfl, rfl, rfl, rfl, rfl, rfl, rfl, rfl, rfl, rfl, rfl, rfl, rfl, rfl, rfl, rfl, rfl, rfl, rfl, rfl, rfl, rfl, rfl, rfl, rfl⟩
  | cons x l ih =>
    simp only [List.foldl_cons, ih]
    refine ⟨?_, ?_, ?_, ?_, ?_, ?_, ?_, ?_, ?_, ?_, ?_, ?_, ?_, ?_, ?_, ?_, ?_, ?_, ?_, ?_, ?_, ?_, ?_, ?_, ?_, ?_, ?_, ?_, ?_, ?_⟩ <;> ((repeat' split) <;> (try simp [State.entrant_modEntrant, State.entrant_mk, State.entrants_getElem]) <;> (try (split <;> simp_all)))

/-- What `countPress` leaves as it is. -/
@[simp] theorem State.countPress_frame (s : State) (st : StationNo) :
    (s.countPress st).cfg = s.cfg ∧ (s.countPress st).gates = s.gates ∧ (s.countPress st).testStart = s.testStart
    ∧ (s.countPress st).resolver = s.resolver ∧ (s.countPress st).ring = s.ring
    ∧ (s.countPress st).highMark = s.highMark ∧ (s.countPress st).race = s.race
    ∧ (s.countPress st).callTable = s.callTable ∧ (s.countPress st).ceiling.sender = s.ceiling.sender
    ∧ (s.countPress st).ceiling.paused = s.ceiling.paused
    ∧ (s.countPress st).ceiling.holdStart = s.ceiling.holdStart
    ∧ (s.countPress st).ceiling.nextRefresh = s.ceiling.nextRefresh ∧ (s.countPress st).inputs = s.inputs
    ∧ (s.countPress st).attention = s.attention ∧ (s.countPress st).link = s.link ∧ (s.countPress st).pins = s.pins
    ∧ (s.countPress st).pending = s.pending := by
  refine ⟨?_, ?_, ?_, ?_, ?_, ?_, ?_, ?_, ?_, ?_, ?_, ?_, ?_, ?_, ?_, ?_, ?_⟩ <;>
    (unfold State.countPress; (try dsimp only) <;> ((repeat' split) <;> (try simp)))

@[simp] theorem State.countPress_gate (s : State) (st : StationNo) (n : GateNo) :
    (s.countPress st).gate n = s.gate n := State.gate_congr (by simp) n

/-- The fields of the records that `countPress` leaves as they are. -/
@[simp] theorem State.countPress_records (s : State) (st : StationNo) (j : Slot) :
    ((s.countPress st).entrant j).code = (s.entrant j).code
    ∧ ((s.countPress st).entrant j).state = (s.entrant j).state
    ∧ ((s.countPress st).entrant j).station = (s.entrant j).station
    ∧ ((s.countPress st).entrant j).lane = (s.entrant j).lane
    ∧ ((s.countPress st).entrant j).pitStatus = (s.entrant j).pitStatus
    ∧ ((s.countPress st).entrant j).pitEntry = (s.entrant j).pitEntry
    ∧ ((s.countPress st).entrant j).boxArrival = (s.entrant j).boxArrival
    ∧ ((s.countPress st).entrant j).boxVisited = (s.entrant j).boxVisited
    ∧ ((s.countPress st).entrant j).pitStops = (s.entrant j).pitStops
    ∧ ((s.countPress st).entrant j).latestCrossing = (s.entrant j).latestCrossing
    ∧ ((s.countPress st).entrant j).prevCrossing = (s.entrant j).prevCrossing
    ∧ ((s.countPress st).entrant j).reachTime = (s.entrant j).reachTime
    ∧ ((s.countPress st).entrant j).lastLap = (s.entrant j).lastLap
    ∧ ((s.countPress st).entrant j).lastLapMarks = (s.entrant j).lastLapMarks
    ∧ ((s.countPress st).entrant j).bestLap = (s.entrant j).bestLap
    ∧ ((s.countPress st).entrant j).sector = (s.entrant j).sector
    ∧ ((s.countPress st).entrant j).currentSectors = (s.entrant j).currentSectors
    ∧ ((s.countPress st).entrant j).lastSectors = (s.entrant j).lastSectors
    ∧ ((s.countPress st).entrant j).lastBoundary = (s.entrant j).lastBoundary
    ∧ ((s.countPress st).entrant j).lapCaution = (s.entrant j).lapCaution
    ∧ ((s.countPress st).entrant j).gap = (s.entrant j).gap
    ∧ ((s.countPress st).entrant j).lapsDown = (s.entrant j).lapsDown
    ∧ ((s.countPress st).entrant j).latestPass = (s.entrant j).latestPass
    ∧ ((s.countPress st).entrant j).deadline = (s.entrant j).deadline
    ∧ ((s.countPress st).entrant j).overdue = (s.entrant j).overdue
    ∧ ((s.countPress st).entrant j).jumpStart = (s.entrant j).jumpStart
    ∧ ((s.countPress st).entrant j).override = (s.entrant j).override
    ∧ ((s.countPress st).entrant j).finishStatus = (s.entrant j).finishStatus
    ∧ ((s.countPress st).entrant j).finishTime = (s.entrant j).finishTime := by
  refine ⟨?_, ?_, ?_, ?_, ?_, ?_, ?_, ?_, ?_, ?_, ?_, ?_, ?_, ?_, ?_, ?_, ?_, ?_, ?_, ?_, ?_, ?_, ?_, ?_, ?_, ?_, ?_, ?_, ?_⟩ <;>
    (unfold State.countPress; (try dsimp only) <;> ((repeat' split) <;> (try simp [State.entrant_modEntrant, State.entrant_mk, State.entrants_getElem]) <;> (try (split <;> simp_all))))

/-- What `missHead` leaves as it is. -/
@[simp] theorem State.missHead_frame (s : State) (i : Slot) (k : PenaltyKind) :
    (s.missHead i k).cfg = s.cfg ∧ (s.missHead i k).gates = s.gates ∧ (s.missHead i k).testStart = s.testStart
    ∧ (s.missHead i k).resolver = s.resolver ∧ (s.missHead i k).ring = s.ring
    ∧ (s.missHead i k).highMark = s.highMark ∧ (s.missHead i k).race = s.race
    ∧ (s.missHead i k).callTable = s.callTable ∧ (s.missHead i k).ceiling.sender = s.ceiling.sender
    ∧ (s.missHead i k).ceiling.paused = s.ceiling.paused ∧ (s.missHead i k).ceiling.holdStart = s.ceiling.holdStart
    ∧ (s.missHead i k).ceiling.nextRefresh = s.ceiling.nextRefresh ∧ (s.missHead i k).inputs = s.inputs
    ∧ (s.missHead i k).attention = s.attention ∧ (s.missHead i k).link = s.link ∧ (s.missHead i k).pins = s.pins
    ∧ (s.missHead i k).pending = s.pending := by
  refine ⟨?_, ?_, ?_, ?_, ?_, ?_, ?_, ?_, ?_, ?_, ?_, ?_, ?_, ?_, ?_, ?_, ?_⟩ <;>
    (unfold State.missHead; (try dsimp only) <;> ((repeat' split) <;> (try simp)))

@[simp] theorem State.missHead_gate (s : State) (i : Slot) (k : PenaltyKind) (n : GateNo) :
    (s.missHead i k).gate n = s.gate n := State.gate_congr (by simp) n

/-- The fields of the records that `missHead` leaves as they are. -/
@[simp] theorem State.missHead_records (s : State) (i : Slot) (k : PenaltyKind) (j : Slot) :
    ((s.missHead i k).entrant j).code = (s.entrant j).code
    ∧ ((s.missHead i k).entrant j).state = (s.entrant j).state
    ∧ ((s.missHead i k).entrant j).station = (s.entrant j).station
    ∧ ((s.missHead i k).entrant j).lane = (s.entrant j).lane
    ∧ ((s.missHead i k).entrant j).pitStatus = (s.entrant j).pitStatus
    ∧ ((s.missHead i k).entrant j).pitEntry = (s.entrant j).pitEntry
    ∧ ((s.missHead i k).entrant j).boxArrival = (s.entrant j).boxArrival
    ∧ ((s.missHead i k).entrant j).boxVisited = (s.entrant j).boxVisited
    ∧ ((s.missHead i k).entrant j).pitStops = (s.entrant j).pitStops
    ∧ ((s.missHead i k).entrant j).latestCrossing = (s.entrant j).latestCrossing
    ∧ ((s.missHead i k).entrant j).prevCrossing = (s.entrant j).prevCrossing
    ∧ ((s.missHead i k).entrant j).reachTime = (s.entrant j).reachTime
    ∧ ((s.missHead i k).entrant j).lastLap = (s.entrant j).lastLap
    ∧ ((s.missHead i k).entrant j).lastLapMarks = (s.entrant j).lastLapMarks
    ∧ ((s.missHead i k).entrant j).bestLap = (s.entrant j).bestLap
    ∧ ((s.missHead i k).entrant j).sector = (s.entrant j).sector
    ∧ ((s.missHead i k).entrant j).currentSectors = (s.entrant j).currentSectors
    ∧ ((s.missHead i k).entrant j).lastSectors = (s.entrant j).lastSectors
    ∧ ((s.missHead i k).entrant j).lastBoundary = (s.entrant j).lastBoundary
    ∧ ((s.missHead i k).entrant j).lapCaution = (s.entrant j).lapCaution
    ∧ ((s.missHead i k).entrant j).gap = (s.entrant j).gap
    ∧ ((s.missHead i k).entrant j).lapsDown = (s.entrant j).lapsDown
    ∧ ((s.missHead i k).entrant j).latestPass = (s.entrant j).latestPass
    ∧ ((s.missHead i k).entrant j).deadline = (s.entrant j).deadline
    ∧ ((s.missHead i k).entrant j).overdue = (s.entrant j).overdue
    ∧ ((s.missHead i k).entrant j).jumpStart = (s.entrant j).jumpStart
    ∧ ((s.missHead i k).entrant j).callsUsed = (s.entrant j).callsUsed
    ∧ ((s.missHead i k).entrant j).override = (s.entrant j).override
    ∧ ((s.missHead i k).entrant j).finishStatus = (s.entrant j).finishStatus
    ∧ ((s.missHead i k).entrant j).finishTime = (s.entrant j).finishTime := by
  refine ⟨?_, ?_, ?_, ?_, ?_, ?_, ?_, ?_, ?_, ?_, ?_, ?_, ?_, ?_, ?_, ?_, ?_, ?_, ?_, ?_, ?_, ?_, ?_, ?_, ?_, ?_, ?_, ?_, ?_, ?_⟩ <;>
    (unfold State.missHead; (try dsimp only) <;> ((repeat' split) <;> (try simp [State.entrant_modEntrant, State.entrant_mk, State.entrants_getElem]) <;> (try (split <;> simp_all))))

/-- What `penaltyCrossing` leaves as it is. -/
@[simp] theorem State.penaltyCrossing_frame (s : State) (i : Slot) (c : Bool) :
    (s.penaltyCrossing i c).cfg = s.cfg ∧ (s.penaltyCrossing i c).gates = s.gates
    ∧ (s.penaltyCrossing i c).testStart = s.testStart ∧ (s.penaltyCrossing i c).resolver = s.resolver
    ∧ (s.penaltyCrossing i c).ring = s.ring ∧ (s.penaltyCrossing i c).highMark = s.highMark
    ∧ (s.penaltyCrossing i c).race = s.race ∧ (s.penaltyCrossing i c).callTable = s.callTable
    ∧ (s.penaltyCrossing i c).ceiling.sender = s.ceiling.sender
    ∧ (s.penaltyCrossing i c).ceiling.paused = s.ceiling.paused
    ∧ (s.penaltyCrossing i c).ceiling.holdStart = s.ceiling.holdStart
    ∧ (s.penaltyCrossing i c).ceiling.nextRefresh = s.ceiling.nextRefresh
    ∧ (s.penaltyCrossing i c).inputs = s.inputs ∧ (s.penaltyCrossing i c).attention = s.attention
    ∧ (s.penaltyCrossing i c).link = s.link ∧ (s.penaltyCrossing i c).pins = s.pins
    ∧ (s.penaltyCrossing i c).pending = s.pending := by
  refine ⟨?_, ?_, ?_, ?_, ?_, ?_, ?_, ?_, ?_, ?_, ?_, ?_, ?_, ?_, ?_, ?_, ?_⟩ <;>
    (unfold State.penaltyCrossing; (try dsimp only) <;> ((repeat' split) <;> (try simp)))

@[simp] theorem State.penaltyCrossing_gate (s : State) (i : Slot) (c : Bool) (n : GateNo) :
    (s.penaltyCrossing i c).gate n = s.gate n := State.gate_congr (by simp) n

/-- The fields of the records that `penaltyCrossing` leaves as they are. -/
@[simp] theorem State.penaltyCrossing_records (s : State) (i : Slot) (c : Bool) (j : Slot) :
    ((s.penaltyCrossing i c).entrant j).code = (s.entrant j).code
    ∧ ((s.penaltyCrossing i c).entrant j).state = (s.entrant j).state
    ∧ ((s.penaltyCrossing i c).entrant j).station = (s.entrant j).station
    ∧ ((s.penaltyCrossing i c).entrant j).lane = (s.entrant j).lane
    ∧ ((s.penaltyCrossing i c).entrant j).pitStatus = (s.entrant j).pitStatus
    ∧ ((s.penaltyCrossing i c).entrant j).pitEntry = (s.entrant j).pitEntry
    ∧ ((s.penaltyCrossing i c).entrant j).boxArrival = (s.entrant j).boxArrival
    ∧ ((s.penaltyCrossing i c).entrant j).boxVisited = (s.entrant j).boxVisited
    ∧ ((s.penaltyCrossing i c).entrant j).pitStops = (s.entrant j).pitStops
    ∧ ((s.penaltyCrossing i c).entrant j).latestCrossing = (s.entrant j).latestCrossing
    ∧ ((s.penaltyCrossing i c).entrant j).prevCrossing = (s.entrant j).prevCrossing
    ∧ ((s.penaltyCrossing i c).entrant j).reachTime = (s.entrant j).reachTime
    ∧ ((s.penaltyCrossing i c).entrant j).lastLap = (s.entrant j).lastLap
    ∧ ((s.penaltyCrossing i c).entrant j).lastLapMarks = (s.entrant j).lastLapMarks
    ∧ ((s.penaltyCrossing i c).entrant j).bestLap = (s.entrant j).bestLap
    ∧ ((s.penaltyCrossing i c).entrant j).sector = (s.entrant j).sector
    ∧ ((s.penaltyCrossing i c).entrant j).currentSectors = (s.entrant j).currentSectors
    ∧ ((s.penaltyCrossing i c).entrant j).lastSectors = (s.entrant j).lastSectors
    ∧ ((s.penaltyCrossing i c).entrant j).lastBoundary = (s.entrant j).lastBoundary
    ∧ ((s.penaltyCrossing i c).entrant j).lapCaution = (s.entrant j).lapCaution
    ∧ ((s.penaltyCrossing i c).entrant j).gap = (s.entrant j).gap
    ∧ ((s.penaltyCrossing i c).entrant j).lapsDown = (s.entrant j).lapsDown
    ∧ ((s.penaltyCrossing i c).entrant j).latestPass = (s.entrant j).latestPass
    ∧ ((s.penaltyCrossing i c).entrant j).deadline = (s.entrant j).deadline
    ∧ ((s.penaltyCrossing i c).entrant j).overdue = (s.entrant j).overdue
    ∧ ((s.penaltyCrossing i c).entrant j).jumpStart = (s.entrant j).jumpStart
    ∧ ((s.penaltyCrossing i c).entrant j).callsUsed = (s.entrant j).callsUsed
    ∧ ((s.penaltyCrossing i c).entrant j).override = (s.entrant j).override
    ∧ ((s.penaltyCrossing i c).entrant j).finishStatus = (s.entrant j).finishStatus
    ∧ ((s.penaltyCrossing i c).entrant j).finishTime = (s.entrant j).finishTime := by
  refine ⟨?_, ?_, ?_, ?_, ?_, ?_, ?_, ?_, ?_, ?_, ?_, ?_, ?_, ?_, ?_, ?_, ?_, ?_, ?_, ?_, ?_, ?_, ?_, ?_, ?_, ?_, ?_, ?_, ?_, ?_⟩ <;>
    (unfold State.penaltyCrossing; (try dsimp only) <;> ((repeat' split) <;> (try simp [State.entrant_modEntrant, State.entrant_mk, State.entrants_getElem]) <;> (try (split <;> simp_all))))

/-! ### What the placing of an entry does to the Standing Order -/

/-- A placed entry and the old ones, and no others, stand in the list after an insertion. -/
theorem insertStanding_perm (x : Standing) (l : List Standing) : (insertStanding x l).Perm (x :: l) := by
  induction l with
  | nil => exact .refl _
  | cons y ys ih =>
    unfold insertStanding
    split
    · exact (List.Perm.cons y ih).trans (.swap x y ys)
    · exact .refl _

/-- Who stands in the list after an insertion. -/
theorem mem_insertStanding (x y : Standing) (l : List Standing) : y ∈ insertStanding x l ↔ y = x ∨ y ∈ l := by
  rw [(insertStanding_perm x l).mem_iff, List.mem_cons]

/-- Who stands in the list after a slot has left it. -/
theorem mem_withoutSlot (i : Slot) (x : Standing) (l : List Standing) :
    x ∈ withoutSlot i l ↔ x ∈ l ∧ x.slot ≠ i := by simp [withoutSlot]

/-- The three outcomes of a re-placing (R92, R93). -/
theorem placeAgain_cases (i : Slot) (k : Key) (l : List Standing) :
    (placeAgain i k l = l ∧ ∀ x ∈ l, x.slot ≠ i)
      ∨ (placeAgain i k l = l ∧ ∃ x ∈ l, x.slot = i ∧ x.key = k)
      ∨ ((∃ x ∈ l, x.slot = i ∧ x.key ≠ k)
          ∧ placeAgain i k l = insertStanding { slot := i, key := k } (withoutSlot i l)) := by
  unfold placeAgain
  split
  · next h => exact .inl ⟨rfl, by simpa using List.find?_eq_none.mp h⟩
  · next x h =>
    have hm := List.mem_of_find?_eq_some h
    have hs : x.slot = i := by simpa using List.find?_some h
    split
    · next hk => exact .inr (.inl ⟨rfl, x, hm, hs, hk⟩)
    · next hk => exact .inr (.inr ⟨⟨x, hm, hs, hk⟩, rfl⟩)

/-! ### What the judging of a head does -/

/-- An empty queue has no head to judge. -/
theorem State.judgeHead_nil (s : State) (i : Slot) (h : (s.entrant i).penalties = []) : s.judgeHead i = s := by
  simp [State.judgeHead, h]

/-- A head that is not Pending is not judged again (R142). -/
theorem State.judgeHead_judged (s : State) (i : Slot) (p : PitPenalty) (rest : List PitPenalty)
    (h : (s.entrant i).penalties = p :: rest) (hp : p.state ≠ .pending) : s.judgeHead i = s := by
  simp [State.judgeHead, h, hp]

/-- A Pending head becomes Active, or Serving where it is a stop-and-go of a car in the box (R142). -/
theorem State.judgeHead_pending (s : State) (i : Slot) (p : PitPenalty) (rest : List PitPenalty)
    (h : (s.entrant i).penalties = p :: rest) (hp : p.state = .pending) :
    s.judgeHead i
      = if p.kind = .stopGo ∧ (s.entrant i).pitStatus = .box then
          s.serveHead i p.activated rest (s.race.runningClock + p.holdTicks)
        else s.setPenalties i (p.activated :: rest) := by
  simp [State.judgeHead, h, hp]

/-- What the queue is once its head has been dropped. -/
@[simp] theorem State.dropHead_penalties (s : State) (i : Slot) :
    ((s.dropHead i).entrant i).penalties = (s.entrant i).penalties.tail := by
  unfold State.dropHead
  split
  · next h => simp [h]
  · next p rest h =>
    dsimp only
    split <;> simp [h, State.setPenalties, State.setHoldTimer]

/-- The call of a report is made for a Racing entrant whose class has a ruling, and for no other (R126, R130). -/
theorem State.report_cases (s : State) (i : Slot) (c : CallClass) :
    (∃ r, (s.entrant i).state = .racing ∧ s.rulingFor c = some r ∧ s.report i c = s.makeCall i c r)
      ∨ (((s.entrant i).state ≠ .racing ∨ s.rulingFor c = none) ∧ s.report i c = s) := by
  unfold State.report
  by_cases h : (s.entrant i).state = .racing
  · cases hr : s.rulingFor c with
    | none => exact .inr ⟨.inr rfl, by simp [h]⟩
    | some r => exact .inl ⟨r, h, rfl, by simp [h]⟩
  · exact .inr ⟨.inl h, by simp [h]⟩

/-- A class that is not in the Call Table is never ruled on by it (R127). -/
theorem State.rulingFor_manual (s : State) : s.rulingFor .manual = none := rfl

end Sys2Proof.Machine
end

