-- ==== Sys2Proof/Laws/Races.lean ====
section
/-! SUPPORT. What the Race Sequencer's shared operations can change, and what they leave as it is. -/

set_option linter.all false

namespace Sys2Proof.Machine

/-- What `finishEntrant` leaves as it is. -/
@[simp] theorem State.finishEntrant_frame (s : State) (i : Slot) (st : FinishStatus) (t : RunTime) :
    (s.finishEntrant i st t).cfg = s.cfg ∧ (s.finishEntrant i st t).gates = s.gates
    ∧ (s.finishEntrant i st t).testStart = s.testStart ∧ (s.finishEntrant i st t).resolver = s.resolver
    ∧ (s.finishEntrant i st t).ring = s.ring ∧ (s.finishEntrant i st t).highMark = s.highMark
    ∧ (s.finishEntrant i st t).race.raceClock = s.race.raceClock
    ∧ (s.finishEntrant i st t).race.state = s.race.state ∧ (s.finishEntrant i st t).race.resume = s.race.resume
    ∧ (s.finishEntrant i st t).race.suspStart = s.race.suspStart
    ∧ (s.finishEntrant i st t).race.suspTotal = s.race.suspTotal
    ∧ (s.finishEntrant i st t).race.green = s.race.green
    ∧ (s.finishEntrant i st t).race.runningClock = s.race.runningClock
    ∧ (s.finishEntrant i st t).race.countdown = s.race.countdown
    ∧ (s.finishEntrant i st t).race.finishDeadline = s.race.finishDeadline
    ∧ (s.finishEntrant i st t).race.yellow = s.race.yellow
    ∧ (s.finishEntrant i st t).race.powerSetting = s.race.powerSetting
    ∧ (s.finishEntrant i st t).callTable = s.callTable ∧ (s.finishEntrant i st t).ceiling.sender = s.ceiling.sender
    ∧ (s.finishEntrant i st t).ceiling.paused = s.ceiling.paused
    ∧ (s.finishEntrant i st t).ceiling.holdStart = s.ceiling.holdStart
    ∧ (s.finishEntrant i st t).ceiling.nextRefresh = s.ceiling.nextRefresh
    ∧ (s.finishEntrant i st t).inputs = s.inputs ∧ (s.finishEntrant i st t).attention = s.attention
    ∧ (s.finishEntrant i st t).link = s.link ∧ (s.finishEntrant i st t).pins = s.pins
    ∧ (s.finishEntrant i st t).pending = s.pending := by
  refine ⟨?_, ?_, ?_, ?_, ?_, ?_, ?_, ?_, ?_, ?_, ?_, ?_, ?_, ?_, ?_, ?_, ?_, ?_, ?_, ?_, ?_, ?_, ?_, ?_, ?_, ?_, ?_⟩ <;>
    (unfold State.finishEntrant; (try dsimp only) <;> ((repeat' split) <;> (try simp)))

@[simp] theorem State.finishEntrant_gate (s : State) (i : Slot) (st : FinishStatus) (t : RunTime) (n : GateNo) :
    (s.finishEntrant i st t).gate n = s.gate n := State.gate_congr (by simp) n

/-- The fields of the records that `finishEntrant` leaves as they are. -/
@[simp] theorem State.finishEntrant_records (s : State) (i : Slot) (st : FinishStatus) (t : RunTime) (j : Slot) :
    ((s.finishEntrant i st t).entrant j).code = (s.entrant j).code
    ∧ ((s.finishEntrant i st t).entrant j).station = (s.entrant j).station
    ∧ ((s.finishEntrant i st t).entrant j).lane = (s.entrant j).lane
    ∧ ((s.finishEntrant i st t).entrant j).pitStatus = (s.entrant j).pitStatus
    ∧ ((s.finishEntrant i st t).entrant j).pitEntry = (s.entrant j).pitEntry
    ∧ ((s.finishEntrant i st t).entrant j).boxArrival = (s.entrant j).boxArrival
    ∧ ((s.finishEntrant i st t).entrant j).boxVisited = (s.entrant j).boxVisited
    ∧ ((s.finishEntrant i st t).entrant j).pitStops = (s.entrant j).pitStops
    ∧ ((s.finishEntrant i st t).entrant j).latestCrossing = (s.entrant j).latestCrossing
    ∧ ((s.finishEntrant i st t).entrant j).prevCrossing = (s.entrant j).prevCrossing
    ∧ ((s.finishEntrant i st t).entrant j).reachTime = (s.entrant j).reachTime
    ∧ ((s.finishEntrant i st t).entrant j).lastLap = (s.entrant j).lastLap
    ∧ ((s.finishEntrant i st t).entrant j).lastLapMarks = (s.entrant j).lastLapMarks
    ∧ ((s.finishEntrant i st t).entrant j).bestLap = (s.entrant j).bestLap
    ∧ ((s.finishEntrant i st t).entrant j).sector = (s.entrant j).sector
    ∧ ((s.finishEntrant i st t).entrant j).currentSectors = (s.entrant j).currentSectors
    ∧ ((s.finishEntrant i st t).entrant j).lastSectors = (s.entrant j).lastSectors
    ∧ ((s.finishEntrant i st t).entrant j).lastBoundary = (s.entrant j).lastBoundary
    ∧ ((s.finishEntrant i st t).entrant j).gap = (s.entrant j).gap
    ∧ ((s.finishEntrant i st t).entrant j).lapsDown = (s.entrant j).lapsDown
    ∧ ((s.finishEntrant i st t).entrant j).latestPass = (s.entrant j).latestPass
    ∧ ((s.finishEntrant i st t).entrant j).jumpStart = (s.entrant j).jumpStart
    ∧ ((s.finishEntrant i st t).entrant j).callsUsed = (s.entrant j).callsUsed
    ∧ ((s.finishEntrant i st t).entrant j).override = (s.entrant j).override
    ∧ ((s.finishEntrant i st t).entrant j).blackFlag = (s.entrant j).blackFlag := by
  refine ⟨?_, ?_, ?_, ?_, ?_, ?_, ?_, ?_, ?_, ?_, ?_, ?_, ?_, ?_, ?_, ?_, ?_, ?_, ?_, ?_, ?_, ?_, ?_, ?_, ?_⟩ <;>
    (unfold State.finishEntrant; (try dsimp only) <;> ((repeat' split) <;> (try simp [State.entrant_modEntrant, State.entrant_mk, State.entrants_getElem]) <;> (try (split <;> simp_all))))

/-- What `finishAll` leaves as it is. -/
@[simp] theorem State.finishAll_frame (s : State) (t : RunTime) :
    (s.finishAll t).cfg = s.cfg ∧ (s.finishAll t).gates = s.gates ∧ (s.finishAll t).testStart = s.testStart
    ∧ (s.finishAll t).resolver = s.resolver ∧ (s.finishAll t).ring = s.ring ∧ (s.finishAll t).highMark = s.highMark
    ∧ (s.finishAll t).race.raceClock = s.race.raceClock ∧ (s.finishAll t).race.state = s.race.state
    ∧ (s.finishAll t).race.resume = s.race.resume ∧ (s.finishAll t).race.suspStart = s.race.suspStart
    ∧ (s.finishAll t).race.suspTotal = s.race.suspTotal ∧ (s.finishAll t).race.green = s.race.green
    ∧ (s.finishAll t).race.runningClock = s.race.runningClock ∧ (s.finishAll t).race.countdown = s.race.countdown
    ∧ (s.finishAll t).race.finishDeadline = s.race.finishDeadline ∧ (s.finishAll t).race.yellow = s.race.yellow
    ∧ (s.finishAll t).race.powerSetting = s.race.powerSetting ∧ (s.finishAll t).callTable = s.callTable
    ∧ (s.finishAll t).ceiling.sender = s.ceiling.sender ∧ (s.finishAll t).ceiling.paused = s.ceiling.paused
    ∧ (s.finishAll t).ceiling.holdStart = s.ceiling.holdStart
    ∧ (s.finishAll t).ceiling.nextRefresh = s.ceiling.nextRefresh ∧ (s.finishAll t).inputs = s.inputs
    ∧ (s.finishAll t).attention = s.attention ∧ (s.finishAll t).link = s.link ∧ (s.finishAll t).pins = s.pins
    ∧ (s.finishAll t).pending = s.pending := by
  unfold State.finishAll State.forSlots
  induction allSlots generalizing s with
  | nil => exact ⟨rfl, rfl, rfl, rfl, rfl, rfl, rfl, rfl, rfl, rfl, rfl, rfl, rfl, rfl, rfl, rfl, rfl, rfl, rfl, rfl, rfl, rfl, rfl, rfl, rfl, rfl, rfl⟩
  | cons x l ih =>
    simp only [List.foldl_cons, ih]
    refine ⟨?_, ?_, ?_, ?_, ?_, ?_, ?_, ?_, ?_, ?_, ?_, ?_, ?_, ?_, ?_, ?_, ?_, ?_, ?_, ?_, ?_, ?_, ?_, ?_, ?_, ?_, ?_⟩ <;> ((repeat' split) <;> (try simp))

@[simp] theorem State.finishAll_gate (s : State) (t : RunTime) (n : GateNo) :
    (s.finishAll t).gate n = s.gate n := State.gate_congr (by simp) n

/-- The fields of the records that `finishAll` leaves as they are. -/
@[simp] theorem State.finishAll_records (s : State) (t : RunTime) (j : Slot) :
    ((s.finishAll t).entrant j).code = (s.entrant j).code
    ∧ ((s.finishAll t).entrant j).station = (s.entrant j).station
    ∧ ((s.finishAll t).entrant j).lane = (s.entrant j).lane
    ∧ ((s.finishAll t).entrant j).pitStatus = (s.entrant j).pitStatus
    ∧ ((s.finishAll t).entrant j).pitEntry = (s.entrant j).pitEntry
    ∧ ((s.finishAll t).entrant j).boxArrival = (s.entrant j).boxArrival
    ∧ ((s.finishAll t).entrant j).boxVisited = (s.entrant j).boxVisited
    ∧ ((s.finishAll t).entrant j).pitStops = (s.entrant j).pitStops
    ∧ ((s.finishAll t).entrant j).latestCrossing = (s.entrant j).latestCrossing
    ∧ ((s.finishAll t).entrant j).prevCrossing = (s.entrant j).prevCrossing
    ∧ ((s.finishAll t).entrant j).reachTime = (s.entrant j).reachTime
    ∧ ((s.finishAll t).entrant j).lastLap = (s.entrant j).lastLap
    ∧ ((s.finishAll t).entrant j).lastLapMarks = (s.entrant j).lastLapMarks
    ∧ ((s.finishAll t).entrant j).bestLap = (s.entrant j).bestLap
    ∧ ((s.finishAll t).entrant j).sector = (s.entrant j).sector
    ∧ ((s.finishAll t).entrant j).currentSectors = (s.entrant j).currentSectors
    ∧ ((s.finishAll t).entrant j).lastSectors = (s.entrant j).lastSectors
    ∧ ((s.finishAll t).entrant j).lastBoundary = (s.entrant j).lastBoundary
    ∧ ((s.finishAll t).entrant j).gap = (s.entrant j).gap
    ∧ ((s.finishAll t).entrant j).lapsDown = (s.entrant j).lapsDown
    ∧ ((s.finishAll t).entrant j).latestPass = (s.entrant j).latestPass
    ∧ ((s.finishAll t).entrant j).jumpStart = (s.entrant j).jumpStart
    ∧ ((s.finishAll t).entrant j).callsUsed = (s.entrant j).callsUsed
    ∧ ((s.finishAll t).entrant j).override = (s.entrant j).override
    ∧ ((s.finishAll t).entrant j).blackFlag = (s.entrant j).blackFlag := by
  unfold State.finishAll State.forSlots
  induction allSlots generalizing s with
  | nil => exact ⟨rfl, rfl, rfl, rfl, rfl, rfl, rfl, rfl, rfl, rfl, rfl, rfl, rfl, rfl, rfl, rfl, rfl, rfl, rfl, rfl, rfl, rfl, rfl, rfl, rfl⟩
  | cons x l ih =>
    simp only [List.foldl_cons, ih]
    refine ⟨?_, ?_, ?_, ?_, ?_, ?_, ?_, ?_, ?_, ?_, ?_, ?_, ?_, ?_, ?_, ?_, ?_, ?_, ?_, ?_, ?_, ?_, ?_, ?_, ?_⟩ <;> ((repeat' split) <;> (try simp [State.entrant_modEntrant, State.entrant_mk, State.entrants_getElem]) <;> (try (split <;> simp_all)))

/-- What `complete` leaves as it is. -/
@[simp] theorem State.complete_frame (s : State) :
    (s.complete).cfg = s.cfg ∧ (s.complete).gates = s.gates ∧ (s.complete).testStart = s.testStart
    ∧ (s.complete).resolver = s.resolver ∧ (s.complete).ring = s.ring ∧ (s.complete).highMark = s.highMark
    ∧ (s.complete).standings = s.standings ∧ (s.complete).race.raceClock = s.race.raceClock
    ∧ (s.complete).race.suspTotal = s.race.suspTotal ∧ (s.complete).race.green = s.race.green
    ∧ (s.complete).race.runningClock = s.race.runningClock ∧ (s.complete).race.countdown = s.race.countdown
    ∧ (s.complete).race.yellow = s.race.yellow ∧ (s.complete).race.caution = s.race.caution
    ∧ (s.complete).race.powerSetting = s.race.powerSetting ∧ (s.complete).callTable = s.callTable
    ∧ (s.complete).ceiling.sender = s.ceiling.sender ∧ (s.complete).ceiling.paused = s.ceiling.paused
    ∧ (s.complete).ceiling.nextRefresh = s.ceiling.nextRefresh ∧ (s.complete).inputs = s.inputs
    ∧ (s.complete).attention.suspended = s.attention.suspended ∧ (s.complete).attention.test = s.attention.test
    ∧ (s.complete).attention.mask = s.attention.mask ∧ (s.complete).link = s.link ∧ (s.complete).pins = s.pins
    ∧ (s.complete).pending = s.pending := by
  refine ⟨?_, ?_, ?_, ?_, ?_, ?_, ?_, ?_, ?_, ?_, ?_, ?_, ?_, ?_, ?_, ?_, ?_, ?_, ?_, ?_, ?_, ?_, ?_, ?_, ?_, ?_⟩ <;>
    (unfold State.complete; (try dsimp only) <;> ((repeat' split) <;> (try simp)))

@[simp] theorem State.complete_gate (s : State) (n : GateNo) :
    (s.complete).gate n = s.gate n := State.gate_congr (by simp) n

/-- The fields of the records that `complete` leaves as they are. -/
@[simp] theorem State.complete_records (s : State) (j : Slot) :
    ((s.complete).entrant j).code = (s.entrant j).code ∧ ((s.complete).entrant j).state = (s.entrant j).state
    ∧ ((s.complete).entrant j).station = (s.entrant j).station ∧ ((s.complete).entrant j).lane = (s.entrant j).lane
    ∧ ((s.complete).entrant j).pitStatus = (s.entrant j).pitStatus
    ∧ ((s.complete).entrant j).pitEntry = (s.entrant j).pitEntry
    ∧ ((s.complete).entrant j).boxArrival = (s.entrant j).boxArrival
    ∧ ((s.complete).entrant j).boxVisited = (s.entrant j).boxVisited
    ∧ ((s.complete).entrant j).pitStops = (s.entrant j).pitStops
    ∧ ((s.complete).entrant j).laps = (s.entrant j).laps
    ∧ ((s.complete).entrant j).latestCrossing = (s.entrant j).latestCrossing
    ∧ ((s.complete).entrant j).prevCrossing = (s.entrant j).prevCrossing
    ∧ ((s.complete).entrant j).reachTime = (s.entrant j).reachTime
    ∧ ((s.complete).entrant j).lastLap = (s.entrant j).lastLap
    ∧ ((s.complete).entrant j).lastLapMarks = (s.entrant j).lastLapMarks
    ∧ ((s.complete).entrant j).bestLap = (s.entrant j).bestLap
    ∧ ((s.complete).entrant j).sector = (s.entrant j).sector
    ∧ ((s.complete).entrant j).currentSectors = (s.entrant j).currentSectors
    ∧ ((s.complete).entrant j).lastSectors = (s.entrant j).lastSectors
    ∧ ((s.complete).entrant j).lastBoundary = (s.entrant j).lastBoundary
    ∧ ((s.complete).entrant j).lapCaution = (s.entrant j).lapCaution
    ∧ ((s.complete).entrant j).gap = (s.entrant j).gap ∧ ((s.complete).entrant j).lapsDown = (s.entrant j).lapsDown
    ∧ ((s.complete).entrant j).latestPass = (s.entrant j).latestPass
    ∧ ((s.complete).entrant j).deadline = (s.entrant j).deadline
    ∧ ((s.complete).entrant j).overdue = (s.entrant j).overdue
    ∧ ((s.complete).entrant j).jumpStart = (s.entrant j).jumpStart
    ∧ ((s.complete).entrant j).callsUsed = (s.entrant j).callsUsed
    ∧ ((s.complete).entrant j).override = (s.entrant j).override
    ∧ ((s.complete).entrant j).activity = (s.entrant j).activity
    ∧ ((s.complete).entrant j).finishStatus = (s.entrant j).finishStatus
    ∧ ((s.complete).entrant j).finishTime = (s.entrant j).finishTime
    ∧ ((s.complete).entrant j).penalties = (s.entrant j).penalties
    ∧ ((s.complete).entrant j).holdTimer = (s.entrant j).holdTimer
    ∧ ((s.complete).entrant j).powerHold = (s.entrant j).powerHold
    ∧ ((s.complete).entrant j).blackFlag = (s.entrant j).blackFlag := by
  refine ⟨?_, ?_, ?_, ?_, ?_, ?_, ?_, ?_, ?_, ?_, ?_, ?_, ?_, ?_, ?_, ?_, ?_, ?_, ?_, ?_, ?_, ?_, ?_, ?_, ?_, ?_, ?_, ?_, ?_, ?_, ?_, ?_, ?_, ?_, ?_, ?_⟩ <;>
    (unfold State.complete; (try dsimp only) <;> ((repeat' split) <;> (try simp [State.entrant_modEntrant, State.entrant_mk, State.entrants_getElem]) <;> (try (split <;> simp_all))))

/-- What `checkFinished` leaves as it is. -/
@[simp] theorem State.checkFinished_frame (s : State) :
    (s.checkFinished).cfg = s.cfg ∧ (s.checkFinished).gates = s.gates ∧ (s.checkFinished).testStart = s.testStart
    ∧ (s.checkFinished).resolver = s.resolver ∧ (s.checkFinished).ring = s.ring
    ∧ (s.checkFinished).highMark = s.highMark ∧ (s.checkFinished).standings = s.standings
    ∧ (s.checkFinished).race.raceClock = s.race.raceClock ∧ (s.checkFinished).race.suspTotal = s.race.suspTotal
    ∧ (s.checkFinished).race.green = s.race.green ∧ (s.checkFinished).race.runningClock = s.race.runningClock
    ∧ (s.checkFinished).race.countdown = s.race.countdown ∧ (s.checkFinished).race.yellow = s.race.yellow
    ∧ (s.checkFinished).race.caution = s.race.caution ∧ (s.checkFinished).race.powerSetting = s.race.powerSetting
    ∧ (s.checkFinished).callTable = s.callTable ∧ (s.checkFinished).ceiling.sender = s.ceiling.sender
    ∧ (s.checkFinished).ceiling.paused = s.ceiling.paused
    ∧ (s.checkFinished).ceiling.nextRefresh = s.ceiling.nextRefresh ∧ (s.checkFinished).inputs = s.inputs
    ∧ (s.checkFinished).attention.suspended = s.attention.suspended
    ∧ (s.checkFinished).attention.test = s.attention.test ∧ (s.checkFinished).attention.mask = s.attention.mask
    ∧ (s.checkFinished).link = s.link ∧ (s.checkFinished).pins = s.pins ∧ (s.checkFinished).pending = s.pending := by
  refine ⟨?_, ?_, ?_, ?_, ?_, ?_, ?_, ?_, ?_, ?_, ?_, ?_, ?_, ?_, ?_, ?_, ?_, ?_, ?_, ?_, ?_, ?_, ?_, ?_, ?_, ?_⟩ <;>
    (unfold State.checkFinished; (try dsimp only) <;> ((repeat' split) <;> (try simp)))

@[simp] theorem State.checkFinished_gate (s : State) (n : GateNo) :
    (s.checkFinished).gate n = s.gate n := State.gate_congr (by simp) n

/-- The fields of the records that `checkFinished` leaves as they are. -/
@[simp] theorem State.checkFinished_records (s : State) (j : Slot) :
    ((s.checkFinished).entrant j).code = (s.entrant j).code
    ∧ ((s.checkFinished).entrant j).state = (s.entrant j).state
    ∧ ((s.checkFinished).entrant j).station = (s.entrant j).station
    ∧ ((s.checkFinished).entrant j).lane = (s.entrant j).lane
    ∧ ((s.checkFinished).entrant j).pitStatus = (s.entrant j).pitStatus
    ∧ ((s.checkFinished).entrant j).pitEntry = (s.entrant j).pitEntry
    ∧ ((s.checkFinished).entrant j).boxArrival = (s.entrant j).boxArrival
    ∧ ((s.checkFinished).entrant j).boxVisited = (s.entrant j).boxVisited
    ∧ ((s.checkFinished).entrant j).pitStops = (s.entrant j).pitStops
    ∧ ((s.checkFinished).entrant j).laps = (s.entrant j).laps
    ∧ ((s.checkFinished).entrant j).latestCrossing = (s.entrant j).latestCrossing
    ∧ ((s.checkFinished).entrant j).prevCrossing = (s.entrant j).prevCrossing
    ∧ ((s.checkFinished).entrant j).reachTime = (s.entrant j).reachTime
    ∧ ((s.checkFinished).entrant j).lastLap = (s.entrant j).lastLap
    ∧ ((s.checkFinished).entrant j).lastLapMarks = (s.entrant j).lastLapMarks
    ∧ ((s.checkFinished).entrant j).bestLap = (s.entrant j).bestLap
    ∧ ((s.checkFinished).entrant j).sector = (s.entrant j).sector
    ∧ ((s.checkFinished).entrant j).currentSectors = (s.entrant j).currentSectors
    ∧ ((s.checkFinished).entrant j).lastSectors = (s.entrant j).lastSectors
    ∧ ((s.checkFinished).entrant j).lastBoundary = (s.entrant j).lastBoundary
    ∧ ((s.checkFinished).entrant j).lapCaution = (s.entrant j).lapCaution
    ∧ ((s.checkFinished).entrant j).gap = (s.entrant j).gap
    ∧ ((s.checkFinished).entrant j).lapsDown = (s.entrant j).lapsDown
    ∧ ((s.checkFinished).entrant j).latestPass = (s.entrant j).latestPass
    ∧ ((s.checkFinished).entrant j).deadline = (s.entrant j).deadline
    ∧ ((s.checkFinished).entrant j).overdue = (s.entrant j).overdue
    ∧ ((s.checkFinished).entrant j).jumpStart = (s.entrant j).jumpStart
    ∧ ((s.checkFinished).entrant j).callsUsed = (s.entrant j).callsUsed
    ∧ ((s.checkFinished).entrant j).override = (s.entrant j).override
    ∧ ((s.checkFinished).entrant j).activity = (s.entrant j).activity
    ∧ ((s.checkFinished).entrant j).finishStatus = (s.entrant j).finishStatus
    ∧ ((s.checkFinished).entrant j).finishTime = (s.entrant j).finishTime
    ∧ ((s.checkFinished).entrant j).penalties = (s.entrant j).penalties
    ∧ ((s.checkFinished).entrant j).holdTimer = (s.entrant j).holdTimer
    ∧ ((s.checkFinished).entrant j).powerHold = (s.entrant j).powerHold
    ∧ ((s.checkFinished).entrant j).blackFlag = (s.entrant j).blackFlag := by
  refine ⟨?_, ?_, ?_, ?_, ?_, ?_, ?_, ?_, ?_, ?_, ?_, ?_, ?_, ?_, ?_, ?_, ?_, ?_, ?_, ?_, ?_, ?_, ?_, ?_, ?_, ?_, ?_, ?_, ?_, ?_, ?_, ?_, ?_, ?_, ?_, ?_⟩ <;>
    (unfold State.checkFinished; (try dsimp only) <;> ((repeat' split) <;> (try simp [State.entrant_modEntrant, State.entrant_mk, State.entrants_getElem]) <;> (try (split <;> simp_all))))

/-- What `enterFinishing` leaves as it is. -/
@[simp] theorem State.enterFinishing_frame (s : State) :
    (s.enterFinishing).cfg = s.cfg ∧ (s.enterFinishing).gates = s.gates
    ∧ (s.enterFinishing).testStart = s.testStart ∧ (s.enterFinishing).resolver = s.resolver
    ∧ (s.enterFinishing).ring = s.ring ∧ (s.enterFinishing).highMark = s.highMark
    ∧ (s.enterFinishing).standings = s.standings ∧ (s.enterFinishing).race.raceClock = s.race.raceClock
    ∧ (s.enterFinishing).race.suspTotal = s.race.suspTotal ∧ (s.enterFinishing).race.green = s.race.green
    ∧ (s.enterFinishing).race.runningClock = s.race.runningClock
    ∧ (s.enterFinishing).race.countdown = s.race.countdown ∧ (s.enterFinishing).race.yellow = s.race.yellow
    ∧ (s.enterFinishing).race.caution = s.race.caution ∧ (s.enterFinishing).race.powerSetting = s.race.powerSetting
    ∧ (s.enterFinishing).callTable = s.callTable ∧ (s.enterFinishing).ceiling.sender = s.ceiling.sender
    ∧ (s.enterFinishing).ceiling.paused = s.ceiling.paused
    ∧ (s.enterFinishing).ceiling.nextRefresh = s.ceiling.nextRefresh ∧ (s.enterFinishing).inputs = s.inputs
    ∧ (s.enterFinishing).attention.suspended = s.attention.suspended
    ∧ (s.enterFinishing).attention.test = s.attention.test ∧ (s.enterFinishing).attention.mask = s.attention.mask
    ∧ (s.enterFinishing).link = s.link ∧ (s.enterFinishing).pins = s.pins ∧ (s.enterFinishing).pending = s.pending := by
  refine ⟨?_, ?_, ?_, ?_, ?_, ?_, ?_, ?_, ?_, ?_, ?_, ?_, ?_, ?_, ?_, ?_, ?_, ?_, ?_, ?_, ?_, ?_, ?_, ?_, ?_, ?_⟩ <;>
    (unfold State.enterFinishing; (try dsimp only) <;> ((repeat' split) <;> (try simp)))

@[simp] theorem State.enterFinishing_gate (s : State) (n : GateNo) :
    (s.enterFinishing).gate n = s.gate n := State.gate_congr (by simp) n

/-- The fields of the records that `enterFinishing` leaves as they are. -/
@[simp] theorem State.enterFinishing_records (s : State) (j : Slot) :
    ((s.enterFinishing).entrant j).code = (s.entrant j).code
    ∧ ((s.enterFinishing).entrant j).state = (s.entrant j).state
    ∧ ((s.enterFinishing).entrant j).station = (s.entrant j).station
    ∧ ((s.enterFinishing).entrant j).lane = (s.entrant j).lane
    ∧ ((s.enterFinishing).entrant j).pitStatus = (s.entrant j).pitStatus
    ∧ ((s.enterFinishing).entrant j).pitEntry = (s.entrant j).pitEntry
    ∧ ((s.enterFinishing).entrant j).boxArrival = (s.entrant j).boxArrival
    ∧ ((s.enterFinishing).entrant j).boxVisited = (s.entrant j).boxVisited
    ∧ ((s.enterFinishing).entrant j).pitStops = (s.entrant j).pitStops
    ∧ ((s.enterFinishing).entrant j).laps = (s.entrant j).laps
    ∧ ((s.enterFinishing).entrant j).latestCrossing = (s.entrant j).latestCrossing
    ∧ ((s.enterFinishing).entrant j).prevCrossing = (s.entrant j).prevCrossing
    ∧ ((s.enterFinishing).entrant j).reachTime = (s.entrant j).reachTime
    ∧ ((s.enterFinishing).entrant j).lastLap = (s.entrant j).lastLap
    ∧ ((s.enterFinishing).entrant j).lastLapMarks = (s.entrant j).lastLapMarks
    ∧ ((s.enterFinishing).entrant j).bestLap = (s.entrant j).bestLap
    ∧ ((s.enterFinishing).entrant j).sector = (s.entrant j).sector
    ∧ ((s.enterFinishing).entrant j).currentSectors = (s.entrant j).currentSectors
    ∧ ((s.enterFinishing).entrant j).lastSectors = (s.entrant j).lastSectors
    ∧ ((s.enterFinishing).entrant j).lastBoundary = (s.entrant j).lastBoundary
    ∧ ((s.enterFinishing).entrant j).lapCaution = (s.entrant j).lapCaution
    ∧ ((s.enterFinishing).entrant j).gap = (s.entrant j).gap
    ∧ ((s.enterFinishing).entrant j).lapsDown = (s.entrant j).lapsDown
    ∧ ((s.enterFinishing).entrant j).latestPass = (s.entrant j).latestPass
    ∧ ((s.enterFinishing).entrant j).deadline = (s.entrant j).deadline
    ∧ ((s.enterFinishing).entrant j).overdue = (s.entrant j).overdue
    ∧ ((s.enterFinishing).entrant j).jumpStart = (s.entrant j).jumpStart
    ∧ ((s.enterFinishing).entrant j).callsUsed = (s.entrant j).callsUsed
    ∧ ((s.enterFinishing).entrant j).override = (s.entrant j).override
    ∧ ((s.enterFinishing).entrant j).activity = (s.entrant j).activity
    ∧ ((s.enterFinishing).entrant j).finishStatus = (s.entrant j).finishStatus
    ∧ ((s.enterFinishing).entrant j).finishTime = (s.entrant j).finishTime
    ∧ ((s.enterFinishing).entrant j).penalties = (s.entrant j).penalties
    ∧ ((s.enterFinishing).entrant j).holdTimer = (s.entrant j).holdTimer
    ∧ ((s.enterFinishing).entrant j).powerHold = (s.entrant j).powerHold
    ∧ ((s.enterFinishing).entrant j).blackFlag = (s.entrant j).blackFlag := by
  refine ⟨?_, ?_, ?_, ?_, ?_, ?_, ?_, ?_, ?_, ?_, ?_, ?_, ?_, ?_, ?_, ?_, ?_, ?_, ?_, ?_, ?_, ?_, ?_, ?_, ?_, ?_, ?_, ?_, ?_, ?_, ?_, ?_, ?_, ?_, ?_, ?_⟩ <;>
    (unfold State.enterFinishing; (try dsimp only) <;> ((repeat' split) <;> (try simp [State.entrant_modEntrant, State.entrant_mk, State.entrants_getElem]) <;> (try (split <;> simp_all))))

/-- What `judgeCrossing` leaves as it is. -/
@[simp] theorem State.judgeCrossing_frame (s : State) (i : Slot) (t : RunTime) :
    (s.judgeCrossing i t).cfg = s.cfg ∧ (s.judgeCrossing i t).gates = s.gates
    ∧ (s.judgeCrossing i t).testStart = s.testStart ∧ (s.judgeCrossing i t).resolver = s.resolver
    ∧ (s.judgeCrossing i t).ring = s.ring ∧ (s.judgeCrossing i t).highMark = s.highMark
    ∧ (s.judgeCrossing i t).race.raceClock = s.race.raceClock
    ∧ (s.judgeCrossing i t).race.suspTotal = s.race.suspTotal ∧ (s.judgeCrossing i t).race.green = s.race.green
    ∧ (s.judgeCrossing i t).race.runningClock = s.race.runningClock
    ∧ (s.judgeCrossing i t).race.countdown = s.race.countdown ∧ (s.judgeCrossing i t).race.yellow = s.race.yellow
    ∧ (s.judgeCrossing i t).race.powerSetting = s.race.powerSetting ∧ (s.judgeCrossing i t).callTable = s.callTable
    ∧ (s.judgeCrossing i t).ceiling.sender = s.ceiling.sender
    ∧ (s.judgeCrossing i t).ceiling.paused = s.ceiling.paused
    ∧ (s.judgeCrossing i t).ceiling.nextRefresh = s.ceiling.nextRefresh ∧ (s.judgeCrossing i t).inputs = s.inputs
    ∧ (s.judgeCrossing i t).attention.suspended = s.attention.suspended
    ∧ (s.judgeCrossing i t).attention.test = s.attention.test
    ∧ (s.judgeCrossing i t).attention.mask = s.attention.mask ∧ (s.judgeCrossing i t).link = s.link
    ∧ (s.judgeCrossing i t).pins = s.pins ∧ (s.judgeCrossing i t).pending = s.pending := by
  refine ⟨?_, ?_, ?_, ?_, ?_, ?_, ?_, ?_, ?_, ?_, ?_, ?_, ?_, ?_, ?_, ?_, ?_, ?_, ?_, ?_, ?_, ?_, ?_, ?_⟩ <;>
    (unfold State.judgeCrossing; (try dsimp only) <;> ((repeat' split) <;> (try simp)))

@[simp] theorem State.judgeCrossing_gate (s : State) (i : Slot) (t : RunTime) (n : GateNo) :
    (s.judgeCrossing i t).gate n = s.gate n := State.gate_congr (by simp) n

/-- The fields of the records that `judgeCrossing` leaves as they are. -/
@[simp] theorem State.judgeCrossing_records (s : State) (i : Slot) (t : RunTime) (j : Slot) :
    ((s.judgeCrossing i t).entrant j).code = (s.entrant j).code
    ∧ ((s.judgeCrossing i t).entrant j).station = (s.entrant j).station
    ∧ ((s.judgeCrossing i t).entrant j).lane = (s.entrant j).lane
    ∧ ((s.judgeCrossing i t).entrant j).pitStatus = (s.entrant j).pitStatus
    ∧ ((s.judgeCrossing i t).entrant j).pitEntry = (s.entrant j).pitEntry
    ∧ ((s.judgeCrossing i t).entrant j).boxArrival = (s.entrant j).boxArrival
    ∧ ((s.judgeCrossing i t).entrant j).boxVisited = (s.entrant j).boxVisited
    ∧ ((s.judgeCrossing i t).entrant j).pitStops = (s.entrant j).pitStops
    ∧ ((s.judgeCrossing i t).entrant j).latestCrossing = (s.entrant j).latestCrossing
    ∧ ((s.judgeCrossing i t).entrant j).prevCrossing = (s.entrant j).prevCrossing
    ∧ ((s.judgeCrossing i t).entrant j).reachTime = (s.entrant j).reachTime
    ∧ ((s.judgeCrossing i t).entrant j).lastLap = (s.entrant j).lastLap
    ∧ ((s.judgeCrossing i t).entrant j).lastLapMarks = (s.entrant j).lastLapMarks
    ∧ ((s.judgeCrossing i t).entrant j).bestLap = (s.entrant j).bestLap
    ∧ ((s.judgeCrossing i t).entrant j).sector = (s.entrant j).sector
    ∧ ((s.judgeCrossing i t).entrant j).currentSectors = (s.entrant j).currentSectors
    ∧ ((s.judgeCrossing i t).entrant j).lastSectors = (s.entrant j).lastSectors
    ∧ ((s.judgeCrossing i t).entrant j).lastBoundary = (s.entrant j).lastBoundary
    ∧ ((s.judgeCrossing i t).entrant j).gap = (s.entrant j).gap
    ∧ ((s.judgeCrossing i t).entrant j).lapsDown = (s.entrant j).lapsDown
    ∧ ((s.judgeCrossing i t).entrant j).latestPass = (s.entrant j).latestPass
    ∧ ((s.judgeCrossing i t).entrant j).jumpStart = (s.entrant j).jumpStart
    ∧ ((s.judgeCrossing i t).entrant j).callsUsed = (s.entrant j).callsUsed
    ∧ ((s.judgeCrossing i t).entrant j).override = (s.entrant j).override
    ∧ ((s.judgeCrossing i t).entrant j).blackFlag = (s.entrant j).blackFlag := by
  refine ⟨?_, ?_, ?_, ?_, ?_, ?_, ?_, ?_, ?_, ?_, ?_, ?_, ?_, ?_, ?_, ?_, ?_, ?_, ?_, ?_, ?_, ?_, ?_, ?_, ?_⟩ <;>
    (unfold State.judgeCrossing; (try dsimp only) <;> ((repeat' split) <;> (try simp [State.entrant_modEntrant, State.entrant_mk, State.entrants_getElem]) <;> (try (split <;> simp_all))))

/-- What `endRace` leaves as it is. -/
@[simp] theorem State.endRace_frame (s : State) (t : RunTime) :
    (s.endRace t).cfg = s.cfg ∧ (s.endRace t).gates = s.gates ∧ (s.endRace t).testStart = s.testStart
    ∧ (s.endRace t).resolver = s.resolver ∧ (s.endRace t).ring = s.ring ∧ (s.endRace t).highMark = s.highMark
    ∧ (s.endRace t).race.raceClock = s.race.raceClock ∧ (s.endRace t).race.suspTotal = s.race.suspTotal
    ∧ (s.endRace t).race.green = s.race.green ∧ (s.endRace t).race.runningClock = s.race.runningClock
    ∧ (s.endRace t).race.countdown = s.race.countdown ∧ (s.endRace t).race.yellow = s.race.yellow
    ∧ (s.endRace t).race.powerSetting = s.race.powerSetting ∧ (s.endRace t).callTable = s.callTable
    ∧ (s.endRace t).ceiling.sender = s.ceiling.sender ∧ (s.endRace t).ceiling.paused = s.ceiling.paused
    ∧ (s.endRace t).ceiling.nextRefresh = s.ceiling.nextRefresh ∧ (s.endRace t).inputs = s.inputs
    ∧ (s.endRace t).attention.suspended = s.attention.suspended ∧ (s.endRace t).attention.test = s.attention.test
    ∧ (s.endRace t).attention.mask = s.attention.mask ∧ (s.endRace t).link = s.link ∧ (s.endRace t).pins = s.pins
    ∧ (s.endRace t).pending = s.pending := by
  refine ⟨?_, ?_, ?_, ?_, ?_, ?_, ?_, ?_, ?_, ?_, ?_, ?_, ?_, ?_, ?_, ?_, ?_, ?_, ?_, ?_, ?_, ?_, ?_, ?_⟩ <;>
    (unfold State.endRace; (try dsimp only) <;> ((repeat' split) <;> (try simp)))

@[simp] theorem State.endRace_gate (s : State) (t : RunTime) (n : GateNo) :
    (s.endRace t).gate n = s.gate n := State.gate_congr (by simp) n

/-- The fields of the records that `endRace` leaves as they are. -/
@[simp] theorem State.endRace_records (s : State) (t : RunTime) (j : Slot) :
    ((s.endRace t).entrant j).code = (s.entrant j).code ∧ ((s.endRace t).entrant j).station = (s.entrant j).station
    ∧ ((s.endRace t).entrant j).lane = (s.entrant j).lane
    ∧ ((s.endRace t).entrant j).pitStatus = (s.entrant j).pitStatus
    ∧ ((s.endRace t).entrant j).pitEntry = (s.entrant j).pitEntry
    ∧ ((s.endRace t).entrant j).boxArrival = (s.entrant j).boxArrival
    ∧ ((s.endRace t).entrant j).boxVisited = (s.entrant j).boxVisited
    ∧ ((s.endRace t).entrant j).pitStops = (s.entrant j).pitStops
    ∧ ((s.endRace t).entrant j).latestCrossing = (s.entrant j).latestCrossing
    ∧ ((s.endRace t).entrant j).prevCrossing = (s.entrant j).prevCrossing
    ∧ ((s.endRace t).entrant j).reachTime = (s.entrant j).reachTime
    ∧ ((s.endRace t).entrant j).lastLap = (s.entrant j).lastLap
    ∧ ((s.endRace t).entrant j).lastLapMarks = (s.entrant j).lastLapMarks
    ∧ ((s.endRace t).entrant j).bestLap = (s.entrant j).bestLap
    ∧ ((s.endRace t).entrant j).sector = (s.entrant j).sector
    ∧ ((s.endRace t).entrant j).currentSectors = (s.entrant j).currentSectors
    ∧ ((s.endRace t).entrant j).lastSectors = (s.entrant j).lastSectors
    ∧ ((s.endRace t).entrant j).lastBoundary = (s.entrant j).lastBoundary
    ∧ ((s.endRace t).entrant j).gap = (s.entrant j).gap
    ∧ ((s.endRace t).entrant j).lapsDown = (s.entrant j).lapsDown
    ∧ ((s.endRace t).entrant j).latestPass = (s.entrant j).latestPass
    ∧ ((s.endRace t).entrant j).jumpStart = (s.entrant j).jumpStart
    ∧ ((s.endRace t).entrant j).callsUsed = (s.entrant j).callsUsed
    ∧ ((s.endRace t).entrant j).override = (s.entrant j).override
    ∧ ((s.endRace t).entrant j).blackFlag = (s.entrant j).blackFlag := by
  refine ⟨?_, ?_, ?_, ?_, ?_, ?_, ?_, ?_, ?_, ?_, ?_, ?_, ?_, ?_, ?_, ?_, ?_, ?_, ?_, ?_, ?_, ?_, ?_, ?_, ?_⟩ <;>
    (unfold State.endRace; (try dsimp only) <;> ((repeat' split) <;> (try simp [State.entrant_modEntrant, State.entrant_mk, State.entrants_getElem]) <;> (try (split <;> simp_all))))

/-- What `zeroLaps` leaves as it is. -/
@[simp] theorem State.zeroLaps_frame (s : State) (i : Slot) :
    (s.zeroLaps i).cfg = s.cfg ∧ (s.zeroLaps i).gates = s.gates ∧ (s.zeroLaps i).testStart = s.testStart
    ∧ (s.zeroLaps i).resolver = s.resolver ∧ (s.zeroLaps i).ring = s.ring ∧ (s.zeroLaps i).highMark = s.highMark
    ∧ (s.zeroLaps i).race = s.race ∧ (s.zeroLaps i).callTable = s.callTable ∧ (s.zeroLaps i).ceiling = s.ceiling
    ∧ (s.zeroLaps i).inputs = s.inputs ∧ (s.zeroLaps i).attention = s.attention ∧ (s.zeroLaps i).link = s.link
    ∧ (s.zeroLaps i).pins = s.pins ∧ (s.zeroLaps i).pending = s.pending := by
  refine ⟨?_, ?_, ?_, ?_, ?_, ?_, ?_, ?_, ?_, ?_, ?_, ?_, ?_, ?_⟩ <;>
    (unfold State.zeroLaps; (try dsimp only) <;> ((repeat' split) <;> (try simp)))

@[simp] theorem State.zeroLaps_gate (s : State) (i : Slot) (n : GateNo) :
    (s.zeroLaps i).gate n = s.gate n := State.gate_congr (by simp) n

/-- The fields of the records that `zeroLaps` leaves as they are. -/
@[simp] theorem State.zeroLaps_records (s : State) (i : Slot) (j : Slot) :
    ((s.zeroLaps i).entrant j).code = (s.entrant j).code ∧ ((s.zeroLaps i).entrant j).state = (s.entrant j).state
    ∧ ((s.zeroLaps i).entrant j).station = (s.entrant j).station
    ∧ ((s.zeroLaps i).entrant j).lane = (s.entrant j).lane
    ∧ ((s.zeroLaps i).entrant j).pitStatus = (s.entrant j).pitStatus
    ∧ ((s.zeroLaps i).entrant j).pitEntry = (s.entrant j).pitEntry
    ∧ ((s.zeroLaps i).entrant j).boxArrival = (s.entrant j).boxArrival
    ∧ ((s.zeroLaps i).entrant j).boxVisited = (s.entrant j).boxVisited
    ∧ ((s.zeroLaps i).entrant j).pitStops = (s.entrant j).pitStops
    ∧ ((s.zeroLaps i).entrant j).latestCrossing = (s.entrant j).latestCrossing
    ∧ ((s.zeroLaps i).entrant j).prevCrossing = (s.entrant j).prevCrossing
    ∧ ((s.zeroLaps i).entrant j).reachTime = (s.entrant j).reachTime
    ∧ ((s.zeroLaps i).entrant j).lastLap = (s.entrant j).lastLap
    ∧ ((s.zeroLaps i).entrant j).lastLapMarks = (s.entrant j).lastLapMarks
    ∧ ((s.zeroLaps i).entrant j).bestLap = (s.entrant j).bestLap
    ∧ ((s.zeroLaps i).entrant j).sector = (s.entrant j).sector
    ∧ ((s.zeroLaps i).entrant j).currentSectors = (s.entrant j).currentSectors
    ∧ ((s.zeroLaps i).entrant j).lastSectors = (s.entrant j).lastSectors
    ∧ ((s.zeroLaps i).entrant j).lastBoundary = (s.entrant j).lastBoundary
    ∧ ((s.zeroLaps i).entrant j).lapCaution = (s.entrant j).lapCaution
    ∧ ((s.zeroLaps i).entrant j).gap = (s.entrant j).gap
    ∧ ((s.zeroLaps i).entrant j).lapsDown = (s.entrant j).lapsDown
    ∧ ((s.zeroLaps i).entrant j).latestPass = (s.entrant j).latestPass
    ∧ ((s.zeroLaps i).entrant j).deadline = (s.entrant j).deadline
    ∧ ((s.zeroLaps i).entrant j).overdue = (s.entrant j).overdue
    ∧ ((s.zeroLaps i).entrant j).jumpStart = (s.entrant j).jumpStart
    ∧ ((s.zeroLaps i).entrant j).callsUsed = (s.entrant j).callsUsed
    ∧ ((s.zeroLaps i).entrant j).override = (s.entrant j).override
    ∧ ((s.zeroLaps i).entrant j).effective = (s.entrant j).effective
    ∧ ((s.zeroLaps i).entrant j).activity = (s.entrant j).activity
    ∧ ((s.zeroLaps i).entrant j).finishStatus = (s.entrant j).finishStatus
    ∧ ((s.zeroLaps i).entrant j).finishTime = (s.entrant j).finishTime
    ∧ ((s.zeroLaps i).entrant j).penalties = (s.entrant j).penalties
    ∧ ((s.zeroLaps i).entrant j).holdTimer = (s.entrant j).holdTimer
    ∧ ((s.zeroLaps i).entrant j).powerHold = (s.entrant j).powerHold
    ∧ ((s.zeroLaps i).entrant j).blackFlag = (s.entrant j).blackFlag := by
  refine ⟨?_, ?_, ?_, ?_, ?_, ?_, ?_, ?_, ?_, ?_, ?_, ?_, ?_, ?_, ?_, ?_, ?_, ?_, ?_, ?_, ?_, ?_, ?_, ?_, ?_, ?_, ?_, ?_, ?_, ?_, ?_, ?_, ?_, ?_, ?_, ?_⟩ <;>
    (unfold State.zeroLaps; (try dsimp only) <;> ((repeat' split) <;> (try simp [State.entrant_modEntrant, State.entrant_mk, State.entrants_getElem]) <;> (try (split <;> simp_all))))

/-- What `firstDeadline` leaves as it is. -/
@[simp] theorem State.firstDeadline_frame (s : State) (i : Slot) :
    (s.firstDeadline i).cfg = s.cfg ∧ (s.firstDeadline i).gates = s.gates
    ∧ (s.firstDeadline i).testStart = s.testStart ∧ (s.firstDeadline i).resolver = s.resolver
    ∧ (s.firstDeadline i).ring = s.ring ∧ (s.firstDeadline i).highMark = s.highMark
    ∧ (s.firstDeadline i).standings = s.standings ∧ (s.firstDeadline i).race = s.race
    ∧ (s.firstDeadline i).callTable = s.callTable ∧ (s.firstDeadline i).ceiling = s.ceiling
    ∧ (s.firstDeadline i).inputs = s.inputs ∧ (s.firstDeadline i).attention = s.attention
    ∧ (s.firstDeadline i).link = s.link ∧ (s.firstDeadline i).pins = s.pins
    ∧ (s.firstDeadline i).pending = s.pending := by
  refine ⟨?_, ?_, ?_, ?_, ?_, ?_, ?_, ?_, ?_, ?_, ?_, ?_, ?_, ?_, ?_⟩ <;>
    (unfold State.firstDeadline; (try dsimp only) <;> ((repeat' split) <;> (try simp)))

@[simp] theorem State.firstDeadline_gate (s : State) (i : Slot) (n : GateNo) :
    (s.firstDeadline i).gate n = s.gate n := State.gate_congr (by simp) n

/-- The fields of the records that `firstDeadline` leaves as they are. -/
@[simp] theorem State.firstDeadline_records (s : State) (i : Slot) (j : Slot) :
    ((s.firstDeadline i).entrant j).code = (s.entrant j).code
    ∧ ((s.firstDeadline i).entrant j).state = (s.entrant j).state
    ∧ ((s.firstDeadline i).entrant j).station = (s.entrant j).station
    ∧ ((s.firstDeadline i).entrant j).lane = (s.entrant j).lane
    ∧ ((s.firstDeadline i).entrant j).pitStatus = (s.entrant j).pitStatus
    ∧ ((s.firstDeadline i).entrant j).pitEntry = (s.entrant j).pitEntry
    ∧ ((s.firstDeadline i).entrant j).boxArrival = (s.entrant j).boxArrival
    ∧ ((s.firstDeadline i).entrant j).boxVisited = (s.entrant j).boxVisited
    ∧ ((s.firstDeadline i).entrant j).pitStops = (s.entrant j).pitStops
    ∧ ((s.firstDeadline i).entrant j).laps = (s.entrant j).laps
    ∧ ((s.firstDeadline i).entrant j).latestCrossing = (s.entrant j).latestCrossing
    ∧ ((s.firstDeadline i).entrant j).prevCrossing = (s.entrant j).prevCrossing
    ∧ ((s.firstDeadline i).entrant j).reachTime = (s.entrant j).reachTime
    ∧ ((s.firstDeadline i).entrant j).lastLap = (s.entrant j).lastLap
    ∧ ((s.firstDeadline i).entrant j).lastLapMarks = (s.entrant j).lastLapMarks
    ∧ ((s.firstDeadline i).entrant j).bestLap = (s.entrant j).bestLap
    ∧ ((s.firstDeadline i).entrant j).sector = (s.entrant j).sector
    ∧ ((s.firstDeadline i).entrant j).currentSectors = (s.entrant j).currentSectors
    ∧ ((s.firstDeadline i).entrant j).lastSectors = (s.entrant j).lastSectors
    ∧ ((s.firstDeadline i).entrant j).lastBoundary = (s.entrant j).lastBoundary
    ∧ ((s.firstDeadline i).entrant j).lapCaution = (s.entrant j).lapCaution
    ∧ ((s.firstDeadline i).entrant j).gap = (s.entrant j).gap
    ∧ ((s.firstDeadline i).entrant j).lapsDown = (s.entrant j).lapsDown
    ∧ ((s.firstDeadline i).entrant j).latestPass = (s.entrant j).latestPass
    ∧ ((s.firstDeadline i).entrant j).overdue = (s.entrant j).overdue
    ∧ ((s.firstDeadline i).entrant j).jumpStart = (s.entrant j).jumpStart
    ∧ ((s.firstDeadline i).entrant j).callsUsed = (s.entrant j).callsUsed
    ∧ ((s.firstDeadline i).entrant j).override = (s.entrant j).override
    ∧ ((s.firstDeadline i).entrant j).effective = (s.entrant j).effective
    ∧ ((s.firstDeadline i).entrant j).activity = (s.entrant j).activity
    ∧ ((s.firstDeadline i).entrant j).finishStatus = (s.entrant j).finishStatus
    ∧ ((s.firstDeadline i).entrant j).finishTime = (s.entrant j).finishTime
    ∧ ((s.firstDeadline i).entrant j).penalties = (s.entrant j).penalties
    ∧ ((s.firstDeadline i).entrant j).holdTimer = (s.entrant j).holdTimer
    ∧ ((s.firstDeadline i).entrant j).powerHold = (s.entrant j).powerHold
    ∧ ((s.firstDeadline i).entrant j).blackFlag = (s.entrant j).blackFlag := by
  refine ⟨?_, ?_, ?_, ?_, ?_, ?_, ?_, ?_, ?_, ?_, ?_, ?_, ?_, ?_, ?_, ?_, ?_, ?_, ?_, ?_, ?_, ?_, ?_, ?_, ?_, ?_, ?_, ?_, ?_, ?_, ?_, ?_, ?_, ?_, ?_, ?_⟩ <;>
    (unfold State.firstDeadline; (try dsimp only) <;> ((repeat' split) <;> (try simp [State.entrant_modEntrant, State.entrant_mk, State.entrants_getElem]) <;> (try (split <;> simp_all))))

/-- What `reportJumpStart` leaves as it is. -/
@[simp] theorem State.reportJumpStart_frame (s : State) (i : Slot) (mk : Bool) :
    (s.reportJumpStart i mk).cfg = s.cfg ∧ (s.reportJumpStart i mk).gates = s.gates
    ∧ (s.reportJumpStart i mk).testStart = s.testStart ∧ (s.reportJumpStart i mk).resolver = s.resolver
    ∧ (s.reportJumpStart i mk).ring = s.ring ∧ (s.reportJumpStart i mk).highMark = s.highMark
    ∧ (s.reportJumpStart i mk).race = s.race ∧ (s.reportJumpStart i mk).callTable = s.callTable
    ∧ (s.reportJumpStart i mk).ceiling.sender = s.ceiling.sender
    ∧ (s.reportJumpStart i mk).ceiling.paused = s.ceiling.paused
    ∧ (s.reportJumpStart i mk).ceiling.holdStart = s.ceiling.holdStart
    ∧ (s.reportJumpStart i mk).ceiling.nextRefresh = s.ceiling.nextRefresh
    ∧ (s.reportJumpStart i mk).inputs = s.inputs ∧ (s.reportJumpStart i mk).attention = s.attention
    ∧ (s.reportJumpStart i mk).link = s.link ∧ (s.reportJumpStart i mk).pins = s.pins
    ∧ (s.reportJumpStart i mk).pending = s.pending := by
  refine ⟨?_, ?_, ?_, ?_, ?_, ?_, ?_, ?_, ?_, ?_, ?_, ?_, ?_, ?_, ?_, ?_, ?_⟩ <;>
    (unfold State.reportJumpStart; (try dsimp only) <;> ((repeat' split) <;> (try simp)))

@[simp] theorem State.reportJumpStart_gate (s : State) (i : Slot) (mk : Bool) (n : GateNo) :
    (s.reportJumpStart i mk).gate n = s.gate n := State.gate_congr (by simp) n

/-- The fields of the records that `reportJumpStart` leaves as they are. -/
@[simp] theorem State.reportJumpStart_records (s : State) (i : Slot) (mk : Bool) (j : Slot) :
    ((s.reportJumpStart i mk).entrant j).code = (s.entrant j).code
    ∧ ((s.reportJumpStart i mk).entrant j).state = (s.entrant j).state
    ∧ ((s.reportJumpStart i mk).entrant j).station = (s.entrant j).station
    ∧ ((s.reportJumpStart i mk).entrant j).lane = (s.entrant j).lane
    ∧ ((s.reportJumpStart i mk).entrant j).pitStatus = (s.entrant j).pitStatus
    ∧ ((s.reportJumpStart i mk).entrant j).pitEntry = (s.entrant j).pitEntry
    ∧ ((s.reportJumpStart i mk).entrant j).boxArrival = (s.entrant j).boxArrival
    ∧ ((s.reportJumpStart i mk).entrant j).boxVisited = (s.entrant j).boxVisited
    ∧ ((s.reportJumpStart i mk).entrant j).pitStops = (s.entrant j).pitStops
    ∧ ((s.reportJumpStart i mk).entrant j).latestCrossing = (s.entrant j).latestCrossing
    ∧ ((s.reportJumpStart i mk).entrant j).prevCrossing = (s.entrant j).prevCrossing
    ∧ ((s.reportJumpStart i mk).entrant j).reachTime = (s.entrant j).reachTime
    ∧ ((s.reportJumpStart i mk).entrant j).lastLap = (s.entrant j).lastLap
    ∧ ((s.reportJumpStart i mk).entrant j).lastLapMarks = (s.entrant j).lastLapMarks
    ∧ ((s.reportJumpStart i mk).entrant j).bestLap = (s.entrant j).bestLap
    ∧ ((s.reportJumpStart i mk).entrant j).sector = (s.entrant j).sector
    ∧ ((s.reportJumpStart i mk).entrant j).currentSectors = (s.entrant j).currentSectors
    ∧ ((s.reportJumpStart i mk).entrant j).lastSectors = (s.entrant j).lastSectors
    ∧ ((s.reportJumpStart i mk).entrant j).lastBoundary = (s.entrant j).lastBoundary
    ∧ ((s.reportJumpStart i mk).entrant j).lapCaution = (s.entrant j).lapCaution
    ∧ ((s.reportJumpStart i mk).entrant j).gap = (s.entrant j).gap
    ∧ ((s.reportJumpStart i mk).entrant j).lapsDown = (s.entrant j).lapsDown
    ∧ ((s.reportJumpStart i mk).entrant j).latestPass = (s.entrant j).latestPass
    ∧ ((s.reportJumpStart i mk).entrant j).deadline = (s.entrant j).deadline
    ∧ ((s.reportJumpStart i mk).entrant j).overdue = (s.entrant j).overdue
    ∧ ((s.reportJumpStart i mk).entrant j).callsUsed = (s.entrant j).callsUsed
    ∧ ((s.reportJumpStart i mk).entrant j).override = (s.entrant j).override
    ∧ ((s.reportJumpStart i mk).entrant j).finishStatus = (s.entrant j).finishStatus
    ∧ ((s.reportJumpStart i mk).entrant j).finishTime = (s.entrant j).finishTime := by
  refine ⟨?_, ?_, ?_, ?_, ?_, ?_, ?_, ?_, ?_, ?_, ?_, ?_, ?_, ?_, ?_, ?_, ?_, ?_, ?_, ?_, ?_, ?_, ?_, ?_, ?_, ?_, ?_, ?_, ?_⟩ <;>
    (unfold State.reportJumpStart; (try dsimp only) <;> ((repeat' split) <;> (try simp [State.entrant_modEntrant, State.entrant_mk, State.entrants_getElem]) <;> (try (split <;> simp_all))))

/-- What `greenEntrant` leaves as it is. -/
@[simp] theorem State.greenEntrant_frame (s : State) (i : Slot) :
    (s.greenEntrant i).cfg = s.cfg ∧ (s.greenEntrant i).gates = s.gates
    ∧ (s.greenEntrant i).testStart = s.testStart ∧ (s.greenEntrant i).resolver = s.resolver
    ∧ (s.greenEntrant i).ring = s.ring ∧ (s.greenEntrant i).highMark = s.highMark
    ∧ (s.greenEntrant i).race = s.race ∧ (s.greenEntrant i).callTable = s.callTable
    ∧ (s.greenEntrant i).ceiling.sender = s.ceiling.sender ∧ (s.greenEntrant i).ceiling.paused = s.ceiling.paused
    ∧ (s.greenEntrant i).ceiling.holdStart = s.ceiling.holdStart
    ∧ (s.greenEntrant i).ceiling.nextRefresh = s.ceiling.nextRefresh ∧ (s.greenEntrant i).inputs = s.inputs
    ∧ (s.greenEntrant i).attention = s.attention ∧ (s.greenEntrant i).link = s.link
    ∧ (s.greenEntrant i).pins = s.pins ∧ (s.greenEntrant i).pending = s.pending := by
  refine ⟨?_, ?_, ?_, ?_, ?_, ?_, ?_, ?_, ?_, ?_, ?_, ?_, ?_, ?_, ?_, ?_, ?_⟩ <;>
    (unfold State.greenEntrant; (try dsimp only) <;> ((repeat' split) <;> (try simp)))

@[simp] theorem State.greenEntrant_gate (s : State) (i : Slot) (n : GateNo) :
    (s.greenEntrant i).gate n = s.gate n := State.gate_congr (by simp) n

/-- The fields of the records that `greenEntrant` leaves as they are. -/
@[simp] theorem State.greenEntrant_records (s : State) (i : Slot) (j : Slot) :
    ((s.greenEntrant i).entrant j).code = (s.entrant j).code
    ∧ ((s.greenEntrant i).entrant j).station = (s.entrant j).station
    ∧ ((s.greenEntrant i).entrant j).lane = (s.entrant j).lane
    ∧ ((s.greenEntrant i).entrant j).pitStatus = (s.entrant j).pitStatus
    ∧ ((s.greenEntrant i).entrant j).pitEntry = (s.entrant j).pitEntry
    ∧ ((s.greenEntrant i).entrant j).boxArrival = (s.entrant j).boxArrival
    ∧ ((s.greenEntrant i).entrant j).boxVisited = (s.entrant j).boxVisited
    ∧ ((s.greenEntrant i).entrant j).pitStops = (s.entrant j).pitStops
    ∧ ((s.greenEntrant i).entrant j).lastLap = (s.entrant j).lastLap
    ∧ ((s.greenEntrant i).entrant j).lastLapMarks = (s.entrant j).lastLapMarks
    ∧ ((s.greenEntrant i).entrant j).bestLap = (s.entrant j).bestLap
    ∧ ((s.greenEntrant i).entrant j).sector = (s.entrant j).sector
    ∧ ((s.greenEntrant i).entrant j).currentSectors = (s.entrant j).currentSectors
    ∧ ((s.greenEntrant i).entrant j).lastSectors = (s.entrant j).lastSectors
    ∧ ((s.greenEntrant i).entrant j).lastBoundary = (s.entrant j).lastBoundary
    ∧ ((s.greenEntrant i).entrant j).lapCaution = (s.entrant j).lapCaution
    ∧ ((s.greenEntrant i).entrant j).gap = (s.entrant j).gap
    ∧ ((s.greenEntrant i).entrant j).lapsDown = (s.entrant j).lapsDown
    ∧ ((s.greenEntrant i).entrant j).latestPass = (s.entrant j).latestPass
    ∧ ((s.greenEntrant i).entrant j).overdue = (s.entrant j).overdue
    ∧ ((s.greenEntrant i).entrant j).callsUsed = (s.entrant j).callsUsed
    ∧ ((s.greenEntrant i).entrant j).override = (s.entrant j).override
    ∧ ((s.greenEntrant i).entrant j).finishStatus = (s.entrant j).finishStatus
    ∧ ((s.greenEntrant i).entrant j).finishTime = (s.entrant j).finishTime := by
  refine ⟨?_, ?_, ?_, ?_, ?_, ?_, ?_, ?_, ?_, ?_, ?_, ?_, ?_, ?_, ?_, ?_, ?_, ?_, ?_, ?_, ?_, ?_, ?_, ?_⟩ <;>
    (unfold State.greenEntrant; (try dsimp only) <;> ((repeat' split) <;> (try simp [State.entrant_modEntrant, State.entrant_mk, State.entrants_getElem]) <;> (try (split <;> simp_all))))

/-- What `greenEntrants` leaves as it is. -/
@[simp] theorem State.greenEntrants_frame (s : State) :
    (s.greenEntrants).cfg = s.cfg ∧ (s.greenEntrants).gates = s.gates ∧ (s.greenEntrants).testStart = s.testStart
    ∧ (s.greenEntrants).resolver = s.resolver ∧ (s.greenEntrants).ring = s.ring
    ∧ (s.greenEntrants).highMark = s.highMark ∧ (s.greenEntrants).race = s.race
    ∧ (s.greenEntrants).callTable = s.callTable ∧ (s.greenEntrants).ceiling.sender = s.ceiling.sender
    ∧ (s.greenEntrants).ceiling.paused = s.ceiling.paused
    ∧ (s.greenEntrants).ceiling.holdStart = s.ceiling.holdStart
    ∧ (s.greenEntrants).ceiling.nextRefresh = s.ceiling.nextRefresh ∧ (s.greenEntrants).inputs = s.inputs
    ∧ (s.greenEntrants).attention = s.attention ∧ (s.greenEntrants).link = s.link ∧ (s.greenEntrants).pins = s.pins
    ∧ (s.greenEntrants).pending = s.pending := by
  unfold State.greenEntrants State.forSlots
  induction allSlots generalizing s with
  | nil => exact ⟨rfl, rfl, rfl, rfl, rfl, rfl, rfl, rfl, rfl, rfl, rfl, rfl, rfl, rfl, rfl, rfl, rfl⟩
  | cons x l ih =>
    simp only [List.foldl_cons, ih]
    refine ⟨?_, ?_, ?_, ?_, ?_, ?_, ?_, ?_, ?_, ?_, ?_, ?_, ?_, ?_, ?_, ?_, ?_⟩ <;> ((repeat' split) <;> (try simp))

@[simp] theorem State.greenEntrants_gate (s : State) (n : GateNo) :
    (s.greenEntrants).gate n = s.gate n := State.gate_congr (by simp) n

/-- The fields of the records that `greenEntrants` leaves as they are. -/
@[simp] theorem State.greenEntrants_records (s : State) (j : Slot) :
    ((s.greenEntrants).entrant j).code = (s.entrant j).code
    ∧ ((s.greenEntrants).entrant j).station = (s.entrant j).station
    ∧ ((s.greenEntrants).entrant j).lane = (s.entrant j).lane
    ∧ ((s.greenEntrants).entrant j).pitStatus = (s.entrant j).pitStatus
    ∧ ((s.greenEntrants).entrant j).pitEntry = (s.entrant j).pitEntry
    ∧ ((s.greenEntrants).entrant j).boxArrival = (s.entrant j).boxArrival
    ∧ ((s.greenEntrants).entrant j).boxVisited = (s.entrant j).boxVisited
    ∧ ((s.greenEntrants).entrant j).pitStops = (s.entrant j).pitStops
    ∧ ((s.greenEntrants).entrant j).lastLap = (s.entrant j).lastLap
    ∧ ((s.greenEntrants).entrant j).lastLapMarks = (s.entrant j).lastLapMarks
    ∧ ((s.greenEntrants).entrant j).bestLap = (s.entrant j).bestLap
    ∧ ((s.greenEntrants).entrant j).sector = (s.entrant j).sector
    ∧ ((s.greenEntrants).entrant j).currentSectors = (s.entrant j).currentSectors
    ∧ ((s.greenEntrants).entrant j).lastSectors = (s.entrant j).lastSectors
    ∧ ((s.greenEntrants).entrant j).lastBoundary = (s.entrant j).lastBoundary
    ∧ ((s.greenEntrants).entrant j).lapCaution = (s.entrant j).lapCaution
    ∧ ((s.greenEntrants).entrant j).gap = (s.entrant j).gap
    ∧ ((s.greenEntrants).entrant j).lapsDown = (s.entrant j).lapsDown
    ∧ ((s.greenEntrants).entrant j).latestPass = (s.entrant j).latestPass
    ∧ ((s.greenEntrants).entrant j).overdue = (s.entrant j).overdue
    ∧ ((s.greenEntrants).entrant j).callsUsed = (s.entrant j).callsUsed
    ∧ ((s.greenEntrants).entrant j).override = (s.entrant j).override
    ∧ ((s.greenEntrants).entrant j).finishStatus = (s.entrant j).finishStatus
    ∧ ((s.greenEntrants).entrant j).finishTime = (s.entrant j).finishTime := by
  unfold State.greenEntrants State.forSlots
  induction allSlots generalizing s with
  | nil => exact ⟨rfl, rfl, rfl, rfl, rfl, rfl, rfl, rfl, rfl, rfl, rfl, rfl, rfl, rfl, rfl, rfl, rfl, rfl, rfl, rfl, rfl, rfl, rfl, rfl⟩
  | cons x l ih =>
    simp only [List.foldl_cons, ih]
    refine ⟨?_, ?_, ?_, ?_, ?_, ?_, ?_, ?_, ?_, ?_, ?_, ?_, ?_, ?_, ?_, ?_, ?_, ?_, ?_, ?_, ?_, ?_, ?_, ?_⟩ <;> ((repeat' split) <;> (try simp [State.entrant_modEntrant, State.entrant_mk, State.entrants_getElem]) <;> (try (split <;> simp_all)))

/-- What `green` leaves as it is. -/
@[simp] theorem State.green_frame (s : State) :
    (s.green).cfg = s.cfg ∧ (s.green).gates = s.gates ∧ (s.green).testStart = s.testStart
    ∧ (s.green).resolver = s.resolver ∧ (s.green).ring = s.ring ∧ (s.green).highMark = s.highMark
    ∧ (s.green).race.raceClock = s.race.raceClock ∧ (s.green).race.resume = s.race.resume
    ∧ (s.green).race.suspStart = s.race.suspStart ∧ (s.green).race.finishDeadline = s.race.finishDeadline
    ∧ (s.green).race.yellow = s.race.yellow ∧ (s.green).race.caution = s.race.caution
    ∧ (s.green).race.powerSetting = s.race.powerSetting ∧ (s.green).callTable = s.callTable
    ∧ (s.green).ceiling.sender = s.ceiling.sender ∧ (s.green).ceiling.paused = s.ceiling.paused
    ∧ (s.green).ceiling.nextRefresh = s.ceiling.nextRefresh ∧ (s.green).inputs = s.inputs
    ∧ (s.green).attention.suspended = s.attention.suspended ∧ (s.green).attention.test = s.attention.test
    ∧ (s.green).attention.mask = s.attention.mask ∧ (s.green).link = s.link ∧ (s.green).pins = s.pins
    ∧ (s.green).pending = s.pending := by
  refine ⟨?_, ?_, ?_, ?_, ?_, ?_, ?_, ?_, ?_, ?_, ?_, ?_, ?_, ?_, ?_, ?_, ?_, ?_, ?_, ?_, ?_, ?_, ?_, ?_⟩ <;>
    (unfold State.green; (try dsimp only) <;> ((repeat' split) <;> (try simp)))

@[simp] theorem State.green_gate (s : State) (n : GateNo) :
    (s.green).gate n = s.gate n := State.gate_congr (by simp) n

/-- The fields of the records that `green` leaves as they are. -/
@[simp] theorem State.green_records (s : State) (j : Slot) :
    ((s.green).entrant j).code = (s.entrant j).code ∧ ((s.green).entrant j).station = (s.entrant j).station
    ∧ ((s.green).entrant j).lane = (s.entrant j).lane ∧ ((s.green).entrant j).pitStatus = (s.entrant j).pitStatus
    ∧ ((s.green).entrant j).pitEntry = (s.entrant j).pitEntry
    ∧ ((s.green).entrant j).boxArrival = (s.entrant j).boxArrival
    ∧ ((s.green).entrant j).boxVisited = (s.entrant j).boxVisited
    ∧ ((s.green).entrant j).pitStops = (s.entrant j).pitStops
    ∧ ((s.green).entrant j).lastLap = (s.entrant j).lastLap
    ∧ ((s.green).entrant j).lastLapMarks = (s.entrant j).lastLapMarks
    ∧ ((s.green).entrant j).bestLap = (s.entrant j).bestLap ∧ ((s.green).entrant j).sector = (s.entrant j).sector
    ∧ ((s.green).entrant j).currentSectors = (s.entrant j).currentSectors
    ∧ ((s.green).entrant j).lastSectors = (s.entrant j).lastSectors
    ∧ ((s.green).entrant j).lastBoundary = (s.entrant j).lastBoundary
    ∧ ((s.green).entrant j).lapCaution = (s.entrant j).lapCaution ∧ ((s.green).entrant j).gap = (s.entrant j).gap
    ∧ ((s.green).entrant j).lapsDown = (s.entrant j).lapsDown
    ∧ ((s.green).entrant j).latestPass = (s.entrant j).latestPass
    ∧ ((s.green).entrant j).overdue = (s.entrant j).overdue
    ∧ ((s.green).entrant j).callsUsed = (s.entrant j).callsUsed
    ∧ ((s.green).entrant j).override = (s.entrant j).override
    ∧ ((s.green).entrant j).finishStatus = (s.entrant j).finishStatus
    ∧ ((s.green).entrant j).finishTime = (s.entrant j).finishTime := by
  refine ⟨?_, ?_, ?_, ?_, ?_, ?_, ?_, ?_, ?_, ?_, ?_, ?_, ?_, ?_, ?_, ?_, ?_, ?_, ?_, ?_, ?_, ?_, ?_, ?_⟩ <;>
    (unfold State.green; (try dsimp only) <;> ((repeat' split) <;> (try simp [State.entrant_modEntrant, State.entrant_mk, State.entrants_getElem]) <;> (try (split <;> simp_all))))

/-- What `stepCountdown` leaves as it is. -/
@[simp] theorem State.stepCountdown_frame (s : State) (c : Countdown) :
    (s.stepCountdown c).cfg = s.cfg ∧ (s.stepCountdown c).gates = s.gates
    ∧ (s.stepCountdown c).testStart = s.testStart ∧ (s.stepCountdown c).resolver = s.resolver
    ∧ (s.stepCountdown c).ring = s.ring ∧ (s.stepCountdown c).highMark = s.highMark
    ∧ (s.stepCountdown c).race.raceClock = s.race.raceClock ∧ (s.stepCountdown c).race.resume = s.race.resume
    ∧ (s.stepCountdown c).race.suspStart = s.race.suspStart
    ∧ (s.stepCountdown c).race.finishDeadline = s.race.finishDeadline
    ∧ (s.stepCountdown c).race.yellow = s.race.yellow ∧ (s.stepCountdown c).race.caution = s.race.caution
    ∧ (s.stepCountdown c).race.powerSetting = s.race.powerSetting ∧ (s.stepCountdown c).callTable = s.callTable
    ∧ (s.stepCountdown c).ceiling.sender = s.ceiling.sender ∧ (s.stepCountdown c).ceiling.paused = s.ceiling.paused
    ∧ (s.stepCountdown c).ceiling.nextRefresh = s.ceiling.nextRefresh ∧ (s.stepCountdown c).inputs = s.inputs
    ∧ (s.stepCountdown c).attention.suspended = s.attention.suspended
    ∧ (s.stepCountdown c).attention.test = s.attention.test ∧ (s.stepCountdown c).attention.mask = s.attention.mask
    ∧ (s.stepCountdown c).link = s.link ∧ (s.stepCountdown c).pins = s.pins
    ∧ (s.stepCountdown c).pending = s.pending := by
  refine ⟨?_, ?_, ?_, ?_, ?_, ?_, ?_, ?_, ?_, ?_, ?_, ?_, ?_, ?_, ?_, ?_, ?_, ?_, ?_, ?_, ?_, ?_, ?_, ?_⟩ <;>
    (unfold State.stepCountdown; (try dsimp only) <;> ((repeat' split) <;> (try simp)))

@[simp] theorem State.stepCountdown_gate (s : State) (c : Countdown) (n : GateNo) :
    (s.stepCountdown c).gate n = s.gate n := State.gate_congr (by simp) n

/-- The fields of the records that `stepCountdown` leaves as they are. -/
@[simp] theorem State.stepCountdown_records (s : State) (c : Countdown) (j : Slot) :
    ((s.stepCountdown c).entrant j).code = (s.entrant j).code
    ∧ ((s.stepCountdown c).entrant j).station = (s.entrant j).station
    ∧ ((s.stepCountdown c).entrant j).lane = (s.entrant j).lane
    ∧ ((s.stepCountdown c).entrant j).pitStatus = (s.entrant j).pitStatus
    ∧ ((s.stepCountdown c).entrant j).pitEntry = (s.entrant j).pitEntry
    ∧ ((s.stepCountdown c).entrant j).boxArrival = (s.entrant j).boxArrival
    ∧ ((s.stepCountdown c).entrant j).boxVisited = (s.entrant j).boxVisited
    ∧ ((s.stepCountdown c).entrant j).pitStops = (s.entrant j).pitStops
    ∧ ((s.stepCountdown c).entrant j).lastLap = (s.entrant j).lastLap
    ∧ ((s.stepCountdown c).entrant j).lastLapMarks = (s.entrant j).lastLapMarks
    ∧ ((s.stepCountdown c).entrant j).bestLap = (s.entrant j).bestLap
    ∧ ((s.stepCountdown c).entrant j).sector = (s.entrant j).sector
    ∧ ((s.stepCountdown c).entrant j).currentSectors = (s.entrant j).currentSectors
    ∧ ((s.stepCountdown c).entrant j).lastSectors = (s.entrant j).lastSectors
    ∧ ((s.stepCountdown c).entrant j).lastBoundary = (s.entrant j).lastBoundary
    ∧ ((s.stepCountdown c).entrant j).lapCaution = (s.entrant j).lapCaution
    ∧ ((s.stepCountdown c).entrant j).gap = (s.entrant j).gap
    ∧ ((s.stepCountdown c).entrant j).lapsDown = (s.entrant j).lapsDown
    ∧ ((s.stepCountdown c).entrant j).latestPass = (s.entrant j).latestPass
    ∧ ((s.stepCountdown c).entrant j).overdue = (s.entrant j).overdue
    ∧ ((s.stepCountdown c).entrant j).callsUsed = (s.entrant j).callsUsed
    ∧ ((s.stepCountdown c).entrant j).override = (s.entrant j).override
    ∧ ((s.stepCountdown c).entrant j).finishStatus = (s.entrant j).finishStatus
    ∧ ((s.stepCountdown c).entrant j).finishTime = (s.entrant j).finishTime := by
  refine ⟨?_, ?_, ?_, ?_, ?_, ?_, ?_, ?_, ?_, ?_, ?_, ?_, ?_, ?_, ?_, ?_, ?_, ?_, ?_, ?_, ?_, ?_, ?_, ?_⟩ <;>
    (unfold State.stepCountdown; (try dsimp only) <;> ((repeat' split) <;> (try simp [State.entrant_modEntrant, State.entrant_mk, State.entrants_getElem]) <;> (try (split <;> simp_all))))

/-- What `suspendFrom` leaves as it is. -/
@[simp] theorem State.suspendFrom_frame (s : State) (b : ResumeTo) (why : Reason) :
    (s.suspendFrom b why).cfg = s.cfg ∧ (s.suspendFrom b why).gates = s.gates
    ∧ (s.suspendFrom b why).testStart = s.testStart ∧ (s.suspendFrom b why).resolver = s.resolver
    ∧ (s.suspendFrom b why).ring = s.ring ∧ (s.suspendFrom b why).highMark = s.highMark
    ∧ (s.suspendFrom b why).standings = s.standings ∧ (s.suspendFrom b why).race.raceClock = s.race.raceClock
    ∧ (s.suspendFrom b why).race.suspTotal = s.race.suspTotal ∧ (s.suspendFrom b why).race.green = s.race.green
    ∧ (s.suspendFrom b why).race.runningClock = s.race.runningClock
    ∧ (s.suspendFrom b why).race.countdown = s.race.countdown
    ∧ (s.suspendFrom b why).race.finishDeadline = s.race.finishDeadline
    ∧ (s.suspendFrom b why).race.yellow = s.race.yellow ∧ (s.suspendFrom b why).race.caution = s.race.caution
    ∧ (s.suspendFrom b why).race.powerSetting = s.race.powerSetting ∧ (s.suspendFrom b why).callTable = s.callTable
    ∧ (s.suspendFrom b why).ceiling.sender = s.ceiling.sender
    ∧ (s.suspendFrom b why).ceiling.paused = s.ceiling.paused
    ∧ (s.suspendFrom b why).ceiling.nextRefresh = s.ceiling.nextRefresh ∧ (s.suspendFrom b why).inputs = s.inputs
    ∧ (s.suspendFrom b why).attention.test = s.attention.test
    ∧ (s.suspendFrom b why).attention.mask = s.attention.mask ∧ (s.suspendFrom b why).link = s.link
    ∧ (s.suspendFrom b why).pins = s.pins ∧ (s.suspendFrom b why).pending = s.pending := by
  refine ⟨?_, ?_, ?_, ?_, ?_, ?_, ?_, ?_, ?_, ?_, ?_, ?_, ?_, ?_, ?_, ?_, ?_, ?_, ?_, ?_, ?_, ?_, ?_, ?_, ?_, ?_⟩ <;>
    (unfold State.suspendFrom; (try dsimp only) <;> ((repeat' split) <;> (try simp)))

@[simp] theorem State.suspendFrom_gate (s : State) (b : ResumeTo) (why : Reason) (n : GateNo) :
    (s.suspendFrom b why).gate n = s.gate n := State.gate_congr (by simp) n

/-- The fields of the records that `suspendFrom` leaves as they are. -/
@[simp] theorem State.suspendFrom_records (s : State) (b : ResumeTo) (why : Reason) (j : Slot) :
    ((s.suspendFrom b why).entrant j).code = (s.entrant j).code
    ∧ ((s.suspendFrom b why).entrant j).state = (s.entrant j).state
    ∧ ((s.suspendFrom b why).entrant j).station = (s.entrant j).station
    ∧ ((s.suspendFrom b why).entrant j).lane = (s.entrant j).lane
    ∧ ((s.suspendFrom b why).entrant j).pitStatus = (s.entrant j).pitStatus
    ∧ ((s.suspendFrom b why).entrant j).pitEntry = (s.entrant j).pitEntry
    ∧ ((s.suspendFrom b why).entrant j).boxArrival = (s.entrant j).boxArrival
    ∧ ((s.suspendFrom b why).entrant j).boxVisited = (s.entrant j).boxVisited
    ∧ ((s.suspendFrom b why).entrant j).pitStops = (s.entrant j).pitStops
    ∧ ((s.suspendFrom b why).entrant j).laps = (s.entrant j).laps
    ∧ ((s.suspendFrom b why).entrant j).latestCrossing = (s.entrant j).latestCrossing
    ∧ ((s.suspendFrom b why).entrant j).prevCrossing = (s.entrant j).prevCrossing
    ∧ ((s.suspendFrom b why).entrant j).reachTime = (s.entrant j).reachTime
    ∧ ((s.suspendFrom b why).entrant j).lastLap = (s.entrant j).lastLap
    ∧ ((s.suspendFrom b why).entrant j).lastLapMarks = (s.entrant j).lastLapMarks
    ∧ ((s.suspendFrom b why).entrant j).bestLap = (s.entrant j).bestLap
    ∧ ((s.suspendFrom b why).entrant j).sector = (s.entrant j).sector
    ∧ ((s.suspendFrom b why).entrant j).currentSectors = (s.entrant j).currentSectors
    ∧ ((s.suspendFrom b why).entrant j).lastSectors = (s.entrant j).lastSectors
    ∧ ((s.suspendFrom b why).entrant j).lastBoundary = (s.entrant j).lastBoundary
    ∧ ((s.suspendFrom b why).entrant j).lapCaution = (s.entrant j).lapCaution
    ∧ ((s.suspendFrom b why).entrant j).gap = (s.entrant j).gap
    ∧ ((s.suspendFrom b why).entrant j).lapsDown = (s.entrant j).lapsDown
    ∧ ((s.suspendFrom b why).entrant j).latestPass = (s.entrant j).latestPass
    ∧ ((s.suspendFrom b why).entrant j).deadline = (s.entrant j).deadline
    ∧ ((s.suspendFrom b why).entrant j).overdue = (s.entrant j).overdue
    ∧ ((s.suspendFrom b why).entrant j).jumpStart = (s.entrant j).jumpStart
    ∧ ((s.suspendFrom b why).entrant j).callsUsed = (s.entrant j).callsUsed
    ∧ ((s.suspendFrom b why).entrant j).override = (s.entrant j).override
    ∧ ((s.suspendFrom b why).entrant j).activity = (s.entrant j).activity
    ∧ ((s.suspendFrom b why).entrant j).finishStatus = (s.entrant j).finishStatus
    ∧ ((s.suspendFrom b why).entrant j).finishTime = (s.entrant j).finishTime
    ∧ ((s.suspendFrom b why).entrant j).penalties = (s.entrant j).penalties
    ∧ ((s.suspendFrom b why).entrant j).holdTimer = (s.entrant j).holdTimer
    ∧ ((s.suspendFrom b why).entrant j).powerHold = (s.entrant j).powerHold
    ∧ ((s.suspendFrom b why).entrant j).blackFlag = (s.entrant j).blackFlag := by
  refine ⟨?_, ?_, ?_, ?_, ?_, ?_, ?_, ?_, ?_, ?_, ?_, ?_, ?_, ?_, ?_, ?_, ?_, ?_, ?_, ?_, ?_, ?_, ?_, ?_, ?_, ?_, ?_, ?_, ?_, ?_, ?_, ?_, ?_, ?_, ?_, ?_⟩ <;>
    (unfold State.suspendFrom; (try dsimp only) <;> ((repeat' split) <;> (try simp [State.entrant_modEntrant, State.entrant_mk, State.entrants_getElem]) <;> (try (split <;> simp_all))))

/-- What `dropJumpStarts` leaves as it is. -/
@[simp] theorem State.dropJumpStarts_frame (s : State) :
    (s.dropJumpStarts).cfg = s.cfg ∧ (s.dropJumpStarts).gates = s.gates
    ∧ (s.dropJumpStarts).testStart = s.testStart ∧ (s.dropJumpStarts).resolver = s.resolver
    ∧ (s.dropJumpStarts).ring = s.ring ∧ (s.dropJumpStarts).highMark = s.highMark
    ∧ (s.dropJumpStarts).standings = s.standings ∧ (s.dropJumpStarts).race = s.race
    ∧ (s.dropJumpStarts).callTable = s.callTable ∧ (s.dropJumpStarts).ceiling = s.ceiling
    ∧ (s.dropJumpStarts).inputs = s.inputs ∧ (s.dropJumpStarts).attention = s.attention
    ∧ (s.dropJumpStarts).link = s.link ∧ (s.dropJumpStarts).pins = s.pins ∧ (s.dropJumpStarts).pending = s.pending := by
  unfold State.dropJumpStarts State.forSlots
  induction allSlots generalizing s with
  | nil => exact ⟨rfl, rfl, rfl, rfl, rfl, rfl, rfl, rfl, rfl, rfl, rfl, rfl, rfl, rfl, rfl⟩
  | cons x l ih =>
    simp only [List.foldl_cons, ih]
    refine ⟨?_, ?_, ?_, ?_, ?_, ?_, ?_, ?_, ?_, ?_, ?_, ?_, ?_, ?_, ?_⟩ <;> ((repeat' split) <;> (try simp))

@[simp] theorem State.dropJumpStarts_gate (s : State) (n : GateNo) :
    (s.dropJumpStarts).gate n = s.gate n := State.gate_congr (by simp) n

/-- The fields of the records that `dropJumpStarts` leaves as they are. -/
@[simp] theorem State.dropJumpStarts_records (s : State) (j : Slot) :
    ((s.dropJumpStarts).entrant j).code = (s.entrant j).code
    ∧ ((s.dropJumpStarts).entrant j).state = (s.entrant j).state
    ∧ ((s.dropJumpStarts).entrant j).station = (s.entrant j).station
    ∧ ((s.dropJumpStarts).entrant j).lane = (s.entrant j).lane
    ∧ ((s.dropJumpStarts).entrant j).pitStatus = (s.entrant j).pitStatus
    ∧ ((s.dropJumpStarts).entrant j).pitEntry = (s.entrant j).pitEntry
    ∧ ((s.dropJumpStarts).entrant j).boxArrival = (s.entrant j).boxArrival
    ∧ ((s.dropJumpStarts).entrant j).boxVisited = (s.entrant j).boxVisited
    ∧ ((s.dropJumpStarts).entrant j).pitStops = (s.entrant j).pitStops
    ∧ ((s.dropJumpStarts).entrant j).laps = (s.entrant j).laps
    ∧ ((s.dropJumpStarts).entrant j).latestCrossing = (s.entrant j).latestCrossing
    ∧ ((s.dropJumpStarts).entrant j).prevCrossing = (s.entrant j).prevCrossing
    ∧ ((s.dropJumpStarts).entrant j).reachTime = (s.entrant j).reachTime
    ∧ ((s.dropJumpStarts).entrant j).lastLap = (s.entrant j).lastLap
    ∧ ((s.dropJumpStarts).entrant j).lastLapMarks = (s.entrant j).lastLapMarks
    ∧ ((s.dropJumpStarts).entrant j).bestLap = (s.entrant j).bestLap
    ∧ ((s.dropJumpStarts).entrant j).sector = (s.entrant j).sector
    ∧ ((s.dropJumpStarts).entrant j).currentSectors = (s.entrant j).currentSectors
    ∧ ((s.dropJumpStarts).entrant j).lastSectors = (s.entrant j).lastSectors
    ∧ ((s.dropJumpStarts).entrant j).lastBoundary = (s.entrant j).lastBoundary
    ∧ ((s.dropJumpStarts).entrant j).lapCaution = (s.entrant j).lapCaution
    ∧ ((s.dropJumpStarts).entrant j).gap = (s.entrant j).gap
    ∧ ((s.dropJumpStarts).entrant j).lapsDown = (s.entrant j).lapsDown
    ∧ ((s.dropJumpStarts).entrant j).latestPass = (s.entrant j).latestPass
    ∧ ((s.dropJumpStarts).entrant j).deadline = (s.entrant j).deadline
    ∧ ((s.dropJumpStarts).entrant j).overdue = (s.entrant j).overdue
    ∧ ((s.dropJumpStarts).entrant j).callsUsed = (s.entrant j).callsUsed
    ∧ ((s.dropJumpStarts).entrant j).override = (s.entrant j).override
    ∧ ((s.dropJumpStarts).entrant j).effective = (s.entrant j).effective
    ∧ ((s.dropJumpStarts).entrant j).activity = (s.entrant j).activity
    ∧ ((s.dropJumpStarts).entrant j).finishStatus = (s.entrant j).finishStatus
    ∧ ((s.dropJumpStarts).entrant j).finishTime = (s.entrant j).finishTime
    ∧ ((s.dropJumpStarts).entrant j).penalties = (s.entrant j).penalties
    ∧ ((s.dropJumpStarts).entrant j).holdTimer = (s.entrant j).holdTimer
    ∧ ((s.dropJumpStarts).entrant j).powerHold = (s.entrant j).powerHold
    ∧ ((s.dropJumpStarts).entrant j).blackFlag = (s.entrant j).blackFlag := by
  unfold State.dropJumpStarts State.forSlots
  induction allSlots generalizing s with
  | nil => exact ⟨rfl, rfl, rfl, rfl, rfl, rfl, rfl, rfl, rfl, rfl, rfl, rfl, rfl, rfl, rfl, rfl, rfl, rfl, rfl, rfl, rfl, rfl, rfl, rfl, rfl, rfl, rfl, rfl, rfl, rfl, rfl, rfl, rfl, rfl, rfl, rfl⟩
  | cons x l ih =>
    simp only [List.foldl_cons, ih]
    refine ⟨?_, ?_, ?_, ?_, ?_, ?_, ?_, ?_, ?_, ?_, ?_, ?_, ?_, ?_, ?_, ?_, ?_, ?_, ?_, ?_, ?_, ?_, ?_, ?_, ?_, ?_, ?_, ?_, ?_, ?_, ?_, ?_, ?_, ?_, ?_, ?_⟩ <;> ((repeat' split) <;> (try simp [State.entrant_modEntrant, State.entrant_mk, State.entrants_getElem]) <;> (try (split <;> simp_all)))

/-- What `abortStart` leaves as it is. -/
@[simp] theorem State.abortStart_frame (s : State) (why : Reason) :
    (s.abortStart why).cfg = s.cfg ∧ (s.abortStart why).gates = s.gates
    ∧ (s.abortStart why).testStart = s.testStart ∧ (s.abortStart why).resolver = s.resolver
    ∧ (s.abortStart why).ring = s.ring ∧ (s.abortStart why).highMark = s.highMark
    ∧ (s.abortStart why).standings = s.standings ∧ (s.abortStart why).race.raceClock = s.race.raceClock
    ∧ (s.abortStart why).race.resume = s.race.resume ∧ (s.abortStart why).race.suspStart = s.race.suspStart
    ∧ (s.abortStart why).race.suspTotal = s.race.suspTotal ∧ (s.abortStart why).race.green = s.race.green
    ∧ (s.abortStart why).race.runningClock = s.race.runningClock
    ∧ (s.abortStart why).race.finishDeadline = s.race.finishDeadline
    ∧ (s.abortStart why).race.yellow = s.race.yellow ∧ (s.abortStart why).race.caution = s.race.caution
    ∧ (s.abortStart why).race.powerSetting = s.race.powerSetting ∧ (s.abortStart why).callTable = s.callTable
    ∧ (s.abortStart why).ceiling.sender = s.ceiling.sender ∧ (s.abortStart why).ceiling.paused = s.ceiling.paused
    ∧ (s.abortStart why).ceiling.nextRefresh = s.ceiling.nextRefresh ∧ (s.abortStart why).inputs = s.inputs
    ∧ (s.abortStart why).attention.test = s.attention.test ∧ (s.abortStart why).attention.mask = s.attention.mask
    ∧ (s.abortStart why).link = s.link ∧ (s.abortStart why).pins = s.pins ∧ (s.abortStart why).pending = s.pending := by
  refine ⟨?_, ?_, ?_, ?_, ?_, ?_, ?_, ?_, ?_, ?_, ?_, ?_, ?_, ?_, ?_, ?_, ?_, ?_, ?_, ?_, ?_, ?_, ?_, ?_, ?_, ?_, ?_⟩ <;>
    (unfold State.abortStart; (try dsimp only) <;> ((repeat' split) <;> (try simp)))

@[simp] theorem State.abortStart_gate (s : State) (why : Reason) (n : GateNo) :
    (s.abortStart why).gate n = s.gate n := State.gate_congr (by simp) n

/-- The fields of the records that `abortStart` leaves as they are. -/
@[simp] theorem State.abortStart_records (s : State) (why : Reason) (j : Slot) :
    ((s.abortStart why).entrant j).code = (s.entrant j).code
    ∧ ((s.abortStart why).entrant j).state = (s.entrant j).state
    ∧ ((s.abortStart why).entrant j).station = (s.entrant j).station
    ∧ ((s.abortStart why).entrant j).lane = (s.entrant j).lane
    ∧ ((s.abortStart why).entrant j).pitStatus = (s.entrant j).pitStatus
    ∧ ((s.abortStart why).entrant j).pitEntry = (s.entrant j).pitEntry
    ∧ ((s.abortStart why).entrant j).boxArrival = (s.entrant j).boxArrival
    ∧ ((s.abortStart why).entrant j).boxVisited = (s.entrant j).boxVisited
    ∧ ((s.abortStart why).entrant j).pitStops = (s.entrant j).pitStops
    ∧ ((s.abortStart why).entrant j).laps = (s.entrant j).laps
    ∧ ((s.abortStart why).entrant j).latestCrossing = (s.entrant j).latestCrossing
    ∧ ((s.abortStart why).entrant j).prevCrossing = (s.entrant j).prevCrossing
    ∧ ((s.abortStart why).entrant j).reachTime = (s.entrant j).reachTime
    ∧ ((s.abortStart why).entrant j).lastLap = (s.entrant j).lastLap
    ∧ ((s.abortStart why).entrant j).lastLapMarks = (s.entrant j).lastLapMarks
    ∧ ((s.abortStart why).entrant j).bestLap = (s.entrant j).bestLap
    ∧ ((s.abortStart why).entrant j).sector = (s.entrant j).sector
    ∧ ((s.abortStart why).entrant j).currentSectors = (s.entrant j).currentSectors
    ∧ ((s.abortStart why).entrant j).lastSectors = (s.entrant j).lastSectors
    ∧ ((s.abortStart why).entrant j).lastBoundary = (s.entrant j).lastBoundary
    ∧ ((s.abortStart why).entrant j).lapCaution = (s.entrant j).lapCaution
    ∧ ((s.abortStart why).entrant j).gap = (s.entrant j).gap
    ∧ ((s.abortStart why).entrant j).lapsDown = (s.entrant j).lapsDown
    ∧ ((s.abortStart why).entrant j).latestPass = (s.entrant j).latestPass
    ∧ ((s.abortStart why).entrant j).deadline = (s.entrant j).deadline
    ∧ ((s.abortStart why).entrant j).overdue = (s.entrant j).overdue
    ∧ ((s.abortStart why).entrant j).callsUsed = (s.entrant j).callsUsed
    ∧ ((s.abortStart why).entrant j).override = (s.entrant j).override
    ∧ ((s.abortStart why).entrant j).activity = (s.entrant j).activity
    ∧ ((s.abortStart why).entrant j).finishStatus = (s.entrant j).finishStatus
    ∧ ((s.abortStart why).entrant j).finishTime = (s.entrant j).finishTime
    ∧ ((s.abortStart why).entrant j).penalties = (s.entrant j).penalties
    ∧ ((s.abortStart why).entrant j).holdTimer = (s.entrant j).holdTimer
    ∧ ((s.abortStart why).entrant j).powerHold = (s.entrant j).powerHold
    ∧ ((s.abortStart why).entrant j).blackFlag = (s.entrant j).blackFlag := by
  refine ⟨?_, ?_, ?_, ?_, ?_, ?_, ?_, ?_, ?_, ?_, ?_, ?_, ?_, ?_, ?_, ?_, ?_, ?_, ?_, ?_, ?_, ?_, ?_, ?_, ?_, ?_, ?_, ?_, ?_, ?_, ?_, ?_, ?_, ?_, ?_⟩ <;>
    (unfold State.abortStart; (try dsimp only) <;> ((repeat' split) <;> (try simp [State.entrant_modEntrant, State.entrant_mk, State.entrants_getElem]) <;> (try (split <;> simp_all))))

/-- What `suspensionCause` leaves as it is. -/
@[simp] theorem State.suspensionCause_frame (s : State) (why : Reason) :
    (s.suspensionCause why).cfg = s.cfg ∧ (s.suspensionCause why).gates = s.gates
    ∧ (s.suspensionCause why).testStart = s.testStart ∧ (s.suspensionCause why).resolver = s.resolver
    ∧ (s.suspensionCause why).ring = s.ring ∧ (s.suspensionCause why).highMark = s.highMark
    ∧ (s.suspensionCause why).standings = s.standings ∧ (s.suspensionCause why).race.raceClock = s.race.raceClock
    ∧ (s.suspensionCause why).race.suspTotal = s.race.suspTotal ∧ (s.suspensionCause why).race.green = s.race.green
    ∧ (s.suspensionCause why).race.runningClock = s.race.runningClock
    ∧ (s.suspensionCause why).race.finishDeadline = s.race.finishDeadline
    ∧ (s.suspensionCause why).race.yellow = s.race.yellow ∧ (s.suspensionCause why).race.caution = s.race.caution
    ∧ (s.suspensionCause why).race.powerSetting = s.race.powerSetting
    ∧ (s.suspensionCause why).callTable = s.callTable ∧ (s.suspensionCause why).ceiling.sender = s.ceiling.sender
    ∧ (s.suspensionCause why).ceiling.paused = s.ceiling.paused
    ∧ (s.suspensionCause why).ceiling.nextRefresh = s.ceiling.nextRefresh
    ∧ (s.suspensionCause why).inputs = s.inputs ∧ (s.suspensionCause why).attention.test = s.attention.test
    ∧ (s.suspensionCause why).attention.mask = s.attention.mask ∧ (s.suspensionCause why).link = s.link
    ∧ (s.suspensionCause why).pins = s.pins ∧ (s.suspensionCause why).pending = s.pending := by
  refine ⟨?_, ?_, ?_, ?_, ?_, ?_, ?_, ?_, ?_, ?_, ?_, ?_, ?_, ?_, ?_, ?_, ?_, ?_, ?_, ?_, ?_, ?_, ?_, ?_, ?_⟩ <;>
    (unfold State.suspensionCause; (try dsimp only) <;> ((repeat' split) <;> (try simp)))

@[simp] theorem State.suspensionCause_gate (s : State) (why : Reason) (n : GateNo) :
    (s.suspensionCause why).gate n = s.gate n := State.gate_congr (by simp) n

/-- The fields of the records that `suspensionCause` leaves as they are. -/
@[simp] theorem State.suspensionCause_records (s : State) (why : Reason) (j : Slot) :
    ((s.suspensionCause why).entrant j).code = (s.entrant j).code
    ∧ ((s.suspensionCause why).entrant j).state = (s.entrant j).state
    ∧ ((s.suspensionCause why).entrant j).station = (s.entrant j).station
    ∧ ((s.suspensionCause why).entrant j).lane = (s.entrant j).lane
    ∧ ((s.suspensionCause why).entrant j).pitStatus = (s.entrant j).pitStatus
    ∧ ((s.suspensionCause why).entrant j).pitEntry = (s.entrant j).pitEntry
    ∧ ((s.suspensionCause why).entrant j).boxArrival = (s.entrant j).boxArrival
    ∧ ((s.suspensionCause why).entrant j).boxVisited = (s.entrant j).boxVisited
    ∧ ((s.suspensionCause why).entrant j).pitStops = (s.entrant j).pitStops
    ∧ ((s.suspensionCause why).entrant j).laps = (s.entrant j).laps
    ∧ ((s.suspensionCause why).entrant j).latestCrossing = (s.entrant j).latestCrossing
    ∧ ((s.suspensionCause why).entrant j).prevCrossing = (s.entrant j).prevCrossing
    ∧ ((s.suspensionCause why).entrant j).reachTime = (s.entrant j).reachTime
    ∧ ((s.suspensionCause why).entrant j).lastLap = (s.entrant j).lastLap
    ∧ ((s.suspensionCause why).entrant j).lastLapMarks = (s.entrant j).lastLapMarks
    ∧ ((s.suspensionCause why).entrant j).bestLap = (s.entrant j).bestLap
    ∧ ((s.suspensionCause why).entrant j).sector = (s.entrant j).sector
    ∧ ((s.suspensionCause why).entrant j).currentSectors = (s.entrant j).currentSectors
    ∧ ((s.suspensionCause why).entrant j).lastSectors = (s.entrant j).lastSectors
    ∧ ((s.suspensionCause why).entrant j).lastBoundary = (s.entrant j).lastBoundary
    ∧ ((s.suspensionCause why).entrant j).lapCaution = (s.entrant j).lapCaution
    ∧ ((s.suspensionCause why).entrant j).gap = (s.entrant j).gap
    ∧ ((s.suspensionCause why).entrant j).lapsDown = (s.entrant j).lapsDown
    ∧ ((s.suspensionCause why).entrant j).latestPass = (s.entrant j).latestPass
    ∧ ((s.suspensionCause why).entrant j).deadline = (s.entrant j).deadline
    ∧ ((s.suspensionCause why).entrant j).overdue = (s.entrant j).overdue
    ∧ ((s.suspensionCause why).entrant j).callsUsed = (s.entrant j).callsUsed
    ∧ ((s.suspensionCause why).entrant j).override = (s.entrant j).override
    ∧ ((s.suspensionCause why).entrant j).activity = (s.entrant j).activity
    ∧ ((s.suspensionCause why).entrant j).finishStatus = (s.entrant j).finishStatus
    ∧ ((s.suspensionCause why).entrant j).finishTime = (s.entrant j).finishTime
    ∧ ((s.suspensionCause why).entrant j).penalties = (s.entrant j).penalties
    ∧ ((s.suspensionCause why).entrant j).holdTimer = (s.entrant j).holdTimer
    ∧ ((s.suspensionCause why).entrant j).powerHold = (s.entrant j).powerHold
    ∧ ((s.suspensionCause why).entrant j).blackFlag = (s.entrant j).blackFlag := by
  refine ⟨?_, ?_, ?_, ?_, ?_, ?_, ?_, ?_, ?_, ?_, ?_, ?_, ?_, ?_, ?_, ?_, ?_, ?_, ?_, ?_, ?_, ?_, ?_, ?_, ?_, ?_, ?_, ?_, ?_, ?_, ?_, ?_, ?_, ?_, ?_⟩ <;>
    (unfold State.suspensionCause; (try dsimp only) <;> ((repeat' split) <;> (try simp [State.entrant_modEntrant, State.entrant_mk, State.entrants_getElem]) <;> (try (split <;> simp_all))))

/-- What `resumeRace` leaves as it is. -/
@[simp] theorem State.resumeRace_frame (s : State) (y : Bool) :
    (s.resumeRace y).cfg = s.cfg ∧ (s.resumeRace y).gates = s.gates ∧ (s.resumeRace y).testStart = s.testStart
    ∧ (s.resumeRace y).resolver = s.resolver ∧ (s.resumeRace y).ring = s.ring
    ∧ (s.resumeRace y).highMark = s.highMark ∧ (s.resumeRace y).standings = s.standings
    ∧ (s.resumeRace y).race.raceClock = s.race.raceClock ∧ (s.resumeRace y).race.green = s.race.green
    ∧ (s.resumeRace y).race.runningClock = s.race.runningClock ∧ (s.resumeRace y).race.countdown = s.race.countdown
    ∧ (s.resumeRace y).race.caution = s.race.caution ∧ (s.resumeRace y).race.powerSetting = s.race.powerSetting
    ∧ (s.resumeRace y).callTable = s.callTable ∧ (s.resumeRace y).ceiling.sender = s.ceiling.sender
    ∧ (s.resumeRace y).ceiling.paused = s.ceiling.paused
    ∧ (s.resumeRace y).ceiling.nextRefresh = s.ceiling.nextRefresh ∧ (s.resumeRace y).inputs = s.inputs
    ∧ (s.resumeRace y).attention.suspended = s.attention.suspended
    ∧ (s.resumeRace y).attention.test = s.attention.test ∧ (s.resumeRace y).attention.mask = s.attention.mask
    ∧ (s.resumeRace y).link = s.link ∧ (s.resumeRace y).pins = s.pins ∧ (s.resumeRace y).pending = s.pending := by
  refine ⟨?_, ?_, ?_, ?_, ?_, ?_, ?_, ?_, ?_, ?_, ?_, ?_, ?_, ?_, ?_, ?_, ?_, ?_, ?_, ?_, ?_, ?_, ?_, ?_⟩ <;>
    (unfold State.resumeRace; (try dsimp only) <;> ((repeat' split) <;> (try simp)))

@[simp] theorem State.resumeRace_gate (s : State) (y : Bool) (n : GateNo) :
    (s.resumeRace y).gate n = s.gate n := State.gate_congr (by simp) n

/-- The fields of the records that `resumeRace` leaves as they are. -/
@[simp] theorem State.resumeRace_records (s : State) (y : Bool) (j : Slot) :
    ((s.resumeRace y).entrant j).code = (s.entrant j).code
    ∧ ((s.resumeRace y).entrant j).state = (s.entrant j).state
    ∧ ((s.resumeRace y).entrant j).station = (s.entrant j).station
    ∧ ((s.resumeRace y).entrant j).lane = (s.entrant j).lane
    ∧ ((s.resumeRace y).entrant j).pitStatus = (s.entrant j).pitStatus
    ∧ ((s.resumeRace y).entrant j).pitEntry = (s.entrant j).pitEntry
    ∧ ((s.resumeRace y).entrant j).boxArrival = (s.entrant j).boxArrival
    ∧ ((s.resumeRace y).entrant j).boxVisited = (s.entrant j).boxVisited
    ∧ ((s.resumeRace y).entrant j).pitStops = (s.entrant j).pitStops
    ∧ ((s.resumeRace y).entrant j).laps = (s.entrant j).laps
    ∧ ((s.resumeRace y).entrant j).latestCrossing = (s.entrant j).latestCrossing
    ∧ ((s.resumeRace y).entrant j).prevCrossing = (s.entrant j).prevCrossing
    ∧ ((s.resumeRace y).entrant j).reachTime = (s.entrant j).reachTime
    ∧ ((s.resumeRace y).entrant j).lastLap = (s.entrant j).lastLap
    ∧ ((s.resumeRace y).entrant j).lastLapMarks = (s.entrant j).lastLapMarks
    ∧ ((s.resumeRace y).entrant j).bestLap = (s.entrant j).bestLap
    ∧ ((s.resumeRace y).entrant j).sector = (s.entrant j).sector
    ∧ ((s.resumeRace y).entrant j).currentSectors = (s.entrant j).currentSectors
    ∧ ((s.resumeRace y).entrant j).lastSectors = (s.entrant j).lastSectors
    ∧ ((s.resumeRace y).entrant j).lastBoundary = (s.entrant j).lastBoundary
    ∧ ((s.resumeRace y).entrant j).gap = (s.entrant j).gap
    ∧ ((s.resumeRace y).entrant j).lapsDown = (s.entrant j).lapsDown
    ∧ ((s.resumeRace y).entrant j).latestPass = (s.entrant j).latestPass
    ∧ ((s.resumeRace y).entrant j).deadline = (s.entrant j).deadline
    ∧ ((s.resumeRace y).entrant j).overdue = (s.entrant j).overdue
    ∧ ((s.resumeRace y).entrant j).jumpStart = (s.entrant j).jumpStart
    ∧ ((s.resumeRace y).entrant j).callsUsed = (s.entrant j).callsUsed
    ∧ ((s.resumeRace y).entrant j).override = (s.entrant j).override
    ∧ ((s.resumeRace y).entrant j).activity = (s.entrant j).activity
    ∧ ((s.resumeRace y).entrant j).finishStatus = (s.entrant j).finishStatus
    ∧ ((s.resumeRace y).entrant j).finishTime = (s.entrant j).finishTime
    ∧ ((s.resumeRace y).entrant j).penalties = (s.entrant j).penalties
    ∧ ((s.resumeRace y).entrant j).holdTimer = (s.entrant j).holdTimer
    ∧ ((s.resumeRace y).entrant j).powerHold = (s.entrant j).powerHold
    ∧ ((s.resumeRace y).entrant j).blackFlag = (s.entrant j).blackFlag := by
  refine ⟨?_, ?_, ?_, ?_, ?_, ?_, ?_, ?_, ?_, ?_, ?_, ?_, ?_, ?_, ?_, ?_, ?_, ?_, ?_, ?_, ?_, ?_, ?_, ?_, ?_, ?_, ?_, ?_, ?_, ?_, ?_, ?_, ?_, ?_, ?_⟩ <;>
    (unfold State.resumeRace; (try dsimp only) <;> ((repeat' split) <;> (try simp [State.entrant_modEntrant, State.entrant_mk, State.entrants_getElem]) <;> (try (split <;> simp_all))))

/-! ### What a suspension cause does in each race state -/

/-- A suspension cause suspends a Running or Finishing race, aborts a countdown, and does nothing else (R109, R110). -/
theorem State.suspensionCause_cases (s : State) (why : Reason) :
    (s.race.state = .running ∧ s.suspensionCause why = s.suspendFrom .running why)
      ∨ (s.race.state = .finishing ∧ s.suspensionCause why = s.suspendFrom .finishing why)
      ∨ (s.race.state = .countdown ∧ s.suspensionCause why = s.abortStart why)
      ∨ (s.race.state.heldCounts = false ∧ s.suspensionCause why = s) := by
  unfold State.suspensionCause
  cases h : s.race.state <;> simp [RaceState.heldCounts]

/-- The race is Complete only where it was Finishing with no Racing entrant left (R119). -/
theorem State.checkFinished_cases (s : State) :
    (s.race.state = .finishing ∧ s.racingLeft = false ∧ s.checkFinished = s.complete)
      ∨ ((s.race.state = .finishing → s.racingLeft = true) ∧ s.checkFinished = s) := by
  unfold State.checkFinished
  by_cases h : s.race.state = .finishing ∧ s.racingLeft = false
  · exact .inl ⟨h.1, h.2, by simp [h]⟩
  · refine .inr ⟨fun hf => ?_, by simp only [h, if_false]⟩
    by_contra hr
    exact h ⟨hf, by simpa using hr⟩

@[simp] theorem State.complete_state (s : State) : s.complete.race.state = .complete := by simp [State.complete]

@[simp] theorem State.complete_attention (s : State) : s.complete.attention.race = true := by simp [State.complete]

@[simp] theorem State.endRace_state (s : State) (t : RunTime) : (s.endRace t).race.state = .complete := by
  simp [State.endRace]

@[simp] theorem State.suspendFrom_state (s : State) (b : ResumeTo) (why : Reason) :
    (s.suspendFrom b why).race.state = .suspended := by simp [State.suspendFrom]

@[simp] theorem State.abortStart_state (s : State) (why : Reason) : (s.abortStart why).race.state = .staging := by
  simp [State.abortStart]

@[simp] theorem State.green_state (s : State) : s.green.race.state = .running := by simp [State.green]

/-- G is the race clock at green, and the running clock and S start from 0 (R108). -/
theorem State.green_times (s : State) :
    s.green.race.green = some s.race.raceClock ∧ s.green.race.runningClock = 0 ∧ s.green.race.suspTotal = 0
      ∧ s.green.race.countdown = none := by simp [State.green]

end Sys2Proof.Machine
end

