-- ==== Sys2Proof/Laws/Passings.lean ====
section
/-! SUPPORT. What the operations of laps, passes and the queue can change, and what they leave as it is. -/

set_option linter.all false

namespace Sys2Proof.Machine

/-- What `launch` leaves as it is. -/
@[simp] theorem State.launch_frame (s : State) (i : Slot) (t : RunTime) :
    (s.launch i t).cfg = s.cfg ∧ (s.launch i t).gates = s.gates ∧ (s.launch i t).testStart = s.testStart
    ∧ (s.launch i t).resolver = s.resolver ∧ (s.launch i t).ring = s.ring ∧ (s.launch i t).highMark = s.highMark
    ∧ (s.launch i t).race = s.race ∧ (s.launch i t).callTable = s.callTable
    ∧ (s.launch i t).ceiling.sender = s.ceiling.sender ∧ (s.launch i t).ceiling.paused = s.ceiling.paused
    ∧ (s.launch i t).ceiling.holdStart = s.ceiling.holdStart
    ∧ (s.launch i t).ceiling.nextRefresh = s.ceiling.nextRefresh ∧ (s.launch i t).inputs = s.inputs
    ∧ (s.launch i t).attention = s.attention ∧ (s.launch i t).link = s.link ∧ (s.launch i t).pins = s.pins
    ∧ (s.launch i t).pending = s.pending := by
  refine ⟨?_, ?_, ?_, ?_, ?_, ?_, ?_, ?_, ?_, ?_, ?_, ?_, ?_, ?_, ?_, ?_, ?_⟩ <;>
    (unfold State.launch; (try dsimp only) <;> ((repeat' split) <;> (try simp)))

@[simp] theorem State.launch_gate (s : State) (i : Slot) (t : RunTime) (n : GateNo) :
    (s.launch i t).gate n = s.gate n := State.gate_congr (by simp) n

/-- The fields of the records that `launch` leaves as they are. -/
@[simp] theorem State.launch_records (s : State) (i : Slot) (t : RunTime) (j : Slot) :
    ((s.launch i t).entrant j).code = (s.entrant j).code ∧ ((s.launch i t).entrant j).state = (s.entrant j).state
    ∧ ((s.launch i t).entrant j).station = (s.entrant j).station
    ∧ ((s.launch i t).entrant j).lane = (s.entrant j).lane
    ∧ ((s.launch i t).entrant j).pitStatus = (s.entrant j).pitStatus
    ∧ ((s.launch i t).entrant j).pitEntry = (s.entrant j).pitEntry
    ∧ ((s.launch i t).entrant j).boxArrival = (s.entrant j).boxArrival
    ∧ ((s.launch i t).entrant j).boxVisited = (s.entrant j).boxVisited
    ∧ ((s.launch i t).entrant j).pitStops = (s.entrant j).pitStops
    ∧ ((s.launch i t).entrant j).laps = (s.entrant j).laps
    ∧ ((s.launch i t).entrant j).prevCrossing = (s.entrant j).prevCrossing
    ∧ ((s.launch i t).entrant j).lastLap = (s.entrant j).lastLap
    ∧ ((s.launch i t).entrant j).lastLapMarks = (s.entrant j).lastLapMarks
    ∧ ((s.launch i t).entrant j).bestLap = (s.entrant j).bestLap
    ∧ ((s.launch i t).entrant j).lastSectors = (s.entrant j).lastSectors
    ∧ ((s.launch i t).entrant j).latestPass = (s.entrant j).latestPass
    ∧ ((s.launch i t).entrant j).deadline = (s.entrant j).deadline
    ∧ ((s.launch i t).entrant j).overdue = (s.entrant j).overdue
    ∧ ((s.launch i t).entrant j).jumpStart = (s.entrant j).jumpStart
    ∧ ((s.launch i t).entrant j).callsUsed = (s.entrant j).callsUsed
    ∧ ((s.launch i t).entrant j).override = (s.entrant j).override
    ∧ ((s.launch i t).entrant j).activity = (s.entrant j).activity
    ∧ ((s.launch i t).entrant j).finishStatus = (s.entrant j).finishStatus
    ∧ ((s.launch i t).entrant j).finishTime = (s.entrant j).finishTime
    ∧ ((s.launch i t).entrant j).penalties = (s.entrant j).penalties
    ∧ ((s.launch i t).entrant j).holdTimer = (s.entrant j).holdTimer
    ∧ ((s.launch i t).entrant j).powerHold = (s.entrant j).powerHold
    ∧ ((s.launch i t).entrant j).blackFlag = (s.entrant j).blackFlag := by
  refine ⟨?_, ?_, ?_, ?_, ?_, ?_, ?_, ?_, ?_, ?_, ?_, ?_, ?_, ?_, ?_, ?_, ?_, ?_, ?_, ?_, ?_, ?_, ?_, ?_, ?_, ?_, ?_, ?_⟩ <;>
    (unfold State.launch; (try dsimp only) <;> ((repeat' split) <;> (try simp [State.entrant_modEntrant, State.entrant_mk, State.entrants_getElem, Entrant.credited, Entrant.splitLap]) <;> (try (split <;> simp_all))))

/-- What `measure` leaves as it is. -/
@[simp] theorem State.measure_frame (s : State) (i : Slot) (m : Nat) (t : RunTime) :
    (s.measure i m t).cfg = s.cfg ∧ (s.measure i m t).gates = s.gates ∧ (s.measure i m t).testStart = s.testStart
    ∧ (s.measure i m t).resolver = s.resolver ∧ (s.measure i m t).standings = s.standings
    ∧ (s.measure i m t).race = s.race ∧ (s.measure i m t).callTable = s.callTable
    ∧ (s.measure i m t).ceiling = s.ceiling ∧ (s.measure i m t).inputs = s.inputs
    ∧ (s.measure i m t).attention = s.attention ∧ (s.measure i m t).link = s.link ∧ (s.measure i m t).pins = s.pins
    ∧ (s.measure i m t).pending = s.pending := by
  refine ⟨?_, ?_, ?_, ?_, ?_, ?_, ?_, ?_, ?_, ?_, ?_, ?_, ?_⟩ <;>
    (unfold State.measure; (try dsimp only) <;> ((repeat' split) <;> (try simp)))

@[simp] theorem State.measure_gate (s : State) (i : Slot) (m : Nat) (t : RunTime) (n : GateNo) :
    (s.measure i m t).gate n = s.gate n := State.gate_congr (by simp) n

/-- The fields of the records that `measure` leaves as they are. -/
@[simp] theorem State.measure_records (s : State) (i : Slot) (m : Nat) (t : RunTime) (j : Slot) :
    ((s.measure i m t).entrant j).code = (s.entrant j).code
    ∧ ((s.measure i m t).entrant j).state = (s.entrant j).state
    ∧ ((s.measure i m t).entrant j).station = (s.entrant j).station
    ∧ ((s.measure i m t).entrant j).lane = (s.entrant j).lane
    ∧ ((s.measure i m t).entrant j).pitStatus = (s.entrant j).pitStatus
    ∧ ((s.measure i m t).entrant j).pitEntry = (s.entrant j).pitEntry
    ∧ ((s.measure i m t).entrant j).boxArrival = (s.entrant j).boxArrival
    ∧ ((s.measure i m t).entrant j).boxVisited = (s.entrant j).boxVisited
    ∧ ((s.measure i m t).entrant j).pitStops = (s.entrant j).pitStops
    ∧ ((s.measure i m t).entrant j).laps = (s.entrant j).laps
    ∧ ((s.measure i m t).entrant j).latestCrossing = (s.entrant j).latestCrossing
    ∧ ((s.measure i m t).entrant j).prevCrossing = (s.entrant j).prevCrossing
    ∧ ((s.measure i m t).entrant j).reachTime = (s.entrant j).reachTime
    ∧ ((s.measure i m t).entrant j).lastLap = (s.entrant j).lastLap
    ∧ ((s.measure i m t).entrant j).lastLapMarks = (s.entrant j).lastLapMarks
    ∧ ((s.measure i m t).entrant j).bestLap = (s.entrant j).bestLap
    ∧ ((s.measure i m t).entrant j).sector = (s.entrant j).sector
    ∧ ((s.measure i m t).entrant j).currentSectors = (s.entrant j).currentSectors
    ∧ ((s.measure i m t).entrant j).lastSectors = (s.entrant j).lastSectors
    ∧ ((s.measure i m t).entrant j).lastBoundary = (s.entrant j).lastBoundary
    ∧ ((s.measure i m t).entrant j).lapCaution = (s.entrant j).lapCaution
    ∧ ((s.measure i m t).entrant j).latestPass = (s.entrant j).latestPass
    ∧ ((s.measure i m t).entrant j).deadline = (s.entrant j).deadline
    ∧ ((s.measure i m t).entrant j).overdue = (s.entrant j).overdue
    ∧ ((s.measure i m t).entrant j).jumpStart = (s.entrant j).jumpStart
    ∧ ((s.measure i m t).entrant j).callsUsed = (s.entrant j).callsUsed
    ∧ ((s.measure i m t).entrant j).override = (s.entrant j).override
    ∧ ((s.measure i m t).entrant j).effective = (s.entrant j).effective
    ∧ ((s.measure i m t).entrant j).activity = (s.entrant j).activity
    ∧ ((s.measure i m t).entrant j).finishStatus = (s.entrant j).finishStatus
    ∧ ((s.measure i m t).entrant j).finishTime = (s.entrant j).finishTime
    ∧ ((s.measure i m t).entrant j).penalties = (s.entrant j).penalties
    ∧ ((s.measure i m t).entrant j).holdTimer = (s.entrant j).holdTimer
    ∧ ((s.measure i m t).entrant j).powerHold = (s.entrant j).powerHold
    ∧ ((s.measure i m t).entrant j).blackFlag = (s.entrant j).blackFlag := by
  refine ⟨?_, ?_, ?_, ?_, ?_, ?_, ?_, ?_, ?_, ?_, ?_, ?_, ?_, ?_, ?_, ?_, ?_, ?_, ?_, ?_, ?_, ?_, ?_, ?_, ?_, ?_, ?_, ?_, ?_, ?_, ?_, ?_, ?_, ?_, ?_⟩ <;>
    (unfold State.measure; (try dsimp only) <;> ((repeat' split) <;> (try simp [State.entrant_modEntrant, State.entrant_mk, State.entrants_getElem, Entrant.credited, Entrant.splitLap]) <;> (try (split <;> simp_all))))

/-- What `credit` leaves as it is. -/
@[simp] theorem State.credit_frame (s : State) (i : Slot) (l t : RunTime) (a : Bool) :
    (s.credit i l t a).cfg = s.cfg ∧ (s.credit i l t a).gates = s.gates
    ∧ (s.credit i l t a).testStart = s.testStart ∧ (s.credit i l t a).resolver = s.resolver
    ∧ (s.credit i l t a).race.raceClock = s.race.raceClock ∧ (s.credit i l t a).race.suspTotal = s.race.suspTotal
    ∧ (s.credit i l t a).race.green = s.race.green ∧ (s.credit i l t a).race.runningClock = s.race.runningClock
    ∧ (s.credit i l t a).race.countdown = s.race.countdown ∧ (s.credit i l t a).race.yellow = s.race.yellow
    ∧ (s.credit i l t a).race.powerSetting = s.race.powerSetting ∧ (s.credit i l t a).callTable = s.callTable
    ∧ (s.credit i l t a).ceiling.sender = s.ceiling.sender ∧ (s.credit i l t a).ceiling.paused = s.ceiling.paused
    ∧ (s.credit i l t a).ceiling.nextRefresh = s.ceiling.nextRefresh ∧ (s.credit i l t a).inputs = s.inputs
    ∧ (s.credit i l t a).attention.suspended = s.attention.suspended
    ∧ (s.credit i l t a).attention.test = s.attention.test ∧ (s.credit i l t a).attention.mask = s.attention.mask
    ∧ (s.credit i l t a).link = s.link ∧ (s.credit i l t a).pins = s.pins ∧ (s.credit i l t a).pending = s.pending := by
  refine ⟨?_, ?_, ?_, ?_, ?_, ?_, ?_, ?_, ?_, ?_, ?_, ?_, ?_, ?_, ?_, ?_, ?_, ?_, ?_, ?_, ?_, ?_⟩ <;>
    (unfold State.credit; (try dsimp only) <;> ((repeat' split) <;> (try simp)))

@[simp] theorem State.credit_gate (s : State) (i : Slot) (l t : RunTime) (a : Bool) (n : GateNo) :
    (s.credit i l t a).gate n = s.gate n := State.gate_congr (by simp) n

/-- The fields of the records that `credit` leaves as they are. -/
@[simp] theorem State.credit_records (s : State) (i : Slot) (l t : RunTime) (a : Bool) (j : Slot) :
    ((s.credit i l t a).entrant j).code = (s.entrant j).code
    ∧ ((s.credit i l t a).entrant j).station = (s.entrant j).station
    ∧ ((s.credit i l t a).entrant j).lane = (s.entrant j).lane
    ∧ ((s.credit i l t a).entrant j).pitStatus = (s.entrant j).pitStatus
    ∧ ((s.credit i l t a).entrant j).pitEntry = (s.entrant j).pitEntry
    ∧ ((s.credit i l t a).entrant j).boxArrival = (s.entrant j).boxArrival
    ∧ ((s.credit i l t a).entrant j).boxVisited = (s.entrant j).boxVisited
    ∧ ((s.credit i l t a).entrant j).pitStops = (s.entrant j).pitStops
    ∧ ((s.credit i l t a).entrant j).latestPass = (s.entrant j).latestPass
    ∧ ((s.credit i l t a).entrant j).jumpStart = (s.entrant j).jumpStart
    ∧ ((s.credit i l t a).entrant j).callsUsed = (s.entrant j).callsUsed
    ∧ ((s.credit i l t a).entrant j).override = (s.entrant j).override := by
  refine ⟨?_, ?_, ?_, ?_, ?_, ?_, ?_, ?_, ?_, ?_, ?_, ?_⟩ <;>
    (unfold State.credit; (try dsimp only) <;> ((repeat' split) <;> (try simp [State.entrant_modEntrant, State.entrant_mk, State.entrants_getElem, Entrant.credited, Entrant.splitLap]) <;> (try (split <;> simp_all))))

/-- What `crossing` leaves as it is. -/
@[simp] theorem State.crossing_frame (s : State) (i : Slot) (t : RunTime) :
    (s.crossing i t).cfg = s.cfg ∧ (s.crossing i t).gates = s.gates ∧ (s.crossing i t).testStart = s.testStart
    ∧ (s.crossing i t).resolver = s.resolver ∧ (s.crossing i t).race.raceClock = s.race.raceClock
    ∧ (s.crossing i t).race.suspTotal = s.race.suspTotal ∧ (s.crossing i t).race.green = s.race.green
    ∧ (s.crossing i t).race.runningClock = s.race.runningClock ∧ (s.crossing i t).race.countdown = s.race.countdown
    ∧ (s.crossing i t).race.yellow = s.race.yellow ∧ (s.crossing i t).race.powerSetting = s.race.powerSetting
    ∧ (s.crossing i t).callTable = s.callTable ∧ (s.crossing i t).ceiling.sender = s.ceiling.sender
    ∧ (s.crossing i t).ceiling.paused = s.ceiling.paused
    ∧ (s.crossing i t).ceiling.nextRefresh = s.ceiling.nextRefresh ∧ (s.crossing i t).inputs = s.inputs
    ∧ (s.crossing i t).attention.suspended = s.attention.suspended
    ∧ (s.crossing i t).attention.test = s.attention.test ∧ (s.crossing i t).attention.mask = s.attention.mask
    ∧ (s.crossing i t).link = s.link ∧ (s.crossing i t).pins = s.pins ∧ (s.crossing i t).pending = s.pending := by
  refine ⟨?_, ?_, ?_, ?_, ?_, ?_, ?_, ?_, ?_, ?_, ?_, ?_, ?_, ?_, ?_, ?_, ?_, ?_, ?_, ?_, ?_, ?_⟩ <;>
    (unfold State.crossing; (try dsimp only) <;> ((repeat' split) <;> (try simp)))

@[simp] theorem State.crossing_gate (s : State) (i : Slot) (t : RunTime) (n : GateNo) :
    (s.crossing i t).gate n = s.gate n := State.gate_congr (by simp) n

/-- The fields of the records that `crossing` leaves as they are. -/
@[simp] theorem State.crossing_records (s : State) (i : Slot) (t : RunTime) (j : Slot) :
    ((s.crossing i t).entrant j).code = (s.entrant j).code
    ∧ ((s.crossing i t).entrant j).station = (s.entrant j).station
    ∧ ((s.crossing i t).entrant j).lane = (s.entrant j).lane
    ∧ ((s.crossing i t).entrant j).pitStatus = (s.entrant j).pitStatus
    ∧ ((s.crossing i t).entrant j).pitEntry = (s.entrant j).pitEntry
    ∧ ((s.crossing i t).entrant j).boxArrival = (s.entrant j).boxArrival
    ∧ ((s.crossing i t).entrant j).boxVisited = (s.entrant j).boxVisited
    ∧ ((s.crossing i t).entrant j).pitStops = (s.entrant j).pitStops
    ∧ ((s.crossing i t).entrant j).latestPass = (s.entrant j).latestPass
    ∧ ((s.crossing i t).entrant j).jumpStart = (s.entrant j).jumpStart
    ∧ ((s.crossing i t).entrant j).callsUsed = (s.entrant j).callsUsed
    ∧ ((s.crossing i t).entrant j).override = (s.entrant j).override := by
  refine ⟨?_, ?_, ?_, ?_, ?_, ?_, ?_, ?_, ?_, ?_, ?_, ?_⟩ <;>
    (unfold State.crossing; (try dsimp only) <;> ((repeat' split) <;> (try simp [State.entrant_modEntrant, State.entrant_mk, State.entrants_getElem, Entrant.credited, Entrant.splitLap]) <;> (try (split <;> simp_all))))

/-- What `boundary` leaves as it is. -/
@[simp] theorem State.boundary_frame (s : State) (i : Slot) (b : Nat) (t : RunTime) :
    (s.boundary i b t).cfg = s.cfg ∧ (s.boundary i b t).gates = s.gates
    ∧ (s.boundary i b t).testStart = s.testStart ∧ (s.boundary i b t).resolver = s.resolver
    ∧ (s.boundary i b t).ring = s.ring ∧ (s.boundary i b t).highMark = s.highMark
    ∧ (s.boundary i b t).standings = s.standings ∧ (s.boundary i b t).race = s.race
    ∧ (s.boundary i b t).callTable = s.callTable ∧ (s.boundary i b t).ceiling.sender = s.ceiling.sender
    ∧ (s.boundary i b t).ceiling.paused = s.ceiling.paused
    ∧ (s.boundary i b t).ceiling.holdStart = s.ceiling.holdStart
    ∧ (s.boundary i b t).ceiling.nextRefresh = s.ceiling.nextRefresh ∧ (s.boundary i b t).inputs = s.inputs
    ∧ (s.boundary i b t).attention = s.attention ∧ (s.boundary i b t).link = s.link
    ∧ (s.boundary i b t).pins = s.pins ∧ (s.boundary i b t).pending = s.pending := by
  refine ⟨?_, ?_, ?_, ?_, ?_, ?_, ?_, ?_, ?_, ?_, ?_, ?_, ?_, ?_, ?_, ?_, ?_, ?_⟩ <;>
    (unfold State.boundary; (try dsimp only) <;> ((repeat' split) <;> (try simp)))

@[simp] theorem State.boundary_gate (s : State) (i : Slot) (b : Nat) (t : RunTime) (n : GateNo) :
    (s.boundary i b t).gate n = s.gate n := State.gate_congr (by simp) n

/-- The fields of the records that `boundary` leaves as they are. -/
@[simp] theorem State.boundary_records (s : State) (i : Slot) (b : Nat) (t : RunTime) (j : Slot) :
    ((s.boundary i b t).entrant j).code = (s.entrant j).code
    ∧ ((s.boundary i b t).entrant j).state = (s.entrant j).state
    ∧ ((s.boundary i b t).entrant j).station = (s.entrant j).station
    ∧ ((s.boundary i b t).entrant j).lane = (s.entrant j).lane
    ∧ ((s.boundary i b t).entrant j).pitStatus = (s.entrant j).pitStatus
    ∧ ((s.boundary i b t).entrant j).pitEntry = (s.entrant j).pitEntry
    ∧ ((s.boundary i b t).entrant j).boxArrival = (s.entrant j).boxArrival
    ∧ ((s.boundary i b t).entrant j).boxVisited = (s.entrant j).boxVisited
    ∧ ((s.boundary i b t).entrant j).pitStops = (s.entrant j).pitStops
    ∧ ((s.boundary i b t).entrant j).laps = (s.entrant j).laps
    ∧ ((s.boundary i b t).entrant j).latestCrossing = (s.entrant j).latestCrossing
    ∧ ((s.boundary i b t).entrant j).prevCrossing = (s.entrant j).prevCrossing
    ∧ ((s.boundary i b t).entrant j).reachTime = (s.entrant j).reachTime
    ∧ ((s.boundary i b t).entrant j).lastLap = (s.entrant j).lastLap
    ∧ ((s.boundary i b t).entrant j).lastLapMarks = (s.entrant j).lastLapMarks
    ∧ ((s.boundary i b t).entrant j).bestLap = (s.entrant j).bestLap
    ∧ ((s.boundary i b t).entrant j).lastSectors = (s.entrant j).lastSectors
    ∧ ((s.boundary i b t).entrant j).gap = (s.entrant j).gap
    ∧ ((s.boundary i b t).entrant j).lapsDown = (s.entrant j).lapsDown
    ∧ ((s.boundary i b t).entrant j).latestPass = (s.entrant j).latestPass
    ∧ ((s.boundary i b t).entrant j).deadline = (s.entrant j).deadline
    ∧ ((s.boundary i b t).entrant j).overdue = (s.entrant j).overdue
    ∧ ((s.boundary i b t).entrant j).jumpStart = (s.entrant j).jumpStart
    ∧ ((s.boundary i b t).entrant j).callsUsed = (s.entrant j).callsUsed
    ∧ ((s.boundary i b t).entrant j).override = (s.entrant j).override
    ∧ ((s.boundary i b t).entrant j).activity = (s.entrant j).activity
    ∧ ((s.boundary i b t).entrant j).finishStatus = (s.entrant j).finishStatus
    ∧ ((s.boundary i b t).entrant j).finishTime = (s.entrant j).finishTime
    ∧ ((s.boundary i b t).entrant j).penalties = (s.entrant j).penalties
    ∧ ((s.boundary i b t).entrant j).holdTimer = (s.entrant j).holdTimer
    ∧ ((s.boundary i b t).entrant j).powerHold = (s.entrant j).powerHold
    ∧ ((s.boundary i b t).entrant j).blackFlag = (s.entrant j).blackFlag := by
  refine ⟨?_, ?_, ?_, ?_, ?_, ?_, ?_, ?_, ?_, ?_, ?_, ?_, ?_, ?_, ?_, ?_, ?_, ?_, ?_, ?_, ?_, ?_, ?_, ?_, ?_, ?_, ?_, ?_, ?_, ?_, ?_, ?_⟩ <;>
    (unfold State.boundary; (try dsimp only) <;> ((repeat' split) <;> (try simp [State.entrant_modEntrant, State.entrant_mk, State.entrants_getElem, Entrant.credited, Entrant.splitLap]) <;> (try (split <;> simp_all))))

/-- What `split` leaves as it is. -/
@[simp] theorem State.split_frame (s : State) (i : Slot) (p l a : RunTime) :
    (s.split i p l a).cfg = s.cfg ∧ (s.split i p l a).gates = s.gates ∧ (s.split i p l a).testStart = s.testStart
    ∧ (s.split i p l a).resolver = s.resolver ∧ (s.split i p l a).ring = s.ring
    ∧ (s.split i p l a).highMark = s.highMark ∧ (s.split i p l a).race = s.race
    ∧ (s.split i p l a).callTable = s.callTable ∧ (s.split i p l a).ceiling = s.ceiling
    ∧ (s.split i p l a).inputs = s.inputs ∧ (s.split i p l a).attention = s.attention
    ∧ (s.split i p l a).link = s.link ∧ (s.split i p l a).pins = s.pins ∧ (s.split i p l a).pending = s.pending := by
  refine ⟨?_, ?_, ?_, ?_, ?_, ?_, ?_, ?_, ?_, ?_, ?_, ?_, ?_, ?_⟩ <;>
    (unfold State.split; (try dsimp only) <;> ((repeat' split) <;> (try simp)))

@[simp] theorem State.split_gate (s : State) (i : Slot) (p l a : RunTime) (n : GateNo) :
    (s.split i p l a).gate n = s.gate n := State.gate_congr (by simp) n

/-- The fields of the records that `split` leaves as they are. -/
@[simp] theorem State.split_records (s : State) (i : Slot) (p l a : RunTime) (j : Slot) :
    ((s.split i p l a).entrant j).code = (s.entrant j).code
    ∧ ((s.split i p l a).entrant j).state = (s.entrant j).state
    ∧ ((s.split i p l a).entrant j).station = (s.entrant j).station
    ∧ ((s.split i p l a).entrant j).lane = (s.entrant j).lane
    ∧ ((s.split i p l a).entrant j).pitStatus = (s.entrant j).pitStatus
    ∧ ((s.split i p l a).entrant j).pitEntry = (s.entrant j).pitEntry
    ∧ ((s.split i p l a).entrant j).boxArrival = (s.entrant j).boxArrival
    ∧ ((s.split i p l a).entrant j).boxVisited = (s.entrant j).boxVisited
    ∧ ((s.split i p l a).entrant j).pitStops = (s.entrant j).pitStops
    ∧ ((s.split i p l a).entrant j).latestCrossing = (s.entrant j).latestCrossing
    ∧ ((s.split i p l a).entrant j).reachTime = (s.entrant j).reachTime
    ∧ ((s.split i p l a).entrant j).sector = (s.entrant j).sector
    ∧ ((s.split i p l a).entrant j).currentSectors = (s.entrant j).currentSectors
    ∧ ((s.split i p l a).entrant j).lastSectors = (s.entrant j).lastSectors
    ∧ ((s.split i p l a).entrant j).lastBoundary = (s.entrant j).lastBoundary
    ∧ ((s.split i p l a).entrant j).lapCaution = (s.entrant j).lapCaution
    ∧ ((s.split i p l a).entrant j).gap = (s.entrant j).gap
    ∧ ((s.split i p l a).entrant j).lapsDown = (s.entrant j).lapsDown
    ∧ ((s.split i p l a).entrant j).latestPass = (s.entrant j).latestPass
    ∧ ((s.split i p l a).entrant j).deadline = (s.entrant j).deadline
    ∧ ((s.split i p l a).entrant j).overdue = (s.entrant j).overdue
    ∧ ((s.split i p l a).entrant j).jumpStart = (s.entrant j).jumpStart
    ∧ ((s.split i p l a).entrant j).callsUsed = (s.entrant j).callsUsed
    ∧ ((s.split i p l a).entrant j).override = (s.entrant j).override
    ∧ ((s.split i p l a).entrant j).effective = (s.entrant j).effective
    ∧ ((s.split i p l a).entrant j).activity = (s.entrant j).activity
    ∧ ((s.split i p l a).entrant j).finishStatus = (s.entrant j).finishStatus
    ∧ ((s.split i p l a).entrant j).finishTime = (s.entrant j).finishTime
    ∧ ((s.split i p l a).entrant j).penalties = (s.entrant j).penalties
    ∧ ((s.split i p l a).entrant j).holdTimer = (s.entrant j).holdTimer
    ∧ ((s.split i p l a).entrant j).powerHold = (s.entrant j).powerHold
    ∧ ((s.split i p l a).entrant j).blackFlag = (s.entrant j).blackFlag := by
  refine ⟨?_, ?_, ?_, ?_, ?_, ?_, ?_, ?_, ?_, ?_, ?_, ?_, ?_, ?_, ?_, ?_, ?_, ?_, ?_, ?_, ?_, ?_, ?_, ?_, ?_, ?_, ?_, ?_, ?_, ?_, ?_, ?_⟩ <;>
    (unfold State.split; (try dsimp only) <;> ((repeat' split) <;> (try simp [State.entrant_modEntrant, State.entrant_mk, State.entrants_getElem, Entrant.credited, Entrant.splitLap]) <;> (try (split <;> simp_all))))

/-- What `lateLap` leaves as it is. -/
@[simp] theorem State.lateLap_frame (s : State) (i : Slot) (a : RunTime) (o : LateOutcome) :
    (s.lateLap i a o).cfg = s.cfg ∧ (s.lateLap i a o).gates = s.gates ∧ (s.lateLap i a o).testStart = s.testStart
    ∧ (s.lateLap i a o).resolver = s.resolver ∧ (s.lateLap i a o).race.raceClock = s.race.raceClock
    ∧ (s.lateLap i a o).race.suspTotal = s.race.suspTotal ∧ (s.lateLap i a o).race.green = s.race.green
    ∧ (s.lateLap i a o).race.runningClock = s.race.runningClock
    ∧ (s.lateLap i a o).race.countdown = s.race.countdown ∧ (s.lateLap i a o).race.yellow = s.race.yellow
    ∧ (s.lateLap i a o).race.powerSetting = s.race.powerSetting ∧ (s.lateLap i a o).callTable = s.callTable
    ∧ (s.lateLap i a o).ceiling.sender = s.ceiling.sender ∧ (s.lateLap i a o).ceiling.paused = s.ceiling.paused
    ∧ (s.lateLap i a o).ceiling.nextRefresh = s.ceiling.nextRefresh ∧ (s.lateLap i a o).inputs = s.inputs
    ∧ (s.lateLap i a o).attention.suspended = s.attention.suspended
    ∧ (s.lateLap i a o).attention.test = s.attention.test ∧ (s.lateLap i a o).attention.mask = s.attention.mask
    ∧ (s.lateLap i a o).link = s.link ∧ (s.lateLap i a o).pins = s.pins ∧ (s.lateLap i a o).pending = s.pending := by
  cases o <;> (refine ⟨?_, ?_, ?_, ?_, ?_, ?_, ?_, ?_, ?_, ?_, ?_, ?_, ?_, ?_, ?_, ?_, ?_, ?_, ?_, ?_, ?_, ?_⟩ <;>
    (unfold State.lateLap; (try dsimp only) <;> ((repeat' split) <;> (try simp))))

@[simp] theorem State.lateLap_gate (s : State) (i : Slot) (a : RunTime) (o : LateOutcome) (n : GateNo) :
    (s.lateLap i a o).gate n = s.gate n := State.gate_congr (by simp) n

/-- The fields of the records that `lateLap` leaves as they are. -/
@[simp] theorem State.lateLap_records (s : State) (i : Slot) (a : RunTime) (o : LateOutcome) (j : Slot) :
    ((s.lateLap i a o).entrant j).code = (s.entrant j).code
    ∧ ((s.lateLap i a o).entrant j).station = (s.entrant j).station
    ∧ ((s.lateLap i a o).entrant j).lane = (s.entrant j).lane
    ∧ ((s.lateLap i a o).entrant j).pitStatus = (s.entrant j).pitStatus
    ∧ ((s.lateLap i a o).entrant j).pitEntry = (s.entrant j).pitEntry
    ∧ ((s.lateLap i a o).entrant j).boxArrival = (s.entrant j).boxArrival
    ∧ ((s.lateLap i a o).entrant j).boxVisited = (s.entrant j).boxVisited
    ∧ ((s.lateLap i a o).entrant j).pitStops = (s.entrant j).pitStops
    ∧ ((s.lateLap i a o).entrant j).latestPass = (s.entrant j).latestPass
    ∧ ((s.lateLap i a o).entrant j).jumpStart = (s.entrant j).jumpStart
    ∧ ((s.lateLap i a o).entrant j).callsUsed = (s.entrant j).callsUsed
    ∧ ((s.lateLap i a o).entrant j).override = (s.entrant j).override := by
  cases o <;> (refine ⟨?_, ?_, ?_, ?_, ?_, ?_, ?_, ?_, ?_, ?_, ?_, ?_⟩ <;>
    (unfold State.lateLap; (try dsimp only) <;> ((repeat' split) <;> (try simp [State.entrant_modEntrant, State.entrant_mk, State.entrants_getElem, Entrant.credited, Entrant.splitLap]) <;> (try (split <;> simp_all)))))

/-- What `setLane` leaves as it is. -/
@[simp] theorem State.setLane_frame (s : State) (i : Slot) (l : Option Nat) :
    (s.setLane i l).cfg = s.cfg ∧ (s.setLane i l).gates = s.gates ∧ (s.setLane i l).testStart = s.testStart
    ∧ (s.setLane i l).resolver = s.resolver ∧ (s.setLane i l).ring = s.ring ∧ (s.setLane i l).highMark = s.highMark
    ∧ (s.setLane i l).standings = s.standings ∧ (s.setLane i l).race = s.race
    ∧ (s.setLane i l).callTable = s.callTable ∧ (s.setLane i l).ceiling = s.ceiling
    ∧ (s.setLane i l).inputs = s.inputs ∧ (s.setLane i l).attention = s.attention ∧ (s.setLane i l).link = s.link
    ∧ (s.setLane i l).pins = s.pins ∧ (s.setLane i l).pending = s.pending := by
  refine ⟨?_, ?_, ?_, ?_, ?_, ?_, ?_, ?_, ?_, ?_, ?_, ?_, ?_, ?_, ?_⟩ <;>
    (unfold State.setLane; (try dsimp only) <;> ((repeat' split) <;> (try simp)))

@[simp] theorem State.setLane_gate (s : State) (i : Slot) (l : Option Nat) (n : GateNo) :
    (s.setLane i l).gate n = s.gate n := State.gate_congr (by simp) n

/-- The fields of the records that `setLane` leaves as they are. -/
@[simp] theorem State.setLane_records (s : State) (i : Slot) (l : Option Nat) (j : Slot) :
    ((s.setLane i l).entrant j).code = (s.entrant j).code ∧ ((s.setLane i l).entrant j).state = (s.entrant j).state
    ∧ ((s.setLane i l).entrant j).station = (s.entrant j).station
    ∧ ((s.setLane i l).entrant j).pitStatus = (s.entrant j).pitStatus
    ∧ ((s.setLane i l).entrant j).pitEntry = (s.entrant j).pitEntry
    ∧ ((s.setLane i l).entrant j).boxArrival = (s.entrant j).boxArrival
    ∧ ((s.setLane i l).entrant j).boxVisited = (s.entrant j).boxVisited
    ∧ ((s.setLane i l).entrant j).pitStops = (s.entrant j).pitStops
    ∧ ((s.setLane i l).entrant j).laps = (s.entrant j).laps
    ∧ ((s.setLane i l).entrant j).latestCrossing = (s.entrant j).latestCrossing
    ∧ ((s.setLane i l).entrant j).prevCrossing = (s.entrant j).prevCrossing
    ∧ ((s.setLane i l).entrant j).reachTime = (s.entrant j).reachTime
    ∧ ((s.setLane i l).entrant j).lastLap = (s.entrant j).lastLap
    ∧ ((s.setLane i l).entrant j).lastLapMarks = (s.entrant j).lastLapMarks
    ∧ ((s.setLane i l).entrant j).bestLap = (s.entrant j).bestLap
    ∧ ((s.setLane i l).entrant j).sector = (s.entrant j).sector
    ∧ ((s.setLane i l).entrant j).currentSectors = (s.entrant j).currentSectors
    ∧ ((s.setLane i l).entrant j).lastSectors = (s.entrant j).lastSectors
    ∧ ((s.setLane i l).entrant j).lastBoundary = (s.entrant j).lastBoundary
    ∧ ((s.setLane i l).entrant j).lapCaution = (s.entrant j).lapCaution
    ∧ ((s.setLane i l).entrant j).gap = (s.entrant j).gap
    ∧ ((s.setLane i l).entrant j).lapsDown = (s.entrant j).lapsDown
    ∧ ((s.setLane i l).entrant j).latestPass = (s.entrant j).latestPass
    ∧ ((s.setLane i l).entrant j).deadline = (s.entrant j).deadline
    ∧ ((s.setLane i l).entrant j).overdue = (s.entrant j).overdue
    ∧ ((s.setLane i l).entrant j).jumpStart = (s.entrant j).jumpStart
    ∧ ((s.setLane i l).entrant j).callsUsed = (s.entrant j).callsUsed
    ∧ ((s.setLane i l).entrant j).override = (s.entrant j).override
    ∧ ((s.setLane i l).entrant j).effective = (s.entrant j).effective
    ∧ ((s.setLane i l).entrant j).activity = (s.entrant j).activity
    ∧ ((s.setLane i l).entrant j).finishStatus = (s.entrant j).finishStatus
    ∧ ((s.setLane i l).entrant j).finishTime = (s.entrant j).finishTime
    ∧ ((s.setLane i l).entrant j).penalties = (s.entrant j).penalties
    ∧ ((s.setLane i l).entrant j).holdTimer = (s.entrant j).holdTimer
    ∧ ((s.setLane i l).entrant j).powerHold = (s.entrant j).powerHold
    ∧ ((s.setLane i l).entrant j).blackFlag = (s.entrant j).blackFlag := by
  refine ⟨?_, ?_, ?_, ?_, ?_, ?_, ?_, ?_, ?_, ?_, ?_, ?_, ?_, ?_, ?_, ?_, ?_, ?_, ?_, ?_, ?_, ?_, ?_, ?_, ?_, ?_, ?_, ?_, ?_, ?_, ?_, ?_, ?_, ?_, ?_, ?_⟩ <;>
    (unfold State.setLane; (try dsimp only) <;> ((repeat' split) <;> (try simp [State.entrant_modEntrant, State.entrant_mk, State.entrants_getElem, Entrant.credited, Entrant.splitLap]) <;> (try (split <;> simp_all))))

/-- What `setPitStatus` leaves as it is. -/
@[simp] theorem State.setPitStatus_frame (s : State) (i : Slot) (p : PitStatus) :
    (s.setPitStatus i p).cfg = s.cfg ∧ (s.setPitStatus i p).gates = s.gates
    ∧ (s.setPitStatus i p).testStart = s.testStart ∧ (s.setPitStatus i p).resolver = s.resolver
    ∧ (s.setPitStatus i p).ring = s.ring ∧ (s.setPitStatus i p).highMark = s.highMark
    ∧ (s.setPitStatus i p).standings = s.standings ∧ (s.setPitStatus i p).race = s.race
    ∧ (s.setPitStatus i p).callTable = s.callTable ∧ (s.setPitStatus i p).ceiling.sender = s.ceiling.sender
    ∧ (s.setPitStatus i p).ceiling.paused = s.ceiling.paused
    ∧ (s.setPitStatus i p).ceiling.holdStart = s.ceiling.holdStart
    ∧ (s.setPitStatus i p).ceiling.nextRefresh = s.ceiling.nextRefresh ∧ (s.setPitStatus i p).inputs = s.inputs
    ∧ (s.setPitStatus i p).attention = s.attention ∧ (s.setPitStatus i p).link = s.link
    ∧ (s.setPitStatus i p).pins = s.pins ∧ (s.setPitStatus i p).pending = s.pending := by
  refine ⟨?_, ?_, ?_, ?_, ?_, ?_, ?_, ?_, ?_, ?_, ?_, ?_, ?_, ?_, ?_, ?_, ?_, ?_⟩ <;>
    (unfold State.setPitStatus; (try dsimp only) <;> ((repeat' split) <;> (try simp)))

@[simp] theorem State.setPitStatus_gate (s : State) (i : Slot) (p : PitStatus) (n : GateNo) :
    (s.setPitStatus i p).gate n = s.gate n := State.gate_congr (by simp) n

/-- The fields of the records that `setPitStatus` leaves as they are. -/
@[simp] theorem State.setPitStatus_records (s : State) (i : Slot) (p : PitStatus) (j : Slot) :
    ((s.setPitStatus i p).entrant j).code = (s.entrant j).code
    ∧ ((s.setPitStatus i p).entrant j).state = (s.entrant j).state
    ∧ ((s.setPitStatus i p).entrant j).station = (s.entrant j).station
    ∧ ((s.setPitStatus i p).entrant j).lane = (s.entrant j).lane
    ∧ ((s.setPitStatus i p).entrant j).pitEntry = (s.entrant j).pitEntry
    ∧ ((s.setPitStatus i p).entrant j).boxArrival = (s.entrant j).boxArrival
    ∧ ((s.setPitStatus i p).entrant j).boxVisited = (s.entrant j).boxVisited
    ∧ ((s.setPitStatus i p).entrant j).pitStops = (s.entrant j).pitStops
    ∧ ((s.setPitStatus i p).entrant j).laps = (s.entrant j).laps
    ∧ ((s.setPitStatus i p).entrant j).latestCrossing = (s.entrant j).latestCrossing
    ∧ ((s.setPitStatus i p).entrant j).prevCrossing = (s.entrant j).prevCrossing
    ∧ ((s.setPitStatus i p).entrant j).reachTime = (s.entrant j).reachTime
    ∧ ((s.setPitStatus i p).entrant j).lastLap = (s.entrant j).lastLap
    ∧ ((s.setPitStatus i p).entrant j).lastLapMarks = (s.entrant j).lastLapMarks
    ∧ ((s.setPitStatus i p).entrant j).bestLap = (s.entrant j).bestLap
    ∧ ((s.setPitStatus i p).entrant j).sector = (s.entrant j).sector
    ∧ ((s.setPitStatus i p).entrant j).currentSectors = (s.entrant j).currentSectors
    ∧ ((s.setPitStatus i p).entrant j).lastSectors = (s.entrant j).lastSectors
    ∧ ((s.setPitStatus i p).entrant j).lastBoundary = (s.entrant j).lastBoundary
    ∧ ((s.setPitStatus i p).entrant j).lapCaution = (s.entrant j).lapCaution
    ∧ ((s.setPitStatus i p).entrant j).gap = (s.entrant j).gap
    ∧ ((s.setPitStatus i p).entrant j).lapsDown = (s.entrant j).lapsDown
    ∧ ((s.setPitStatus i p).entrant j).latestPass = (s.entrant j).latestPass
    ∧ ((s.setPitStatus i p).entrant j).deadline = (s.entrant j).deadline
    ∧ ((s.setPitStatus i p).entrant j).overdue = (s.entrant j).overdue
    ∧ ((s.setPitStatus i p).entrant j).jumpStart = (s.entrant j).jumpStart
    ∧ ((s.setPitStatus i p).entrant j).callsUsed = (s.entrant j).callsUsed
    ∧ ((s.setPitStatus i p).entrant j).override = (s.entrant j).override
    ∧ ((s.setPitStatus i p).entrant j).activity = (s.entrant j).activity
    ∧ ((s.setPitStatus i p).entrant j).finishStatus = (s.entrant j).finishStatus
    ∧ ((s.setPitStatus i p).entrant j).finishTime = (s.entrant j).finishTime
    ∧ ((s.setPitStatus i p).entrant j).penalties = (s.entrant j).penalties
    ∧ ((s.setPitStatus i p).entrant j).holdTimer = (s.entrant j).holdTimer
    ∧ ((s.setPitStatus i p).entrant j).powerHold = (s.entrant j).powerHold
    ∧ ((s.setPitStatus i p).entrant j).blackFlag = (s.entrant j).blackFlag := by
  refine ⟨?_, ?_, ?_, ?_, ?_, ?_, ?_, ?_, ?_, ?_, ?_, ?_, ?_, ?_, ?_, ?_, ?_, ?_, ?_, ?_, ?_, ?_, ?_, ?_, ?_, ?_, ?_, ?_, ?_, ?_, ?_, ?_, ?_, ?_, ?_⟩ <;>
    (unfold State.setPitStatus; (try dsimp only) <;> ((repeat' split) <;> (try simp [State.entrant_modEntrant, State.entrant_mk, State.entrants_getElem, Entrant.credited, Entrant.splitLap]) <;> (try (split <;> simp_all))))

/-- What `leaveBox` leaves as it is. -/
@[simp] theorem State.leaveBox_frame (s : State) (tr : Treatment) (i : Slot) :
    (s.leaveBox tr i).cfg = s.cfg ∧ (s.leaveBox tr i).gates = s.gates ∧ (s.leaveBox tr i).testStart = s.testStart
    ∧ (s.leaveBox tr i).resolver = s.resolver ∧ (s.leaveBox tr i).ring = s.ring
    ∧ (s.leaveBox tr i).highMark = s.highMark ∧ (s.leaveBox tr i).standings = s.standings
    ∧ (s.leaveBox tr i).race = s.race ∧ (s.leaveBox tr i).callTable = s.callTable
    ∧ (s.leaveBox tr i).ceiling.sender = s.ceiling.sender ∧ (s.leaveBox tr i).ceiling.paused = s.ceiling.paused
    ∧ (s.leaveBox tr i).ceiling.holdStart = s.ceiling.holdStart
    ∧ (s.leaveBox tr i).ceiling.nextRefresh = s.ceiling.nextRefresh ∧ (s.leaveBox tr i).inputs = s.inputs
    ∧ (s.leaveBox tr i).attention = s.attention ∧ (s.leaveBox tr i).link = s.link ∧ (s.leaveBox tr i).pins = s.pins
    ∧ (s.leaveBox tr i).pending = s.pending := by
  refine ⟨?_, ?_, ?_, ?_, ?_, ?_, ?_, ?_, ?_, ?_, ?_, ?_, ?_, ?_, ?_, ?_, ?_, ?_⟩ <;>
    (unfold State.leaveBox; (try dsimp only) <;> ((repeat' split) <;> (try simp)))

@[simp] theorem State.leaveBox_gate (s : State) (tr : Treatment) (i : Slot) (n : GateNo) :
    (s.leaveBox tr i).gate n = s.gate n := State.gate_congr (by simp) n

/-- The fields of the records that `leaveBox` leaves as they are. -/
@[simp] theorem State.leaveBox_records (s : State) (tr : Treatment) (i : Slot) (j : Slot) :
    ((s.leaveBox tr i).entrant j).code = (s.entrant j).code
    ∧ ((s.leaveBox tr i).entrant j).state = (s.entrant j).state
    ∧ ((s.leaveBox tr i).entrant j).station = (s.entrant j).station
    ∧ ((s.leaveBox tr i).entrant j).lane = (s.entrant j).lane
    ∧ ((s.leaveBox tr i).entrant j).pitEntry = (s.entrant j).pitEntry
    ∧ ((s.leaveBox tr i).entrant j).boxArrival = (s.entrant j).boxArrival
    ∧ ((s.leaveBox tr i).entrant j).boxVisited = (s.entrant j).boxVisited
    ∧ ((s.leaveBox tr i).entrant j).pitStops = (s.entrant j).pitStops
    ∧ ((s.leaveBox tr i).entrant j).laps = (s.entrant j).laps
    ∧ ((s.leaveBox tr i).entrant j).latestCrossing = (s.entrant j).latestCrossing
    ∧ ((s.leaveBox tr i).entrant j).prevCrossing = (s.entrant j).prevCrossing
    ∧ ((s.leaveBox tr i).entrant j).reachTime = (s.entrant j).reachTime
    ∧ ((s.leaveBox tr i).entrant j).lastLap = (s.entrant j).lastLap
    ∧ ((s.leaveBox tr i).entrant j).lastLapMarks = (s.entrant j).lastLapMarks
    ∧ ((s.leaveBox tr i).entrant j).bestLap = (s.entrant j).bestLap
    ∧ ((s.leaveBox tr i).entrant j).sector = (s.entrant j).sector
    ∧ ((s.leaveBox tr i).entrant j).currentSectors = (s.entrant j).currentSectors
    ∧ ((s.leaveBox tr i).entrant j).lastSectors = (s.entrant j).lastSectors
    ∧ ((s.leaveBox tr i).entrant j).lastBoundary = (s.entrant j).lastBoundary
    ∧ ((s.leaveBox tr i).entrant j).lapCaution = (s.entrant j).lapCaution
    ∧ ((s.leaveBox tr i).entrant j).gap = (s.entrant j).gap
    ∧ ((s.leaveBox tr i).entrant j).lapsDown = (s.entrant j).lapsDown
    ∧ ((s.leaveBox tr i).entrant j).latestPass = (s.entrant j).latestPass
    ∧ ((s.leaveBox tr i).entrant j).deadline = (s.entrant j).deadline
    ∧ ((s.leaveBox tr i).entrant j).overdue = (s.entrant j).overdue
    ∧ ((s.leaveBox tr i).entrant j).jumpStart = (s.entrant j).jumpStart
    ∧ ((s.leaveBox tr i).entrant j).callsUsed = (s.entrant j).callsUsed
    ∧ ((s.leaveBox tr i).entrant j).override = (s.entrant j).override
    ∧ ((s.leaveBox tr i).entrant j).activity = (s.entrant j).activity
    ∧ ((s.leaveBox tr i).entrant j).finishStatus = (s.entrant j).finishStatus
    ∧ ((s.leaveBox tr i).entrant j).finishTime = (s.entrant j).finishTime
    ∧ ((s.leaveBox tr i).entrant j).powerHold = (s.entrant j).powerHold
    ∧ ((s.leaveBox tr i).entrant j).blackFlag = (s.entrant j).blackFlag := by
  refine ⟨?_, ?_, ?_, ?_, ?_, ?_, ?_, ?_, ?_, ?_, ?_, ?_, ?_, ?_, ?_, ?_, ?_, ?_, ?_, ?_, ?_, ?_, ?_, ?_, ?_, ?_, ?_, ?_, ?_, ?_, ?_, ?_, ?_⟩ <;>
    (unfold State.leaveBox; (try dsimp only) <;> ((repeat' split) <;> (try simp [State.entrant_modEntrant, State.entrant_mk, State.entrants_getElem, Entrant.credited, Entrant.splitLap]) <;> (try (split <;> simp_all))))

/-- What `endPitVisit` leaves as it is. -/
@[simp] theorem State.endPitVisit_frame (s : State) (tr : Treatment) (i : Slot) :
    (s.endPitVisit tr i).cfg = s.cfg ∧ (s.endPitVisit tr i).gates = s.gates
    ∧ (s.endPitVisit tr i).testStart = s.testStart ∧ (s.endPitVisit tr i).resolver = s.resolver
    ∧ (s.endPitVisit tr i).ring = s.ring ∧ (s.endPitVisit tr i).highMark = s.highMark
    ∧ (s.endPitVisit tr i).standings = s.standings ∧ (s.endPitVisit tr i).race = s.race
    ∧ (s.endPitVisit tr i).callTable = s.callTable ∧ (s.endPitVisit tr i).ceiling.sender = s.ceiling.sender
    ∧ (s.endPitVisit tr i).ceiling.paused = s.ceiling.paused
    ∧ (s.endPitVisit tr i).ceiling.holdStart = s.ceiling.holdStart
    ∧ (s.endPitVisit tr i).ceiling.nextRefresh = s.ceiling.nextRefresh ∧ (s.endPitVisit tr i).inputs = s.inputs
    ∧ (s.endPitVisit tr i).attention = s.attention ∧ (s.endPitVisit tr i).link = s.link
    ∧ (s.endPitVisit tr i).pins = s.pins ∧ (s.endPitVisit tr i).pending = s.pending := by
  refine ⟨?_, ?_, ?_, ?_, ?_, ?_, ?_, ?_, ?_, ?_, ?_, ?_, ?_, ?_, ?_, ?_, ?_, ?_⟩ <;>
    (unfold State.endPitVisit; (try dsimp only) <;> ((repeat' split) <;> (try simp)))

@[simp] theorem State.endPitVisit_gate (s : State) (tr : Treatment) (i : Slot) (n : GateNo) :
    (s.endPitVisit tr i).gate n = s.gate n := State.gate_congr (by simp) n

/-- The fields of the records that `endPitVisit` leaves as they are. -/
@[simp] theorem State.endPitVisit_records (s : State) (tr : Treatment) (i : Slot) (j : Slot) :
    ((s.endPitVisit tr i).entrant j).code = (s.entrant j).code
    ∧ ((s.endPitVisit tr i).entrant j).state = (s.entrant j).state
    ∧ ((s.endPitVisit tr i).entrant j).station = (s.entrant j).station
    ∧ ((s.endPitVisit tr i).entrant j).lane = (s.entrant j).lane
    ∧ ((s.endPitVisit tr i).entrant j).pitEntry = (s.entrant j).pitEntry
    ∧ ((s.endPitVisit tr i).entrant j).boxArrival = (s.entrant j).boxArrival
    ∧ ((s.endPitVisit tr i).entrant j).boxVisited = (s.entrant j).boxVisited
    ∧ ((s.endPitVisit tr i).entrant j).pitStops = (s.entrant j).pitStops
    ∧ ((s.endPitVisit tr i).entrant j).laps = (s.entrant j).laps
    ∧ ((s.endPitVisit tr i).entrant j).latestCrossing = (s.entrant j).latestCrossing
    ∧ ((s.endPitVisit tr i).entrant j).prevCrossing = (s.entrant j).prevCrossing
    ∧ ((s.endPitVisit tr i).entrant j).reachTime = (s.entrant j).reachTime
    ∧ ((s.endPitVisit tr i).entrant j).lastLap = (s.entrant j).lastLap
    ∧ ((s.endPitVisit tr i).entrant j).lastLapMarks = (s.entrant j).lastLapMarks
    ∧ ((s.endPitVisit tr i).entrant j).bestLap = (s.entrant j).bestLap
    ∧ ((s.endPitVisit tr i).entrant j).sector = (s.entrant j).sector
    ∧ ((s.endPitVisit tr i).entrant j).currentSectors = (s.entrant j).currentSectors
    ∧ ((s.endPitVisit tr i).entrant j).lastSectors = (s.entrant j).lastSectors
    ∧ ((s.endPitVisit tr i).entrant j).lastBoundary = (s.entrant j).lastBoundary
    ∧ ((s.endPitVisit tr i).entrant j).lapCaution = (s.entrant j).lapCaution
    ∧ ((s.endPitVisit tr i).entrant j).gap = (s.entrant j).gap
    ∧ ((s.endPitVisit tr i).entrant j).lapsDown = (s.entrant j).lapsDown
    ∧ ((s.endPitVisit tr i).entrant j).latestPass = (s.entrant j).latestPass
    ∧ ((s.endPitVisit tr i).entrant j).deadline = (s.entrant j).deadline
    ∧ ((s.endPitVisit tr i).entrant j).overdue = (s.entrant j).overdue
    ∧ ((s.endPitVisit tr i).entrant j).jumpStart = (s.entrant j).jumpStart
    ∧ ((s.endPitVisit tr i).entrant j).callsUsed = (s.entrant j).callsUsed
    ∧ ((s.endPitVisit tr i).entrant j).override = (s.entrant j).override
    ∧ ((s.endPitVisit tr i).entrant j).activity = (s.entrant j).activity
    ∧ ((s.endPitVisit tr i).entrant j).finishStatus = (s.entrant j).finishStatus
    ∧ ((s.endPitVisit tr i).entrant j).finishTime = (s.entrant j).finishTime
    ∧ ((s.endPitVisit tr i).entrant j).powerHold = (s.entrant j).powerHold
    ∧ ((s.endPitVisit tr i).entrant j).blackFlag = (s.entrant j).blackFlag := by
  refine ⟨?_, ?_, ?_, ?_, ?_, ?_, ?_, ?_, ?_, ?_, ?_, ?_, ?_, ?_, ?_, ?_, ?_, ?_, ?_, ?_, ?_, ?_, ?_, ?_, ?_, ?_, ?_, ?_, ?_, ?_, ?_, ?_, ?_⟩ <;>
    (unfold State.endPitVisit; (try dsimp only) <;> ((repeat' split) <;> (try simp [State.entrant_modEntrant, State.entrant_mk, State.entrants_getElem, Entrant.credited, Entrant.splitLap]) <;> (try (split <;> simp_all))))

/-- What `switchPass` leaves as it is. -/
@[simp] theorem State.switchPass_frame (s : State) (tr : Treatment) (i : Slot) (p : Pass) :
    (s.switchPass tr i p).1.cfg = s.cfg ∧ (s.switchPass tr i p).1.gates = s.gates
    ∧ (s.switchPass tr i p).1.testStart = s.testStart ∧ (s.switchPass tr i p).1.resolver = s.resolver
    ∧ (s.switchPass tr i p).1.ring = s.ring ∧ (s.switchPass tr i p).1.highMark = s.highMark
    ∧ (s.switchPass tr i p).1.standings = s.standings ∧ (s.switchPass tr i p).1.race = s.race
    ∧ (s.switchPass tr i p).1.callTable = s.callTable ∧ (s.switchPass tr i p).1.ceiling.sender = s.ceiling.sender
    ∧ (s.switchPass tr i p).1.ceiling.paused = s.ceiling.paused
    ∧ (s.switchPass tr i p).1.ceiling.holdStart = s.ceiling.holdStart
    ∧ (s.switchPass tr i p).1.ceiling.nextRefresh = s.ceiling.nextRefresh
    ∧ (s.switchPass tr i p).1.inputs = s.inputs ∧ (s.switchPass tr i p).1.attention = s.attention
    ∧ (s.switchPass tr i p).1.link = s.link ∧ (s.switchPass tr i p).1.pins = s.pins
    ∧ (s.switchPass tr i p).1.pending = s.pending := by
  refine ⟨?_, ?_, ?_, ?_, ?_, ?_, ?_, ?_, ?_, ?_, ?_, ?_, ?_, ?_, ?_, ?_, ?_, ?_⟩ <;>
    (unfold State.switchPass; (try dsimp only) <;> ((repeat' split) <;> (try simp)))

@[simp] theorem State.switchPass_gate (s : State) (tr : Treatment) (i : Slot) (p : Pass) (n : GateNo) :
    (s.switchPass tr i p).1.gate n = s.gate n := State.gate_congr (by simp) n

/-- The fields of the records that `switchPass` leaves as they are. -/
@[simp] theorem State.switchPass_records (s : State) (tr : Treatment) (i : Slot) (p : Pass) (j : Slot) :
    ((s.switchPass tr i p).1.entrant j).code = (s.entrant j).code
    ∧ ((s.switchPass tr i p).1.entrant j).state = (s.entrant j).state
    ∧ ((s.switchPass tr i p).1.entrant j).station = (s.entrant j).station
    ∧ ((s.switchPass tr i p).1.entrant j).pitEntry = (s.entrant j).pitEntry
    ∧ ((s.switchPass tr i p).1.entrant j).boxArrival = (s.entrant j).boxArrival
    ∧ ((s.switchPass tr i p).1.entrant j).boxVisited = (s.entrant j).boxVisited
    ∧ ((s.switchPass tr i p).1.entrant j).pitStops = (s.entrant j).pitStops
    ∧ ((s.switchPass tr i p).1.entrant j).laps = (s.entrant j).laps
    ∧ ((s.switchPass tr i p).1.entrant j).latestCrossing = (s.entrant j).latestCrossing
    ∧ ((s.switchPass tr i p).1.entrant j).prevCrossing = (s.entrant j).prevCrossing
    ∧ ((s.switchPass tr i p).1.entrant j).reachTime = (s.entrant j).reachTime
    ∧ ((s.switchPass tr i p).1.entrant j).lastLap = (s.entrant j).lastLap
    ∧ ((s.switchPass tr i p).1.entrant j).lastLapMarks = (s.entrant j).lastLapMarks
    ∧ ((s.switchPass tr i p).1.entrant j).bestLap = (s.entrant j).bestLap
    ∧ ((s.switchPass tr i p).1.entrant j).sector = (s.entrant j).sector
    ∧ ((s.switchPass tr i p).1.entrant j).currentSectors = (s.entrant j).currentSectors
    ∧ ((s.switchPass tr i p).1.entrant j).lastSectors = (s.entrant j).lastSectors
    ∧ ((s.switchPass tr i p).1.entrant j).lastBoundary = (s.entrant j).lastBoundary
    ∧ ((s.switchPass tr i p).1.entrant j).lapCaution = (s.entrant j).lapCaution
    ∧ ((s.switchPass tr i p).1.entrant j).gap = (s.entrant j).gap
    ∧ ((s.switchPass tr i p).1.entrant j).lapsDown = (s.entrant j).lapsDown
    ∧ ((s.switchPass tr i p).1.entrant j).latestPass = (s.entrant j).latestPass
    ∧ ((s.switchPass tr i p).1.entrant j).deadline = (s.entrant j).deadline
    ∧ ((s.switchPass tr i p).1.entrant j).overdue = (s.entrant j).overdue
    ∧ ((s.switchPass tr i p).1.entrant j).jumpStart = (s.entrant j).jumpStart
    ∧ ((s.switchPass tr i p).1.entrant j).callsUsed = (s.entrant j).callsUsed
    ∧ ((s.switchPass tr i p).1.entrant j).override = (s.entrant j).override
    ∧ ((s.switchPass tr i p).1.entrant j).activity = (s.entrant j).activity
    ∧ ((s.switchPass tr i p).1.entrant j).finishStatus = (s.entrant j).finishStatus
    ∧ ((s.switchPass tr i p).1.entrant j).finishTime = (s.entrant j).finishTime
    ∧ ((s.switchPass tr i p).1.entrant j).powerHold = (s.entrant j).powerHold
    ∧ ((s.switchPass tr i p).1.entrant j).blackFlag = (s.entrant j).blackFlag := by
  refine ⟨?_, ?_, ?_, ?_, ?_, ?_, ?_, ?_, ?_, ?_, ?_, ?_, ?_, ?_, ?_, ?_, ?_, ?_, ?_, ?_, ?_, ?_, ?_, ?_, ?_, ?_, ?_, ?_, ?_, ?_, ?_, ?_⟩ <;>
    (unfold State.switchPass; (try dsimp only) <;> ((repeat' split) <;> (try simp [State.entrant_modEntrant, State.entrant_mk, State.entrants_getElem, Entrant.credited, Entrant.splitLap]) <;> (try (split <;> simp_all))))

/-- What `racingLanePass` leaves as it is. -/
@[simp] theorem State.racingLanePass_frame (s : State) (tr : Treatment) (i : Slot) (p : Pass) :
    (s.racingLanePass tr i p).1.cfg = s.cfg ∧ (s.racingLanePass tr i p).1.gates = s.gates
    ∧ (s.racingLanePass tr i p).1.testStart = s.testStart ∧ (s.racingLanePass tr i p).1.resolver = s.resolver
    ∧ (s.racingLanePass tr i p).1.ring = s.ring ∧ (s.racingLanePass tr i p).1.highMark = s.highMark
    ∧ (s.racingLanePass tr i p).1.standings = s.standings ∧ (s.racingLanePass tr i p).1.race = s.race
    ∧ (s.racingLanePass tr i p).1.callTable = s.callTable
    ∧ (s.racingLanePass tr i p).1.ceiling.sender = s.ceiling.sender
    ∧ (s.racingLanePass tr i p).1.ceiling.paused = s.ceiling.paused
    ∧ (s.racingLanePass tr i p).1.ceiling.holdStart = s.ceiling.holdStart
    ∧ (s.racingLanePass tr i p).1.ceiling.nextRefresh = s.ceiling.nextRefresh
    ∧ (s.racingLanePass tr i p).1.inputs = s.inputs ∧ (s.racingLanePass tr i p).1.attention = s.attention
    ∧ (s.racingLanePass tr i p).1.link = s.link ∧ (s.racingLanePass tr i p).1.pins = s.pins
    ∧ (s.racingLanePass tr i p).1.pending = s.pending := by
  refine ⟨?_, ?_, ?_, ?_, ?_, ?_, ?_, ?_, ?_, ?_, ?_, ?_, ?_, ?_, ?_, ?_, ?_, ?_⟩ <;>
    (unfold State.racingLanePass; (try dsimp only) <;> ((repeat' split) <;> (try simp)))

@[simp] theorem State.racingLanePass_gate (s : State) (tr : Treatment) (i : Slot) (p : Pass) (n : GateNo) :
    (s.racingLanePass tr i p).1.gate n = s.gate n := State.gate_congr (by simp) n

/-- The fields of the records that `racingLanePass` leaves as they are. -/
@[simp] theorem State.racingLanePass_records (s : State) (tr : Treatment) (i : Slot) (p : Pass) (j : Slot) :
    ((s.racingLanePass tr i p).1.entrant j).code = (s.entrant j).code
    ∧ ((s.racingLanePass tr i p).1.entrant j).state = (s.entrant j).state
    ∧ ((s.racingLanePass tr i p).1.entrant j).station = (s.entrant j).station
    ∧ ((s.racingLanePass tr i p).1.entrant j).pitEntry = (s.entrant j).pitEntry
    ∧ ((s.racingLanePass tr i p).1.entrant j).boxArrival = (s.entrant j).boxArrival
    ∧ ((s.racingLanePass tr i p).1.entrant j).boxVisited = (s.entrant j).boxVisited
    ∧ ((s.racingLanePass tr i p).1.entrant j).pitStops = (s.entrant j).pitStops
    ∧ ((s.racingLanePass tr i p).1.entrant j).laps = (s.entrant j).laps
    ∧ ((s.racingLanePass tr i p).1.entrant j).latestCrossing = (s.entrant j).latestCrossing
    ∧ ((s.racingLanePass tr i p).1.entrant j).prevCrossing = (s.entrant j).prevCrossing
    ∧ ((s.racingLanePass tr i p).1.entrant j).reachTime = (s.entrant j).reachTime
    ∧ ((s.racingLanePass tr i p).1.entrant j).lastLap = (s.entrant j).lastLap
    ∧ ((s.racingLanePass tr i p).1.entrant j).lastLapMarks = (s.entrant j).lastLapMarks
    ∧ ((s.racingLanePass tr i p).1.entrant j).bestLap = (s.entrant j).bestLap
    ∧ ((s.racingLanePass tr i p).1.entrant j).sector = (s.entrant j).sector
    ∧ ((s.racingLanePass tr i p).1.entrant j).currentSectors = (s.entrant j).currentSectors
    ∧ ((s.racingLanePass tr i p).1.entrant j).lastSectors = (s.entrant j).lastSectors
    ∧ ((s.racingLanePass tr i p).1.entrant j).lastBoundary = (s.entrant j).lastBoundary
    ∧ ((s.racingLanePass tr i p).1.entrant j).lapCaution = (s.entrant j).lapCaution
    ∧ ((s.racingLanePass tr i p).1.entrant j).gap = (s.entrant j).gap
    ∧ ((s.racingLanePass tr i p).1.entrant j).lapsDown = (s.entrant j).lapsDown
    ∧ ((s.racingLanePass tr i p).1.entrant j).latestPass = (s.entrant j).latestPass
    ∧ ((s.racingLanePass tr i p).1.entrant j).deadline = (s.entrant j).deadline
    ∧ ((s.racingLanePass tr i p).1.entrant j).overdue = (s.entrant j).overdue
    ∧ ((s.racingLanePass tr i p).1.entrant j).jumpStart = (s.entrant j).jumpStart
    ∧ ((s.racingLanePass tr i p).1.entrant j).callsUsed = (s.entrant j).callsUsed
    ∧ ((s.racingLanePass tr i p).1.entrant j).override = (s.entrant j).override
    ∧ ((s.racingLanePass tr i p).1.entrant j).activity = (s.entrant j).activity
    ∧ ((s.racingLanePass tr i p).1.entrant j).finishStatus = (s.entrant j).finishStatus
    ∧ ((s.racingLanePass tr i p).1.entrant j).finishTime = (s.entrant j).finishTime
    ∧ ((s.racingLanePass tr i p).1.entrant j).powerHold = (s.entrant j).powerHold
    ∧ ((s.racingLanePass tr i p).1.entrant j).blackFlag = (s.entrant j).blackFlag := by
  refine ⟨?_, ?_, ?_, ?_, ?_, ?_, ?_, ?_, ?_, ?_, ?_, ?_, ?_, ?_, ?_, ?_, ?_, ?_, ?_, ?_, ?_, ?_, ?_, ?_, ?_, ?_, ?_, ?_, ?_, ?_, ?_, ?_⟩ <;>
    (unfold State.racingLanePass; (try dsimp only) <;> ((repeat' split) <;> (try simp [State.entrant_modEntrant, State.entrant_mk, State.entrants_getElem, Entrant.credited, Entrant.splitLap]) <;> (try (split <;> simp_all))))

/-- What `pitInPass` leaves as it is. -/
@[simp] theorem State.pitInPass_frame (s : State) (tr : Treatment) (i : Slot) (p : Pass) :
    (s.pitInPass tr i p).cfg = s.cfg ∧ (s.pitInPass tr i p).gates = s.gates
    ∧ (s.pitInPass tr i p).testStart = s.testStart ∧ (s.pitInPass tr i p).resolver = s.resolver
    ∧ (s.pitInPass tr i p).ring = s.ring ∧ (s.pitInPass tr i p).highMark = s.highMark
    ∧ (s.pitInPass tr i p).standings = s.standings ∧ (s.pitInPass tr i p).race = s.race
    ∧ (s.pitInPass tr i p).callTable = s.callTable ∧ (s.pitInPass tr i p).ceiling.sender = s.ceiling.sender
    ∧ (s.pitInPass tr i p).ceiling.paused = s.ceiling.paused
    ∧ (s.pitInPass tr i p).ceiling.holdStart = s.ceiling.holdStart
    ∧ (s.pitInPass tr i p).ceiling.nextRefresh = s.ceiling.nextRefresh ∧ (s.pitInPass tr i p).inputs = s.inputs
    ∧ (s.pitInPass tr i p).attention = s.attention ∧ (s.pitInPass tr i p).link = s.link
    ∧ (s.pitInPass tr i p).pins = s.pins ∧ (s.pitInPass tr i p).pending = s.pending := by
  refine ⟨?_, ?_, ?_, ?_, ?_, ?_, ?_, ?_, ?_, ?_, ?_, ?_, ?_, ?_, ?_, ?_, ?_, ?_⟩ <;>
    (unfold State.pitInPass; (try dsimp only) <;> ((repeat' split) <;> (try simp)))

@[simp] theorem State.pitInPass_gate (s : State) (tr : Treatment) (i : Slot) (p : Pass) (n : GateNo) :
    (s.pitInPass tr i p).gate n = s.gate n := State.gate_congr (by simp) n

/-- The fields of the records that `pitInPass` leaves as they are. -/
@[simp] theorem State.pitInPass_records (s : State) (tr : Treatment) (i : Slot) (p : Pass) (j : Slot) :
    ((s.pitInPass tr i p).entrant j).code = (s.entrant j).code
    ∧ ((s.pitInPass tr i p).entrant j).state = (s.entrant j).state
    ∧ ((s.pitInPass tr i p).entrant j).station = (s.entrant j).station
    ∧ ((s.pitInPass tr i p).entrant j).pitStops = (s.entrant j).pitStops
    ∧ ((s.pitInPass tr i p).entrant j).laps = (s.entrant j).laps
    ∧ ((s.pitInPass tr i p).entrant j).latestCrossing = (s.entrant j).latestCrossing
    ∧ ((s.pitInPass tr i p).entrant j).prevCrossing = (s.entrant j).prevCrossing
    ∧ ((s.pitInPass tr i p).entrant j).reachTime = (s.entrant j).reachTime
    ∧ ((s.pitInPass tr i p).entrant j).lastLap = (s.entrant j).lastLap
    ∧ ((s.pitInPass tr i p).entrant j).lastLapMarks = (s.entrant j).lastLapMarks
    ∧ ((s.pitInPass tr i p).entrant j).bestLap = (s.entrant j).bestLap
    ∧ ((s.pitInPass tr i p).entrant j).sector = (s.entrant j).sector
    ∧ ((s.pitInPass tr i p).entrant j).currentSectors = (s.entrant j).currentSectors
    ∧ ((s.pitInPass tr i p).entrant j).lastSectors = (s.entrant j).lastSectors
    ∧ ((s.pitInPass tr i p).entrant j).lastBoundary = (s.entrant j).lastBoundary
    ∧ ((s.pitInPass tr i p).entrant j).lapCaution = (s.entrant j).lapCaution
    ∧ ((s.pitInPass tr i p).entrant j).gap = (s.entrant j).gap
    ∧ ((s.pitInPass tr i p).entrant j).lapsDown = (s.entrant j).lapsDown
    ∧ ((s.pitInPass tr i p).entrant j).latestPass = (s.entrant j).latestPass
    ∧ ((s.pitInPass tr i p).entrant j).deadline = (s.entrant j).deadline
    ∧ ((s.pitInPass tr i p).entrant j).overdue = (s.entrant j).overdue
    ∧ ((s.pitInPass tr i p).entrant j).jumpStart = (s.entrant j).jumpStart
    ∧ ((s.pitInPass tr i p).entrant j).callsUsed = (s.entrant j).callsUsed
    ∧ ((s.pitInPass tr i p).entrant j).override = (s.entrant j).override
    ∧ ((s.pitInPass tr i p).entrant j).activity = (s.entrant j).activity
    ∧ ((s.pitInPass tr i p).entrant j).finishStatus = (s.entrant j).finishStatus
    ∧ ((s.pitInPass tr i p).entrant j).finishTime = (s.entrant j).finishTime
    ∧ ((s.pitInPass tr i p).entrant j).powerHold = (s.entrant j).powerHold
    ∧ ((s.pitInPass tr i p).entrant j).blackFlag = (s.entrant j).blackFlag := by
  refine ⟨?_, ?_, ?_, ?_, ?_, ?_, ?_, ?_, ?_, ?_, ?_, ?_, ?_, ?_, ?_, ?_, ?_, ?_, ?_, ?_, ?_, ?_, ?_, ?_, ?_, ?_, ?_, ?_, ?_⟩ <;>
    (unfold State.pitInPass; (try dsimp only) <;> ((repeat' split) <;> (try simp [State.entrant_modEntrant, State.entrant_mk, State.entrants_getElem, Entrant.credited, Entrant.splitLap]) <;> (try (split <;> simp_all))))

/-- What `pitLanePass` leaves as it is. -/
@[simp] theorem State.pitLanePass_frame (s : State) (i : Slot) :
    (s.pitLanePass i).cfg = s.cfg ∧ (s.pitLanePass i).gates = s.gates ∧ (s.pitLanePass i).testStart = s.testStart
    ∧ (s.pitLanePass i).resolver = s.resolver ∧ (s.pitLanePass i).ring = s.ring
    ∧ (s.pitLanePass i).highMark = s.highMark ∧ (s.pitLanePass i).standings = s.standings
    ∧ (s.pitLanePass i).race = s.race ∧ (s.pitLanePass i).callTable = s.callTable
    ∧ (s.pitLanePass i).ceiling.sender = s.ceiling.sender ∧ (s.pitLanePass i).ceiling.paused = s.ceiling.paused
    ∧ (s.pitLanePass i).ceiling.holdStart = s.ceiling.holdStart
    ∧ (s.pitLanePass i).ceiling.nextRefresh = s.ceiling.nextRefresh ∧ (s.pitLanePass i).inputs = s.inputs
    ∧ (s.pitLanePass i).attention = s.attention ∧ (s.pitLanePass i).link = s.link ∧ (s.pitLanePass i).pins = s.pins
    ∧ (s.pitLanePass i).pending = s.pending := by
  refine ⟨?_, ?_, ?_, ?_, ?_, ?_, ?_, ?_, ?_, ?_, ?_, ?_, ?_, ?_, ?_, ?_, ?_, ?_⟩ <;>
    (unfold State.pitLanePass; (try dsimp only) <;> ((repeat' split) <;> (try simp)))

@[simp] theorem State.pitLanePass_gate (s : State) (i : Slot) (n : GateNo) :
    (s.pitLanePass i).gate n = s.gate n := State.gate_congr (by simp) n

/-- The fields of the records that `pitLanePass` leaves as they are. -/
@[simp] theorem State.pitLanePass_records (s : State) (i : Slot) (j : Slot) :
    ((s.pitLanePass i).entrant j).code = (s.entrant j).code
    ∧ ((s.pitLanePass i).entrant j).state = (s.entrant j).state
    ∧ ((s.pitLanePass i).entrant j).station = (s.entrant j).station
    ∧ ((s.pitLanePass i).entrant j).boxArrival = (s.entrant j).boxArrival
    ∧ ((s.pitLanePass i).entrant j).pitStops = (s.entrant j).pitStops
    ∧ ((s.pitLanePass i).entrant j).laps = (s.entrant j).laps
    ∧ ((s.pitLanePass i).entrant j).latestCrossing = (s.entrant j).latestCrossing
    ∧ ((s.pitLanePass i).entrant j).prevCrossing = (s.entrant j).prevCrossing
    ∧ ((s.pitLanePass i).entrant j).reachTime = (s.entrant j).reachTime
    ∧ ((s.pitLanePass i).entrant j).lastLap = (s.entrant j).lastLap
    ∧ ((s.pitLanePass i).entrant j).lastLapMarks = (s.entrant j).lastLapMarks
    ∧ ((s.pitLanePass i).entrant j).bestLap = (s.entrant j).bestLap
    ∧ ((s.pitLanePass i).entrant j).sector = (s.entrant j).sector
    ∧ ((s.pitLanePass i).entrant j).currentSectors = (s.entrant j).currentSectors
    ∧ ((s.pitLanePass i).entrant j).lastSectors = (s.entrant j).lastSectors
    ∧ ((s.pitLanePass i).entrant j).lastBoundary = (s.entrant j).lastBoundary
    ∧ ((s.pitLanePass i).entrant j).lapCaution = (s.entrant j).lapCaution
    ∧ ((s.pitLanePass i).entrant j).gap = (s.entrant j).gap
    ∧ ((s.pitLanePass i).entrant j).lapsDown = (s.entrant j).lapsDown
    ∧ ((s.pitLanePass i).entrant j).latestPass = (s.entrant j).latestPass
    ∧ ((s.pitLanePass i).entrant j).deadline = (s.entrant j).deadline
    ∧ ((s.pitLanePass i).entrant j).overdue = (s.entrant j).overdue
    ∧ ((s.pitLanePass i).entrant j).jumpStart = (s.entrant j).jumpStart
    ∧ ((s.pitLanePass i).entrant j).callsUsed = (s.entrant j).callsUsed
    ∧ ((s.pitLanePass i).entrant j).override = (s.entrant j).override
    ∧ ((s.pitLanePass i).entrant j).activity = (s.entrant j).activity
    ∧ ((s.pitLanePass i).entrant j).finishStatus = (s.entrant j).finishStatus
    ∧ ((s.pitLanePass i).entrant j).finishTime = (s.entrant j).finishTime
    ∧ ((s.pitLanePass i).entrant j).penalties = (s.entrant j).penalties
    ∧ ((s.pitLanePass i).entrant j).holdTimer = (s.entrant j).holdTimer
    ∧ ((s.pitLanePass i).entrant j).powerHold = (s.entrant j).powerHold
    ∧ ((s.pitLanePass i).entrant j).blackFlag = (s.entrant j).blackFlag := by
  refine ⟨?_, ?_, ?_, ?_, ?_, ?_, ?_, ?_, ?_, ?_, ?_, ?_, ?_, ?_, ?_, ?_, ?_, ?_, ?_, ?_, ?_, ?_, ?_, ?_, ?_, ?_, ?_, ?_, ?_, ?_, ?_, ?_⟩ <;>
    (unfold State.pitLanePass; (try dsimp only) <;> ((repeat' split) <;> (try simp [State.entrant_modEntrant, State.entrant_mk, State.entrants_getElem, Entrant.credited, Entrant.splitLap]) <;> (try (split <;> simp_all))))

/-- What `countPitStop` leaves as it is. -/
@[simp] theorem State.countPitStop_frame (s : State) (i : Slot) :
    (s.countPitStop i).cfg = s.cfg ∧ (s.countPitStop i).gates = s.gates
    ∧ (s.countPitStop i).testStart = s.testStart ∧ (s.countPitStop i).resolver = s.resolver
    ∧ (s.countPitStop i).ring = s.ring ∧ (s.countPitStop i).highMark = s.highMark
    ∧ (s.countPitStop i).standings = s.standings ∧ (s.countPitStop i).race = s.race
    ∧ (s.countPitStop i).callTable = s.callTable ∧ (s.countPitStop i).ceiling = s.ceiling
    ∧ (s.countPitStop i).inputs = s.inputs ∧ (s.countPitStop i).attention = s.attention
    ∧ (s.countPitStop i).link = s.link ∧ (s.countPitStop i).pins = s.pins ∧ (s.countPitStop i).pending = s.pending := by
  refine ⟨?_, ?_, ?_, ?_, ?_, ?_, ?_, ?_, ?_, ?_, ?_, ?_, ?_, ?_, ?_⟩ <;>
    (unfold State.countPitStop; (try dsimp only) <;> ((repeat' split) <;> (try simp)))

@[simp] theorem State.countPitStop_gate (s : State) (i : Slot) (n : GateNo) :
    (s.countPitStop i).gate n = s.gate n := State.gate_congr (by simp) n

/-- The fields of the records that `countPitStop` leaves as they are. -/
@[simp] theorem State.countPitStop_records (s : State) (i : Slot) (j : Slot) :
    ((s.countPitStop i).entrant j).code = (s.entrant j).code
    ∧ ((s.countPitStop i).entrant j).state = (s.entrant j).state
    ∧ ((s.countPitStop i).entrant j).station = (s.entrant j).station
    ∧ ((s.countPitStop i).entrant j).lane = (s.entrant j).lane
    ∧ ((s.countPitStop i).entrant j).pitStatus = (s.entrant j).pitStatus
    ∧ ((s.countPitStop i).entrant j).pitEntry = (s.entrant j).pitEntry
    ∧ ((s.countPitStop i).entrant j).boxArrival = (s.entrant j).boxArrival
    ∧ ((s.countPitStop i).entrant j).boxVisited = (s.entrant j).boxVisited
    ∧ ((s.countPitStop i).entrant j).laps = (s.entrant j).laps
    ∧ ((s.countPitStop i).entrant j).latestCrossing = (s.entrant j).latestCrossing
    ∧ ((s.countPitStop i).entrant j).prevCrossing = (s.entrant j).prevCrossing
    ∧ ((s.countPitStop i).entrant j).reachTime = (s.entrant j).reachTime
    ∧ ((s.countPitStop i).entrant j).lastLap = (s.entrant j).lastLap
    ∧ ((s.countPitStop i).entrant j).lastLapMarks = (s.entrant j).lastLapMarks
    ∧ ((s.countPitStop i).entrant j).bestLap = (s.entrant j).bestLap
    ∧ ((s.countPitStop i).entrant j).sector = (s.entrant j).sector
    ∧ ((s.countPitStop i).entrant j).currentSectors = (s.entrant j).currentSectors
    ∧ ((s.countPitStop i).entrant j).lastSectors = (s.entrant j).lastSectors
    ∧ ((s.countPitStop i).entrant j).lastBoundary = (s.entrant j).lastBoundary
    ∧ ((s.countPitStop i).entrant j).lapCaution = (s.entrant j).lapCaution
    ∧ ((s.countPitStop i).entrant j).gap = (s.entrant j).gap
    ∧ ((s.countPitStop i).entrant j).lapsDown = (s.entrant j).lapsDown
    ∧ ((s.countPitStop i).entrant j).latestPass = (s.entrant j).latestPass
    ∧ ((s.countPitStop i).entrant j).deadline = (s.entrant j).deadline
    ∧ ((s.countPitStop i).entrant j).overdue = (s.entrant j).overdue
    ∧ ((s.countPitStop i).entrant j).jumpStart = (s.entrant j).jumpStart
    ∧ ((s.countPitStop i).entrant j).callsUsed = (s.entrant j).callsUsed
    ∧ ((s.countPitStop i).entrant j).override = (s.entrant j).override
    ∧ ((s.countPitStop i).entrant j).effective = (s.entrant j).effective
    ∧ ((s.countPitStop i).entrant j).activity = (s.entrant j).activity
    ∧ ((s.countPitStop i).entrant j).finishStatus = (s.entrant j).finishStatus
    ∧ ((s.countPitStop i).entrant j).finishTime = (s.entrant j).finishTime
    ∧ ((s.countPitStop i).entrant j).penalties = (s.entrant j).penalties
    ∧ ((s.countPitStop i).entrant j).holdTimer = (s.entrant j).holdTimer
    ∧ ((s.countPitStop i).entrant j).powerHold = (s.entrant j).powerHold
    ∧ ((s.countPitStop i).entrant j).blackFlag = (s.entrant j).blackFlag := by
  refine ⟨?_, ?_, ?_, ?_, ?_, ?_, ?_, ?_, ?_, ?_, ?_, ?_, ?_, ?_, ?_, ?_, ?_, ?_, ?_, ?_, ?_, ?_, ?_, ?_, ?_, ?_, ?_, ?_, ?_, ?_, ?_, ?_, ?_, ?_, ?_, ?_⟩ <;>
    (unfold State.countPitStop; (try dsimp only) <;> ((repeat' split) <;> (try simp [State.entrant_modEntrant, State.entrant_mk, State.entrants_getElem, Entrant.credited, Entrant.splitLap]) <;> (try (split <;> simp_all))))

/-- What `pitOutPass` leaves as it is. -/
@[simp] theorem State.pitOutPass_frame (s : State) (tr : Treatment) (i : Slot) (p : Pass) :
    (s.pitOutPass tr i p).1.cfg = s.cfg ∧ (s.pitOutPass tr i p).1.gates = s.gates
    ∧ (s.pitOutPass tr i p).1.testStart = s.testStart ∧ (s.pitOutPass tr i p).1.resolver = s.resolver
    ∧ (s.pitOutPass tr i p).1.ring = s.ring ∧ (s.pitOutPass tr i p).1.highMark = s.highMark
    ∧ (s.pitOutPass tr i p).1.standings = s.standings ∧ (s.pitOutPass tr i p).1.race = s.race
    ∧ (s.pitOutPass tr i p).1.callTable = s.callTable ∧ (s.pitOutPass tr i p).1.ceiling.sender = s.ceiling.sender
    ∧ (s.pitOutPass tr i p).1.ceiling.paused = s.ceiling.paused
    ∧ (s.pitOutPass tr i p).1.ceiling.holdStart = s.ceiling.holdStart
    ∧ (s.pitOutPass tr i p).1.ceiling.nextRefresh = s.ceiling.nextRefresh
    ∧ (s.pitOutPass tr i p).1.inputs = s.inputs ∧ (s.pitOutPass tr i p).1.attention = s.attention
    ∧ (s.pitOutPass tr i p).1.link = s.link ∧ (s.pitOutPass tr i p).1.pins = s.pins
    ∧ (s.pitOutPass tr i p).1.pending = s.pending := by
  refine ⟨?_, ?_, ?_, ?_, ?_, ?_, ?_, ?_, ?_, ?_, ?_, ?_, ?_, ?_, ?_, ?_, ?_, ?_⟩ <;>
    (unfold State.pitOutPass; (try dsimp only) <;> ((repeat' split) <;> (try simp)))

@[simp] theorem State.pitOutPass_gate (s : State) (tr : Treatment) (i : Slot) (p : Pass) (n : GateNo) :
    (s.pitOutPass tr i p).1.gate n = s.gate n := State.gate_congr (by simp) n

/-- The fields of the records that `pitOutPass` leaves as they are. -/
@[simp] theorem State.pitOutPass_records (s : State) (tr : Treatment) (i : Slot) (p : Pass) (j : Slot) :
    ((s.pitOutPass tr i p).1.entrant j).code = (s.entrant j).code
    ∧ ((s.pitOutPass tr i p).1.entrant j).state = (s.entrant j).state
    ∧ ((s.pitOutPass tr i p).1.entrant j).station = (s.entrant j).station
    ∧ ((s.pitOutPass tr i p).1.entrant j).pitEntry = (s.entrant j).pitEntry
    ∧ ((s.pitOutPass tr i p).1.entrant j).boxArrival = (s.entrant j).boxArrival
    ∧ ((s.pitOutPass tr i p).1.entrant j).boxVisited = (s.entrant j).boxVisited
    ∧ ((s.pitOutPass tr i p).1.entrant j).laps = (s.entrant j).laps
    ∧ ((s.pitOutPass tr i p).1.entrant j).latestCrossing = (s.entrant j).latestCrossing
    ∧ ((s.pitOutPass tr i p).1.entrant j).prevCrossing = (s.entrant j).prevCrossing
    ∧ ((s.pitOutPass tr i p).1.entrant j).reachTime = (s.entrant j).reachTime
    ∧ ((s.pitOutPass tr i p).1.entrant j).lastLap = (s.entrant j).lastLap
    ∧ ((s.pitOutPass tr i p).1.entrant j).lastLapMarks = (s.entrant j).lastLapMarks
    ∧ ((s.pitOutPass tr i p).1.entrant j).bestLap = (s.entrant j).bestLap
    ∧ ((s.pitOutPass tr i p).1.entrant j).sector = (s.entrant j).sector
    ∧ ((s.pitOutPass tr i p).1.entrant j).currentSectors = (s.entrant j).currentSectors
    ∧ ((s.pitOutPass tr i p).1.entrant j).lastSectors = (s.entrant j).lastSectors
    ∧ ((s.pitOutPass tr i p).1.entrant j).lastBoundary = (s.entrant j).lastBoundary
    ∧ ((s.pitOutPass tr i p).1.entrant j).lapCaution = (s.entrant j).lapCaution
    ∧ ((s.pitOutPass tr i p).1.entrant j).gap = (s.entrant j).gap
    ∧ ((s.pitOutPass tr i p).1.entrant j).lapsDown = (s.entrant j).lapsDown
    ∧ ((s.pitOutPass tr i p).1.entrant j).latestPass = (s.entrant j).latestPass
    ∧ ((s.pitOutPass tr i p).1.entrant j).deadline = (s.entrant j).deadline
    ∧ ((s.pitOutPass tr i p).1.entrant j).overdue = (s.entrant j).overdue
    ∧ ((s.pitOutPass tr i p).1.entrant j).jumpStart = (s.entrant j).jumpStart
    ∧ ((s.pitOutPass tr i p).1.entrant j).callsUsed = (s.entrant j).callsUsed
    ∧ ((s.pitOutPass tr i p).1.entrant j).override = (s.entrant j).override
    ∧ ((s.pitOutPass tr i p).1.entrant j).finishStatus = (s.entrant j).finishStatus
    ∧ ((s.pitOutPass tr i p).1.entrant j).finishTime = (s.entrant j).finishTime
    ∧ ((s.pitOutPass tr i p).1.entrant j).powerHold = (s.entrant j).powerHold
    ∧ ((s.pitOutPass tr i p).1.entrant j).blackFlag = (s.entrant j).blackFlag := by
  refine ⟨?_, ?_, ?_, ?_, ?_, ?_, ?_, ?_, ?_, ?_, ?_, ?_, ?_, ?_, ?_, ?_, ?_, ?_, ?_, ?_, ?_, ?_, ?_, ?_, ?_, ?_, ?_, ?_, ?_, ?_⟩ <;>
    (unfold State.pitOutPass; (try dsimp only) <;> ((repeat' split) <;> (try simp [State.entrant_modEntrant, State.entrant_mk, State.entrants_getElem, Entrant.credited, Entrant.splitLap]) <;> (try (split <;> simp_all))))

/-- What `passEffects` leaves as it is. -/
@[simp] theorem State.passEffects_frame (s : State) (tr : Treatment) (i : Slot) (p : Pass) :
    (s.passEffects tr i p).1.cfg = s.cfg ∧ (s.passEffects tr i p).1.gates = s.gates
    ∧ (s.passEffects tr i p).1.testStart = s.testStart ∧ (s.passEffects tr i p).1.resolver = s.resolver
    ∧ (s.passEffects tr i p).1.ring = s.ring ∧ (s.passEffects tr i p).1.highMark = s.highMark
    ∧ (s.passEffects tr i p).1.standings = s.standings ∧ (s.passEffects tr i p).1.race = s.race
    ∧ (s.passEffects tr i p).1.callTable = s.callTable ∧ (s.passEffects tr i p).1.ceiling.sender = s.ceiling.sender
    ∧ (s.passEffects tr i p).1.ceiling.paused = s.ceiling.paused
    ∧ (s.passEffects tr i p).1.ceiling.holdStart = s.ceiling.holdStart
    ∧ (s.passEffects tr i p).1.ceiling.nextRefresh = s.ceiling.nextRefresh
    ∧ (s.passEffects tr i p).1.inputs = s.inputs ∧ (s.passEffects tr i p).1.attention = s.attention
    ∧ (s.passEffects tr i p).1.link = s.link ∧ (s.passEffects tr i p).1.pins = s.pins
    ∧ (s.passEffects tr i p).1.pending = s.pending := by
  refine ⟨?_, ?_, ?_, ?_, ?_, ?_, ?_, ?_, ?_, ?_, ?_, ?_, ?_, ?_, ?_, ?_, ?_, ?_⟩ <;>
    (unfold State.passEffects; (try dsimp only) <;> ((repeat' split) <;> (try simp)))

@[simp] theorem State.passEffects_gate (s : State) (tr : Treatment) (i : Slot) (p : Pass) (n : GateNo) :
    (s.passEffects tr i p).1.gate n = s.gate n := State.gate_congr (by simp) n

/-- The fields of the records that `passEffects` leaves as they are. -/
@[simp] theorem State.passEffects_records (s : State) (tr : Treatment) (i : Slot) (p : Pass) (j : Slot) :
    ((s.passEffects tr i p).1.entrant j).code = (s.entrant j).code
    ∧ ((s.passEffects tr i p).1.entrant j).state = (s.entrant j).state
    ∧ ((s.passEffects tr i p).1.entrant j).station = (s.entrant j).station
    ∧ ((s.passEffects tr i p).1.entrant j).laps = (s.entrant j).laps
    ∧ ((s.passEffects tr i p).1.entrant j).latestCrossing = (s.entrant j).latestCrossing
    ∧ ((s.passEffects tr i p).1.entrant j).prevCrossing = (s.entrant j).prevCrossing
    ∧ ((s.passEffects tr i p).1.entrant j).reachTime = (s.entrant j).reachTime
    ∧ ((s.passEffects tr i p).1.entrant j).lastLap = (s.entrant j).lastLap
    ∧ ((s.passEffects tr i p).1.entrant j).lastLapMarks = (s.entrant j).lastLapMarks
    ∧ ((s.passEffects tr i p).1.entrant j).bestLap = (s.entrant j).bestLap
    ∧ ((s.passEffects tr i p).1.entrant j).sector = (s.entrant j).sector
    ∧ ((s.passEffects tr i p).1.entrant j).currentSectors = (s.entrant j).currentSectors
    ∧ ((s.passEffects tr i p).1.entrant j).lastSectors = (s.entrant j).lastSectors
    ∧ ((s.passEffects tr i p).1.entrant j).lastBoundary = (s.entrant j).lastBoundary
    ∧ ((s.passEffects tr i p).1.entrant j).lapCaution = (s.entrant j).lapCaution
    ∧ ((s.passEffects tr i p).1.entrant j).gap = (s.entrant j).gap
    ∧ ((s.passEffects tr i p).1.entrant j).lapsDown = (s.entrant j).lapsDown
    ∧ ((s.passEffects tr i p).1.entrant j).latestPass = (s.entrant j).latestPass
    ∧ ((s.passEffects tr i p).1.entrant j).deadline = (s.entrant j).deadline
    ∧ ((s.passEffects tr i p).1.entrant j).overdue = (s.entrant j).overdue
    ∧ ((s.passEffects tr i p).1.entrant j).jumpStart = (s.entrant j).jumpStart
    ∧ ((s.passEffects tr i p).1.entrant j).callsUsed = (s.entrant j).callsUsed
    ∧ ((s.passEffects tr i p).1.entrant j).override = (s.entrant j).override
    ∧ ((s.passEffects tr i p).1.entrant j).finishStatus = (s.entrant j).finishStatus
    ∧ ((s.passEffects tr i p).1.entrant j).finishTime = (s.entrant j).finishTime
    ∧ ((s.passEffects tr i p).1.entrant j).powerHold = (s.entrant j).powerHold
    ∧ ((s.passEffects tr i p).1.entrant j).blackFlag = (s.entrant j).blackFlag := by
  refine ⟨?_, ?_, ?_, ?_, ?_, ?_, ?_, ?_, ?_, ?_, ?_, ?_, ?_, ?_, ?_, ?_, ?_, ?_, ?_, ?_, ?_, ?_, ?_, ?_, ?_, ?_, ?_⟩ <;>
    (unfold State.passEffects; (try dsimp only) <;> ((repeat' split) <;> (try simp [State.entrant_modEntrant, State.entrant_mk, State.entrants_getElem, Entrant.credited, Entrant.splitLap]) <;> (try (split <;> simp_all))))

/-- What `noteSeen` leaves as it is. -/
@[simp] theorem State.noteSeen_frame (s : State) (i : Slot) (t : Option RunTime) :
    (s.noteSeen i t).cfg = s.cfg ∧ (s.noteSeen i t).gates = s.gates ∧ (s.noteSeen i t).testStart = s.testStart
    ∧ (s.noteSeen i t).resolver = s.resolver ∧ (s.noteSeen i t).ring = s.ring
    ∧ (s.noteSeen i t).highMark = s.highMark ∧ (s.noteSeen i t).standings = s.standings
    ∧ (s.noteSeen i t).race = s.race ∧ (s.noteSeen i t).callTable = s.callTable
    ∧ (s.noteSeen i t).ceiling = s.ceiling ∧ (s.noteSeen i t).inputs = s.inputs
    ∧ (s.noteSeen i t).attention = s.attention ∧ (s.noteSeen i t).link = s.link ∧ (s.noteSeen i t).pins = s.pins
    ∧ (s.noteSeen i t).pending = s.pending := by
  cases t <;> (refine ⟨?_, ?_, ?_, ?_, ?_, ?_, ?_, ?_, ?_, ?_, ?_, ?_, ?_, ?_, ?_⟩ <;>
    (unfold State.noteSeen; (try dsimp only) <;> ((repeat' split) <;> (try simp))))

@[simp] theorem State.noteSeen_gate (s : State) (i : Slot) (t : Option RunTime) (n : GateNo) :
    (s.noteSeen i t).gate n = s.gate n := State.gate_congr (by simp) n

/-- The fields of the records that `noteSeen` leaves as they are. -/
@[simp] theorem State.noteSeen_records (s : State) (i : Slot) (t : Option RunTime) (j : Slot) :
    ((s.noteSeen i t).entrant j).code = (s.entrant j).code
    ∧ ((s.noteSeen i t).entrant j).state = (s.entrant j).state
    ∧ ((s.noteSeen i t).entrant j).station = (s.entrant j).station
    ∧ ((s.noteSeen i t).entrant j).lane = (s.entrant j).lane
    ∧ ((s.noteSeen i t).entrant j).pitStatus = (s.entrant j).pitStatus
    ∧ ((s.noteSeen i t).entrant j).pitEntry = (s.entrant j).pitEntry
    ∧ ((s.noteSeen i t).entrant j).boxArrival = (s.entrant j).boxArrival
    ∧ ((s.noteSeen i t).entrant j).boxVisited = (s.entrant j).boxVisited
    ∧ ((s.noteSeen i t).entrant j).pitStops = (s.entrant j).pitStops
    ∧ ((s.noteSeen i t).entrant j).laps = (s.entrant j).laps
    ∧ ((s.noteSeen i t).entrant j).latestCrossing = (s.entrant j).latestCrossing
    ∧ ((s.noteSeen i t).entrant j).prevCrossing = (s.entrant j).prevCrossing
    ∧ ((s.noteSeen i t).entrant j).reachTime = (s.entrant j).reachTime
    ∧ ((s.noteSeen i t).entrant j).lastLap = (s.entrant j).lastLap
    ∧ ((s.noteSeen i t).entrant j).lastLapMarks = (s.entrant j).lastLapMarks
    ∧ ((s.noteSeen i t).entrant j).bestLap = (s.entrant j).bestLap
    ∧ ((s.noteSeen i t).entrant j).sector = (s.entrant j).sector
    ∧ ((s.noteSeen i t).entrant j).currentSectors = (s.entrant j).currentSectors
    ∧ ((s.noteSeen i t).entrant j).lastSectors = (s.entrant j).lastSectors
    ∧ ((s.noteSeen i t).entrant j).lastBoundary = (s.entrant j).lastBoundary
    ∧ ((s.noteSeen i t).entrant j).lapCaution = (s.entrant j).lapCaution
    ∧ ((s.noteSeen i t).entrant j).gap = (s.entrant j).gap
    ∧ ((s.noteSeen i t).entrant j).lapsDown = (s.entrant j).lapsDown
    ∧ ((s.noteSeen i t).entrant j).deadline = (s.entrant j).deadline
    ∧ ((s.noteSeen i t).entrant j).overdue = (s.entrant j).overdue
    ∧ ((s.noteSeen i t).entrant j).jumpStart = (s.entrant j).jumpStart
    ∧ ((s.noteSeen i t).entrant j).callsUsed = (s.entrant j).callsUsed
    ∧ ((s.noteSeen i t).entrant j).override = (s.entrant j).override
    ∧ ((s.noteSeen i t).entrant j).effective = (s.entrant j).effective
    ∧ ((s.noteSeen i t).entrant j).activity = (s.entrant j).activity
    ∧ ((s.noteSeen i t).entrant j).finishStatus = (s.entrant j).finishStatus
    ∧ ((s.noteSeen i t).entrant j).finishTime = (s.entrant j).finishTime
    ∧ ((s.noteSeen i t).entrant j).penalties = (s.entrant j).penalties
    ∧ ((s.noteSeen i t).entrant j).holdTimer = (s.entrant j).holdTimer
    ∧ ((s.noteSeen i t).entrant j).powerHold = (s.entrant j).powerHold
    ∧ ((s.noteSeen i t).entrant j).blackFlag = (s.entrant j).blackFlag := by
  cases t <;> (refine ⟨?_, ?_, ?_, ?_, ?_, ?_, ?_, ?_, ?_, ?_, ?_, ?_, ?_, ?_, ?_, ?_, ?_, ?_, ?_, ?_, ?_, ?_, ?_, ?_, ?_, ?_, ?_, ?_, ?_, ?_, ?_, ?_, ?_, ?_, ?_, ?_⟩ <;>
    (unfold State.noteSeen; (try dsimp only) <;> ((repeat' split) <;> (try simp [State.entrant_modEntrant, State.entrant_mk, State.entrants_getElem, Entrant.credited, Entrant.splitLap]) <;> (try (split <;> simp_all)))))

/-- What `moveDeadline` leaves as it is. -/
@[simp] theorem State.moveDeadline_frame (s : State) (i : Slot) (t : Option RunTime) :
    (s.moveDeadline i t).cfg = s.cfg ∧ (s.moveDeadline i t).gates = s.gates
    ∧ (s.moveDeadline i t).testStart = s.testStart ∧ (s.moveDeadline i t).resolver = s.resolver
    ∧ (s.moveDeadline i t).ring = s.ring ∧ (s.moveDeadline i t).highMark = s.highMark
    ∧ (s.moveDeadline i t).standings = s.standings ∧ (s.moveDeadline i t).race = s.race
    ∧ (s.moveDeadline i t).callTable = s.callTable ∧ (s.moveDeadline i t).ceiling = s.ceiling
    ∧ (s.moveDeadline i t).inputs = s.inputs ∧ (s.moveDeadline i t).attention = s.attention
    ∧ (s.moveDeadline i t).link = s.link ∧ (s.moveDeadline i t).pins = s.pins
    ∧ (s.moveDeadline i t).pending = s.pending := by
  refine ⟨?_, ?_, ?_, ?_, ?_, ?_, ?_, ?_, ?_, ?_, ?_, ?_, ?_, ?_, ?_⟩ <;>
    (unfold State.moveDeadline; (try dsimp only) <;> ((repeat' split) <;> (try simp)))

@[simp] theorem State.moveDeadline_gate (s : State) (i : Slot) (t : Option RunTime) (n : GateNo) :
    (s.moveDeadline i t).gate n = s.gate n := State.gate_congr (by simp) n

/-- The fields of the records that `moveDeadline` leaves as they are. -/
@[simp] theorem State.moveDeadline_records (s : State) (i : Slot) (t : Option RunTime) (j : Slot) :
    ((s.moveDeadline i t).entrant j).code = (s.entrant j).code
    ∧ ((s.moveDeadline i t).entrant j).state = (s.entrant j).state
    ∧ ((s.moveDeadline i t).entrant j).station = (s.entrant j).station
    ∧ ((s.moveDeadline i t).entrant j).lane = (s.entrant j).lane
    ∧ ((s.moveDeadline i t).entrant j).pitStatus = (s.entrant j).pitStatus
    ∧ ((s.moveDeadline i t).entrant j).pitEntry = (s.entrant j).pitEntry
    ∧ ((s.moveDeadline i t).entrant j).boxArrival = (s.entrant j).boxArrival
    ∧ ((s.moveDeadline i t).entrant j).boxVisited = (s.entrant j).boxVisited
    ∧ ((s.moveDeadline i t).entrant j).pitStops = (s.entrant j).pitStops
    ∧ ((s.moveDeadline i t).entrant j).laps = (s.entrant j).laps
    ∧ ((s.moveDeadline i t).entrant j).latestCrossing = (s.entrant j).latestCrossing
    ∧ ((s.moveDeadline i t).entrant j).prevCrossing = (s.entrant j).prevCrossing
    ∧ ((s.moveDeadline i t).entrant j).reachTime = (s.entrant j).reachTime
    ∧ ((s.moveDeadline i t).entrant j).lastLap = (s.entrant j).lastLap
    ∧ ((s.moveDeadline i t).entrant j).lastLapMarks = (s.entrant j).lastLapMarks
    ∧ ((s.moveDeadline i t).entrant j).bestLap = (s.entrant j).bestLap
    ∧ ((s.moveDeadline i t).entrant j).sector = (s.entrant j).sector
    ∧ ((s.moveDeadline i t).entrant j).currentSectors = (s.entrant j).currentSectors
    ∧ ((s.moveDeadline i t).entrant j).lastSectors = (s.entrant j).lastSectors
    ∧ ((s.moveDeadline i t).entrant j).lastBoundary = (s.entrant j).lastBoundary
    ∧ ((s.moveDeadline i t).entrant j).lapCaution = (s.entrant j).lapCaution
    ∧ ((s.moveDeadline i t).entrant j).gap = (s.entrant j).gap
    ∧ ((s.moveDeadline i t).entrant j).lapsDown = (s.entrant j).lapsDown
    ∧ ((s.moveDeadline i t).entrant j).latestPass = (s.entrant j).latestPass
    ∧ ((s.moveDeadline i t).entrant j).overdue = (s.entrant j).overdue
    ∧ ((s.moveDeadline i t).entrant j).jumpStart = (s.entrant j).jumpStart
    ∧ ((s.moveDeadline i t).entrant j).callsUsed = (s.entrant j).callsUsed
    ∧ ((s.moveDeadline i t).entrant j).override = (s.entrant j).override
    ∧ ((s.moveDeadline i t).entrant j).effective = (s.entrant j).effective
    ∧ ((s.moveDeadline i t).entrant j).activity = (s.entrant j).activity
    ∧ ((s.moveDeadline i t).entrant j).finishStatus = (s.entrant j).finishStatus
    ∧ ((s.moveDeadline i t).entrant j).finishTime = (s.entrant j).finishTime
    ∧ ((s.moveDeadline i t).entrant j).penalties = (s.entrant j).penalties
    ∧ ((s.moveDeadline i t).entrant j).holdTimer = (s.entrant j).holdTimer
    ∧ ((s.moveDeadline i t).entrant j).powerHold = (s.entrant j).powerHold
    ∧ ((s.moveDeadline i t).entrant j).blackFlag = (s.entrant j).blackFlag := by
  refine ⟨?_, ?_, ?_, ?_, ?_, ?_, ?_, ?_, ?_, ?_, ?_, ?_, ?_, ?_, ?_, ?_, ?_, ?_, ?_, ?_, ?_, ?_, ?_, ?_, ?_, ?_, ?_, ?_, ?_, ?_, ?_, ?_, ?_, ?_, ?_, ?_⟩ <;>
    (unfold State.moveDeadline; (try dsimp only) <;> ((repeat' split) <;> (try simp [State.entrant_modEntrant, State.entrant_mk, State.entrants_getElem, Entrant.credited, Entrant.splitLap]) <;> (try (split <;> simp_all))))

/-- What `positionPass` leaves as it is. -/
@[simp] theorem State.positionPass_frame (s : State) (i : Slot) (p : Pass) :
    (s.positionPass i p).cfg = s.cfg ∧ (s.positionPass i p).gates = s.gates
    ∧ (s.positionPass i p).testStart = s.testStart ∧ (s.positionPass i p).resolver = s.resolver
    ∧ (s.positionPass i p).ring = s.ring ∧ (s.positionPass i p).highMark = s.highMark
    ∧ (s.positionPass i p).standings = s.standings ∧ (s.positionPass i p).race = s.race
    ∧ (s.positionPass i p).callTable = s.callTable ∧ (s.positionPass i p).ceiling.sender = s.ceiling.sender
    ∧ (s.positionPass i p).ceiling.paused = s.ceiling.paused
    ∧ (s.positionPass i p).ceiling.holdStart = s.ceiling.holdStart
    ∧ (s.positionPass i p).ceiling.nextRefresh = s.ceiling.nextRefresh ∧ (s.positionPass i p).inputs = s.inputs
    ∧ (s.positionPass i p).attention = s.attention ∧ (s.positionPass i p).link = s.link
    ∧ (s.positionPass i p).pins = s.pins ∧ (s.positionPass i p).pending = s.pending := by
  refine ⟨?_, ?_, ?_, ?_, ?_, ?_, ?_, ?_, ?_, ?_, ?_, ?_, ?_, ?_, ?_, ?_, ?_, ?_⟩ <;>
    (unfold State.positionPass; (try dsimp only) <;> ((repeat' split) <;> (try simp)))

@[simp] theorem State.positionPass_gate (s : State) (i : Slot) (p : Pass) (n : GateNo) :
    (s.positionPass i p).gate n = s.gate n := State.gate_congr (by simp) n

/-- The fields of the records that `positionPass` leaves as they are. -/
@[simp] theorem State.positionPass_records (s : State) (i : Slot) (p : Pass) (j : Slot) :
    ((s.positionPass i p).entrant j).code = (s.entrant j).code
    ∧ ((s.positionPass i p).entrant j).state = (s.entrant j).state
    ∧ ((s.positionPass i p).entrant j).station = (s.entrant j).station
    ∧ ((s.positionPass i p).entrant j).laps = (s.entrant j).laps
    ∧ ((s.positionPass i p).entrant j).latestCrossing = (s.entrant j).latestCrossing
    ∧ ((s.positionPass i p).entrant j).prevCrossing = (s.entrant j).prevCrossing
    ∧ ((s.positionPass i p).entrant j).reachTime = (s.entrant j).reachTime
    ∧ ((s.positionPass i p).entrant j).lastLap = (s.entrant j).lastLap
    ∧ ((s.positionPass i p).entrant j).lastLapMarks = (s.entrant j).lastLapMarks
    ∧ ((s.positionPass i p).entrant j).bestLap = (s.entrant j).bestLap
    ∧ ((s.positionPass i p).entrant j).sector = (s.entrant j).sector
    ∧ ((s.positionPass i p).entrant j).currentSectors = (s.entrant j).currentSectors
    ∧ ((s.positionPass i p).entrant j).lastSectors = (s.entrant j).lastSectors
    ∧ ((s.positionPass i p).entrant j).lastBoundary = (s.entrant j).lastBoundary
    ∧ ((s.positionPass i p).entrant j).lapCaution = (s.entrant j).lapCaution
    ∧ ((s.positionPass i p).entrant j).gap = (s.entrant j).gap
    ∧ ((s.positionPass i p).entrant j).lapsDown = (s.entrant j).lapsDown
    ∧ ((s.positionPass i p).entrant j).latestPass = (s.entrant j).latestPass
    ∧ ((s.positionPass i p).entrant j).deadline = (s.entrant j).deadline
    ∧ ((s.positionPass i p).entrant j).overdue = (s.entrant j).overdue
    ∧ ((s.positionPass i p).entrant j).callsUsed = (s.entrant j).callsUsed
    ∧ ((s.positionPass i p).entrant j).override = (s.entrant j).override
    ∧ ((s.positionPass i p).entrant j).finishStatus = (s.entrant j).finishStatus
    ∧ ((s.positionPass i p).entrant j).finishTime = (s.entrant j).finishTime
    ∧ ((s.positionPass i p).entrant j).powerHold = (s.entrant j).powerHold
    ∧ ((s.positionPass i p).entrant j).blackFlag = (s.entrant j).blackFlag := by
  refine ⟨?_, ?_, ?_, ?_, ?_, ?_, ?_, ?_, ?_, ?_, ?_, ?_, ?_, ?_, ?_, ?_, ?_, ?_, ?_, ?_, ?_, ?_, ?_, ?_, ?_, ?_⟩ <;>
    (unfold State.positionPass; (try dsimp only) <;> ((repeat' split) <;> (try simp [State.entrant_modEntrant, State.entrant_mk, State.entrants_getElem, Entrant.credited, Entrant.splitLap]) <;> (try (split <;> simp_all))))

/-- What `scoredPass` leaves as it is. -/
@[simp] theorem State.scoredPass_frame (s : State) (tr : Treatment) (i : Slot) (p : Pass) :
    (s.scoredPass tr i p).cfg = s.cfg ∧ (s.scoredPass tr i p).gates = s.gates
    ∧ (s.scoredPass tr i p).testStart = s.testStart ∧ (s.scoredPass tr i p).resolver = s.resolver
    ∧ (s.scoredPass tr i p).ring = s.ring ∧ (s.scoredPass tr i p).highMark = s.highMark
    ∧ (s.scoredPass tr i p).race.raceClock = s.race.raceClock ∧ (s.scoredPass tr i p).race.state = s.race.state
    ∧ (s.scoredPass tr i p).race.resume = s.race.resume ∧ (s.scoredPass tr i p).race.suspStart = s.race.suspStart
    ∧ (s.scoredPass tr i p).race.suspTotal = s.race.suspTotal ∧ (s.scoredPass tr i p).race.green = s.race.green
    ∧ (s.scoredPass tr i p).race.runningClock = s.race.runningClock
    ∧ (s.scoredPass tr i p).race.countdown = s.race.countdown
    ∧ (s.scoredPass tr i p).race.finishDeadline = s.race.finishDeadline
    ∧ (s.scoredPass tr i p).race.yellow = s.race.yellow
    ∧ (s.scoredPass tr i p).race.powerSetting = s.race.powerSetting ∧ (s.scoredPass tr i p).callTable = s.callTable
    ∧ (s.scoredPass tr i p).ceiling.sender = s.ceiling.sender
    ∧ (s.scoredPass tr i p).ceiling.paused = s.ceiling.paused
    ∧ (s.scoredPass tr i p).ceiling.holdStart = s.ceiling.holdStart
    ∧ (s.scoredPass tr i p).ceiling.nextRefresh = s.ceiling.nextRefresh ∧ (s.scoredPass tr i p).inputs = s.inputs
    ∧ (s.scoredPass tr i p).attention = s.attention ∧ (s.scoredPass tr i p).link = s.link
    ∧ (s.scoredPass tr i p).pins = s.pins ∧ (s.scoredPass tr i p).pending = s.pending := by
  refine ⟨?_, ?_, ?_, ?_, ?_, ?_, ?_, ?_, ?_, ?_, ?_, ?_, ?_, ?_, ?_, ?_, ?_, ?_, ?_, ?_, ?_, ?_, ?_, ?_, ?_, ?_, ?_⟩ <;>
    (unfold State.scoredPass; (try dsimp only) <;> ((repeat' split) <;> (try simp)))

@[simp] theorem State.scoredPass_gate (s : State) (tr : Treatment) (i : Slot) (p : Pass) (n : GateNo) :
    (s.scoredPass tr i p).gate n = s.gate n := State.gate_congr (by simp) n

/-- The fields of the records that `scoredPass` leaves as they are. -/
@[simp] theorem State.scoredPass_records (s : State) (tr : Treatment) (i : Slot) (p : Pass) (j : Slot) :
    ((s.scoredPass tr i p).entrant j).code = (s.entrant j).code
    ∧ ((s.scoredPass tr i p).entrant j).state = (s.entrant j).state
    ∧ ((s.scoredPass tr i p).entrant j).station = (s.entrant j).station
    ∧ ((s.scoredPass tr i p).entrant j).latestCrossing = (s.entrant j).latestCrossing
    ∧ ((s.scoredPass tr i p).entrant j).prevCrossing = (s.entrant j).prevCrossing
    ∧ ((s.scoredPass tr i p).entrant j).reachTime = (s.entrant j).reachTime
    ∧ ((s.scoredPass tr i p).entrant j).lastLap = (s.entrant j).lastLap
    ∧ ((s.scoredPass tr i p).entrant j).lastLapMarks = (s.entrant j).lastLapMarks
    ∧ ((s.scoredPass tr i p).entrant j).bestLap = (s.entrant j).bestLap
    ∧ ((s.scoredPass tr i p).entrant j).sector = (s.entrant j).sector
    ∧ ((s.scoredPass tr i p).entrant j).currentSectors = (s.entrant j).currentSectors
    ∧ ((s.scoredPass tr i p).entrant j).lastSectors = (s.entrant j).lastSectors
    ∧ ((s.scoredPass tr i p).entrant j).lastBoundary = (s.entrant j).lastBoundary
    ∧ ((s.scoredPass tr i p).entrant j).gap = (s.entrant j).gap
    ∧ ((s.scoredPass tr i p).entrant j).lapsDown = (s.entrant j).lapsDown
    ∧ ((s.scoredPass tr i p).entrant j).jumpStart = (s.entrant j).jumpStart
    ∧ ((s.scoredPass tr i p).entrant j).callsUsed = (s.entrant j).callsUsed
    ∧ ((s.scoredPass tr i p).entrant j).override = (s.entrant j).override
    ∧ ((s.scoredPass tr i p).entrant j).finishStatus = (s.entrant j).finishStatus
    ∧ ((s.scoredPass tr i p).entrant j).finishTime = (s.entrant j).finishTime := by
  refine ⟨?_, ?_, ?_, ?_, ?_, ?_, ?_, ?_, ?_, ?_, ?_, ?_, ?_, ?_, ?_, ?_, ?_, ?_, ?_, ?_⟩ <;>
    (unfold State.scoredPass; (try dsimp only) <;> ((repeat' split) <;> (try simp [State.entrant_modEntrant, State.entrant_mk, State.entrants_getElem, Entrant.credited, Entrant.splitLap]) <;> (try (split <;> simp_all))))

/-- What `lapStep` leaves as it is. -/
@[simp] theorem State.lapStep_frame (s : State) (i : Slot) (p : Pass) :
    (s.lapStep i p).cfg = s.cfg ∧ (s.lapStep i p).gates = s.gates ∧ (s.lapStep i p).testStart = s.testStart
    ∧ (s.lapStep i p).resolver = s.resolver ∧ (s.lapStep i p).race.raceClock = s.race.raceClock
    ∧ (s.lapStep i p).race.suspTotal = s.race.suspTotal ∧ (s.lapStep i p).race.green = s.race.green
    ∧ (s.lapStep i p).race.runningClock = s.race.runningClock ∧ (s.lapStep i p).race.countdown = s.race.countdown
    ∧ (s.lapStep i p).race.yellow = s.race.yellow ∧ (s.lapStep i p).race.powerSetting = s.race.powerSetting
    ∧ (s.lapStep i p).callTable = s.callTable ∧ (s.lapStep i p).ceiling.sender = s.ceiling.sender
    ∧ (s.lapStep i p).ceiling.paused = s.ceiling.paused
    ∧ (s.lapStep i p).ceiling.nextRefresh = s.ceiling.nextRefresh ∧ (s.lapStep i p).inputs = s.inputs
    ∧ (s.lapStep i p).attention.suspended = s.attention.suspended
    ∧ (s.lapStep i p).attention.test = s.attention.test ∧ (s.lapStep i p).attention.mask = s.attention.mask
    ∧ (s.lapStep i p).link = s.link ∧ (s.lapStep i p).pins = s.pins ∧ (s.lapStep i p).pending = s.pending := by
  refine ⟨?_, ?_, ?_, ?_, ?_, ?_, ?_, ?_, ?_, ?_, ?_, ?_, ?_, ?_, ?_, ?_, ?_, ?_, ?_, ?_, ?_, ?_⟩ <;>
    (unfold State.lapStep; (try dsimp only) <;> ((repeat' split) <;> (try simp)))

@[simp] theorem State.lapStep_gate (s : State) (i : Slot) (p : Pass) (n : GateNo) :
    (s.lapStep i p).gate n = s.gate n := State.gate_congr (by simp) n

/-- The fields of the records that `lapStep` leaves as they are. -/
@[simp] theorem State.lapStep_records (s : State) (i : Slot) (p : Pass) (j : Slot) :
    ((s.lapStep i p).entrant j).code = (s.entrant j).code
    ∧ ((s.lapStep i p).entrant j).station = (s.entrant j).station
    ∧ ((s.lapStep i p).entrant j).lane = (s.entrant j).lane
    ∧ ((s.lapStep i p).entrant j).pitStatus = (s.entrant j).pitStatus
    ∧ ((s.lapStep i p).entrant j).pitEntry = (s.entrant j).pitEntry
    ∧ ((s.lapStep i p).entrant j).boxArrival = (s.entrant j).boxArrival
    ∧ ((s.lapStep i p).entrant j).boxVisited = (s.entrant j).boxVisited
    ∧ ((s.lapStep i p).entrant j).pitStops = (s.entrant j).pitStops
    ∧ ((s.lapStep i p).entrant j).latestPass = (s.entrant j).latestPass
    ∧ ((s.lapStep i p).entrant j).jumpStart = (s.entrant j).jumpStart
    ∧ ((s.lapStep i p).entrant j).callsUsed = (s.entrant j).callsUsed
    ∧ ((s.lapStep i p).entrant j).override = (s.entrant j).override := by
  refine ⟨?_, ?_, ?_, ?_, ?_, ?_, ?_, ?_, ?_, ?_, ?_, ?_⟩ <;>
    (unfold State.lapStep; (try dsimp only) <;> ((repeat' split) <;> (try simp [State.entrant_modEntrant, State.entrant_mk, State.entrants_getElem, Entrant.credited, Entrant.splitLap]) <;> (try (split <;> simp_all))))

/-- What `deliver` leaves as it is. -/
@[simp] theorem State.deliver_frame (s : State) (i : Slot) (p : Pass) :
    (s.deliver i p).cfg = s.cfg ∧ (s.deliver i p).gates = s.gates ∧ (s.deliver i p).testStart = s.testStart
    ∧ (s.deliver i p).resolver = s.resolver ∧ (s.deliver i p).race.raceClock = s.race.raceClock
    ∧ (s.deliver i p).race.suspTotal = s.race.suspTotal ∧ (s.deliver i p).race.green = s.race.green
    ∧ (s.deliver i p).race.runningClock = s.race.runningClock ∧ (s.deliver i p).race.countdown = s.race.countdown
    ∧ (s.deliver i p).race.yellow = s.race.yellow ∧ (s.deliver i p).race.powerSetting = s.race.powerSetting
    ∧ (s.deliver i p).callTable = s.callTable ∧ (s.deliver i p).ceiling.sender = s.ceiling.sender
    ∧ (s.deliver i p).ceiling.paused = s.ceiling.paused
    ∧ (s.deliver i p).ceiling.nextRefresh = s.ceiling.nextRefresh ∧ (s.deliver i p).inputs = s.inputs
    ∧ (s.deliver i p).attention.suspended = s.attention.suspended
    ∧ (s.deliver i p).attention.test = s.attention.test ∧ (s.deliver i p).attention.mask = s.attention.mask
    ∧ (s.deliver i p).link = s.link ∧ (s.deliver i p).pins = s.pins ∧ (s.deliver i p).pending = s.pending := by
  refine ⟨?_, ?_, ?_, ?_, ?_, ?_, ?_, ?_, ?_, ?_, ?_, ?_, ?_, ?_, ?_, ?_, ?_, ?_, ?_, ?_, ?_, ?_⟩ <;>
    (unfold State.deliver; (try dsimp only) <;> ((repeat' split) <;> (try simp)))

@[simp] theorem State.deliver_gate (s : State) (i : Slot) (p : Pass) (n : GateNo) :
    (s.deliver i p).gate n = s.gate n := State.gate_congr (by simp) n

/-- The fields of the records that `deliver` leaves as they are. -/
@[simp] theorem State.deliver_records (s : State) (i : Slot) (p : Pass) (j : Slot) :
    ((s.deliver i p).entrant j).code = (s.entrant j).code
    ∧ ((s.deliver i p).entrant j).station = (s.entrant j).station
    ∧ ((s.deliver i p).entrant j).callsUsed = (s.entrant j).callsUsed
    ∧ ((s.deliver i p).entrant j).override = (s.entrant j).override := by
  refine ⟨?_, ?_, ?_, ?_⟩ <;>
    (unfold State.deliver; (try dsimp only) <;> ((repeat' split) <;> (try simp [State.entrant_modEntrant, State.entrant_mk, State.entrants_getElem, Entrant.credited, Entrant.splitLap]) <;> (try (split <;> simp_all))))

/-- What `deliverLate` leaves as it is. -/
@[simp] theorem State.deliverLate_frame (s : State) (i : Slot) (p : Pass) (a : RunTime) (o : LateOutcome) :
    (s.deliverLate i p a o).cfg = s.cfg ∧ (s.deliverLate i p a o).gates = s.gates
    ∧ (s.deliverLate i p a o).testStart = s.testStart ∧ (s.deliverLate i p a o).resolver = s.resolver
    ∧ (s.deliverLate i p a o).race.raceClock = s.race.raceClock
    ∧ (s.deliverLate i p a o).race.suspTotal = s.race.suspTotal ∧ (s.deliverLate i p a o).race.green = s.race.green
    ∧ (s.deliverLate i p a o).race.runningClock = s.race.runningClock
    ∧ (s.deliverLate i p a o).race.countdown = s.race.countdown
    ∧ (s.deliverLate i p a o).race.yellow = s.race.yellow
    ∧ (s.deliverLate i p a o).race.powerSetting = s.race.powerSetting
    ∧ (s.deliverLate i p a o).callTable = s.callTable ∧ (s.deliverLate i p a o).ceiling.sender = s.ceiling.sender
    ∧ (s.deliverLate i p a o).ceiling.paused = s.ceiling.paused
    ∧ (s.deliverLate i p a o).ceiling.nextRefresh = s.ceiling.nextRefresh
    ∧ (s.deliverLate i p a o).inputs = s.inputs
    ∧ (s.deliverLate i p a o).attention.suspended = s.attention.suspended
    ∧ (s.deliverLate i p a o).attention.test = s.attention.test
    ∧ (s.deliverLate i p a o).attention.mask = s.attention.mask ∧ (s.deliverLate i p a o).link = s.link
    ∧ (s.deliverLate i p a o).pins = s.pins ∧ (s.deliverLate i p a o).pending = s.pending := by
  refine ⟨?_, ?_, ?_, ?_, ?_, ?_, ?_, ?_, ?_, ?_, ?_, ?_, ?_, ?_, ?_, ?_, ?_, ?_, ?_, ?_, ?_, ?_⟩ <;>
    (unfold State.deliverLate; (try dsimp only) <;> ((repeat' split) <;> (try simp)))

@[simp] theorem State.deliverLate_gate (s : State) (i : Slot) (p : Pass) (a : RunTime) (o : LateOutcome) (n : GateNo) :
    (s.deliverLate i p a o).gate n = s.gate n := State.gate_congr (by simp) n

/-- The fields of the records that `deliverLate` leaves as they are. -/
@[simp] theorem State.deliverLate_records (s : State) (i : Slot) (p : Pass) (a : RunTime) (o : LateOutcome) (j : Slot) :
    ((s.deliverLate i p a o).entrant j).code = (s.entrant j).code
    ∧ ((s.deliverLate i p a o).entrant j).station = (s.entrant j).station
    ∧ ((s.deliverLate i p a o).entrant j).jumpStart = (s.entrant j).jumpStart
    ∧ ((s.deliverLate i p a o).entrant j).callsUsed = (s.entrant j).callsUsed
    ∧ ((s.deliverLate i p a o).entrant j).override = (s.entrant j).override := by
  refine ⟨?_, ?_, ?_, ?_, ?_⟩ <;>
    (unfold State.deliverLate; (try dsimp only) <;> ((repeat' split) <;> (try simp [State.entrant_modEntrant, State.entrant_mk, State.entrants_getElem, Entrant.credited, Entrant.splitLap]) <;> (try (split <;> simp_all))))

/-- What `arriveInBox` leaves as it is. -/
@[simp] theorem State.arriveInBox_frame (s : State) (tr : Treatment) (i : Slot) (t : Option RunTime) :
    (s.arriveInBox tr i t).cfg = s.cfg ∧ (s.arriveInBox tr i t).gates = s.gates
    ∧ (s.arriveInBox tr i t).testStart = s.testStart ∧ (s.arriveInBox tr i t).resolver = s.resolver
    ∧ (s.arriveInBox tr i t).ring = s.ring ∧ (s.arriveInBox tr i t).highMark = s.highMark
    ∧ (s.arriveInBox tr i t).standings = s.standings ∧ (s.arriveInBox tr i t).race = s.race
    ∧ (s.arriveInBox tr i t).callTable = s.callTable ∧ (s.arriveInBox tr i t).ceiling.sender = s.ceiling.sender
    ∧ (s.arriveInBox tr i t).ceiling.paused = s.ceiling.paused
    ∧ (s.arriveInBox tr i t).ceiling.holdStart = s.ceiling.holdStart
    ∧ (s.arriveInBox tr i t).ceiling.nextRefresh = s.ceiling.nextRefresh ∧ (s.arriveInBox tr i t).inputs = s.inputs
    ∧ (s.arriveInBox tr i t).attention = s.attention ∧ (s.arriveInBox tr i t).link = s.link
    ∧ (s.arriveInBox tr i t).pins = s.pins ∧ (s.arriveInBox tr i t).pending = s.pending := by
  refine ⟨?_, ?_, ?_, ?_, ?_, ?_, ?_, ?_, ?_, ?_, ?_, ?_, ?_, ?_, ?_, ?_, ?_, ?_⟩ <;>
    (unfold State.arriveInBox; (try dsimp only) <;> ((repeat' split) <;> (try simp)))

@[simp] theorem State.arriveInBox_gate (s : State) (tr : Treatment) (i : Slot) (t : Option RunTime) (n : GateNo) :
    (s.arriveInBox tr i t).gate n = s.gate n := State.gate_congr (by simp) n

/-- The fields of the records that `arriveInBox` leaves as they are. -/
@[simp] theorem State.arriveInBox_records (s : State) (tr : Treatment) (i : Slot) (t : Option RunTime) (j : Slot) :
    ((s.arriveInBox tr i t).entrant j).code = (s.entrant j).code
    ∧ ((s.arriveInBox tr i t).entrant j).state = (s.entrant j).state
    ∧ ((s.arriveInBox tr i t).entrant j).station = (s.entrant j).station
    ∧ ((s.arriveInBox tr i t).entrant j).pitStops = (s.entrant j).pitStops
    ∧ ((s.arriveInBox tr i t).entrant j).laps = (s.entrant j).laps
    ∧ ((s.arriveInBox tr i t).entrant j).latestCrossing = (s.entrant j).latestCrossing
    ∧ ((s.arriveInBox tr i t).entrant j).prevCrossing = (s.entrant j).prevCrossing
    ∧ ((s.arriveInBox tr i t).entrant j).reachTime = (s.entrant j).reachTime
    ∧ ((s.arriveInBox tr i t).entrant j).lastLap = (s.entrant j).lastLap
    ∧ ((s.arriveInBox tr i t).entrant j).lastLapMarks = (s.entrant j).lastLapMarks
    ∧ ((s.arriveInBox tr i t).entrant j).bestLap = (s.entrant j).bestLap
    ∧ ((s.arriveInBox tr i t).entrant j).sector = (s.entrant j).sector
    ∧ ((s.arriveInBox tr i t).entrant j).currentSectors = (s.entrant j).currentSectors
    ∧ ((s.arriveInBox tr i t).entrant j).lastSectors = (s.entrant j).lastSectors
    ∧ ((s.arriveInBox tr i t).entrant j).lastBoundary = (s.entrant j).lastBoundary
    ∧ ((s.arriveInBox tr i t).entrant j).lapCaution = (s.entrant j).lapCaution
    ∧ ((s.arriveInBox tr i t).entrant j).gap = (s.entrant j).gap
    ∧ ((s.arriveInBox tr i t).entrant j).lapsDown = (s.entrant j).lapsDown
    ∧ ((s.arriveInBox tr i t).entrant j).latestPass = (s.entrant j).latestPass
    ∧ ((s.arriveInBox tr i t).entrant j).deadline = (s.entrant j).deadline
    ∧ ((s.arriveInBox tr i t).entrant j).overdue = (s.entrant j).overdue
    ∧ ((s.arriveInBox tr i t).entrant j).jumpStart = (s.entrant j).jumpStart
    ∧ ((s.arriveInBox tr i t).entrant j).callsUsed = (s.entrant j).callsUsed
    ∧ ((s.arriveInBox tr i t).entrant j).override = (s.entrant j).override
    ∧ ((s.arriveInBox tr i t).entrant j).activity = (s.entrant j).activity
    ∧ ((s.arriveInBox tr i t).entrant j).finishStatus = (s.entrant j).finishStatus
    ∧ ((s.arriveInBox tr i t).entrant j).finishTime = (s.entrant j).finishTime
    ∧ ((s.arriveInBox tr i t).entrant j).powerHold = (s.entrant j).powerHold
    ∧ ((s.arriveInBox tr i t).entrant j).blackFlag = (s.entrant j).blackFlag := by
  refine ⟨?_, ?_, ?_, ?_, ?_, ?_, ?_, ?_, ?_, ?_, ?_, ?_, ?_, ?_, ?_, ?_, ?_, ?_, ?_, ?_, ?_, ?_, ?_, ?_, ?_, ?_, ?_, ?_, ?_⟩ <;>
    (unfold State.arriveInBox; (try dsimp only) <;> ((repeat' split) <;> (try simp [State.entrant_modEntrant, State.entrant_mk, State.entrants_getElem, Entrant.credited, Entrant.splitLap]) <;> (try (split <;> simp_all))))

/-- What `deliverBox` leaves as it is. -/
@[simp] theorem State.deliverBox_frame (s : State) (ar : Bool) (i : Slot) (t : Option RunTime) :
    (s.deliverBox ar i t).cfg = s.cfg ∧ (s.deliverBox ar i t).gates = s.gates
    ∧ (s.deliverBox ar i t).testStart = s.testStart ∧ (s.deliverBox ar i t).resolver = s.resolver
    ∧ (s.deliverBox ar i t).ring = s.ring ∧ (s.deliverBox ar i t).highMark = s.highMark
    ∧ (s.deliverBox ar i t).standings = s.standings ∧ (s.deliverBox ar i t).race.raceClock = s.race.raceClock
    ∧ (s.deliverBox ar i t).race.state = s.race.state ∧ (s.deliverBox ar i t).race.resume = s.race.resume
    ∧ (s.deliverBox ar i t).race.suspStart = s.race.suspStart
    ∧ (s.deliverBox ar i t).race.suspTotal = s.race.suspTotal ∧ (s.deliverBox ar i t).race.green = s.race.green
    ∧ (s.deliverBox ar i t).race.runningClock = s.race.runningClock
    ∧ (s.deliverBox ar i t).race.countdown = s.race.countdown
    ∧ (s.deliverBox ar i t).race.finishDeadline = s.race.finishDeadline
    ∧ (s.deliverBox ar i t).race.yellow = s.race.yellow
    ∧ (s.deliverBox ar i t).race.powerSetting = s.race.powerSetting ∧ (s.deliverBox ar i t).callTable = s.callTable
    ∧ (s.deliverBox ar i t).ceiling.sender = s.ceiling.sender
    ∧ (s.deliverBox ar i t).ceiling.paused = s.ceiling.paused
    ∧ (s.deliverBox ar i t).ceiling.holdStart = s.ceiling.holdStart
    ∧ (s.deliverBox ar i t).ceiling.nextRefresh = s.ceiling.nextRefresh ∧ (s.deliverBox ar i t).inputs = s.inputs
    ∧ (s.deliverBox ar i t).attention = s.attention ∧ (s.deliverBox ar i t).link = s.link
    ∧ (s.deliverBox ar i t).pins = s.pins ∧ (s.deliverBox ar i t).pending = s.pending := by
  refine ⟨?_, ?_, ?_, ?_, ?_, ?_, ?_, ?_, ?_, ?_, ?_, ?_, ?_, ?_, ?_, ?_, ?_, ?_, ?_, ?_, ?_, ?_, ?_, ?_, ?_, ?_, ?_, ?_⟩ <;>
    (unfold State.deliverBox; (try dsimp only) <;> ((repeat' split) <;> (try simp)))

@[simp] theorem State.deliverBox_gate (s : State) (ar : Bool) (i : Slot) (t : Option RunTime) (n : GateNo) :
    (s.deliverBox ar i t).gate n = s.gate n := State.gate_congr (by simp) n

/-- The fields of the records that `deliverBox` leaves as they are. -/
@[simp] theorem State.deliverBox_records (s : State) (ar : Bool) (i : Slot) (t : Option RunTime) (j : Slot) :
    ((s.deliverBox ar i t).entrant j).code = (s.entrant j).code
    ∧ ((s.deliverBox ar i t).entrant j).state = (s.entrant j).state
    ∧ ((s.deliverBox ar i t).entrant j).station = (s.entrant j).station
    ∧ ((s.deliverBox ar i t).entrant j).pitStops = (s.entrant j).pitStops
    ∧ ((s.deliverBox ar i t).entrant j).laps = (s.entrant j).laps
    ∧ ((s.deliverBox ar i t).entrant j).latestCrossing = (s.entrant j).latestCrossing
    ∧ ((s.deliverBox ar i t).entrant j).prevCrossing = (s.entrant j).prevCrossing
    ∧ ((s.deliverBox ar i t).entrant j).reachTime = (s.entrant j).reachTime
    ∧ ((s.deliverBox ar i t).entrant j).lastLap = (s.entrant j).lastLap
    ∧ ((s.deliverBox ar i t).entrant j).lastLapMarks = (s.entrant j).lastLapMarks
    ∧ ((s.deliverBox ar i t).entrant j).bestLap = (s.entrant j).bestLap
    ∧ ((s.deliverBox ar i t).entrant j).sector = (s.entrant j).sector
    ∧ ((s.deliverBox ar i t).entrant j).currentSectors = (s.entrant j).currentSectors
    ∧ ((s.deliverBox ar i t).entrant j).lastSectors = (s.entrant j).lastSectors
    ∧ ((s.deliverBox ar i t).entrant j).lastBoundary = (s.entrant j).lastBoundary
    ∧ ((s.deliverBox ar i t).entrant j).gap = (s.entrant j).gap
    ∧ ((s.deliverBox ar i t).entrant j).lapsDown = (s.entrant j).lapsDown
    ∧ ((s.deliverBox ar i t).entrant j).jumpStart = (s.entrant j).jumpStart
    ∧ ((s.deliverBox ar i t).entrant j).callsUsed = (s.entrant j).callsUsed
    ∧ ((s.deliverBox ar i t).entrant j).override = (s.entrant j).override
    ∧ ((s.deliverBox ar i t).entrant j).activity = (s.entrant j).activity
    ∧ ((s.deliverBox ar i t).entrant j).finishStatus = (s.entrant j).finishStatus
    ∧ ((s.deliverBox ar i t).entrant j).finishTime = (s.entrant j).finishTime
    ∧ ((s.deliverBox ar i t).entrant j).powerHold = (s.entrant j).powerHold
    ∧ ((s.deliverBox ar i t).entrant j).blackFlag = (s.entrant j).blackFlag := by
  refine ⟨?_, ?_, ?_, ?_, ?_, ?_, ?_, ?_, ?_, ?_, ?_, ?_, ?_, ?_, ?_, ?_, ?_, ?_, ?_, ?_, ?_, ?_, ?_, ?_, ?_⟩ <;>
    (unfold State.deliverBox; (try dsimp only) <;> ((repeat' split) <;> (try simp [State.entrant_modEntrant, State.entrant_mk, State.entrants_getElem, Entrant.credited, Entrant.splitLap]) <;> (try (split <;> simp_all))))

/-- What `route` leaves as it is. -/
@[simp] theorem State.route_frame (s : State) (p : Pass) :
    (s.route p).cfg = s.cfg ∧ (s.route p).gates = s.gates ∧ (s.route p).testStart = s.testStart
    ∧ (s.route p).race.raceClock = s.race.raceClock ∧ (s.route p).race.suspTotal = s.race.suspTotal
    ∧ (s.route p).race.green = s.race.green ∧ (s.route p).race.runningClock = s.race.runningClock
    ∧ (s.route p).race.countdown = s.race.countdown ∧ (s.route p).race.yellow = s.race.yellow
    ∧ (s.route p).race.powerSetting = s.race.powerSetting ∧ (s.route p).callTable = s.callTable
    ∧ (s.route p).ceiling.sender = s.ceiling.sender ∧ (s.route p).ceiling.paused = s.ceiling.paused
    ∧ (s.route p).ceiling.nextRefresh = s.ceiling.nextRefresh ∧ (s.route p).inputs = s.inputs
    ∧ (s.route p).attention.suspended = s.attention.suspended ∧ (s.route p).attention.test = s.attention.test
    ∧ (s.route p).attention.mask = s.attention.mask ∧ (s.route p).link = s.link ∧ (s.route p).pins = s.pins
    ∧ (s.route p).pending = s.pending := by
  refine ⟨?_, ?_, ?_, ?_, ?_, ?_, ?_, ?_, ?_, ?_, ?_, ?_, ?_, ?_, ?_, ?_, ?_, ?_, ?_, ?_, ?_⟩ <;>
    (unfold State.route; (try dsimp only) <;> ((repeat' split) <;> (try simp)))

@[simp] theorem State.route_gate (s : State) (p : Pass) (n : GateNo) :
    (s.route p).gate n = s.gate n := State.gate_congr (by simp) n

/-- The fields of the records that `route` leaves as they are. -/
@[simp] theorem State.route_records (s : State) (p : Pass) (j : Slot) :
    ((s.route p).entrant j).code = (s.entrant j).code ∧ ((s.route p).entrant j).station = (s.entrant j).station
    ∧ ((s.route p).entrant j).callsUsed = (s.entrant j).callsUsed
    ∧ ((s.route p).entrant j).override = (s.entrant j).override := by
  refine ⟨?_, ?_, ?_, ?_⟩ <;>
    (unfold State.route; (try dsimp only) <;> ((repeat' split) <;> (try simp [State.entrant_modEntrant, State.entrant_mk, State.entrants_getElem, Entrant.credited, Entrant.splitLap]) <;> (try (split <;> simp_all))))

/-- What `takeTally` leaves as it is. -/
@[simp] theorem State.takeTally_frame (s : State) (g : GateNo) (t : Tally) :
    (s.takeTally g t).cfg = s.cfg ∧ (s.takeTally g t).gates = s.gates ∧ (s.takeTally g t).testStart = s.testStart
    ∧ (s.takeTally g t).race.raceClock = s.race.raceClock ∧ (s.takeTally g t).race.suspTotal = s.race.suspTotal
    ∧ (s.takeTally g t).race.green = s.race.green ∧ (s.takeTally g t).race.runningClock = s.race.runningClock
    ∧ (s.takeTally g t).race.countdown = s.race.countdown ∧ (s.takeTally g t).race.yellow = s.race.yellow
    ∧ (s.takeTally g t).race.powerSetting = s.race.powerSetting ∧ (s.takeTally g t).callTable = s.callTable
    ∧ (s.takeTally g t).ceiling.sender = s.ceiling.sender ∧ (s.takeTally g t).ceiling.paused = s.ceiling.paused
    ∧ (s.takeTally g t).ceiling.nextRefresh = s.ceiling.nextRefresh ∧ (s.takeTally g t).inputs = s.inputs
    ∧ (s.takeTally g t).attention.suspended = s.attention.suspended
    ∧ (s.takeTally g t).attention.test = s.attention.test ∧ (s.takeTally g t).attention.mask = s.attention.mask
    ∧ (s.takeTally g t).link = s.link ∧ (s.takeTally g t).pins = s.pins ∧ (s.takeTally g t).pending = s.pending := by
  unfold State.takeTally
  generalize (s.vote g t) = l
  induction l generalizing s with
  | nil => exact ⟨rfl, rfl, rfl, rfl, rfl, rfl, rfl, rfl, rfl, rfl, rfl, rfl, rfl, rfl, rfl, rfl, rfl, rfl, rfl, rfl, rfl⟩
  | cons x l ih =>
    simp only [List.foldl_cons, ih]
    refine ⟨?_, ?_, ?_, ?_, ?_, ?_, ?_, ?_, ?_, ?_, ?_, ?_, ?_, ?_, ?_, ?_, ?_, ?_, ?_, ?_, ?_⟩ <;> ((repeat' split) <;> (try simp))

@[simp] theorem State.takeTally_gate (s : State) (g : GateNo) (t : Tally) (n : GateNo) :
    (s.takeTally g t).gate n = s.gate n := State.gate_congr (by simp) n

/-- The fields of the records that `takeTally` leaves as they are. -/
@[simp] theorem State.takeTally_records (s : State) (g : GateNo) (t : Tally) (j : Slot) :
    ((s.takeTally g t).entrant j).code = (s.entrant j).code
    ∧ ((s.takeTally g t).entrant j).station = (s.entrant j).station
    ∧ ((s.takeTally g t).entrant j).callsUsed = (s.entrant j).callsUsed
    ∧ ((s.takeTally g t).entrant j).override = (s.entrant j).override := by
  unfold State.takeTally
  generalize (s.vote g t) = l
  induction l generalizing s with
  | nil => exact ⟨rfl, rfl, rfl, rfl⟩
  | cons x l ih =>
    simp only [List.foldl_cons, ih]
    refine ⟨?_, ?_, ?_, ?_⟩ <;> ((repeat' split) <;> (try simp [State.entrant_modEntrant, State.entrant_mk, State.entrants_getElem, Entrant.credited, Entrant.splitLap]) <;> (try (split <;> simp_all)))

/-- What `boxReport` leaves as it is. -/
@[simp] theorem State.boxReport_frame (s : State) (ar : Bool) (g : GateNo) (c : Nat) (t : RawTime) :
    (s.boxReport ar g c t).cfg = s.cfg ∧ (s.boxReport ar g c t).gates = s.gates
    ∧ (s.boxReport ar g c t).testStart = s.testStart ∧ (s.boxReport ar g c t).resolver = s.resolver
    ∧ (s.boxReport ar g c t).ring = s.ring ∧ (s.boxReport ar g c t).highMark = s.highMark
    ∧ (s.boxReport ar g c t).standings = s.standings ∧ (s.boxReport ar g c t).race.raceClock = s.race.raceClock
    ∧ (s.boxReport ar g c t).race.state = s.race.state ∧ (s.boxReport ar g c t).race.resume = s.race.resume
    ∧ (s.boxReport ar g c t).race.suspStart = s.race.suspStart
    ∧ (s.boxReport ar g c t).race.suspTotal = s.race.suspTotal ∧ (s.boxReport ar g c t).race.green = s.race.green
    ∧ (s.boxReport ar g c t).race.runningClock = s.race.runningClock
    ∧ (s.boxReport ar g c t).race.countdown = s.race.countdown
    ∧ (s.boxReport ar g c t).race.finishDeadline = s.race.finishDeadline
    ∧ (s.boxReport ar g c t).race.yellow = s.race.yellow
    ∧ (s.boxReport ar g c t).race.powerSetting = s.race.powerSetting
    ∧ (s.boxReport ar g c t).callTable = s.callTable ∧ (s.boxReport ar g c t).ceiling.sender = s.ceiling.sender
    ∧ (s.boxReport ar g c t).ceiling.paused = s.ceiling.paused
    ∧ (s.boxReport ar g c t).ceiling.holdStart = s.ceiling.holdStart
    ∧ (s.boxReport ar g c t).ceiling.nextRefresh = s.ceiling.nextRefresh ∧ (s.boxReport ar g c t).inputs = s.inputs
    ∧ (s.boxReport ar g c t).attention = s.attention ∧ (s.boxReport ar g c t).link = s.link
    ∧ (s.boxReport ar g c t).pins = s.pins ∧ (s.boxReport ar g c t).pending = s.pending := by
  refine ⟨?_, ?_, ?_, ?_, ?_, ?_, ?_, ?_, ?_, ?_, ?_, ?_, ?_, ?_, ?_, ?_, ?_, ?_, ?_, ?_, ?_, ?_, ?_, ?_, ?_, ?_, ?_, ?_⟩ <;>
    (unfold State.boxReport; (try dsimp only) <;> ((repeat' split) <;> (try simp)))

@[simp] theorem State.boxReport_gate (s : State) (ar : Bool) (g : GateNo) (c : Nat) (t : RawTime) (n : GateNo) :
    (s.boxReport ar g c t).gate n = s.gate n := State.gate_congr (by simp) n

/-- The fields of the records that `boxReport` leaves as they are. -/
@[simp] theorem State.boxReport_records (s : State) (ar : Bool) (g : GateNo) (c : Nat) (t : RawTime) (j : Slot) :
    ((s.boxReport ar g c t).entrant j).code = (s.entrant j).code
    ∧ ((s.boxReport ar g c t).entrant j).state = (s.entrant j).state
    ∧ ((s.boxReport ar g c t).entrant j).station = (s.entrant j).station
    ∧ ((s.boxReport ar g c t).entrant j).pitStops = (s.entrant j).pitStops
    ∧ ((s.boxReport ar g c t).entrant j).laps = (s.entrant j).laps
    ∧ ((s.boxReport ar g c t).entrant j).latestCrossing = (s.entrant j).latestCrossing
    ∧ ((s.boxReport ar g c t).entrant j).prevCrossing = (s.entrant j).prevCrossing
    ∧ ((s.boxReport ar g c t).entrant j).reachTime = (s.entrant j).reachTime
    ∧ ((s.boxReport ar g c t).entrant j).lastLap = (s.entrant j).lastLap
    ∧ ((s.boxReport ar g c t).entrant j).lastLapMarks = (s.entrant j).lastLapMarks
    ∧ ((s.boxReport ar g c t).entrant j).bestLap = (s.entrant j).bestLap
    ∧ ((s.boxReport ar g c t).entrant j).sector = (s.entrant j).sector
    ∧ ((s.boxReport ar g c t).entrant j).currentSectors = (s.entrant j).currentSectors
    ∧ ((s.boxReport ar g c t).entrant j).lastSectors = (s.entrant j).lastSectors
    ∧ ((s.boxReport ar g c t).entrant j).lastBoundary = (s.entrant j).lastBoundary
    ∧ ((s.boxReport ar g c t).entrant j).gap = (s.entrant j).gap
    ∧ ((s.boxReport ar g c t).entrant j).lapsDown = (s.entrant j).lapsDown
    ∧ ((s.boxReport ar g c t).entrant j).jumpStart = (s.entrant j).jumpStart
    ∧ ((s.boxReport ar g c t).entrant j).callsUsed = (s.entrant j).callsUsed
    ∧ ((s.boxReport ar g c t).entrant j).override = (s.entrant j).override
    ∧ ((s.boxReport ar g c t).entrant j).activity = (s.entrant j).activity
    ∧ ((s.boxReport ar g c t).entrant j).finishStatus = (s.entrant j).finishStatus
    ∧ ((s.boxReport ar g c t).entrant j).finishTime = (s.entrant j).finishTime
    ∧ ((s.boxReport ar g c t).entrant j).powerHold = (s.entrant j).powerHold
    ∧ ((s.boxReport ar g c t).entrant j).blackFlag = (s.entrant j).blackFlag := by
  refine ⟨?_, ?_, ?_, ?_, ?_, ?_, ?_, ?_, ?_, ?_, ?_, ?_, ?_, ?_, ?_, ?_, ?_, ?_, ?_, ?_, ?_, ?_, ?_, ?_, ?_⟩ <;>
    (unfold State.boxReport; (try dsimp only) <;> ((repeat' split) <;> (try simp [State.entrant_modEntrant, State.entrant_mk, State.entrants_getElem, Entrant.credited, Entrant.splitLap]) <;> (try (split <;> simp_all))))

/-! ### What joining and leaving the Unclaimed Pass Queue do -/

/-- A tag is held just where some entry has it. -/
theorem tagHeld_iff (q : List QueuedPass) (tag : Byte) : tagHeld q tag = true ↔ tag ∈ q.map (·.tag) := by
  simp [tagHeld, List.any_eq_true]

/-- The tag found is free, or every tag tried was held. -/
theorem freeTag_cases (q : List QueuedPass) (n : Nat) (tag : Byte) :
    tagHeld q (freeTag q n tag) = false ∨ ∀ k ≤ n, k < n → tagHeld q (tag + BitVec.ofNat 8 k) = true := by
  induction n generalizing tag with
  | zero => right; intro k _ hk; omega
  | succ n ih =>
    unfold freeTag
    by_cases h : tagHeld q tag = true
    · simp only [h, if_true]
      rcases ih (tag + 1) with hf | ha
      · exact .inl hf
      · right
        intro k _ hk
        rcases Nat.eq_zero_or_pos k with rfl | hp
        · simpa using h
        · have := ha (k - 1) (by omega) (by omega)
          have e : tag + 1 + BitVec.ofNat 8 (k - 1) = tag + BitVec.ofNat 8 k := by
            apply BitVec.eq_of_toNat_eq
            have one : (1 : Byte).toNat = 1 := rfl
            simp only [one, BitVec.toNat_add, BitVec.toNat_ofNat]
            omega
          rwa [e] at this
    · left; simpa [h] using h

/-- With fewer entries than the steps tried, the tag found is free (R32). -/
theorem freeTag_free (q : List QueuedPass) (n : Nat) (tag : Byte) (hn : n ≤ 256) (hq : q.length < n) :
    tagHeld q (freeTag q n tag) = false := by
  rcases freeTag_cases q n tag with h | h
  · exact h
  · exfalso
    have hsub : (List.range n).map (fun k => tag + BitVec.ofNat 8 k) ⊆ q.map (·.tag) := by
      intro t ht
      obtain ⟨k, hk, rfl⟩ := List.mem_map.mp ht
      have hk := List.mem_range.mp hk
      exact (tagHeld_iff q _).mp (h k hk.le hk)
    have hnd : ((List.range n).map (fun k => tag + BitVec.ofNat 8 k)).Nodup := by
      refine List.Nodup.map_on ?_ List.nodup_range
      intro a ha b hb hab
      have ha := List.mem_range.mp ha
      have hb := List.mem_range.mp hb
      have := congrArg BitVec.toNat ((BitVec.add_right_inj tag).mp hab)
      simp only [BitVec.toNat_ofNat] at this
      omega
    have := (List.subperm_of_subset hnd hsub).length_le
    simp at this
    omega

/-- What joining the queue does: the oldest entry makes way at capacity, and the pass takes the tail under a tag that is
found from the counter (R31, R32, R33). -/
theorem State.enqueuePass_queue (s : State) (p : Pass) :
    ∃ kept tag, (kept = s.resolver.queue ∧ s.resolver.queue.length < 16 ∧ (s.enqueuePass p).resolver.overrun
            = s.resolver.overrun
          ∨ kept = s.resolver.queue.drop 1 ∧ 16 ≤ s.resolver.queue.length ∧ (s.enqueuePass p).resolver.overrun = true)
      ∧ tag = freeTag kept 16 s.resolver.nextTag
      ∧ (s.enqueuePass p).resolver.nextTag = tag + 1
      ∧ (s.enqueuePass p).resolver.queue
          = kept ++ [{ pass := p, tag := tag, entered := s.race.raceClock, expired := false }] := by
  by_cases h : 16 ≤ s.resolver.queue.length
  · exact ⟨s.resolver.queue.drop 1, _, .inr ⟨rfl, h, by simp [State.enqueuePass, h]⟩, rfl,
      by simp [State.enqueuePass, h], by simp [State.enqueuePass, h]⟩
  · exact ⟨s.resolver.queue, _, .inl ⟨rfl, by omega, by simp [State.enqueuePass, h]⟩, rfl,
      by simp [State.enqueuePass, h], by simp [State.enqueuePass, h]⟩

/-! ### What a pass does by its treatment -/

/-- The four treatments of a delivered pass (R54, R55). -/
theorem State.deliver_cases (s : State) (i : Slot) (p : Pass) :
    (treatment (s.entrant i).state s.race.state = .untouched ∧ s.deliver i p = s)
      ∨ (treatment (s.entrant i).state s.race.state = .position ∧ s.deliver i p = s.positionPass i p)
      ∨ (treatment (s.entrant i).state s.race.state = .held ∧ s.deliver i p = s.scoredPass .held i p)
      ∨ (treatment (s.entrant i).state s.race.state = .full
          ∧ s.deliver i p = (s.scoredPass .full i p).lapStep i p) := by
  unfold State.deliver
  cases h : treatment (s.entrant i).state s.race.state <;> simp

/-- The three judgements of a crossing (R69). -/
theorem State.crossing_cases (s : State) (i : Slot) (t : RunTime) :
    ((s.entrant i).latestCrossing = none ∧ s.crossing i t = s.launch i t)
      ∨ (∃ l, (s.entrant i).latestCrossing = some l ∧ t < l + s.cfg.lapFloor ∧ s.crossing i t = s)
      ∨ (∃ l, (s.entrant i).latestCrossing = some l ∧ l + s.cfg.lapFloor ≤ t
          ∧ s.crossing i t = s.credit i l t false) := by
  unfold State.crossing
  cases h : (s.entrant i).latestCrossing with
  | none => simp
  | some l =>
    by_cases hl : t < l + s.cfg.lapFloor
    · simp [hl]
    · simp only [hl, if_false]; right; right; exact ⟨l, rfl, Nat.le_of_not_lt hl, rfl⟩

end Sys2Proof.Machine
end

