-- ==== Sys2Proof/Laws/Bursts.lean ====
section
/-! SUPPORT. What the gates' shared operations can change, and what they leave as it is. -/

set_option linter.all false

namespace Sys2Proof.Machine

/-- What `reportBox` leaves as it is. -/
@[simp] theorem State.reportBox_frame (s : State) (ar : Bool) (g : GateNo) (c : Nat) (t : RawTime) :
    (s.reportBox ar g c t).cfg = s.cfg ∧ (s.reportBox ar g c t).gates = s.gates
    ∧ (s.reportBox ar g c t).testStart = s.testStart ∧ (s.reportBox ar g c t).resolver = s.resolver
    ∧ (s.reportBox ar g c t).ring = s.ring ∧ (s.reportBox ar g c t).highMark = s.highMark
    ∧ (s.reportBox ar g c t).standings = s.standings ∧ (s.reportBox ar g c t).race.raceClock = s.race.raceClock
    ∧ (s.reportBox ar g c t).race.state = s.race.state ∧ (s.reportBox ar g c t).race.resume = s.race.resume
    ∧ (s.reportBox ar g c t).race.suspStart = s.race.suspStart
    ∧ (s.reportBox ar g c t).race.suspTotal = s.race.suspTotal ∧ (s.reportBox ar g c t).race.green = s.race.green
    ∧ (s.reportBox ar g c t).race.runningClock = s.race.runningClock
    ∧ (s.reportBox ar g c t).race.countdown = s.race.countdown
    ∧ (s.reportBox ar g c t).race.finishDeadline = s.race.finishDeadline
    ∧ (s.reportBox ar g c t).race.yellow = s.race.yellow
    ∧ (s.reportBox ar g c t).race.powerSetting = s.race.powerSetting
    ∧ (s.reportBox ar g c t).callTable = s.callTable ∧ (s.reportBox ar g c t).ceiling.sender = s.ceiling.sender
    ∧ (s.reportBox ar g c t).ceiling.paused = s.ceiling.paused
    ∧ (s.reportBox ar g c t).ceiling.holdStart = s.ceiling.holdStart
    ∧ (s.reportBox ar g c t).ceiling.nextRefresh = s.ceiling.nextRefresh ∧ (s.reportBox ar g c t).inputs = s.inputs
    ∧ (s.reportBox ar g c t).attention = s.attention ∧ (s.reportBox ar g c t).link = s.link
    ∧ (s.reportBox ar g c t).pins = s.pins ∧ (s.reportBox ar g c t).pending = s.pending := by
  refine ⟨?_, ?_, ?_, ?_, ?_, ?_, ?_, ?_, ?_, ?_, ?_, ?_, ?_, ?_, ?_, ?_, ?_, ?_, ?_, ?_, ?_, ?_, ?_, ?_, ?_, ?_, ?_, ?_⟩ <;>
    (unfold State.reportBox; (try dsimp only) <;> ((repeat' split) <;> (try simp)))

@[simp] theorem State.reportBox_gate (s : State) (ar : Bool) (g : GateNo) (c : Nat) (t : RawTime) (n : GateNo) :
    (s.reportBox ar g c t).gate n = s.gate n := State.gate_congr (by simp) n

/-- The fields of the records that `reportBox` leaves as they are. -/
@[simp] theorem State.reportBox_records (s : State) (ar : Bool) (g : GateNo) (c : Nat) (t : RawTime) (j : Slot) :
    ((s.reportBox ar g c t).entrant j).code = (s.entrant j).code
    ∧ ((s.reportBox ar g c t).entrant j).state = (s.entrant j).state
    ∧ ((s.reportBox ar g c t).entrant j).station = (s.entrant j).station
    ∧ ((s.reportBox ar g c t).entrant j).pitStops = (s.entrant j).pitStops
    ∧ ((s.reportBox ar g c t).entrant j).laps = (s.entrant j).laps
    ∧ ((s.reportBox ar g c t).entrant j).latestCrossing = (s.entrant j).latestCrossing
    ∧ ((s.reportBox ar g c t).entrant j).prevCrossing = (s.entrant j).prevCrossing
    ∧ ((s.reportBox ar g c t).entrant j).reachTime = (s.entrant j).reachTime
    ∧ ((s.reportBox ar g c t).entrant j).lastLap = (s.entrant j).lastLap
    ∧ ((s.reportBox ar g c t).entrant j).lastLapMarks = (s.entrant j).lastLapMarks
    ∧ ((s.reportBox ar g c t).entrant j).bestLap = (s.entrant j).bestLap
    ∧ ((s.reportBox ar g c t).entrant j).sector = (s.entrant j).sector
    ∧ ((s.reportBox ar g c t).entrant j).currentSectors = (s.entrant j).currentSectors
    ∧ ((s.reportBox ar g c t).entrant j).lastSectors = (s.entrant j).lastSectors
    ∧ ((s.reportBox ar g c t).entrant j).lastBoundary = (s.entrant j).lastBoundary
    ∧ ((s.reportBox ar g c t).entrant j).gap = (s.entrant j).gap
    ∧ ((s.reportBox ar g c t).entrant j).lapsDown = (s.entrant j).lapsDown
    ∧ ((s.reportBox ar g c t).entrant j).jumpStart = (s.entrant j).jumpStart
    ∧ ((s.reportBox ar g c t).entrant j).callsUsed = (s.entrant j).callsUsed
    ∧ ((s.reportBox ar g c t).entrant j).override = (s.entrant j).override
    ∧ ((s.reportBox ar g c t).entrant j).activity = (s.entrant j).activity
    ∧ ((s.reportBox ar g c t).entrant j).finishStatus = (s.entrant j).finishStatus
    ∧ ((s.reportBox ar g c t).entrant j).finishTime = (s.entrant j).finishTime
    ∧ ((s.reportBox ar g c t).entrant j).powerHold = (s.entrant j).powerHold
    ∧ ((s.reportBox ar g c t).entrant j).blackFlag = (s.entrant j).blackFlag := by
  refine ⟨?_, ?_, ?_, ?_, ?_, ?_, ?_, ?_, ?_, ?_, ?_, ?_, ?_, ?_, ?_, ?_, ?_, ?_, ?_, ?_, ?_, ?_, ?_, ?_, ?_⟩ <;>
    (unfold State.reportBox; (try dsimp only) <;> ((repeat' split) <;> (try simp [State.entrant_modEntrant, State.entrant_mk, State.entrants_getElem]) <;> (try (split <;> simp_all))))

/-- What `frameEvent` leaves as it is. -/
@[simp] theorem State.frameEvent_frame (s : State) (g : GateNo) (f : Option Nat) :
    (s.frameEvent g f).cfg = s.cfg ∧ (s.frameEvent g f).testStart = s.testStart
    ∧ (s.frameEvent g f).resolver = s.resolver ∧ (s.frameEvent g f).ring = s.ring
    ∧ (s.frameEvent g f).highMark = s.highMark ∧ (s.frameEvent g f).standings = s.standings
    ∧ (s.frameEvent g f).race.raceClock = s.race.raceClock ∧ (s.frameEvent g f).race.state = s.race.state
    ∧ (s.frameEvent g f).race.resume = s.race.resume ∧ (s.frameEvent g f).race.suspStart = s.race.suspStart
    ∧ (s.frameEvent g f).race.suspTotal = s.race.suspTotal ∧ (s.frameEvent g f).race.green = s.race.green
    ∧ (s.frameEvent g f).race.runningClock = s.race.runningClock
    ∧ (s.frameEvent g f).race.countdown = s.race.countdown
    ∧ (s.frameEvent g f).race.finishDeadline = s.race.finishDeadline
    ∧ (s.frameEvent g f).race.yellow = s.race.yellow ∧ (s.frameEvent g f).race.powerSetting = s.race.powerSetting
    ∧ (s.frameEvent g f).callTable = s.callTable ∧ (s.frameEvent g f).ceiling.sender = s.ceiling.sender
    ∧ (s.frameEvent g f).ceiling.paused = s.ceiling.paused
    ∧ (s.frameEvent g f).ceiling.holdStart = s.ceiling.holdStart
    ∧ (s.frameEvent g f).ceiling.nextRefresh = s.ceiling.nextRefresh ∧ (s.frameEvent g f).inputs = s.inputs
    ∧ (s.frameEvent g f).attention = s.attention ∧ (s.frameEvent g f).link = s.link
    ∧ (s.frameEvent g f).pins = s.pins ∧ (s.frameEvent g f).pending = s.pending := by
  cases f <;> (refine ⟨?_, ?_, ?_, ?_, ?_, ?_, ?_, ?_, ?_, ?_, ?_, ?_, ?_, ?_, ?_, ?_, ?_, ?_, ?_, ?_, ?_, ?_, ?_, ?_, ?_, ?_, ?_⟩ <;>
    (unfold State.frameEvent; (try dsimp only) <;> ((repeat' split) <;> (try simp))))

/-- The fields of the records that `frameEvent` leaves as they are. -/
@[simp] theorem State.frameEvent_records (s : State) (g : GateNo) (f : Option Nat) (j : Slot) :
    ((s.frameEvent g f).entrant j).code = (s.entrant j).code
    ∧ ((s.frameEvent g f).entrant j).state = (s.entrant j).state
    ∧ ((s.frameEvent g f).entrant j).station = (s.entrant j).station
    ∧ ((s.frameEvent g f).entrant j).pitStops = (s.entrant j).pitStops
    ∧ ((s.frameEvent g f).entrant j).laps = (s.entrant j).laps
    ∧ ((s.frameEvent g f).entrant j).latestCrossing = (s.entrant j).latestCrossing
    ∧ ((s.frameEvent g f).entrant j).prevCrossing = (s.entrant j).prevCrossing
    ∧ ((s.frameEvent g f).entrant j).reachTime = (s.entrant j).reachTime
    ∧ ((s.frameEvent g f).entrant j).lastLap = (s.entrant j).lastLap
    ∧ ((s.frameEvent g f).entrant j).lastLapMarks = (s.entrant j).lastLapMarks
    ∧ ((s.frameEvent g f).entrant j).bestLap = (s.entrant j).bestLap
    ∧ ((s.frameEvent g f).entrant j).sector = (s.entrant j).sector
    ∧ ((s.frameEvent g f).entrant j).currentSectors = (s.entrant j).currentSectors
    ∧ ((s.frameEvent g f).entrant j).lastSectors = (s.entrant j).lastSectors
    ∧ ((s.frameEvent g f).entrant j).lastBoundary = (s.entrant j).lastBoundary
    ∧ ((s.frameEvent g f).entrant j).gap = (s.entrant j).gap
    ∧ ((s.frameEvent g f).entrant j).lapsDown = (s.entrant j).lapsDown
    ∧ ((s.frameEvent g f).entrant j).jumpStart = (s.entrant j).jumpStart
    ∧ ((s.frameEvent g f).entrant j).callsUsed = (s.entrant j).callsUsed
    ∧ ((s.frameEvent g f).entrant j).override = (s.entrant j).override
    ∧ ((s.frameEvent g f).entrant j).activity = (s.entrant j).activity
    ∧ ((s.frameEvent g f).entrant j).finishStatus = (s.entrant j).finishStatus
    ∧ ((s.frameEvent g f).entrant j).finishTime = (s.entrant j).finishTime
    ∧ ((s.frameEvent g f).entrant j).powerHold = (s.entrant j).powerHold
    ∧ ((s.frameEvent g f).entrant j).blackFlag = (s.entrant j).blackFlag := by
  cases f <;> (refine ⟨?_, ?_, ?_, ?_, ?_, ?_, ?_, ?_, ?_, ?_, ?_, ?_, ?_, ?_, ?_, ?_, ?_, ?_, ?_, ?_, ?_, ?_, ?_, ?_, ?_⟩ <;>
    (unfold State.frameEvent; (try dsimp only) <;> ((repeat' split) <;> (try simp [State.entrant_modEntrant, State.entrant_mk, State.entrants_getElem]) <;> (try (split <;> simp_all)))))

/-- What `departures` leaves as it is. -/
@[simp] theorem State.departures_frame (s : State) (g : GateNo) (b : Tally) :
    (s.departures g b).cfg = s.cfg ∧ (s.departures g b).gates = s.gates
    ∧ (s.departures g b).testStart = s.testStart ∧ (s.departures g b).resolver = s.resolver
    ∧ (s.departures g b).ring = s.ring ∧ (s.departures g b).highMark = s.highMark
    ∧ (s.departures g b).standings = s.standings ∧ (s.departures g b).race.raceClock = s.race.raceClock
    ∧ (s.departures g b).race.state = s.race.state ∧ (s.departures g b).race.resume = s.race.resume
    ∧ (s.departures g b).race.suspStart = s.race.suspStart ∧ (s.departures g b).race.suspTotal = s.race.suspTotal
    ∧ (s.departures g b).race.green = s.race.green ∧ (s.departures g b).race.runningClock = s.race.runningClock
    ∧ (s.departures g b).race.countdown = s.race.countdown
    ∧ (s.departures g b).race.finishDeadline = s.race.finishDeadline
    ∧ (s.departures g b).race.yellow = s.race.yellow ∧ (s.departures g b).race.powerSetting = s.race.powerSetting
    ∧ (s.departures g b).callTable = s.callTable ∧ (s.departures g b).ceiling.sender = s.ceiling.sender
    ∧ (s.departures g b).ceiling.paused = s.ceiling.paused
    ∧ (s.departures g b).ceiling.holdStart = s.ceiling.holdStart
    ∧ (s.departures g b).ceiling.nextRefresh = s.ceiling.nextRefresh ∧ (s.departures g b).inputs = s.inputs
    ∧ (s.departures g b).attention = s.attention ∧ (s.departures g b).link = s.link
    ∧ (s.departures g b).pins = s.pins ∧ (s.departures g b).pending = s.pending := by
  unfold State.departures
  generalize (b.entries.filter (·.arrived)) = l
  induction l generalizing s with
  | nil => exact ⟨rfl, rfl, rfl, rfl, rfl, rfl, rfl, rfl, rfl, rfl, rfl, rfl, rfl, rfl, rfl, rfl, rfl, rfl, rfl, rfl, rfl, rfl, rfl, rfl, rfl, rfl, rfl, rfl⟩
  | cons x l ih =>
    simp only [List.foldl_cons, ih]
    refine ⟨?_, ?_, ?_, ?_, ?_, ?_, ?_, ?_, ?_, ?_, ?_, ?_, ?_, ?_, ?_, ?_, ?_, ?_, ?_, ?_, ?_, ?_, ?_, ?_, ?_, ?_, ?_, ?_⟩ <;> ((repeat' split) <;> (try simp))

@[simp] theorem State.departures_gate (s : State) (g : GateNo) (b : Tally) (n : GateNo) :
    (s.departures g b).gate n = s.gate n := State.gate_congr (by simp) n

/-- The fields of the records that `departures` leaves as they are. -/
@[simp] theorem State.departures_records (s : State) (g : GateNo) (b : Tally) (j : Slot) :
    ((s.departures g b).entrant j).code = (s.entrant j).code
    ∧ ((s.departures g b).entrant j).state = (s.entrant j).state
    ∧ ((s.departures g b).entrant j).station = (s.entrant j).station
    ∧ ((s.departures g b).entrant j).pitStops = (s.entrant j).pitStops
    ∧ ((s.departures g b).entrant j).laps = (s.entrant j).laps
    ∧ ((s.departures g b).entrant j).latestCrossing = (s.entrant j).latestCrossing
    ∧ ((s.departures g b).entrant j).prevCrossing = (s.entrant j).prevCrossing
    ∧ ((s.departures g b).entrant j).reachTime = (s.entrant j).reachTime
    ∧ ((s.departures g b).entrant j).lastLap = (s.entrant j).lastLap
    ∧ ((s.departures g b).entrant j).lastLapMarks = (s.entrant j).lastLapMarks
    ∧ ((s.departures g b).entrant j).bestLap = (s.entrant j).bestLap
    ∧ ((s.departures g b).entrant j).sector = (s.entrant j).sector
    ∧ ((s.departures g b).entrant j).currentSectors = (s.entrant j).currentSectors
    ∧ ((s.departures g b).entrant j).lastSectors = (s.entrant j).lastSectors
    ∧ ((s.departures g b).entrant j).lastBoundary = (s.entrant j).lastBoundary
    ∧ ((s.departures g b).entrant j).gap = (s.entrant j).gap
    ∧ ((s.departures g b).entrant j).lapsDown = (s.entrant j).lapsDown
    ∧ ((s.departures g b).entrant j).jumpStart = (s.entrant j).jumpStart
    ∧ ((s.departures g b).entrant j).callsUsed = (s.entrant j).callsUsed
    ∧ ((s.departures g b).entrant j).override = (s.entrant j).override
    ∧ ((s.departures g b).entrant j).activity = (s.entrant j).activity
    ∧ ((s.departures g b).entrant j).finishStatus = (s.entrant j).finishStatus
    ∧ ((s.departures g b).entrant j).finishTime = (s.entrant j).finishTime
    ∧ ((s.departures g b).entrant j).powerHold = (s.entrant j).powerHold
    ∧ ((s.departures g b).entrant j).blackFlag = (s.entrant j).blackFlag := by
  unfold State.departures
  generalize (b.entries.filter (·.arrived)) = l
  induction l generalizing s with
  | nil => exact ⟨rfl, rfl, rfl, rfl, rfl, rfl, rfl, rfl, rfl, rfl, rfl, rfl, rfl, rfl, rfl, rfl, rfl, rfl, rfl, rfl, rfl, rfl, rfl, rfl, rfl⟩
  | cons x l ih =>
    simp only [List.foldl_cons, ih]
    refine ⟨?_, ?_, ?_, ?_, ?_, ?_, ?_, ?_, ?_, ?_, ?_, ?_, ?_, ?_, ?_, ?_, ?_, ?_, ?_, ?_, ?_, ?_, ?_, ?_, ?_⟩ <;> ((repeat' split) <;> (try simp [State.entrant_modEntrant, State.entrant_mk, State.entrants_getElem]) <;> (try (split <;> simp_all)))

/-- What `closeBurst` leaves as it is. -/
@[simp] theorem State.closeBurst_frame (s : State) (g : GateNo) (b : Tally) :
    (s.closeBurst g b).cfg = s.cfg ∧ (s.closeBurst g b).testStart = s.testStart
    ∧ (s.closeBurst g b).race.raceClock = s.race.raceClock ∧ (s.closeBurst g b).race.suspTotal = s.race.suspTotal
    ∧ (s.closeBurst g b).race.green = s.race.green ∧ (s.closeBurst g b).race.runningClock = s.race.runningClock
    ∧ (s.closeBurst g b).race.countdown = s.race.countdown ∧ (s.closeBurst g b).race.yellow = s.race.yellow
    ∧ (s.closeBurst g b).race.powerSetting = s.race.powerSetting ∧ (s.closeBurst g b).callTable = s.callTable
    ∧ (s.closeBurst g b).ceiling.sender = s.ceiling.sender ∧ (s.closeBurst g b).ceiling.paused = s.ceiling.paused
    ∧ (s.closeBurst g b).ceiling.nextRefresh = s.ceiling.nextRefresh ∧ (s.closeBurst g b).inputs = s.inputs
    ∧ (s.closeBurst g b).attention.suspended = s.attention.suspended
    ∧ (s.closeBurst g b).attention.test = s.attention.test ∧ (s.closeBurst g b).attention.mask = s.attention.mask
    ∧ (s.closeBurst g b).link = s.link ∧ (s.closeBurst g b).pins = s.pins ∧ (s.closeBurst g b).pending = s.pending := by
  refine ⟨?_, ?_, ?_, ?_, ?_, ?_, ?_, ?_, ?_, ?_, ?_, ?_, ?_, ?_, ?_, ?_, ?_, ?_, ?_, ?_⟩ <;>
    (unfold State.closeBurst; (try dsimp only) <;> ((repeat' split) <;> (try simp)))

/-- The fields of the records that `closeBurst` leaves as they are. -/
@[simp] theorem State.closeBurst_records (s : State) (g : GateNo) (b : Tally) (j : Slot) :
    ((s.closeBurst g b).entrant j).code = (s.entrant j).code
    ∧ ((s.closeBurst g b).entrant j).station = (s.entrant j).station
    ∧ ((s.closeBurst g b).entrant j).callsUsed = (s.entrant j).callsUsed
    ∧ ((s.closeBurst g b).entrant j).override = (s.entrant j).override := by
  refine ⟨?_, ?_, ?_, ?_⟩ <;>
    (unfold State.closeBurst; (try dsimp only) <;> ((repeat' split) <;> (try simp [State.entrant_modEntrant, State.entrant_mk, State.entrants_getElem]) <;> (try (split <;> simp_all))))

/-- What `closeOpen` leaves as it is. -/
@[simp] theorem State.closeOpen_frame (s : State) (g : GateNo) :
    (s.closeOpen g).cfg = s.cfg ∧ (s.closeOpen g).testStart = s.testStart
    ∧ (s.closeOpen g).race.raceClock = s.race.raceClock ∧ (s.closeOpen g).race.suspTotal = s.race.suspTotal
    ∧ (s.closeOpen g).race.green = s.race.green ∧ (s.closeOpen g).race.runningClock = s.race.runningClock
    ∧ (s.closeOpen g).race.countdown = s.race.countdown ∧ (s.closeOpen g).race.yellow = s.race.yellow
    ∧ (s.closeOpen g).race.powerSetting = s.race.powerSetting ∧ (s.closeOpen g).callTable = s.callTable
    ∧ (s.closeOpen g).ceiling.sender = s.ceiling.sender ∧ (s.closeOpen g).ceiling.paused = s.ceiling.paused
    ∧ (s.closeOpen g).ceiling.nextRefresh = s.ceiling.nextRefresh ∧ (s.closeOpen g).inputs = s.inputs
    ∧ (s.closeOpen g).attention.suspended = s.attention.suspended
    ∧ (s.closeOpen g).attention.test = s.attention.test ∧ (s.closeOpen g).attention.mask = s.attention.mask
    ∧ (s.closeOpen g).link = s.link ∧ (s.closeOpen g).pins = s.pins ∧ (s.closeOpen g).pending = s.pending := by
  refine ⟨?_, ?_, ?_, ?_, ?_, ?_, ?_, ?_, ?_, ?_, ?_, ?_, ?_, ?_, ?_, ?_, ?_, ?_, ?_, ?_⟩ <;>
    (unfold State.closeOpen; (try dsimp only) <;> ((repeat' split) <;> (try simp)))

/-- The fields of the records that `closeOpen` leaves as they are. -/
@[simp] theorem State.closeOpen_records (s : State) (g : GateNo) (j : Slot) :
    ((s.closeOpen g).entrant j).code = (s.entrant j).code
    ∧ ((s.closeOpen g).entrant j).station = (s.entrant j).station
    ∧ ((s.closeOpen g).entrant j).callsUsed = (s.entrant j).callsUsed
    ∧ ((s.closeOpen g).entrant j).override = (s.entrant j).override := by
  refine ⟨?_, ?_, ?_, ?_⟩ <;>
    (unfold State.closeOpen; (try dsimp only) <;> ((repeat' split) <;> (try simp [State.entrant_modEntrant, State.entrant_mk, State.entrants_getElem]) <;> (try (split <;> simp_all))))

/-- What `discardBurst` leaves as it is. -/
@[simp] theorem State.discardBurst_frame (s : State) (g : GateNo) :
    (s.discardBurst g).cfg = s.cfg ∧ (s.discardBurst g).testStart = s.testStart
    ∧ (s.discardBurst g).resolver = s.resolver ∧ (s.discardBurst g).ring = s.ring
    ∧ (s.discardBurst g).highMark = s.highMark ∧ (s.discardBurst g).standings = s.standings
    ∧ (s.discardBurst g).race.raceClock = s.race.raceClock ∧ (s.discardBurst g).race.state = s.race.state
    ∧ (s.discardBurst g).race.resume = s.race.resume ∧ (s.discardBurst g).race.suspStart = s.race.suspStart
    ∧ (s.discardBurst g).race.suspTotal = s.race.suspTotal ∧ (s.discardBurst g).race.green = s.race.green
    ∧ (s.discardBurst g).race.runningClock = s.race.runningClock
    ∧ (s.discardBurst g).race.countdown = s.race.countdown
    ∧ (s.discardBurst g).race.finishDeadline = s.race.finishDeadline
    ∧ (s.discardBurst g).race.yellow = s.race.yellow ∧ (s.discardBurst g).race.powerSetting = s.race.powerSetting
    ∧ (s.discardBurst g).callTable = s.callTable ∧ (s.discardBurst g).ceiling.sender = s.ceiling.sender
    ∧ (s.discardBurst g).ceiling.paused = s.ceiling.paused
    ∧ (s.discardBurst g).ceiling.holdStart = s.ceiling.holdStart
    ∧ (s.discardBurst g).ceiling.nextRefresh = s.ceiling.nextRefresh ∧ (s.discardBurst g).inputs = s.inputs
    ∧ (s.discardBurst g).attention = s.attention ∧ (s.discardBurst g).link = s.link
    ∧ (s.discardBurst g).pins = s.pins ∧ (s.discardBurst g).pending = s.pending := by
  refine ⟨?_, ?_, ?_, ?_, ?_, ?_, ?_, ?_, ?_, ?_, ?_, ?_, ?_, ?_, ?_, ?_, ?_, ?_, ?_, ?_, ?_, ?_, ?_, ?_, ?_, ?_, ?_⟩ <;>
    (unfold State.discardBurst; (try dsimp only) <;> ((repeat' split) <;> (try simp)))

/-- The fields of the records that `discardBurst` leaves as they are. -/
@[simp] theorem State.discardBurst_records (s : State) (g : GateNo) (j : Slot) :
    ((s.discardBurst g).entrant j).code = (s.entrant j).code
    ∧ ((s.discardBurst g).entrant j).state = (s.entrant j).state
    ∧ ((s.discardBurst g).entrant j).station = (s.entrant j).station
    ∧ ((s.discardBurst g).entrant j).pitStops = (s.entrant j).pitStops
    ∧ ((s.discardBurst g).entrant j).laps = (s.entrant j).laps
    ∧ ((s.discardBurst g).entrant j).latestCrossing = (s.entrant j).latestCrossing
    ∧ ((s.discardBurst g).entrant j).prevCrossing = (s.entrant j).prevCrossing
    ∧ ((s.discardBurst g).entrant j).reachTime = (s.entrant j).reachTime
    ∧ ((s.discardBurst g).entrant j).lastLap = (s.entrant j).lastLap
    ∧ ((s.discardBurst g).entrant j).lastLapMarks = (s.entrant j).lastLapMarks
    ∧ ((s.discardBurst g).entrant j).bestLap = (s.entrant j).bestLap
    ∧ ((s.discardBurst g).entrant j).sector = (s.entrant j).sector
    ∧ ((s.discardBurst g).entrant j).currentSectors = (s.entrant j).currentSectors
    ∧ ((s.discardBurst g).entrant j).lastSectors = (s.entrant j).lastSectors
    ∧ ((s.discardBurst g).entrant j).lastBoundary = (s.entrant j).lastBoundary
    ∧ ((s.discardBurst g).entrant j).gap = (s.entrant j).gap
    ∧ ((s.discardBurst g).entrant j).lapsDown = (s.entrant j).lapsDown
    ∧ ((s.discardBurst g).entrant j).jumpStart = (s.entrant j).jumpStart
    ∧ ((s.discardBurst g).entrant j).callsUsed = (s.entrant j).callsUsed
    ∧ ((s.discardBurst g).entrant j).override = (s.entrant j).override
    ∧ ((s.discardBurst g).entrant j).activity = (s.entrant j).activity
    ∧ ((s.discardBurst g).entrant j).finishStatus = (s.entrant j).finishStatus
    ∧ ((s.discardBurst g).entrant j).finishTime = (s.entrant j).finishTime
    ∧ ((s.discardBurst g).entrant j).powerHold = (s.entrant j).powerHold
    ∧ ((s.discardBurst g).entrant j).blackFlag = (s.entrant j).blackFlag := by
  refine ⟨?_, ?_, ?_, ?_, ?_, ?_, ?_, ?_, ?_, ?_, ?_, ?_, ?_, ?_, ?_, ?_, ?_, ?_, ?_, ?_, ?_, ?_, ?_, ?_, ?_⟩ <;>
    (unfold State.discardBurst; (try dsimp only) <;> ((repeat' split) <;> (try simp [State.entrant_modEntrant, State.entrant_mk, State.entrants_getElem]) <;> (try (split <;> simp_all))))

/-- What `endTest` leaves as it is. -/
@[simp] theorem State.endTest_frame (s : State) :
    (s.endTest).cfg = s.cfg ∧ (s.endTest).resolver = s.resolver ∧ (s.endTest).entrants = s.entrants
    ∧ (s.endTest).ring = s.ring ∧ (s.endTest).highMark = s.highMark ∧ (s.endTest).standings = s.standings
    ∧ (s.endTest).race = s.race ∧ (s.endTest).callTable = s.callTable ∧ (s.endTest).ceiling = s.ceiling
    ∧ (s.endTest).attention.suspended = s.attention.suspended ∧ (s.endTest).attention.race = s.attention.race
    ∧ (s.endTest).attention.mask = s.attention.mask ∧ (s.endTest).link = s.link ∧ (s.endTest).pins = s.pins
    ∧ (s.endTest).pending = s.pending := by
  refine ⟨?_, ?_, ?_, ?_, ?_, ?_, ?_, ?_, ?_, ?_, ?_, ?_, ?_, ?_, ?_⟩ <;>
    (unfold State.endTest; (try dsimp only) <;> ((repeat' split) <;> (try simp)))

@[simp] theorem State.endTest_entrant (s : State) (j : Slot) :
    (s.endTest).entrant j = s.entrant j := State.entrant_congr (by simp) j

/-- What `abortTest` leaves as it is. -/
@[simp] theorem State.abortTest_frame (s : State) :
    (s.abortTest).cfg = s.cfg ∧ (s.abortTest).resolver = s.resolver ∧ (s.abortTest).entrants = s.entrants
    ∧ (s.abortTest).ring = s.ring ∧ (s.abortTest).highMark = s.highMark ∧ (s.abortTest).standings = s.standings
    ∧ (s.abortTest).race = s.race ∧ (s.abortTest).callTable = s.callTable ∧ (s.abortTest).ceiling = s.ceiling
    ∧ (s.abortTest).attention = s.attention ∧ (s.abortTest).link = s.link ∧ (s.abortTest).pins = s.pins
    ∧ (s.abortTest).pending = s.pending := by
  refine ⟨?_, ?_, ?_, ?_, ?_, ?_, ?_, ?_, ?_, ?_, ?_, ?_, ?_⟩ <;>
    (unfold State.abortTest; (try dsimp only) <;> ((repeat' split) <;> (try simp)))

@[simp] theorem State.abortTest_entrant (s : State) (j : Slot) :
    (s.abortTest).entrant j = s.entrant j := State.entrant_congr (by simp) j

end Sys2Proof.Machine
end

