-- ==== Sys2Proof/Laws/Steps.lean ====
section
/-! SUPPORT. What a step, the end of a command and the answer to a request are, so that no proof unfolds them. -/

namespace Sys2Proof.Machine

/-- A step on an empty queue is what the part does by itself. -/
theorem step_of_empty (s : State) (h : s.pending = []) : step s = s.idle := by simp [step, h]

/-- What the part does by itself: the first due event, else one tick. -/
theorem State.idle_cases (s : State) :
    (∃ e l, s.dueEvents = e :: l ∧ s.idle = exec e s) ∨ (s.dueEvents = [] ∧ s.idle = .next s.tick.settle) := by
  unfold State.idle
  cases h : s.dueEvents with
  | nil => exact .inr ⟨rfl, rfl⟩
  | cons e l => exact .inl ⟨e, l, rfl, rfl⟩

/-- A command that ends in `s` answers `s` with its pins brought to what it gives, and no other state. -/
theorem State.done_next (s t : State) : s.done = .next t ↔ t = s.settle := by
  simp [State.done, eq_comm]

/-- A request command answers the state its rule leaves, with its answer prepared. -/
theorem answered_next (r : State × Answer) (t : State) : answered r = .next t ↔ t = (respond r).settle :=
  State.done_next _ _

/-- A refused request leaves the state it found. -/
@[simp] theorem State.refuse_fst (s : State) (st : Status) : (s.refuse st).1 = s := rfl

@[simp] theorem State.refuse_snd (s : State) (st : Status) : (s.refuse st).2 = Answer.refuse st := rfl

@[simp] theorem State.accept_fst (s : State) : s.accept.1 = s := rfl

@[simp] theorem State.accept_snd (s : State) : s.accept.2 = Answer.okay := rfl

@[simp] theorem State.badLength_fst (s : State) : s.badLength.1 = s := rfl

@[simp] theorem Answer.refuse_status (st : Status) : (Answer.refuse st).status = st := rfl

@[simp] theorem Answer.okay_status : Answer.okay.status = .ok := rfl

@[simp] theorem Answer.okWith_status (l : List Byte) : (Answer.okWith l).status = .ok := rfl

/-- The pins are computed from everything but the pins and the waiting commands. -/
@[simp] theorem State.pinsNow_settle (s : State) : s.settle.pinsNow = s.pinsNow := rfl

end Sys2Proof.Machine
end

