-- ==== Sys2Proof/Tests/Slice0.lean ====
section
/-! SUPPORT. The session's own tests: the well-formedness smoke, the spec's worked examples and tables on small states,
and for each clause of a statement that has hypotheses a state and operands that meet them, at the boundary values the
rules name. -/

namespace Sys2Proof.Tests

open Sys2Proof Sys2Proof.Machine

/-! ### Small states -/

/-- The reset state with the race in another state. -/
def inRace (r : RaceState) : State := { State.reset with race.state := r }

/-- An entrant with code 7 and station 2 in an entrant state. -/
def car (st : EntrantState) : Entrant := { Entrant.vacant with code := some 7, state := st, station := some 2 }

/-- A state with a record in slot 0. -/
def withCar (s : State) (e : Entrant) : State := s.modEntrant 0 fun _ => e

/-- A state with a gate at gate 0. -/
def withGate (s : State) (g : Gate) : State := s.modGate 0 fun _ => g

/-- A decoder in Hunt that no longer waits for its line. -/
def listening : Decoder := Decoder.cleared false

/-- A Line gate's entry on the pit lane. -/
def pitLineEntry : GateEntry := { kind := .line, lane := some 6, boundary := none, sector := none, offset := some 0 }

/-- A Split gate's entry at boundary 1. -/
def splitEntry : GateEntry := { kind := .split, lane := some 2, boundary := some 1, sector := none, offset := some 0 }

/-- A Box gate's entry. -/
def boxEntry : GateEntry := { kind := .box, lane := some 6, boundary := none, sector := none, offset := some 0 }

/-- A Line gate on lane 2, its decoder listening. -/
def lineGate : Gate :=
  { entry := { pitLineEntry with lane := some 2 }, line := .space, decoder := listening, fed := none, result := .noTest
    counted := 0 }

/-- A resolved pass of code 7 at the Line gate, before green. -/
def linePass : Pass :=
  { named := some (7, 3), candidates := [], gate := 0, kind := .line, lane := some 2, boundary := none, sector := none
    first := 0, raw := 0, running := none
    marks := { noisy := false, excess := false, dwell := false, unresolved := false, stray := false } }

/-- The pass in the queue under a tag. -/
def queued (tag : Byte) : QueuedPass := { pass := linePass, tag := tag, entered := 0, expired := false }

/-- A state whose queue holds one pass. -/
def withPass (s : State) (q : QueuedPass) : State := { s with resolver.queue := [q] }

/-- A state whose queue holds `n` passes with the tags from 0. -/
def withQueue (s : State) (n : Nat) : State :=
  { s with resolver.queue := (List.range n).map fun k => queued (BitVec.ofNat 8 k) }

/-- A stop-and-go of 10 s in a penalty state. -/
def stopGo (st : PenaltyState) : PitPenalty :=
  { kind := .stopGo, cls := .manual, hold := some 10, deadline := 3, conversion := 1, escalation := false, state := st
    remaining := if st = .pending then none else some 3, calledAt := 0, calledLap := 0 }

/-- A drive-through in a penalty state with its laps remaining. -/
def driveThrough (st : PenaltyState) (laps : Nat) : PitPenalty :=
  { stopGo st with kind := .driveThrough, hold := none, remaining := some laps }

/-- A stop-and-go, Active on its last lap. -/
def stopGoLast : PitPenalty := { stopGo .active with remaining := some 1 }

/-- A countdown whose next step is at raw time 9. -/
def reds (n delay : Nat) (phase : CountdownPhase) : Countdown := { reds := n, phase := phase, delay := delay, next := 9 }

/-- The code and parity cells of a frame of code 5: 000101 and a mark, three marks in all (R1). -/
def code5Cells : List Level := [.space, .space, .space, .mark, .space, .mark, .mark]

/-- A burst in which code 5 has been counted `n` times. -/
def code5Tally (n : Nat) : Tally :=
  { Tally.opened 0 with entries := [{ code := 5, count := n, first := 0, last := 0, arrived := false }] }

/-- A state 20 ms, 200 ticks, after raw time 0, its inputs changed. -/
def departed (s : State) (f : InputLatch → InputLatch) : State :=
  { s with race.raceClock := 200, inputs := f s.inputs }

/-- Station 2 has shown a press for 20 ms. -/
def pressing (s : State) : State := departed s fun l => { l with pressedSince := l.pressedSince.set 2 (some 0) }

/-- Two Racing entrants with laps credited to the first. -/
def twoRacing (s : State) (laps : Nat) : State :=
  (withCar s { car .racing with laps := laps }).modEntrant 1 fun _ => { car .racing with code := some 8, station := none }

/-- A Running race with a car that serves a stop-and-go in the box. -/
def boxedCar : State :=
  withCar (inRace .running) { car .racing with pitStatus := .box, penalties := [stopGo .serving], holdTimer := some 9 }

/-- A ceiling frame on the line since raw time 0. -/
def frame7 : Sending := { slot := 0, code := 7, ceiling := 35, since := 0 }

/-- A Call Table that rules a Black flag for CallLimit. -/
def s4BlackFlag : Vector (Option Ruling) 7 := defaultCallTable.set 4 (some .blackFlag)

/-- A CONFIG_RACE body with values at their bounds, the running ceiling above 100. -/
def raceWords : RaceWords :=
  { burstGap := 5, dwellLimit := 20000, voteMinimum := 15, triggerLevel := 16, claimWait := 60, lapFloor := 15000
    lapCeiling := 15001, sectorCount := 4, pitMinimum := 600000, sightingWindow := 120, lightInterval := 2000
    lapTarget := 9999, timeTarget := 359999, finishWindow := 600, callLimit := 15, callAction := 2
    setupCeiling := 100, stagingCeiling := 30, countdownCeiling := 0, runningCeiling := 255, cautionCeiling := 40
    coolDownCeiling := 50, localCautionCeiling := 50, pitCeiling := 35, refreshPeriod := 100, holdLimit := 10000
    autoLocalCaution := 0 }

/-- The configuration those words carry (R156, R181). -/
def raceConfig : RaceConfig :=
  { burstGap := 5, dwellLimit := 20000, voteMinimum := 15, triggerLevel := 16, claimWait := 60, lapFloor := 15000
    lapCeiling := 15001, sectorCount := 4, pitMinimum := 600000, sightingWindow := 120, lightInterval := 2000
    lapTarget := 9999, timeTarget := 359999, finishWindow := 600, callLimit := 15, callAction := .suspend
    ceilings :=
      { setup := 100, staging := 30, countdown := 0, running := 100, caution := 40, coolDown := 50, localCaution := 50
        pit := 35 }
    refreshPeriod := 100, holdLimit := 10000, autoLocalCaution := false }

/-! ### Commands and words -/

theorem test_resumingByte_pause_refused : (Instr.resumingByte 0x13#8).wellFormed = false := by decide

theorem test_resumingByte_other_accepted : (Instr.resumingByte 0x12#8).wellFormed = true := by decide

theorem test_no_word_spells_a_command : decodeTableWord 8 0x5A = none ∧ decodeTableWord 0 0 = none := by decide

theorem test_withFetchWord_changes_nothing : State.reset.withFetchWord 8 0x5A = State.reset := by decide

/-- The step of one command that waits on a state. -/
def stepOf (c : Instr) (s : State) : Host.Outcome State Fault Refusal := step { s with pending := [c] }

/-- A property of the state after a command. -/
def after (c : Instr) (s : State) (p : State → Bool) : Bool :=
  match stepOf c s with
  | .next t => p t
  | .fault _ | .refused _ => false

/-- A property of the answer to a request command. -/
def answers (c : Instr) (s : State) (p : Status → List Byte → Bool) : Bool :=
  after c s fun t => match t.link.tx with
    | .waiting a _ => p a.status a.body
    | .idle | .sending _ _ | .rebooting => false

/-! ### A burst, event by event (01 section 1.4; 04 section 4.5) -/

/-- The frame events of the table: a code, or none for an invalid frame, and its time. -/
def burstEvents : List (Option Nat × Nat) :=
  [(none, 4512338), (some 17, 4512340), (some 17, 4512345), (some 17, 4512349), (some 17, 4512354), (some 17, 4512358),
    (none, 4512361), (some 17, 4512363), (some 17, 4512367), (some 49, 4512369), (some 17, 4512372), (some 17, 4512376)]

/-- The tally after the table's events. -/
def burstTally : Tally :=
  burstEvents.foldl (fun b e => b.add e.1 (BitVec.ofNat 32 e.2)) (Tally.opened 4512338#32)

/-- The last line of the table of section 1.4. -/
theorem test_burst_tally : burstTally =
    { entries :=
        [{ code := 17, count := 9, first := 4512340, last := 4512376, arrived := false },
         { code := 49, count := 1, first := 4512369, last := 4512369, arrived := false }]
      invalid := 2, first := 4512338, last := 4512376, excess := false, dwell := false } := by decide

/-- A Running race with green at 1,000,000 whose Line gate, offset −12, holds the burst at its gap expiry. -/
def burstClosing (e : Entrant) : State :=
  let s := withCar (withGate (inRace .running)
    { lineGate with entry := { lineGate.entry with offset := some (-12) }
                    decoder := { listening with burst := some burstTally } }) e
  { s with cfg.sectorCount := 3
           race.raceClock := 4512396, race.green := some 1000000, race.runningClock := 3512396, highMark := 54
           ring := ((s.ring.set 5 (some ⟨53, 3434900⟩)).set 6 (some ⟨54, 3498120⟩)).set 7 (some ⟨39, 2553750⟩)
           standings := [{ slot := 0, key := { laps := 53, reach := some 3448911 } }] }

/-- Entrant 17 as it comes to the line: the record of section 4.5 after boundary 2. -/
def entrant17 : Entrant :=
  { car .racing with
    code := some 17, laps := 53, prevCrossing := some 3385400, latestCrossing := some 3448911
    reachTime := some 3448911, lastLap := some 63511, bestLap := some { ticks := 62980, lap := 41 }, sector := 2
    currentSectors := [some 21292, some 21677], lastBoundary := some 3491880, gap := some 14011, lane := some 2 }

/-- The vote of the burst of section 1.4: one pass of 17 at raw time 4,512,346, running time 3,512,346, Noisy. -/
theorem test_burst_vote :
    ((burstClosing entrant17).vote 0 burstTally).map (fun p => (p.named, p.raw, p.running, p.marks.noisy))
      = [(some (17, 9), 4512346#32, some 3512346, true)] := by decide

/-- The gap expiry credits the lap of section 4.5, and closes the burst. -/
theorem test_burstGapExpiry_credits_lap :
    after (.burstGapExpiry 0) (burstClosing entrant17) (fun t =>
      (t.entrant 0).laps == 54 && (t.entrant 0).prevCrossing == some 3448911
        && (t.entrant 0).latestCrossing == some 3512346 && (t.entrant 0).reachTime == some 3512346
        && (t.entrant 0).lastLap == some 63435 && (t.entrant 0).bestLap == some { ticks := 62980, lap := 41 }
        && (t.entrant 0).lastSectors == [some 21292, some 21677, some 20466] && (t.entrant 0).currentSectors == []
        && (t.entrant 0).gap == some 14226 && (t.entrant 0).lapsDown == 0 && t.highMark == 54
        && (t.gate 0).decoder.burst == none) = true := by decide

/-- The gap timer expires at 4,512,396, and not a tick before (section 1.4). -/
theorem test_burst_gap_due :
    (burstClosing entrant17).gapDue 0 = true
      ∧ { burstClosing entrant17 with race.raceClock := 4512395 }.gapDue 0 = false := by decide

/-! ### Four conversions (02 section 2.3) -/

/-- A state with the times of one of the table's lines. -/
def converting (r : RaceState) (g : RawTime) (now : RunTime) : State :=
  { inRace r with race.green := some g, race.runningClock := now }

theorem test_pass_time_wraps : passRaw 4294967280 14 (some 3) = 2
    ∧ (converting .running 4290000000 4967330).runningOf 2 = some 4967298 := by decide

theorem test_pass_time_straddles_green : passRaw 999950 1000030 (some 0) = 999990
    ∧ (converting .running 1000000 50).runningOf 999990 = some 0 := by decide

theorem test_pass_time_beyond_now : passRaw 1499980 1500000 (some 500) = 1500490
    ∧ (converting .running 1000000 500020).runningOf 1500490 = some 500020 := by decide

theorem test_pass_time_in_suspension :
    (converting .suspended 1000000 800000).runningOf 2300020 = some 800000 := by decide

/-! ### A burst of two cars (02 section 2.4) -/

/-- The race of section 2.4: entrant 23 at gate 0, a Split gate on lane 3 at boundary 1 with offset 4. -/
def twoCars : State :=
  let s := withCar (withGate (inRace .running)
    { lineGate with entry := { splitEntry with lane := some 3, offset := some 4 } })
    { car .racing with code := some 23, laps := 50, latestCrossing := some 7500000, reachTime := some 7500000
                       lastBoundary := some 7500000 }
  { s with cfg.sectorCount := 3, race.raceClock := 20000172, race.green := some 12000000
           race.suspTotal := 450000, race.runningClock := 7550172 }

/-- Its tally. -/
def twoCarsTally : Tally :=
  { entries :=
      [{ code := 23, count := 7, first := 20000100, last := 20000130, arrived := false },
       { code := 41, count := 5, first := 20000126, last := 20000152, arrived := false },
       { code := 8, count := 2, first := 20000131, last := 20000140, arrived := false }]
    invalid := 0, first := 20000100, last := 20000152, excess := false, dwell := false }

/-- Car 23 enters sector 1 at 7,550,119; the pass of 41 waits as a stray with its own code its candidate. -/
theorem test_two_cars :
    ((twoCars.takeTally 0 twoCarsTally).entrant 0).lastBoundary = some 7550119
      ∧ ((twoCars.takeTally 0 twoCarsTally).entrant 0).sector = 1
      ∧ ((twoCars.takeTally 0 twoCarsTally).resolver.queue.map fun q => (q.tag, q.pass.raw, q.entered))
          = [(0#8, 20000143#32, 20000172#32)]
      ∧ ((twoCars.takeTally 0 twoCarsTally).resolver.queue.map fun q =>
            (q.pass.running, q.pass.candidates, q.pass.marks.stray))
          = [(some 7550143, [(41, 5)], true)] := by decide

/-- Two frames each and four invalid frames: one unresolved pass, Noisy, 23 the first candidate (section 2.4). -/
theorem test_two_cars_unresolved :
    ((twoCars.vote 0
        { entries :=
            [{ code := 41, count := 2, first := 20000126, last := 20000152, arrived := false },
             { code := 23, count := 2, first := 20000100, last := 20000130, arrived := false }]
          invalid := 4, first := 20000100, last := 20000152, excess := false, dwell := false }).map
        fun p => (p.named, p.candidates, p.marks.noisy, p.marks.unresolved))
      = [(none, [(23, 2), (41, 2)], true, true)] := by decide

/-! ### Settling a queue (02 section 2.5), and a lap split (04 section 4.7) -/

/-- Entrant 23 before the assignment. -/
def entrant23 : Entrant :=
  { car .racing with
    code := some 23, laps := 51, prevCrossing := some 7431200, latestCrossing := some 7561450
    reachTime := some 7561450, lastLap := some 130250, bestLap := some { ticks := 63100, lap := 20 }
    gap := some 66710, lapsDown := 1, latestPass := some 7612004 }

/-- The queue with the Line pass of tag 36 and the Split pass of tag 37. -/
def settling : State :=
  let s := withCar (inRace .running) entrant23
  { s with
    resolver.queue :=
      [{ queued 36 with
         pass := { linePass with named := none, candidates := [(23, 2), (41, 2)], running := some 7498870 }
         entered := 19949000 },
       { queued 37 with
         pass := { linePass with kind := .split, named := some (41, 5), running := some 7550143 }
         entered := 20000172 }]
    resolver.nextTag := 38, resolver.waitLatch := true
    race.raceClock := 20064000, race.green := some 12000000, race.suspTotal := 450000
    race.runningClock := 7614000 }

/-- The claim wait of tag 36 expires at 19,999,000, sets the latch and raises PASSES. -/
theorem test_claimWaitExpiry_sets_latch :
    after (.claimWaitExpiry 36)
        { settling with resolver.waitLatch := false, race.raceClock := 19999000 } (fun t =>
      t.resolver.waitLatch && t.raised .passes && (t.resolver.queue.map (·.expired)) == [true, false]) = true
      ∧ after (.claimWaitExpiry 36)
        { settling with resolver.waitLatch := false, race.raceClock := 19998999 } (fun t =>
      !t.resolver.waitLatch) = true := by decide

/-- ASSIGN of tag 36 to code 23 splits the lap of section 4.7 and settles the entry. -/
theorem test_assign_splits_lap :
    after (.assign 36 23) settling (fun t =>
      (t.entrant 0).laps == 52 && (t.entrant 0).prevCrossing == some 7498870
        && (t.entrant 0).latestCrossing == some 7561450 && (t.entrant 0).lastLap == some 62580
        && (t.entrant 0).lastLapMarks == { long := false, caution := false, assigned := true }
        && (t.entrant 0).bestLap == some { ticks := 62580, lap := 52 } && (t.entrant 0).gap == some 66710
        && (t.entrant 0).latestPass == some 7612004
        && (t.resolver.queue.map (·.tag)) == [37#8] && !t.resolver.waitLatch) = true := by decide

/-- ASSIGN of tag 37: no record has code 41; given to 23 it is too old (section 2.5). -/
theorem test_assign_refuses :
    answers (.assign 37 41) settling (fun st _ => st == .noEntrant) = true
      ∧ answers (.assign 37 23) settling (fun st _ => st == .tooOld) = true := by decide

/-- The table that closes section 4.7. -/
theorem test_late_judgements :
    [7550000, 7574000, 7620000, 7420000, 7400000, 7440000].map (judgeLate 15000 (some 7561450) (some 7431200))
      = [.duplicate, .duplicate, .credit 7561450, .duplicate, .tooOld, .duplicate] := by decide

/-! ### Three cars, event by event (05 section 5.7) -/

/-- An entry of the list: A is slot 0, B slot 1, C slot 2. -/
def placed (slot : Slot) (laps reach : Nat) : Standing := { slot := slot, key := { laps := laps, reach := some reach } }

/-- Events 1, 2 and 3. -/
theorem test_three_cars_first :
    placeAgain 2 { laps := 12, reach := some 833900 } [placed 0 12 780000, placed 1 12 795500, placed 2 11 770100]
        = [placed 0 12 780000, placed 1 12 795500, placed 2 12 833900]
      ∧ placeAgain 0 { laps := 13, reach := some 841300 } [placed 0 12 780000, placed 1 12 795500, placed 2 12 833900]
        = [placed 0 13 841300, placed 1 12 795500, placed 2 12 833900]
      ∧ placeAgain 0 { laps := 12, reach := some 841300 } [placed 0 13 841300, placed 1 12 795500, placed 2 12 833900]
        = [placed 1 12 795500, placed 2 12 833900, placed 0 12 841300] := by decide

/-- Events 5, 6 and 7. -/
theorem test_three_cars_last :
    placeAgain 2 { laps := 13, reach := some 895600 } [placed 1 12 795500, placed 2 12 833900, placed 0 12 841300]
        = [placed 2 13 895600, placed 1 12 795500, placed 0 12 841300]
      ∧ placeAgain 0 { laps := 13, reach := some 902900 } [placed 2 13 895600, placed 1 12 795500, placed 0 12 841300]
        = [placed 2 13 895600, placed 0 13 902900, placed 1 12 795500]
      ∧ placeAgain 1 { laps := 13, reach := some 795500 } [placed 2 13 895600, placed 0 13 902900, placed 1 12 795500]
        = [placed 1 13 795500, placed 2 13 895600, placed 0 13 902900] := by decide

/-! ### A stint at the call button (07 section 7.8) -/

/-- Entrant 17 with station 2 attached, and the Retired entrant 30 in slot 9 with station 5; both stations have shown a
press for 20 ms. -/
def stint (used : Nat) : State :=
  let s := withCar (inRace .running) { car .racing with code := some 17, laps := 61, callsUsed := used }
  let s1 := pressing { s with cfg.pitMinimum := 60000, race.runningClock := 4180000 }
  { s1.modEntrant 9 fun _ => { car .retired with code := some 30, station := some 5 } with
    inputs.pressedSince := s1.inputs.pressedSince.set 5 (some 0) }

set_option maxRecDepth 4000 in
/-- Events 1 and 2: the third press is free; the fourth is called, and the stop-and-go stands Active at the head. -/
theorem test_stationPress_counts_and_calls :
    after (.stationPress 2) (stint 2) (fun t =>
      (t.entrant 0).callsUsed == 3 && (t.entrant 0).penalties == [] && !t.raised .penalty) = true
      ∧ after (.stationPress 2) (stint 3) (fun t =>
      (t.entrant 0).callsUsed == 4
        && (t.entrant 0).penalties
          == [{ kind := .stopGo, cls := .callLimit, hold := some 10, deadline := 3, conversion := 1, escalation := false
                state := .active, remaining := some 3, calledAt := 4180000, calledLap := 61 }]
        && t.raised .penalty) = true := by decide

set_option maxRecDepth 4000 in
/-- Event 3: a press for a Retired entrant is not counted, but its call action acts. -/
theorem test_stationPress_retired :
    after (.stationPress 5) (stint 3) (fun t => (t.entrant 9).callsUsed == 0 && t.race.yellow) = true := by decide

/-- Event 5: the transit of 52,000 ticks is called as a drive-through that waits behind the stop-and-go. -/
theorem test_pitOut_speeding :
    let s := (stint 4).modEntrant 0 fun e =>
      { e with penalties := [stopGo .active], pitStatus := .pitLane, pitEntry := some 4348000 }
    (((s.deliver 0 { linePass with kind := .pitOut, running := some 4400000 }).entrant 0).penalties.map
        fun p => (p.kind, p.cls, p.state))
      = [(.stopGo, .manual, .active), (.driveThrough, .pitSpeeding, .pending)] := by decide

/-- Event 7: a drive-through is refused for a Retired entrant, and a deduction is not. -/
theorem test_call_retired :
    answers (.call 30 1 0 3 1 0 0 0) (stint 3) (fun st _ => st == .wrongState) = true
      ∧ answers (.call 30 4 0 0 0 0 0 1) (stint 3) (fun st _ => st == .ok) = true := by decide

/-! ### One car's ceiling (09 section 9.6) -/

/-- The car in a sector, with a pit status, an override and the state of its stop-and-go. -/
def limited (sector : Nat) (pit : PitStatus) (override : Option Nat) (p : PenaltyState) : Entrant :=
  { car .racing with sector := sector, pitStatus := pit, override := override, penalties := [stopGo p] }

/-- The race with the yellow flag and the host flag of sector 1 as given. -/
def flags (yellow zone1 : Bool) : State :=
  (inRace .running).modSector 1 (fun z => { z with hostFlag := zone1 }) |> fun s => { s with race.yellow := yellow }

/-- The table's effective ceilings, line by line. -/
theorem test_effective_ceilings :
    (flags false true).effectiveFor (limited 0 .track none .active) = 100
      ∧ (flags false true).effectiveFor (limited 1 .track none .active) = 50
      ∧ (flags true true).effectiveFor (limited 1 .track none .active) = 40
      ∧ (flags true true).effectiveFor (limited 0 .track (some 45) .active) = 40
      ∧ (flags true true).effectiveFor (limited 0 .pitLane (some 45) .active) = 35
      ∧ (flags true true).effectiveFor (limited 0 .box (some 45) .serving) = 0
      ∧ (flags false true).effectiveFor (limited 0 .track (some 45) .active) = 45
      ∧ (inRace .suspended).effectiveFor (limited 0 .track none .active) = 0 := by decide

/-- A fall marks Lowered, a rise leaves Lowered alone and marks an unmarked car Raised (R160). -/
theorem test_dirty_marks :
    DirtyClass.mark 100 50 .clean = .lowered ∧ DirtyClass.mark 0 35 .clean = .raised
      ∧ DirtyClass.mark 40 50 .lowered = .lowered ∧ DirtyClass.mark 100 0 .raised = .lowered
      ∧ DirtyClass.mark 40 40 .clean = .clean := by decide

set_option maxRecDepth 4000 in
/-- The Pause byte in a Running race starts the hold, which suspends the race 10,000 ticks later (section 9.6). -/
theorem test_pause_then_link_hold :
    after .pauseByte { inRace .running with race.raceClock := 6000011 } (fun t =>
      t.ceiling.paused && t.ceiling.holdStart == some 6000011) = true
      ∧ after .linkHoldExpiry
        { inRace .running with race.raceClock := 6010011, ceiling.paused := true, ceiling.holdStart := some 6000011 }
        (fun t => t.race.state == .suspended && t.ceiling.paused && t.ceiling.holdStart == none) = true := by decide

/-- A second hold of 30 s on one with 10 s to run leaves 40 s at the lower level (R149). -/
theorem test_power_holds_merge :
    mergeHold 1000 40 30 (some { level := 50, expiry := 101000 }) = { level := 40, expiry := 401000 } := by decide

/-! ### What the lines and the inputs show -/

/-- A press shown for less than 20 ms is no edge: the release ends the departure, and nothing is left of it (R167). -/
theorem test_stationRelease_ends_departure :
    after (.stationRelease 2) { pressing State.reset with race.raceClock := 199 } (fun t =>
      t.inputs == State.reset.inputs) = true := by decide

set_option maxRecDepth 4000 in
/-- With no command waiting, red shown held for 20 ms makes its edge, and suspends the race (R167, R169). -/
theorem test_red_edge_comes_by_itself :
    (match step (departed (inRace .running) fun l => { l with redSince := some 0 }) with
      | .next t => t.inputs.live.redHeld && t.race.state == .suspended
      | .fault _ | .refused _ => false) = true := by decide

/-- A gate made used while its line is light waits for the dark, and reads the mark after it (R2, R10). -/
theorem test_gateCell_waits_for_change :
    after (.gateCell ⟨0, .line⟩ .mark) (withGate State.reset { lineGate with line := .mark, decoder := Decoder.cleared true })
        (fun t => (t.gate 0).decoder == Decoder.cleared true) = true
      ∧ after (.gateCell ⟨0, .line⟩ .mark) (withGate State.reset { lineGate with decoder := Decoder.cleared true })
        (fun t => (t.gate 0).decoder.run == some { level := .mark, length := 1 }) = true := by decide

/-- Light on the line of a gate under test reaches no decoder (R20). -/
theorem test_gateCell_under_test :
    after (.gateCell ⟨0, .line⟩ .mark) { withGate State.reset { lineGate with fed := some 0 } with testStart := some 0 }
      (fun t => t.gate 0 == { lineGate with fed := some 0, line := .mark }) = true := by decide

/-! ### Frames -/

/-- The cells of code 63 with its parity: six marks and a mark, seven in all (R1). -/
def code63Cells : List Level := List.replicate 7 .mark

/-- Code 63 is invalid at a line and valid under test; no mark may stand in the end cell (R4). -/
theorem test_frames_judged :
    judgeFrame code63Cells .space false = none ∧ judgeFrame code63Cells .space true = some 63
      ∧ judgeFrame code5Cells .space false = some 5 ∧ judgeFrame code5Cells .mark false = none := by decide

/-- The cells the generator sends are a frame of code 63: sync, code, parity, end (R1, R20). -/
theorem test_generator_frame :
    (List.range 12).map generatorCell
      = [.mark, .mark, .mark, .space] ++ code63Cells ++ [.space] := by decide

/-- A STATUS request to station 0: 5A, 00, 00, 01 and the check FF; its answer is 46 bytes (section 11.5, R182). -/
theorem test_status_frame :
    after (.commandFrame 0xFF#8) { State.reset with link.rx := .check 0 0 1 [] } (fun t =>
      t.link.tx == .waiting (Answer.okWith State.reset.statusBody) 0 && t.link.rx == .hunt) = true
      ∧ State.reset.statusBody.length = 46 := by decide

/-- A bad sum gives no response (R178). -/
theorem test_bad_sum :
    after (.commandFrame 0xFE#8) { State.reset with link.rx := .check 0 0 1 [] } (fun t =>
      t.link.tx == .idle && t.link.rx == .hunt) = true := by decide

/-- A ceiling frame of code 17 at 40: A6, 11, 28, and 21, which makes the sum 0 (R162). -/
theorem test_ceiling_frame :
    { frame7 with code := 17, ceiling := 40 }.bytes = [0xA6#8, 0x11#8, 0x28#8, 0x21#8] := by decide

/-! ### The statements' hypotheses can be met -/

theorem witness_StepTakesFrontCommand :
    ∃ (c : Instr) (rest : List Instr) (s : State),
      s.pending = c :: rest :=
  ⟨.status, [.stage], { State.reset with pending := [.status, .stage] }, by decide⟩

theorem witness_IdleStepIsTickOrDueEvent_1 :
    ∃ (s : State),
      s.pending = [] ∧ s.dueEvents = [] :=
  ⟨State.reset, by decide⟩

theorem witness_IdleStepIsTickOrDueEvent_2 :
    ∃ (e : Instr) (l : List Instr) (s : State),
      s.pending = [] ∧ s.dueEvents = e :: l :=
  ⟨.ceilingRefresh, [], { State.reset with race.raceClock := 2500 }, by decide⟩

theorem witness_ConfigurationLockedOutsideSetup_1 :
    ∃ (c : Instr) (s : State),
      s.race.state ≠ .setup ∧ powersOn c = false :=
  ⟨.stage, inRace .staging, by decide⟩

theorem witness_ConfigurationLockedOutsideSetup_2 :
    ∃ (c : Instr) (s : State),
      s.race.state ≠ .setup ∧ configures c = true :=
  ⟨.power 1#8, inRace .staging, by decide⟩

theorem witness_RaceStateMovesByTable :
    ∃ (c : Instr) (_s : State),
      powersOn c = false :=
  ⟨.stage, State.reset, by decide⟩

theorem witness_RefusedRequestsChangeNothing :
    ∃ (c : Instr) (_s : State),
      (requestBytes c).isSome = true :=
  ⟨.stage, State.reset, by decide⟩

theorem witness_ClocksAgreeKept :
    ∃ (s : State),
      s.clocksAgree :=
  ⟨{ inRace .running with race.green := some 5, race.raceClock := 12, race.runningClock := 7 }, by decide⟩

theorem witness_StandingOrderKept :
    ∃ (s : State),
      s.standingsKept :=
  ⟨{ withCar (inRace .running) { car .racing with laps := 3, reachTime := some 9 } with
        standings := [{ slot := 0, key := { laps := 3, reach := some 9 } }] }, by decide⟩

theorem witness_UnclaimedQueueKept :
    ∃ (s : State),
      s.queueKept :=
  ⟨withQueue State.reset 16, by decide⟩

theorem witness_PitPenaltyQueuesKept :
    ∃ (s : State),
      s.pitQueuesKept :=
  ⟨withCar (inRace .running) { car .racing with
        penalties := [stopGo .serving, stopGo .pending], holdTimer := some 5 }, by decide⟩

theorem witness_CodesAndStationsKept :
    ∃ (s : State),
      s.identitiesKept :=
  ⟨withCar (inRace .running) (car .racing), by decide⟩

theorem witness_CeilingsKept :
    ∃ (s : State),
      s.ceilingsKept ∧ s.pitQueuesKept :=
  ⟨withCar (inRace .running) { car .racing with effective := 100 }, by decide⟩

theorem witness_CautionHoldersKept :
    ∃ (s : State),
      s.holdersKept ∧ s.racingKept :=
  ⟨State.modSector (withCar (inRace .running) { car .racing with
        overdue := true }) 0 fun z => { z with holders := [0] }, by decide⟩

theorem witness_LatchAndHoldStartKept :
    ∃ (s : State),
      s.latchesKept :=
  ⟨{ inRace .running with ceiling.paused := true, ceiling.holdStart := some 0 }, by decide⟩

theorem witness_FallingCeilingsAreMarkedLowered :
    ∃ (c : Instr) (_s : State),
      powersOn c = false ∧ c ≠ .resetRace ∧ (∀ b : Byte, c ≠ .commandFrame b) :=
  ⟨.ceilingFrameStart, State.reset, rfl, by decide, by intro b h; cases h⟩

theorem witness_PowerOnResetsEveryBlock_3 :
    ∃ (s : State) (_straps : BitVec 5) (_pins : PinLevels),
      s.link.tx = .rebooting :=
  ⟨{ inRace .running with link.tx := .rebooting }, 31#5, idlePins, by decide⟩

theorem witness_CommandBytesAssembleFrames :
    ∃ (_b : Byte) (s : State),
      s.link.tx = .idle ∧ s.link.rx.inCheck = false :=
  ⟨0x5A#8, State.reset, by decide⟩

theorem witness_LinkTimersAndResponses_1 :
    ∃ (s : State),
      s.link.rx ≠ .hunt ∧ 20 < s.since s.link.lastByte :=
  ⟨{ State.reset with link.rx := .address, race.raceClock := 21 }, by decide⟩

theorem witness_LinkTimersAndResponses_2 :
    ∃ (s : State),
      s.link.tx = .idle :=
  ⟨State.reset, by decide⟩

theorem witness_LinkTimersAndResponses_3 :
    ∃ (_b : Byte) (s : State),
      s.link.tx ≠ .idle :=
  ⟨0#8, { State.reset with link.tx := .waiting .okay 0 }, by decide⟩

theorem witness_LinkTimersAndResponses_4 :
    ∃ (a : Answer) (r : RawTime) (s : State),
      s.link.tx = .waiting a r ∧ 1 ≤ s.since r :=
  ⟨.okay, 0, { State.reset with link.tx := .waiting .okay 0, race.raceClock := 1 }, by decide⟩

theorem witness_LinkTimersAndResponses_5 :
    ∃ (a : Answer) (r : RawTime) (s : State),
      s.link.tx = .sending a r ∧ (a.frame s.link.address).length * 100000 / 115200 ≤ s.since r :=
  ⟨.okay, 0, { State.reset with link.tx := .sending .okay 0, race.raceClock := 4 }, by decide⟩

theorem witness_AddressedFrameIsItsRequest :
    ∃ (c : Instr) (addr len code check : Byte) (body : List Byte) (s : State),
      requestBytes c = some (code, body) ∧ s.link.tx = .idle ∧ s.link.rx = .check addr len code body
          ∧ addr.toNat = s.link.address.toNat ∧ addr + len + code + bytesSum body + check = 0#8 :=
  ⟨.status, 0#8, 0#8, 0x01#8, 0xFF#8, [], { State.reset with link.rx := .check 0#8 0#8 0x01#8 [] }, by decide⟩

theorem witness_FramesAreJudgedAndDispatched_1 :
    ∃ (addr len code check : Byte) (body : List Byte) (s : State),
      s.link.tx = .idle ∧ s.link.rx = .check addr len code body ∧ (addr + len + code + bytesSum body + check ≠ 0#8
          ∨ (addr.toNat ≠ s.link.address.toNat ∧ (addr ≠ 0x3F#8 ∨ code ∉ [0x42#8, 0x44#8, 0x46#8]
              ∨ catalogueLength code ≠ some body.length))) :=
  ⟨0#8, 0#8, 0x01#8, 0xFE#8, [], { State.reset with link.rx := .check 0#8 0#8 0x01#8 [] }, by decide⟩

theorem witness_FramesAreJudgedAndDispatched_2 :
    ∃ (c : Instr) (len code check : Byte) (body : List Byte) (s : State),
      requestBytes c = some (code, body) ∧ code ∈ [0x42#8, 0x44#8, 0x46#8] ∧ s.link.tx = .idle
          ∧ s.link.rx = .check 0x3F#8 len code body ∧ 0x3F#8 + len + code + bytesSum body + check = 0#8 :=
  ⟨.suspend, 0#8, 0x44#8, 0x7D#8, [],
    { inRace .running with link.rx := .check 0x3F#8 0#8 0x44#8 [] }, by decide⟩

theorem witness_FramesAreJudgedAndDispatched_3 :
    ∃ (addr len code check : Byte) (body : List Byte) (s : State),
      s.link.tx = .idle ∧ s.link.rx = .check addr len code body ∧ addr.toNat = s.link.address.toNat
          ∧ addr + len + code + bytesSum body + check = 0#8 ∧ catalogueLength code = none :=
  ⟨0#8, 0#8, 0x07#8, 0xF9#8, [], { State.reset with link.rx := .check 0#8 0#8 0x07#8 [] }, by decide⟩

theorem witness_FramesAreJudgedAndDispatched_4 :
    ∃ (n : Nat) (addr len code check : Byte) (body : List Byte) (s : State),
      s.link.tx = .idle ∧ s.link.rx = .check addr len code body ∧ addr.toNat = s.link.address.toNat
          ∧ addr + len + code + bytesSum body + check = 0#8 ∧ catalogueLength code = some n ∧ body.length ≠ n :=
  ⟨0, 0#8, 1#8, 0x01#8, 0xFE#8, [0#8], { State.reset with link.rx := .check 0#8 1#8 0x01#8 [0#8] }, by decide⟩

theorem witness_StatusAnswersBody :
    ∃ (s : State),
      s.race.runningClock < 4294967296 ∧ (∀ k : Fin 4, s.race.caution[k].holders.length ≤ 24) :=
  ⟨State.reset, by decide⟩

theorem witness_LookupsAnswerRecord_1 :
    ∃ (code : Byte) (i : Slot) (s : State),
      s.named code = some i :=
  ⟨7#8, 0, withCar (inRace .running) (car .racing), by decide⟩

theorem witness_LookupsAnswerRecord_3 :
    ∃ (code : Byte) (s : State),
      (code.toNat = 0 ∨ 62 < code.toNat ∨ ∀ j : Slot, (s.entrant j).state = .vacant
          ∨ (s.entrant j).code ≠ some code.toNat) :=
  ⟨63#8, State.reset, by decide⟩

theorem witness_LookupsAnswerRecord_4 :
    ∃ (slot : Byte) (_s : State),
      23 < slot.toNat :=
  ⟨24#8, State.reset, by decide⟩

theorem witness_StandingsAnswersPage_1 :
    ∃ (first count : Byte) (_s : State),
      (1 ≤ first.toNat ∧ first.toNat ≤ 24) ∧ (1 ≤ count.toNat ∧ count.toNat ≤ 6) :=
  ⟨24#8, 6#8, State.reset, by decide⟩

theorem witness_StandingsAnswersPage_2 :
    ∃ (first count : Byte) (_s : State),
      (first.toNat < 1 ∨ 24 < first.toNat ∨ count.toNat < 1 ∨ 6 < count.toNat) :=
  ⟨1#8, 7#8, State.reset, by decide⟩

theorem witness_ConfigGateWritesEntry_1 :
    ∃ (_g : GateNo) (kind lane boundary sector : Byte) (offset : Word16) (k : GateKind) (e : GateEntry) (s : State),
      s.race.state = .setup ∧ s.testStart = none ∧ gateKindOf kind = some k
          ∧ gateEntryOf k lane boundary sector offset = some e :=
  ⟨23, 1#8, 6#8, 0#8, 0#8, 0#16, .line, pitLineEntry, State.reset, by decide⟩

theorem witness_ConfigGateWritesEntry_2 :
    ∃ (gate kind _lane _boundary _sector : Byte) (_offset : Word16) (s : State),
      s.race.state = .setup ∧ s.testStart = none ∧ (23 < gate.toNat ∨ 6 < kind.toNat) :=
  ⟨24#8, 0#8, 0#8, 0#8, 0#8, 0#16, State.reset, by decide⟩

theorem witness_ConfigGateWritesEntry_3 :
    ∃ (_gate kind lane boundary sector : Byte) (offset : Word16) (k : GateKind) (s : State),
      s.race.state = .setup ∧ s.testStart = none ∧ gateKindOf kind = some k
          ∧ gateEntryOf k lane boundary sector offset = none :=
  ⟨0#8, 2#8, 6#8, 1#8, 0#8, 0#16, .split, State.reset, by decide⟩

theorem witness_ConfigGateWritesEntry_5 :
    ∃ (g : GateNo) (kind lane boundary sector : Byte) (offset : Word16) (k : GateKind) (e : GateEntry) (b : Tally)
        (s : State),
      s.race.state = .setup ∧ s.testStart = none ∧ gateKindOf kind = some k
          ∧ gateEntryOf k lane boundary sector offset = some e ∧ (s.gate g).entry.kind = .box
          ∧ (s.gate g).fed = none ∧ (s.gate g).decoder.burst = some b :=
  ⟨0, 1#8, 6#8, 0#8, 0#8, 0#16, .line, pitLineEntry, code5Tally 3,
    withGate State.reset { lineGate with entry := boxEntry, decoder := { listening with
        burst := some (code5Tally 3) } }, by decide⟩

theorem witness_ConfigGateWritesEntry_6 :
    ∃ (_gate _kind _lane _boundary _sector : Byte) (_offset : Word16) (s : State),
      s.race.state = .setup ∧ s.testStart.isSome = true :=
  ⟨0#8, 0#8, 0#8, 0#8, 0#8, 0#16, { State.reset with testStart := some 0 }, by decide⟩

theorem witness_ConfigCallAndPowerWrite_1 :
    ∃ (_n : Fin 7) (kind hold deadline conversion level duration laps : Byte) (k : RulingKind) (r : Option Ruling)
        (s : State),
      s.race.state = .setup ∧ rulingKindOf kind = some k
          ∧ rulingOf k hold deadline conversion level duration laps = some r :=
  ⟨6, 2#8, 60#8, 15#8, 9#8, 0#8, 0#8, 0#8, .stopGo, some (.stopGo 60 15 9), State.reset, by decide⟩

theorem witness_ConfigCallAndPowerWrite_2 :
    ∃ (cls kind hold deadline conversion level duration laps : Byte) (s : State),
      s.race.state = .setup ∧ (6 < cls.toNat ∨ 5 < kind.toNat
          ∨ (∃ k ∈ (rulingKindOf kind).toList, rulingOf k hold deadline conversion level duration laps = none)) :=
  ⟨6#8, 2#8, 61#8, 15#8, 9#8, 0#8, 0#8, 0#8, State.reset, by decide⟩

theorem witness_ConfigCallAndPowerWrite_4 :
    ∃ (_on : Bool) (s : State),
      s.race.state = .setup :=
  ⟨true, State.reset, by decide⟩

theorem witness_ConfigCallAndPowerWrite_5 :
    ∃ (value : Byte) (s : State),
      s.race.state = .setup ∧ 1 < value.toNat :=
  ⟨2#8, State.reset, by decide⟩

theorem witness_ConfigRaceReplacesConfiguration_1 :
    ∃ (w : RaceWords) (c : RaceConfig) (s : State),
      s.race.state = .setup ∧ configOf w = some c :=
  ⟨raceWords, raceConfig, State.reset, by decide⟩

theorem witness_ConfigRaceReplacesConfiguration_2 :
    ∃ (w : RaceWords) (s : State),
      s.race.state = .setup ∧ configOf w = none :=
  ⟨{ raceWords with lapCeiling := 15000 }, State.reset, by decide⟩

theorem witness_ConfigRaceReplacesConfiguration_3 :
    ∃ (w : RaceWords) (c : RaceConfig),
      configOf w = some c :=
  ⟨raceWords, raceConfig, by decide⟩

theorem witness_ConfigRaceReplacesConfiguration_4 :
    ∃ (w : RaceWords),
      (w.lapCeiling.toNat ≤ w.lapFloor.toNat ∨ w.sightingWindow = 1#8 ∨ 120 < w.sightingWindow.toNat
          ∨ 1 < w.autoLocalCaution.toNat ∨ 2 < w.callAction.toNat ∨ w.burstGap.toNat < 5 ∨ w.dwellLimit.toNat < 500
              ∨ 20000 < w.dwellLimit.toNat ∨ w.voteMinimum.toNat < 2 ∨ 15 < w.voteMinimum.toNat
                  ∨ w.triggerLevel.toNat < 1 ∨ 16 < w.triggerLevel.toNat ∨ w.claimWait.toNat < 1
                      ∨ 60 < w.claimWait.toNat ∨ w.lapFloor.toNat < 1000 ∨ 600000 < w.lapFloor.toNat
                          ∨ 16777215 < w.lapCeiling.toNat ∨ w.sectorCount.toNat < 1 ∨ 4 < w.sectorCount.toNat
                              ∨ 600000 < w.pitMinimum.toNat ∨ w.lightInterval.toNat < 500
                                  ∨ 2000 < w.lightInterval.toNat ∨ 9999 < w.lapTarget.toNat
                                      ∨ 359999 < w.timeTarget.toNat ∨ w.finishWindow.toNat < 10
                                          ∨ 600 < w.finishWindow.toNat ∨ 15 < w.callLimit.toNat
                                              ∨ w.refreshPeriod.toNat < 100 ∨ 2000 < w.refreshPeriod.toNat
                                                  ∨ w.holdLimit.toNat < 200 ∨ 10000 < w.holdLimit.toNat) :=
  ⟨{ raceWords with sightingWindow := 1 }, by decide⟩

theorem witness_ConfigRaceReplacesConfiguration_5 :
    ∃ (w : RaceWords) (act : CallAction) (s : State),
      s.race.state = .setup ∧ ((w.callAction = 0#8 ∧ act = .report) ∨ (w.callAction = 1#8 ∧ act = .caution)
          ∨ (w.callAction = 2#8 ∧ act = .suspend)) ∧ 5 ≤ w.burstGap.toNat ∧ (500 ≤ w.dwellLimit.toNat
              ∧ w.dwellLimit.toNat ≤ 20000) ∧ (2 ≤ w.voteMinimum.toNat ∧ w.voteMinimum.toNat ≤ 15)
              ∧ (1 ≤ w.triggerLevel.toNat ∧ w.triggerLevel.toNat ≤ 16) ∧ (1 ≤ w.claimWait.toNat
              ∧ w.claimWait.toNat ≤ 60) ∧ (1000 ≤ w.lapFloor.toNat ∧ w.lapFloor.toNat ≤ 600000)
              ∧ (w.lapFloor.toNat < w.lapCeiling.toNat ∧ w.lapCeiling.toNat ≤ 16777215) ∧ (1 ≤ w.sectorCount.toNat
              ∧ w.sectorCount.toNat ≤ 4) ∧ w.pitMinimum.toNat ≤ 600000 ∧ (w.sightingWindow.toNat = 0
              ∨ (2 ≤ w.sightingWindow.toNat ∧ w.sightingWindow.toNat ≤ 120)) ∧ (500 ≤ w.lightInterval.toNat
                  ∧ w.lightInterval.toNat ≤ 2000) ∧ w.lapTarget.toNat ≤ 9999 ∧ w.timeTarget.toNat ≤ 359999
                  ∧ (10 ≤ w.finishWindow.toNat ∧ w.finishWindow.toNat ≤ 600) ∧ w.callLimit.toNat ≤ 15
                  ∧ (100 ≤ w.refreshPeriod.toNat ∧ w.refreshPeriod.toNat ≤ 2000) ∧ (200 ≤ w.holdLimit.toNat
                  ∧ w.holdLimit.toNat ≤ 10000) ∧ w.autoLocalCaution.toNat ≤ 1 :=
  ⟨raceWords, .suspend, State.reset, by decide⟩

theorem witness_SelfTestStartsAndEnds_1 :
    ∃ (s : State),
      s.race.state = .setup ∧ s.testStart = none :=
  ⟨State.reset, by decide⟩

theorem witness_SelfTestStartsAndEnds_2 :
    ∃ (s : State),
      s.testStart.isSome = true :=
  ⟨{ State.reset with testStart := some 0 }, by decide⟩

theorem witness_SelfTestStartsAndEnds_3 :
    ∃ (r : RawTime) (s : State),
      s.testStart = some r ∧ 500 ≤ s.since r :=
  ⟨0, { State.reset with testStart := some 0, race.raceClock := 500 }, by decide⟩

theorem witness_SelfTestStartsAndEnds_4 :
    ∃ (s : State),
      s.race.state = .setup ∧ s.testStart = none ∧ (∀ g : GateNo, (s.gate g).fed = none) :=
  ⟨withGate State.reset { lineGate with entry := boxEntry, decoder := { listening with
        burst := some (code5Tally 3) } }, by decide⟩

theorem witness_EnterTakesLowestVacantSlot_1 :
    ∃ (code station : Byte) (i : Slot) (s : State),
      (s.race.state = .setup ∨ s.race.state = .staging) ∧ (1 ≤ code.toNat ∧ code.toNat ≤ 62)
          ∧ (∀ j : Slot, (s.entrant j).state = .vacant ∨ (s.entrant j).code ≠ some code.toNat) ∧ (station = 0xFF#8
          ∨ (station.toNat < 6 ∧ ∀ j : Slot, (s.entrant j).state = .vacant
              ∨ (s.entrant j).station.map (·.val) ≠ some station.toNat)) ∧ (s.entrant i).state = .vacant
                  ∧ (∀ j : Slot, j < i → (s.entrant j).state ≠ .vacant) :=
  ⟨62#8, 5#8, 1, withCar State.reset (car .staged), by decide⟩

theorem witness_EnterTakesLowestVacantSlot_2 :
    ∃ (_code _station : Byte) (s : State),
      s.race.state ≠ .setup ∧ s.race.state ≠ .staging :=
  ⟨1#8, 0xFF#8, inRace .countdown, by decide⟩

theorem witness_EnterTakesLowestVacantSlot_3 :
    ∃ (code station : Byte) (s : State),
      (s.race.state = .setup ∨ s.race.state = .staging) ∧ (code.toNat = 0 ∨ 62 < code.toNat ∨ (5 < station.toNat
          ∧ station ≠ 0xFF#8)) :=
  ⟨63#8, 0xFF#8, State.reset, by decide⟩

theorem witness_EnterTakesLowestVacantSlot_4 :
    ∃ (code station : Byte) (j : Slot) (s : State),
      (s.race.state = .setup ∨ s.race.state = .staging) ∧ (1 ≤ code.toNat ∧ code.toNat ≤ 62) ∧ (station.toNat < 6
          ∨ station = 0xFF#8) ∧ (s.entrant j).state ≠ .vacant ∧ (s.entrant j).code = some code.toNat :=
  ⟨7#8, 0xFF#8, 0, withCar State.reset (car .staged), by decide⟩

theorem witness_EnterTakesLowestVacantSlot_5 :
    ∃ (code station : Byte) (j : Slot) (s : State),
      (s.race.state = .setup ∨ s.race.state = .staging) ∧ (1 ≤ code.toNat ∧ code.toNat ≤ 62) ∧ station.toNat < 6
          ∧ (∀ j : Slot, (s.entrant j).state = .vacant ∨ (s.entrant j).code ≠ some code.toNat)
          ∧ (s.entrant j).state ≠ .vacant ∧ (s.entrant j).station.map (·.val) = some station.toNat :=
  ⟨8#8, 2#8, 0, withCar State.reset (car .staged), by decide⟩

theorem witness_EnterTakesLowestVacantSlot_6 :
    ∃ (code : Byte) (s : State),
      (s.race.state = .setup ∨ s.race.state = .staging) ∧ (1 ≤ code.toNat ∧ code.toNat ≤ 62)
          ∧ (∀ j : Slot, (s.entrant j).state ≠ .vacant ∧ (s.entrant j).code ≠ some code.toNat) :=
  ⟨1#8, { State.reset with entrants := Vector.replicate 24 (car .staged) }, by decide⟩

theorem witness_AmendAppliesItsItems_1 :
    ∃ (code items : Byte) (delta : Word16) (_override station : Byte) (i : Slot) (s : State),
      s.named code = some i ∧ (s.entrant i).state ≠ .excluded ∧ (items.getLsbD 0 = true → -9999 ≤ delta.toInt
          ∧ delta.toInt ≤ 9999) ∧ (items.getLsbD 2 = true → station = 0xFF#8 ∨ (station.toNat < 6
          ∧ ∀ j : Slot, (s.entrant j).state = .vacant ∨ j = i
          ∨ (s.entrant j).station.map (·.val) ≠ some station.toNat)) :=
  ⟨7#8, 0x1F#8, 9999#16, 255#8, 5#8, 0, withCar (inRace .running) (car .racing), by decide⟩

theorem witness_AmendAppliesItsItems_2 :
    ∃ (code _items : Byte) (_delta : Word16) (_override _station : Byte) (s : State),
      s.named code = none :=
  ⟨7#8, 0#8, 0#16, 0#8, 0#8, State.reset, by decide⟩

theorem witness_AmendAppliesItsItems_3 :
    ∃ (code _items : Byte) (_delta : Word16) (_override _station : Byte) (i : Slot) (s : State),
      s.named code = some i ∧ (s.entrant i).state = .excluded :=
  ⟨7#8, 0#8, 0#16, 0#8, 0#8, 0, withCar (inRace .running) (car .excluded), by decide⟩

theorem witness_AmendAppliesItsItems_4 :
    ∃ (code items : Byte) (delta : Word16) (_override station : Byte) (i : Slot) (s : State),
      s.named code = some i ∧ (s.entrant i).state ≠ .excluded ∧ ((items.getLsbD 0 = true ∧ (delta.toInt < -9999
          ∨ 9999 < delta.toInt)) ∨ (items.getLsbD 2 = true ∧ 5 < station.toNat ∧ station ≠ 0xFF#8)) :=
  ⟨7#8, 1#8, 10000#16, 0#8, 0#8, 0, withCar (inRace .running) (car .racing), by decide⟩

theorem witness_AmendAppliesItsItems_5 :
    ∃ (code items : Byte) (delta : Word16) (_override station : Byte) (i j : Slot) (s : State),
      s.named code = some i ∧ (s.entrant i).state ≠ .excluded ∧ (items.getLsbD 0 = true → -9999 ≤ delta.toInt
          ∧ delta.toInt ≤ 9999) ∧ items.getLsbD 2 = true ∧ station.toNat < 6 ∧ j ≠ i
          ∧ (s.entrant j).state ≠ .vacant ∧ (s.entrant j).station.map (·.val) = some station.toNat :=
  ⟨7#8, 4#8, 0#16, 0#8, 2#8, 0, 1,
    (withCar (inRace .running) (car .racing)).modEntrant 1 fun _ => { car .racing with code := some 8 }, by decide⟩

theorem witness_RetireAndExclude_1 :
    ∃ (code : Byte) (i : Slot) (s : State),
      s.named code = some i ∧ (s.race.state = .setup ∨ s.race.state = .staging) :=
  ⟨7#8, 0, withCar (inRace .staging) (car .staged), by decide⟩

theorem witness_RetireAndExclude_2 :
    ∃ (code : Byte) (i : Slot) (s : State),
      s.named code = some i ∧ s.race.state ≠ .setup ∧ s.race.state ≠ .staging ∧ (s.entrant i).state ≠ .retired
          ∧ (s.entrant i).state ≠ .excluded ∧ (s.race.state = .finishing → ∃ j : Slot, j ≠ i
          ∧ (s.entrant j).state = .racing) :=
  ⟨7#8, 0, withCar (inRace .running) (car .racing), by decide⟩

theorem witness_RetireAndExclude_3 :
    ∃ (code : Byte) (i : Slot) (s : State),
      s.named code = some i ∧ s.race.state ≠ .setup ∧ s.race.state ≠ .staging ∧ (s.entrant i).state ≠ .excluded
          ∧ (s.race.state = .finishing → ∃ j : Slot, j ≠ i ∧ (s.entrant j).state = .racing) :=
  ⟨7#8, 0, withCar (inRace .complete) (car .retired), by decide⟩

theorem witness_RetireAndExclude_4 :
    ∃ (code : Byte) (i : Slot) (c : Instr) (s : State),
      (c = .retire code ∨ c = .exclude code) ∧ s.named code = some i ∧ s.race.state = .finishing
          ∧ ((s.entrant i).state ≠ .retired ∨ c = .exclude code) ∧ (s.entrant i).state ≠ .excluded
          ∧ (∀ j : Slot, j ≠ i → (s.entrant j).state ≠ .racing) :=
  ⟨7#8, 0, .exclude 7#8, withCar (inRace .finishing) (car .racing), by decide⟩

theorem witness_RetireAndExclude_5 :
    ∃ (code : Byte) (s : State),
      s.named code = none :=
  ⟨7#8, State.reset, by decide⟩

theorem witness_RetireAndExclude_6 :
    ∃ (code : Byte) (i : Slot) (s : State),
      s.named code = some i ∧ s.race.state ≠ .setup ∧ s.race.state ≠ .staging ∧ ((s.entrant i).state = .retired
          ∨ (s.entrant i).state = .excluded) :=
  ⟨7#8, 0, withCar (inRace .complete) (car .retired), by decide⟩

theorem witness_RetireAndExclude_7 :
    ∃ (code : Byte) (i : Slot) (s : State),
      s.named code = some i ∧ (s.race.state = .setup ∨ s.race.state = .staging ∨ (s.entrant i).state = .excluded) :=
  ⟨7#8, 0, withCar State.reset (car .staged), by decide⟩

theorem witness_CallMakesManualRuling_1 :
    ∃ (code kind hold deadline conversion level duration laps : Byte) (i : Slot) (l d : Nat) (s : State),
      s.race.state.afterGreen = true ∧ s.named code = some i ∧ rulingKindOf kind = some .powerHold
          ∧ rulingOf .powerHold hold deadline conversion level duration laps = some (some (.powerHold l d))
          ∧ (s.entrant i).state = .racing :=
  ⟨7#8, 3#8, 0#8, 0#8, 0#8, 90#8, 60#8, 0#8, 0, 90, 60, withCar (inRace .running) (car .racing), by decide⟩

theorem witness_CallMakesManualRuling_2 :
    ∃ (code kind hold deadline conversion level duration laps : Byte) (i : Slot) (n : Nat) (s : State),
      s.race.state.afterGreen = true ∧ s.named code = some i ∧ rulingKindOf kind = some .lapDeduction
          ∧ rulingOf .lapDeduction hold deadline conversion level duration laps = some (some (.lapDeduction n))
          ∧ (s.entrant i).state ∈ [EntrantState.racing, .finished, .retired] :=
  ⟨7#8, 4#8, 0#8, 0#8, 0#8, 0#8, 0#8, 9#8, 0, 9, withCar (inRace .complete) (car .finished), by decide⟩

theorem witness_CallMakesManualRuling_3 :
    ∃ (code kind _hold _deadline _conversion _level _duration _laps : Byte) (i : Slot) (s : State),
      s.race.state.afterGreen = true ∧ s.named code = some i ∧ rulingKindOf kind = some .blackFlag
          ∧ (s.entrant i).state ∈ [EntrantState.racing, .finished, .retired] :=
  ⟨7#8, 5#8, 0#8, 0#8, 0#8, 0#8, 0#8, 0#8, 0, withCar (inRace .complete) (car .retired), by decide⟩

theorem witness_CallMakesManualRuling_4 :
    ∃ (code kind hold deadline conversion level duration laps : Byte) (i : Slot) (k : PenaltyKind) (h : Option Nat)
        (d v : Nat) (s : State),
      s.race.state.afterGreen = true ∧ s.named code = some i ∧ ((k = .driveThrough
          ∧ rulingKindOf kind = some .driveThrough ∧ h = none
          ∧ rulingOf .driveThrough hold deadline conversion level duration laps = some (some (.driveThrough d v)))
          ∨ (k = .stopGo ∧ rulingKindOf kind = some .stopGo ∧ h = some hold.toNat
              ∧ rulingOf .stopGo hold deadline conversion level duration laps =
              some (some (.stopGo hold.toNat d v)))) ∧ (s.entrant i).state = .racing
                  ∧ (∀ p ∈ (s.entrant i).penalties.take 1, p.state ≠ .pending) :=
  ⟨7#8, 2#8, 60#8, 15#8, 9#8, 0#8, 0#8, 0#8, 0, .stopGo, some 60, 15, 9,
    withCar (inRace .running) { car .racing with penalties := [stopGo .active] }, by decide⟩

theorem witness_CallMakesManualRuling_5 :
    ∃ (_code _kind _hold _deadline _conversion _level _duration _laps : Byte) (s : State),
      s.race.state.afterGreen = false :=
  ⟨7#8, 5#8, 0#8, 0#8, 0#8, 0#8, 0#8, 0#8, inRace .countdown, by decide⟩

theorem witness_CallMakesManualRuling_6 :
    ∃ (code _kind _hold _deadline _conversion _level _duration _laps : Byte) (s : State),
      s.race.state.afterGreen = true ∧ s.named code = none :=
  ⟨7#8, 5#8, 0#8, 0#8, 0#8, 0#8, 0#8, 0#8, inRace .running, by decide⟩

theorem witness_CallMakesManualRuling_7 :
    ∃ (code kind hold deadline conversion level duration laps : Byte) (i : Slot) (s : State),
      s.race.state.afterGreen = true ∧ s.named code = some i ∧ (kind = 0#8 ∨ 5 < kind.toNat
          ∨ (∃ k ∈ (rulingKindOf kind).toList, rulingOf k hold deadline conversion level duration laps = none)) :=
  ⟨7#8, 3#8, 0#8, 0#8, 0#8, 91#8, 60#8, 0#8, 0, withCar (inRace .running) (car .racing), by decide⟩

theorem witness_CallMakesManualRuling_8 :
    ∃ (code kind hold deadline conversion level duration laps : Byte) (i : Slot) (k : RulingKind) (r : Ruling)
        (s : State),
      s.race.state.afterGreen = true ∧ s.named code = some i ∧ rulingKindOf kind = some k
          ∧ rulingOf k hold deadline conversion level duration laps = some (some r)
          ∧ ((s.entrant i).state = .excluded ∨ ((s.entrant i).state ∈ [EntrantState.finished, .retired]
          ∧ k ∈ [RulingKind.driveThrough, .stopGo, .powerHold])) :=
  ⟨7#8, 3#8, 0#8, 0#8, 0#8, 90#8, 60#8, 0#8, 0, .powerHold, .powerHold 90 60,
    withCar (inRace .complete) (car .finished), by decide⟩

theorem witness_WaiveRemovesOnePenalty_1 :
    ∃ (code which : Byte) (i : Slot) (s : State),
      s.named code = some i ∧ (1 ≤ which.toNat ∧ which.toNat ≤ 3) ∧ which.toNat < (s.entrant i).penalties.length :=
  ⟨7#8, 3#8, 0,
    withCar (inRace .running) { car .racing with
        penalties := [stopGo .active, stopGo .pending, stopGo .pending, stopGo .pending] }, by decide⟩

theorem witness_WaiveRemovesOnePenalty_2 :
    ∃ (code : Byte) (i : Slot) (p : PitPenalty) (s : State),
      s.named code = some i ∧ (s.entrant i).penalties = [p] :=
  ⟨7#8, 0, stopGo .serving,
    withCar (inRace .running) { car .racing with penalties := [stopGo .serving] }, by decide⟩

theorem witness_WaiveRemovesOnePenalty_3 :
    ∃ (code : Byte) (i : Slot) (p q : PitPenalty) (rest : List PitPenalty) (s : State),
      s.named code = some i ∧ (s.entrant i).penalties = p :: q :: rest ∧ q.state = .pending :=
  ⟨7#8, 0, stopGo .serving, stopGo .pending, [],
    withCar (inRace .running) { car .racing with penalties := [stopGo .serving, stopGo .pending] }, by decide⟩

theorem witness_WaiveRemovesOnePenalty_4 :
    ∃ (code : Byte) (i : Slot) (h : PowerHold) (s : State),
      s.named code = some i ∧ (s.entrant i).powerHold = some h :=
  ⟨7#8, 0, { level := 50, expiry := 9 },
    withCar (inRace .running) { car .racing with powerHold := some { level := 50, expiry := 9 } }, by decide⟩

theorem witness_WaiveRemovesOnePenalty_5 :
    ∃ (code _which : Byte) (s : State),
      s.named code = none :=
  ⟨7#8, 0#8, State.reset, by decide⟩

theorem witness_WaiveRemovesOnePenalty_6 :
    ∃ (code which : Byte) (i : Slot) (s : State),
      s.named code = some i ∧ 4 < which.toNat :=
  ⟨7#8, 5#8, 0, withCar (inRace .running) (car .racing), by decide⟩

theorem witness_WaiveRemovesOnePenalty_7 :
    ∃ (code which : Byte) (i : Slot) (s : State),
      s.named code = some i ∧ ((which.toNat ≤ 3 ∧ (s.entrant i).penalties.length ≤ which.toNat) ∨ (which = 4#8
          ∧ (s.entrant i).powerHold = none)) :=
  ⟨7#8, 4#8, 0, withCar (inRace .running) (car .racing), by decide⟩

theorem witness_ReadPassesAndDiscard_1 :
    ∃ (n : Byte) (_s : State),
      (1 ≤ n.toNat ∧ n.toNat ≤ 4) :=
  ⟨4#8, State.reset, by decide⟩

theorem witness_ReadPassesAndDiscard_2 :
    ∃ (n : Byte) (_s : State),
      (n.toNat = 0 ∨ 4 < n.toNat) :=
  ⟨5#8, State.reset, by decide⟩

theorem witness_ReadPassesAndDiscard_3 :
    ∃ (tag : Byte) (q : QueuedPass) (s : State),
      q ∈ s.resolver.queue ∧ q.tag = tag :=
  ⟨0#8, queued 0#8, withQueue State.reset 1, by decide⟩

theorem witness_ReadPassesAndDiscard_4 :
    ∃ (tag : Byte) (s : State),
      (∀ q ∈ s.resolver.queue, q.tag ≠ tag) :=
  ⟨1#8, withQueue State.reset 1, by decide⟩

theorem witness_AssignSettlesPass_1 :
    ∃ (tag code : Byte) (q : QueuedPass) (i : Slot) (s : State),
      s.queued tag = some q ∧ s.named code = some i ∧ (s.entrant i).state ∈ [EntrantState.vacant, .staged, .racing]
          ∧ assignTooOld (s.entrant i) q.pass = false ∧ (q.pass.kind ≠ .line ∨ q.pass.running = none
          ∨ ¬((s.entrant i).state = .racing ∧ (s.race.state = .running ∨ s.race.state = .finishing))) :=
  ⟨0#8, 7#8, queued 0#8, 0, withPass (withCar (inRace .countdown) (car .staged)) (queued 0#8), by decide⟩

theorem witness_AssignSettlesPass_2 :
    ∃ (tag code : Byte) (q : QueuedPass) (i : Slot) (a : RunTime) (o : LateOutcome) (s : State),
      s.queued tag = some q ∧ s.named code = some i ∧ (s.entrant i).state = .racing ∧ (s.race.state = .running
          ∨ s.race.state = .finishing) ∧ q.pass.kind = .line ∧ q.pass.running = some a
              ∧ judgeLate s.cfg.lapFloor (s.entrant i).latestCrossing (s.entrant i).prevCrossing a = o
              ∧ o ≠ .duplicate ∧ o ≠ .tooOld :=
  ⟨0#8, 7#8, { queued 0#8 with pass := { linePass with running := some 30000 } }, 0, 30000, .credit 15000,
    withPass (withCar (inRace .running) { car .racing with
        latestCrossing := some 15000 }) ({ queued 0#8 with pass := { linePass with running := some 30000 } }), by decide⟩

theorem witness_AssignSettlesPass_3 :
    ∃ (tag code : Byte) (q : QueuedPass) (i : Slot) (a p l u : RunTime) (s : State),
      s.queued tag = some q ∧ s.named code = some i ∧ (s.entrant i).state = .racing ∧ (s.race.state = .running
          ∨ s.race.state = .finishing) ∧ q.pass.kind = .line ∧ q.pass.running = some a
              ∧ (s.entrant i).prevCrossing = some p ∧ (s.entrant i).latestCrossing = some l
              ∧ (s.entrant i).latestPass = some u ∧ a < u ∧ p + s.cfg.lapFloor ≤ a ∧ a + s.cfg.lapFloor ≤ l
              ∧ (p < a ∧ a < l) :=
  ⟨0#8, 7#8, { queued 0#8 with pass := { linePass with running := some 30000 } }, 0, 30000, 15000, 45000, 30001,
    withPass (withCar (inRace .running) { car .racing with
        prevCrossing := some 15000, latestCrossing := some 45000, latestPass := some 30001 })
            ({ queued 0#8 with pass := { linePass with running := some 30000 } }), by decide⟩

theorem witness_AssignSettlesPass_4 :
    ∃ (tag _code : Byte) (s : State),
      (∀ q ∈ s.resolver.queue, q.tag ≠ tag) :=
  ⟨0#8, 7#8, State.reset, by decide⟩

theorem witness_AssignSettlesPass_5 :
    ∃ (tag code : Byte) (q : QueuedPass) (s : State),
      s.queued tag = some q ∧ s.named code = none :=
  ⟨0#8, 7#8, queued 0#8, withPass (State.reset) (queued 0#8), by decide⟩

theorem witness_AssignSettlesPass_6 :
    ∃ (tag code : Byte) (q : QueuedPass) (i : Slot) (s : State),
      s.queued tag = some q ∧ s.named code = some i
          ∧ (s.entrant i).state ∈ [EntrantState.finished, .retired, .excluded] :=
  ⟨0#8, 7#8, queued 0#8, 0, withPass (withCar (inRace .complete) (car .finished)) (queued 0#8), by decide⟩

theorem witness_AssignSettlesPass_7 :
    ∃ (tag code : Byte) (q : QueuedPass) (i : Slot) (s : State),
      s.queued tag = some q ∧ s.named code = some i ∧ (s.entrant i).state ∈ [EntrantState.staged, .racing]
          ∧ ((q.pass.running = none ∧ (s.entrant i).state = .racing) ∨ (q.pass.kind ≠ .line
          ∧ ∃ a ∈ q.pass.running.toList, ∃ u ∈ (s.entrant i).latestPass.toList, a < u)) :=
  ⟨0#8, 7#8, queued 0#8, 0, withPass (withCar (inRace .running) (car .racing)) (queued 0#8), by decide⟩

theorem witness_AssignSettlesPass_8 :
    ∃ (tag code : Byte) (q : QueuedPass) (i : Slot) (a : RunTime) (s : State),
      s.queued tag = some q ∧ s.named code = some i ∧ (s.entrant i).state = .racing ∧ (s.race.state = .running
          ∨ s.race.state = .finishing) ∧ q.pass.kind = .line ∧ q.pass.running = some a :=
  ⟨0#8, 7#8, { queued 0#8 with pass := { linePass with running := some 30000 } }, 0, 30000,
    withPass (withCar (inRace .running) { car .racing with
        latestCrossing := some 44999 }) ({ queued 0#8 with pass := { linePass with running := some 30000 } }), by decide⟩

theorem witness_StageAndStart_1 :
    ∃ (s : State),
      s.race.state = .setup ∧ s.testStart = none ∧ (∃ g : GateNo, (s.gate g).entry.kind = .line)
          ∧ (∀ g : GateNo, (s.gate g).entry.kind = .split → (s.gate g).entry.boundary.getD 0 < s.cfg.sectorCount) :=
  ⟨withGate State.reset lineGate, by decide⟩

theorem witness_StageAndStart_2 :
    ∃ (s : State),
      s.race.state = .setup ∧ s.testStart = none ∧ ((∀ g : GateNo, (s.gate g).entry.kind ≠ .line)
          ∨ (∃ g : GateNo, (s.gate g).entry.kind = .split ∧ s.cfg.sectorCount ≤ (s.gate g).entry.boundary.getD 0)) :=
  ⟨withGate State.reset { lineGate with entry := splitEntry }, by decide⟩

theorem witness_StageAndStart_3 :
    ∃ (s : State),
      (s.race.state ≠ .setup ∨ s.testStart.isSome = true) :=
  ⟨{ State.reset with testStart := some 0 }, by decide⟩

theorem witness_StageAndStart_4 :
    ∃ (delay : Word16) (s : State),
      s.race.state = .staging ∧ delay.toNat ≤ 5000 ∧ s.inputs.live.redHeld = false
          ∧ s.inputs.live.powerAbsent = false :=
  ⟨5000#16, inRace .staging, by decide⟩

theorem witness_StageAndStart_5 :
    ∃ (_delay : Word16) (s : State),
      s.race.state ≠ .staging :=
  ⟨0#16, State.reset, by decide⟩

theorem witness_StageAndStart_6 :
    ∃ (delay : Word16) (s : State),
      s.race.state = .staging ∧ 5000 < delay.toNat :=
  ⟨5001#16, inRace .staging, by decide⟩

theorem witness_StageAndStart_7 :
    ∃ (delay : Word16) (s : State),
      s.race.state = .staging ∧ delay.toNat ≤ 5000 ∧ (s.inputs.live.redHeld = true
          ∨ s.inputs.live.powerAbsent = true) :=
  ⟨5000#16, { inRace .staging with inputs.live.powerAbsent := true }, by decide⟩

theorem witness_CountdownStepsToGreen_1 :
    ∃ (c : Countdown) (s : State),
      s.race.state = .countdown ∧ s.race.countdown = some c ∧ 0 ≤ (s.race.raceClock - c.next).toInt
          ∧ c.phase = .lights ∧ c.reds < 5 :=
  ⟨reds 4 0 .lights,
    { inRace .countdown with race.countdown := some (reds 4 0 .lights), race.raceClock := 9 }, by decide⟩

theorem witness_CountdownStepsToGreen_2 :
    ∃ (c : Countdown) (s : State),
      s.race.state = .countdown ∧ s.race.countdown = some c ∧ 0 ≤ (s.race.raceClock - c.next).toInt
          ∧ c.phase = .lights ∧ 5 ≤ c.reds ∧ c.delay ≠ 0 :=
  ⟨reds 5 1 .lights,
    { inRace .countdown with race.countdown := some (reds 5 1 .lights), race.raceClock := 9 }, by decide⟩

theorem witness_CountdownStepsToGreen_3 :
    ∃ (c : Countdown) (s : State),
      s.race.state = .countdown ∧ s.race.countdown = some c ∧ 0 ≤ (s.race.raceClock - c.next).toInt
          ∧ (c.phase = .delay ∨ (5 ≤ c.reds ∧ c.delay = 0)) ∧ (∀ i : Slot, (s.entrant i).state = .staged →
          (s.entrant i).jumpStart = false) :=
  ⟨reds 5 0 .lights,
    { inRace .countdown with race.countdown := some (reds 5 0 .lights), race.raceClock := 9 }, by decide⟩

theorem witness_CountdownStepsToGreen_4 :
    ∃ (c : Countdown) (i : Slot) (l d : Nat) (s : State),
      s.race.state = .countdown ∧ s.race.countdown = some c ∧ 0 ≤ (s.race.raceClock - c.next).toInt
          ∧ c.phase = .delay ∧ (s.entrant i).state = .staged ∧ (s.entrant i).jumpStart = true
          ∧ s.callTable[0] = some (.powerHold l d) ∧ (s.entrant i).powerHold = none :=
  ⟨reds 5 1 .delay, 0, 50, 5,
    { withCar (inRace .countdown) { car .staged with jumpStart := true } with
        race.countdown := some (reds 5 1 .delay), race.raceClock := 9 }, by decide⟩

theorem witness_CountdownStepsToGreen_5 :
    ∃ (s : State),
      (s.race.state ≠ .countdown ∨ ∃ c ∈ s.race.countdown.toList, (s.race.raceClock - c.next).toInt < 0) :=
  ⟨{ inRace .countdown with race.countdown := some (reds 1 0 .lights), race.raceClock := 8 }, by decide⟩

theorem witness_YellowFlagAndZones_1 :
    ∃ (_on : Bool) (s : State),
      (s.race.state = .running ∨ s.race.state = .finishing) :=
  ⟨true, inRace .finishing, by decide⟩

theorem witness_YellowFlagAndZones_2 :
    ∃ (_value : Byte) (s : State),
      s.race.state ≠ .running ∧ s.race.state ≠ .finishing :=
  ⟨0#8, inRace .suspended, by decide⟩

theorem witness_YellowFlagAndZones_3 :
    ∃ (value : Byte) (s : State),
      (s.race.state = .running ∨ s.race.state = .finishing) ∧ 1 < value.toNat :=
  ⟨2#8, inRace .running, by decide⟩

theorem witness_YellowFlagAndZones_4 :
    ∃ (k : Fin 4) (_on : Bool) (s : State),
      (s.race.state = .running ∨ s.race.state = .finishing ∨ s.race.state = .suspended) ∧ k.val < s.cfg.sectorCount :=
  ⟨3, true, { inRace .suspended with cfg.sectorCount := 4 }, by decide⟩

theorem witness_YellowFlagAndZones_5 :
    ∃ (_sector _value : Byte) (s : State),
      s.race.state ≠ .running ∧ s.race.state ≠ .finishing ∧ s.race.state ≠ .suspended :=
  ⟨0#8, 1#8, inRace .complete, by decide⟩

theorem witness_YellowFlagAndZones_6 :
    ∃ (sector value : Byte) (s : State),
      (s.race.state = .running ∨ s.race.state = .finishing ∨ s.race.state = .suspended) ∧ (3 < sector.toNat
          ∨ s.cfg.sectorCount ≤ sector.toNat ∨ 1 < value.toNat) :=
  ⟨1#8, 1#8, inRace .running, by decide⟩

theorem witness_SuspensionCauses_1 :
    ∃ (back : ResumeTo) (s : State),
      s.race.state = back.race :=
  ⟨.finishing, inRace .finishing, by decide⟩

theorem witness_SuspensionCauses_2 :
    ∃ (back : ResumeTo) (r : RawTime) (s : State),
      s.race.state = back.race ∧ s.inputs.live.redHeld = false ∧ s.inputs.redSince = some r ∧ 200 ≤ s.since r :=
  ⟨.running, 0, departed (inRace .running) (fun l => { l with redSince := some 0 }), by decide⟩

theorem witness_SuspensionCauses_3 :
    ∃ (back : ResumeTo) (r : RawTime) (s : State),
      s.race.state = back.race ∧ s.inputs.live.powerAbsent = false ∧ s.inputs.powerSince = some r ∧ 200 ≤ s.since r :=
  ⟨.finishing, 0, departed (inRace .finishing) (fun l => { l with powerSince := some 0 }), by decide⟩

theorem witness_SuspensionCauses_4 :
    ∃ (back : ResumeTo) (h : RawTime) (s : State),
      s.race.state = back.race ∧ s.ceiling.holdStart = some h ∧ 10 * s.cfg.holdLimit ≤ s.since h :=
  ⟨.running, 0,
    { inRace .running with
        ceiling.paused := true, ceiling.holdStart := some 0, race.raceClock := 10000 }, by decide⟩

theorem witness_SuspensionCauses_5 :
    ∃ (s : State),
      s.race.state = .countdown :=
  ⟨inRace .countdown, by decide⟩

theorem witness_SuspensionCauses_6 :
    ∃ (r : RawTime) (s : State),
      s.race.state = .countdown ∧ s.inputs.live.redHeld = false ∧ s.inputs.redSince = some r ∧ 200 ≤ s.since r :=
  ⟨0, departed (inRace .countdown) (fun l => { l with redSince := some 0 }), by decide⟩

theorem witness_SuspensionCauses_7 :
    ∃ (r : RawTime) (s : State),
      s.race.state = .countdown ∧ s.inputs.live.powerAbsent = false ∧ s.inputs.powerSince = some r ∧ 200 ≤ s.since r :=
  ⟨0, departed (inRace .countdown) (fun l => { l with powerSince := some 0 }), by decide⟩

theorem witness_SuspensionCauses_8 :
    ∃ (h : RawTime) (s : State),
      s.race.state = .countdown ∧ s.ceiling.holdStart = some h ∧ 10 * s.cfg.holdLimit ≤ s.since h :=
  ⟨0,
    { inRace .countdown with
        ceiling.paused := true, ceiling.holdStart := some 0, race.raceClock := 10000 }, by decide⟩

theorem witness_SuspensionCauses_9 :
    ∃ (s : State),
      s.race.state ∈ [RaceState.setup, .staging, .suspended, .complete] :=
  ⟨inRace .suspended, by decide⟩

theorem witness_SuspensionCauses_10 :
    ∃ (r : RawTime) (s : State),
      s.race.state ∈ [RaceState.setup, .staging, .suspended, .complete] ∧ s.inputs.live.redHeld = false
          ∧ s.inputs.redSince = some r ∧ 200 ≤ s.since r :=
  ⟨0, departed (inRace .complete) (fun l => { l with redSince := some 0 }), by decide⟩

theorem witness_SuspensionCauses_11 :
    ∃ (r : RawTime) (s : State),
      s.race.state ∈ [RaceState.setup, .staging, .suspended, .complete] ∧ s.inputs.live.powerAbsent = false
          ∧ s.inputs.powerSince = some r ∧ 200 ≤ s.since r :=
  ⟨0, departed (inRace .staging) (fun l => { l with powerSince := some 0 }), by decide⟩

theorem witness_SuspensionCauses_12 :
    ∃ (s : State),
      (∀ h ∈ s.ceiling.holdStart.toList, s.since h < 10 * s.cfg.holdLimit) :=
  ⟨{ inRace .running with ceiling.paused := true, ceiling.holdStart := some 0, race.raceClock := 9999 }, fun h hh => by obtain rfl := List.mem_singleton.mp hh; decide⟩

theorem witness_SuspensionCauses_14 :
    ∃ (shows : Bool) (d : Option RawTime) (s : State),
      s.debounce s.inputs.live.redHeld shows s.inputs.redSince = .keeps d :=
  ⟨true, some 1, departed (inRace .running) (fun l => { l with redSince := some 1 }), by decide⟩

theorem witness_SuspensionCauses_15 :
    ∃ (shows : Bool) (d : Option RawTime) (s : State),
      s.debounce s.inputs.live.powerAbsent shows s.inputs.powerSince = .keeps d :=
  ⟨true, some 0, State.reset, by decide⟩

theorem witness_ResumeRestartsRace_1 :
    ∃ (_on : Bool) (back : ResumeTo) (b : RawTime) (s : State),
      s.race.state = .suspended ∧ s.race.resume = some back ∧ s.race.suspStart = some b
          ∧ s.inputs.live.redHeld = false ∧ s.inputs.live.powerAbsent = false ∧ (back = .running
          ∨ ∃ j : Slot, (s.entrant j).state = .racing) :=
  ⟨true, .finishing, 3,
    { withCar (inRace .suspended) (car .racing) with
        race.resume := some .finishing, race.suspStart := some 3 }, by decide⟩

theorem witness_ResumeRestartsRace_2 :
    ∃ (_on : Bool) (b : RawTime) (s : State),
      s.race.state = .suspended ∧ s.race.resume = some .finishing ∧ s.race.suspStart = some b
          ∧ s.inputs.live.redHeld = false ∧ s.inputs.live.powerAbsent = false
          ∧ (∀ j : Slot, (s.entrant j).state ≠ .racing) :=
  ⟨false, 3, { inRace .suspended with race.resume := some .finishing, race.suspStart := some 3 }, by decide⟩

theorem witness_ResumeRestartsRace_3 :
    ∃ (_value : Byte) (s : State),
      s.race.state ≠ .suspended :=
  ⟨0#8, inRace .running, by decide⟩

theorem witness_ResumeRestartsRace_4 :
    ∃ (value : Byte) (s : State),
      s.race.state = .suspended ∧ 1 < value.toNat :=
  ⟨2#8, inRace .suspended, by decide⟩

theorem witness_ResumeRestartsRace_5 :
    ∃ (value : Byte) (s : State),
      s.race.state = .suspended ∧ value.toNat ≤ 1 ∧ (s.inputs.live.redHeld = true ∨ s.inputs.live.powerAbsent = true) :=
  ⟨1#8, { inRace .suspended with inputs.live.redHeld := true }, by decide⟩

theorem witness_RaceEnds_1 :
    ∃ (s : State),
      s.race.state ∈ [RaceState.running, .finishing, .suspended] :=
  ⟨inRace .suspended, by decide⟩

theorem witness_RaceEnds_2 :
    ∃ (s : State),
      s.race.state ∈ [RaceState.setup, .staging, .countdown, .complete] :=
  ⟨inRace .countdown, by decide⟩

theorem witness_RaceEnds_3 :
    ∃ (s : State),
      (s.race.state = .running ∨ s.race.state = .finishing) ∧ 3600000000 ≤ s.race.runningClock :=
  ⟨{ inRace .running with race.runningClock := 3600000000 }, by decide⟩

theorem witness_RaceEnds_4 :
    ∃ (d : RunTime) (s : State),
      s.race.state = .finishing ∧ s.race.finishDeadline = some d ∧ d ≤ s.race.runningClock :=
  ⟨600000,
    { inRace .finishing with race.finishDeadline := some 600000, race.runningClock := 600000 }, by decide⟩

theorem witness_RaceEnds_5 :
    ∃ (s : State),
      s.cfg.timeTarget ≠ 0 ∧ s.race.state = .running ∧ s.cfg.timeTarget * 10000 ≤ s.race.runningClock
          ∧ (∃ j : Slot, (s.entrant j).state = .racing) :=
  ⟨{ withCar (inRace .running) (car .racing) with cfg.timeTarget := 1, race.runningClock := 10000 }, by decide⟩

theorem witness_RaceEnds_6 :
    ∃ (s : State),
      s.cfg.timeTarget ≠ 0 ∧ s.race.state = .running ∧ s.cfg.timeTarget * 10000 ≤ s.race.runningClock
          ∧ (∀ j : Slot, (s.entrant j).state ≠ .racing) :=
  ⟨{ inRace .running with cfg.timeTarget := 1, race.runningClock := 10000 }, by decide⟩

theorem witness_RaceEnds_7 :
    ∃ (s : State),
      (s.race.state ≠ .running ∨ s.cfg.timeTarget = 0 ∨ s.race.runningClock < s.cfg.timeTarget * 10000) :=
  ⟨{ inRace .running with cfg.timeTarget := 1, race.runningClock := 9999 }, by decide⟩

theorem witness_RaceEnds_8 :
    ∃ (s : State),
      (s.race.state ≠ .finishing ∨ ∃ d ∈ s.race.finishDeadline.toList, s.race.runningClock < d) :=
  ⟨{ inRace .finishing with race.finishDeadline := some 600000, race.runningClock := 599999 }, by decide⟩

theorem witness_RaceEnds_9 :
    ∃ (s : State),
      ((s.race.state ≠ .running ∧ s.race.state ≠ .finishing) ∨ s.race.runningClock < 3600000000) :=
  ⟨{ inRace .running with race.runningClock := 3599999999 }, by decide⟩

theorem witness_RaceEnds_10 :
    ∃ (i : Slot) (now l : RunTime) (s : State),
      (s.race.state = .running ∨ s.race.state = .finishing) ∧ (s.entrant i).latestCrossing = some l
          ∧ l + s.cfg.lapFloor ≤ now :=
  ⟨0, 15001, 1, withCar (inRace .running) { car .racing with latestCrossing := some 1 }, by decide⟩

theorem witness_RaceEnds_11 :
    ∃ (i : Slot) (_now : RunTime) (s : State),
      s.race.state = .running ∧ (s.cfg.lapTarget = 0 ∨ (s.entrant i).laps < s.cfg.lapTarget) :=
  ⟨0, 5, inRace .running, by decide⟩

theorem witness_RaceEnds_12 :
    ∃ (i : Slot) (_now : RunTime) (s : State),
      s.race.state = .running ∧ s.cfg.lapTarget ≠ 0 ∧ s.cfg.lapTarget ≤ (s.entrant i).laps
          ∧ (s.entrant i).state = .racing ∧ (∃ j : Slot, j ≠ i ∧ (s.entrant j).state = .racing) :=
  ⟨0, 5, twoRacing { inRace .running with cfg.lapTarget := 5 } 5, by decide⟩

theorem witness_RaceEnds_13 :
    ∃ (i : Slot) (_now : RunTime) (s : State),
      s.race.state = .finishing ∧ (s.entrant i).state = .racing ∧ (∃ j : Slot, j ≠ i ∧ (s.entrant j).state = .racing) :=
  ⟨0, 5, twoRacing (inRace .finishing) 0, by decide⟩

theorem witness_RaceEnds_14 :
    ∃ (i : Slot) (_now : RunTime) (s : State),
      (s.race.state = .finishing ∨ (s.race.state = .running ∧ s.cfg.lapTarget ≠ 0
          ∧ s.cfg.lapTarget ≤ (s.entrant i).laps)) ∧ (s.entrant i).state = .racing ∧ (∀ j : Slot, j ≠ i →
          (s.entrant j).state ≠ .racing) :=
  ⟨0, 5, withCar { inRace .running with cfg.lapTarget := 5 } { car .racing with laps := 5 }, by decide⟩

theorem witness_AttentionIsReadAndMasked_1 :
    ∃ (c : Cause) (s : State),
      s.raised c = true ∧ s.attention.mask.getLsbD (c.priority - 1) = true
          ∧ (∀ d ∈ allCauses, d.priority < c.priority →
          (s.raised d && s.attention.mask.getLsbD (d.priority - 1)) = false) :=
  ⟨.test,
    { State.reset with attention.test := true, attention.race := true, attention.mask := 0x100 }, by decide⟩

theorem witness_AttentionIsReadAndMasked_2 :
    ∃ (s : State),
      (∀ d ∈ allCauses, (s.raised d && s.attention.mask.getLsbD (d.priority - 1)) = false) :=
  ⟨{ State.reset with attention.race := true, attention.mask := 0x100 }, by decide⟩

theorem witness_LatchTakesEdgesAndAcknowledgement_3 :
    ∃ (n : StationNo) (r : RawTime) (s : State),
      s.inputs.live.pressed[n] = true ∧ s.inputs.pressedSince[n] = some r ∧ 200 ≤ s.since r :=
  ⟨5, 0,
    departed (State.reset) (fun l => { l with
        pressedSince := l.pressedSince.set 5 (some 0), live.pressed := l.live.pressed.set 5 true }), by decide⟩

theorem witness_LatchTakesEdgesAndAcknowledgement_4 :
    ∃ (r : RawTime) (s : State),
      s.inputs.live.redHeld = true ∧ s.inputs.redSince = some r ∧ 200 ≤ s.since r :=
  ⟨0, departed (State.reset) (fun l => { l with redSince := some 0, live.redHeld := true }), by decide⟩

theorem witness_LatchTakesEdgesAndAcknowledgement_5 :
    ∃ (r : RawTime) (s : State),
      s.inputs.live.powerAbsent = true ∧ s.inputs.powerSince = some r ∧ 200 ≤ s.since r :=
  ⟨0, departed (State.reset) (fun l => { l with powerSince := some 0, live.powerAbsent := true }), by decide⟩

theorem witness_LatchTakesEdgesAndAcknowledgement_6 :
    ∃ (r : RawTime) (s : State),
      s.inputs.blindSince = some r ∧ 200 ≤ s.since r :=
  ⟨0, departed (State.reset) (fun l => { l with blindSince := some 0 }), by decide⟩

theorem witness_StationPressActsAndCounts_1 :
    ∃ (n : StationNo) (r : RawTime) (s : State),
      s.inputs.live.pressed[n] = false ∧ s.inputs.pressedSince[n] = some r ∧ 200 ≤ s.since r
          ∧ s.race.state ≠ .running ∧ s.race.state ≠ .finishing :=
  ⟨2, 0, pressing (inRace .suspended), by decide⟩

theorem witness_StationPressActsAndCounts_2 :
    ∃ (n : StationNo) (r : RawTime) (s : State),
      s.inputs.live.pressed[n] = false ∧ s.inputs.pressedSince[n] = some r ∧ 200 ≤ s.since r
          ∧ (s.race.state = .running ∨ s.race.state = .finishing) ∧ s.cfg.callAction = .report
          ∧ (∀ j : Slot, (s.entrant j).state ≠ .vacant → (s.entrant j).station ≠ some n) :=
  ⟨2, 0, { pressing (inRace .running) with cfg.callAction := .report }, by decide⟩

theorem witness_StationPressActsAndCounts_3 :
    ∃ (n : StationNo) (i : Slot) (r : RawTime) (s : State),
      s.inputs.live.pressed[n] = false ∧ s.inputs.pressedSince[n] = some r ∧ 200 ≤ s.since r
          ∧ (s.race.state = .running ∨ s.race.state = .finishing) ∧ s.cfg.callAction = .report
          ∧ s.slotOfStation n = some i ∧ (s.entrant i).state = .racing ∧ (s.cfg.callLimit = 0
          ∨ (s.entrant i).callsUsed < s.cfg.callLimit ∨ s.callTable[4] = none) :=
  ⟨2, 0, 0,
    { pressing (withCar (inRace .running) { car .racing with callsUsed := 2 }) with
        cfg.callAction := .report }, by decide⟩

theorem witness_StationPressActsAndCounts_4 :
    ∃ (n : StationNo) (i : Slot) (r : RawTime) (s : State),
      s.inputs.live.pressed[n] = false ∧ s.inputs.pressedSince[n] = some r ∧ 200 ≤ s.since r
          ∧ (s.race.state = .running ∨ s.race.state = .finishing) ∧ s.cfg.callAction = .report
          ∧ s.slotOfStation n = some i ∧ (s.entrant i).state = .racing ∧ s.cfg.callLimit ≠ 0
          ∧ s.cfg.callLimit ≤ (s.entrant i).callsUsed ∧ s.callTable[4] = some .blackFlag :=
  ⟨2, 0, 0,
    { pressing (withCar (inRace .running) { car .racing with callsUsed := 3 }) with
        cfg.callAction := .report, callTable := s4BlackFlag }, by decide⟩

theorem witness_StationPressActsAndCounts_5 :
    ∃ (n : StationNo) (i : Slot) (r : RawTime) (s : State),
      s.inputs.live.pressed[n] = false ∧ s.inputs.pressedSince[n] = some r ∧ 200 ≤ s.since r
          ∧ (s.race.state = .running ∨ s.race.state = .finishing) ∧ s.cfg.callAction = .report
          ∧ s.slotOfStation n = some i ∧ (s.entrant i).state ≠ .racing :=
  ⟨2, 0, 0, { pressing (withCar (inRace .running) (car .retired)) with cfg.callAction := .report }, by decide⟩

theorem witness_StationPressActsAndCounts_6 :
    ∃ (n : StationNo) (r : RawTime) (s : State),
      s.inputs.live.pressed[n] = false ∧ s.inputs.pressedSince[n] = some r ∧ 200 ≤ s.since r
          ∧ (s.race.state = .running ∨ s.race.state = .finishing) ∧ s.cfg.callAction = .caution
          ∧ (∀ j : Slot, (s.entrant j).state = .racing → (s.entrant j).station ≠ some n) ∧ s.race.yellow = false :=
  ⟨2, 0, { pressing (withCar (inRace .running) (car .retired)) with cfg.callAction := .caution }, by decide⟩

theorem witness_StationPressActsAndCounts_7 :
    ∃ (n : StationNo) (back : ResumeTo) (r : RawTime) (s : State),
      s.inputs.live.pressed[n] = false ∧ s.inputs.pressedSince[n] = some r ∧ 200 ≤ s.since r
          ∧ s.race.state = back.race ∧ s.cfg.callAction = .suspend ∧ (∀ j : Slot, (s.entrant j).state = .racing →
          (s.entrant j).station ≠ some n) :=
  ⟨2, .running, 0, { pressing (inRace .running) with cfg.callAction := .suspend }, by decide⟩

theorem witness_StationPressActsAndCounts_8 :
    ∃ (n : StationNo) (down : Bool) (d : Option RawTime) (s : State),
      s.debounce s.inputs.live.pressed[n] down s.inputs.pressedSince[n] = .keeps d :=
  ⟨2, true, none,
    { State.reset with inputs.live.pressed := State.reset.inputs.live.pressed.set 2 true }, by decide⟩

theorem witness_StationPressActsAndCounts_9 :
    ∃ (n : StationNo) (r : RawTime) (s : State),
      s.inputs.live.pressed[n] = false ∧ s.inputs.pressedSince[n] = some r ∧ 200 ≤ s.since r
          ∧ (s.race.state = .running ∨ s.race.state = .finishing) ∧ s.cfg.callAction = .caution
          ∧ (∀ j : Slot, (s.entrant j).state = .racing → (s.entrant j).station ≠ some n) ∧ s.race.yellow = true :=
  ⟨2, 0,
    { pressing ({ inRace .running with race.yellow := true }) with cfg.callAction := .caution }, by decide⟩

theorem witness_StationPressActsAndCounts_10 :
    ∃ (n : StationNo) (i : Slot) (r : RawTime) (s : State),
      s.inputs.live.pressed[n] = false ∧ s.inputs.pressedSince[n] = some r ∧ 200 ≤ s.since r
          ∧ (s.race.state = .running ∨ s.race.state = .finishing) ∧ s.cfg.callAction = .report
          ∧ s.slotOfStation n = some i ∧ (s.entrant i).state = .racing ∧ (s.cfg.callLimit ≠ 0
          ∧ s.cfg.callLimit ≤ (s.entrant i).callsUsed) :=
  ⟨2, 0, 0,
    { pressing (withCar (inRace .running) { car .racing with callsUsed := 3 }) with
        cfg.callAction := .report }, by decide⟩

theorem witness_StationPressActsAndCounts_11 :
    ∃ (n : StationNo) (i : Slot) (r : RawTime) (s : State),
      s.inputs.live.pressed[n] = false ∧ s.inputs.pressedSince[n] = some r ∧ 200 ≤ s.since r
          ∧ (s.race.state = .running ∨ s.race.state = .finishing) ∧ s.cfg.callAction = .caution
          ∧ s.slotOfStation n = some i ∧ (s.entrant i).state = .racing :=
  ⟨2, 0, 0, { pressing (withCar (inRace .running) (car .racing)) with cfg.callAction := .caution }, by decide⟩

theorem witness_StationPressActsAndCounts_12 :
    ∃ (n : StationNo) (i : Slot) (r : RawTime) (s : State),
      s.inputs.live.pressed[n] = false ∧ s.inputs.pressedSince[n] = some r ∧ 200 ≤ s.since r
          ∧ (s.race.state = .running ∨ s.race.state = .finishing) ∧ s.cfg.callAction = .suspend
          ∧ s.slotOfStation n = some i ∧ (s.entrant i).state = .racing :=
  ⟨2, 0, 0, { pressing (withCar (inRace .running) (car .racing)) with cfg.callAction := .suspend }, by decide⟩

theorem witness_GateCellsMoveDecoders_1 :
    ∃ (g : GateNo) (lvl : Level) (s : State),
      (s.gate g).entry.kind ≠ .unused ∧ (s.gate g).fed = none ∧ ((s.gate g).decoder.waiting = false ∨ (lvl = .mark
          ∧ (s.gate g).line = .space)) ∧ (s.gate g).decoder.state = .hunt
          ∧ ((runAfter (s.gate g).decoder.run lvl).length < 16 ∨ lvl = .space) :=
  ⟨0, .mark, withGate State.reset { lineGate with decoder := Decoder.cleared true }, by decide⟩

theorem witness_GateCellsMoveDecoders_2 :
    ∃ (g : GateNo) (lvl : Level) (s : State),
      (s.gate g).entry.kind ≠ .unused ∧ (s.gate g).fed = none ∧ ((s.gate g).decoder.waiting = false ∨ (lvl = .mark
          ∧ (s.gate g).line = .space)) ∧ (s.gate g).decoder.state = .assemble ∧ (s.gate g).decoder.frame.length < 7
          ∧ ((runAfter (s.gate g).decoder.run lvl).length < 16 ∨ lvl = .space) :=
  ⟨0, .mark,
    withGate State.reset { lineGate with decoder := { listening with
        state := .assemble, frame := List.replicate 6 .space } }, by decide⟩

theorem witness_GateCellsMoveDecoders_3 :
    ∃ (g : GateNo) (lvl : Level) (s : State),
      (s.gate g).entry.kind ≠ .unused ∧ (s.gate g).fed = none ∧ ((s.gate g).decoder.waiting = false ∨ (lvl = .mark
          ∧ (s.gate g).line = .space)) ∧ (s.gate g).decoder.state = .blind
          ∧ ((runAfter (s.gate g).decoder.run lvl).length < 4 ∨ lvl = .mark) :=
  ⟨0, .space,
    withGate State.reset { lineGate with decoder := { listening with
        state := .blind, run := some { level := .space, length := 2 } } }, by decide⟩

theorem witness_GateCellsMoveDecoders_5 :
    ∃ (g : GateNo) (s : State),
      (s.gate g).entry.kind ≠ .unused ∧ (s.gate g).fed = none ∧ ((s.gate g).decoder.waiting = false
          ∨ (s.gate g).line = .space) ∧ (s.gate g).decoder.state ≠ .blind
              ∧ (s.gate g).decoder.run = some { level := .mark, length := 15 } ∧ (s.gate g).decoder.burst = none :=
  ⟨0,
    withGate State.reset { lineGate with decoder := { listening with
        run := some { level := .mark, length := 15 } } }, by decide⟩

theorem witness_GateCellsMoveDecoders_6 :
    ∃ (g : GateNo) (b : Tally) (s : State),
      (s.gate g).entry.kind ≠ .box ∧ (s.gate g).entry.kind ≠ .unused ∧ (s.gate g).fed = none
          ∧ ((s.gate g).decoder.waiting = false ∨ (s.gate g).line = .space) ∧ (s.gate g).decoder.state ≠ .blind
          ∧ (s.gate g).decoder.run = some { level := .mark, length := 15 } ∧ (s.gate g).decoder.burst = some b :=
  ⟨0, Tally.opened 0,
    withGate State.reset { lineGate with decoder := { listening with
        run := some { level := .mark, length := 15 }, burst := some (Tally.opened 0) } }, by decide⟩

theorem witness_GateCellsMoveDecoders_7 :
    ∃ (g : GateNo) (s : State),
      (s.gate g).entry.kind ≠ .unused ∧ (s.gate g).fed = none ∧ (s.gate g).decoder.waiting = false
          ∧ (s.gate g).decoder.state = .blind ∧ (s.gate g).decoder.run = some { level := .space, length := 3 } :=
  ⟨0,
    withGate State.reset { lineGate with decoder := { listening with
        state := .blind, run := some { level := .space, length := 3 } } }, by decide⟩

theorem witness_GateCellsMoveDecoders_8 :
    ∃ (g : GateNo) (_lvl : Level) (s : State),
      ((s.gate g).entry.kind = .unused ∨ (s.gate g).fed ≠ none) :=
  ⟨0, .mark, withGate State.reset { lineGate with entry := GateEntry.unused }, by decide⟩

theorem witness_GateCellsMoveDecoders_9 :
    ∃ (g : GateNo) (lvl : Level) (s : State),
      ((s.gate g).entry.kind = .unused ∨ (s.gate g).fed ≠ none ∨ ((s.gate g).decoder.waiting = true ∧ (lvl = .space
          ∨ (s.gate g).line = .mark))) :=
  ⟨0, .mark, withGate State.reset { lineGate with line := .mark, decoder := Decoder.cleared true }, by decide⟩

theorem witness_GateCellsMoveDecoders_11 :
    ∃ (g : GateNo) (lvl : Level) (n : Nat) (r : RawTime) (s : State),
      (s.gate g).fed = some n ∧ s.testStart = some r ∧ n < 5 * s.since r + 4 ∧ (s.gate g).entry.kind ≠ .unused
          ∧ (s.gate g).decoder.waiting = false ∧ generatorCell n = lvl ∧ (((s.gate g).decoder.state = .hunt
          ∧ ((runAfter (s.gate g).decoder.run lvl).length < 16 ∨ lvl = .space))
          ∨ ((s.gate g).decoder.state = .assemble ∧ (s.gate g).decoder.frame.length < 7
              ∧ ((runAfter (s.gate g).decoder.run lvl).length < 16 ∨ lvl = .space))
              ∨ ((s.gate g).decoder.state = .blind ∧ ((runAfter (s.gate g).decoder.run lvl).length < 4
                  ∨ lvl = .mark))) :=
  ⟨0, .mark, 4, 0,
    { withGate State.reset { lineGate with fed := some 4, decoder := { listening with
        state := .assemble, run := some { level := .mark, length := 14 } } } with testStart := some 0, race.raceClock := 1 }, by decide⟩

theorem witness_GateCellsMoveDecoders_12 :
    ∃ (g : GateNo) (b : Tally) (s : State),
      (s.gate g).entry.kind = .box ∧ (s.gate g).entry.kind ≠ .unused ∧ (s.gate g).fed = none
          ∧ ((s.gate g).decoder.waiting = false ∨ (s.gate g).line = .space) ∧ (s.gate g).decoder.state ≠ .blind
          ∧ (s.gate g).decoder.run = some { level := .mark, length := 15 } ∧ (s.gate g).decoder.burst = some b :=
  ⟨0, code5Tally 3,
    withGate State.reset { lineGate with entry := boxEntry, decoder := { listening with
        run := some { level := .mark, length := 15 }, burst := some (code5Tally 3) } }, by decide⟩

theorem witness_GateCellsMoveDecoders_13 :
    ∃ (g : GateNo) (n : Nat) (r : RawTime) (s : State),
      (s.gate g).fed = some n ∧ s.testStart = some r ∧ n < 5 * s.since r + 4 ∧ (s.gate g).entry.kind ≠ .unused
          ∧ (s.gate g).decoder.waiting = false ∧ generatorCell n = .mark ∧ (s.gate g).decoder.state ≠ .blind
          ∧ (s.gate g).decoder.run = some { level := .mark, length := 15 } ∧ (s.gate g).decoder.burst = none :=
  ⟨0, 0, 0,
    { withGate State.reset { lineGate with fed := some 0, decoder := { listening with
        run := some { level := .mark, length := 15 } } } with testStart := some 0, race.raceClock := 0 }, by decide⟩

theorem witness_GateCellsMoveDecoders_14 :
    ∃ (g : GateNo) (n : Nat) (r : RawTime) (s : State),
      (s.gate g).fed = some n ∧ s.testStart = some r ∧ n < 5 * s.since r + 4 ∧ (s.gate g).entry.kind ≠ .unused
          ∧ (s.gate g).decoder.waiting = false ∧ generatorCell n = .space ∧ (s.gate g).decoder.state = .blind
          ∧ (s.gate g).decoder.run = some { level := .space, length := 3 } :=
  ⟨0, 996, 0,
    { withGate State.reset { lineGate with fed := some 996, decoder := { listening with
        state := .blind, run := some { level := .space, length := 3 } } } with testStart := some 0, race.raceClock := 199 }, by decide⟩

theorem witness_GateCellsMoveDecoders_15 :
    ∃ (g : GateNo) (lvl : Level) (s : State),
      (∀ n ∈ (s.gate g).fed.toList, ∀ r ∈ s.testStart.toList, 5 * s.since r + 4 ≤ n ∨ generatorCell n ≠ lvl) :=
  ⟨0, .mark,
    { withGate State.reset { lineGate with fed := some 4 } with
        testStart := some 0, race.raceClock := 0 }, fun n hn r hr => by
    obtain rfl := List.mem_singleton.mp hn
    obtain rfl := List.mem_singleton.mp hr
    decide⟩

theorem witness_BeaconFramesJoinBursts_1 :
    ∃ (g : GateNo) (lvl : Level) (s : State),
      (s.gate g).entry.kind ≠ .unused ∧ (s.gate g).fed = none ∧ (s.gate g).decoder.waiting = false
          ∧ (s.gate g).decoder.state = .assemble ∧ (s.gate g).decoder.frame.length = 7
          ∧ ((runAfter (s.gate g).decoder.run lvl).length < 16 ∨ lvl = .space) ∧ (s.gate g).entry.kind ≠ .box :=
  ⟨0, .space,
    withGate State.reset { lineGate with decoder := { listening with
        state := .assemble, frame := code5Cells } }, by decide⟩

theorem witness_BeaconFramesJoinBursts_2 :
    ∃ (g : GateNo) (lvl : Level) (code : Nat) (b : Tally) (s : State),
      (s.gate g).entry.kind ≠ .unused ∧ (s.gate g).fed = none ∧ (s.gate g).decoder.waiting = false
          ∧ (s.gate g).decoder.state = .assemble ∧ (s.gate g).decoder.frame.length = 7
          ∧ ((runAfter (s.gate g).decoder.run lvl).length < 16 ∨ lvl = .space) ∧ (s.gate g).entry.kind = .box
          ∧ judgeFrame (s.gate g).decoder.frame lvl false = some code
          ∧ (((s.gate g).decoder.burst).getD (Tally.opened s.race.raceClock)).add
            (judgeFrame (s.gate g).decoder.frame lvl false) s.race.raceClock = b
          ∧ (∃ e ∈ b.entries, e.code = code ∧ e.arrived = false ∧ s.cfg.voteMinimum ≤ e.count) :=
  ⟨0, .space, 5, code5Tally 3,
    withGate State.reset { lineGate with entry := boxEntry, decoder := { listening with
        state := .assemble, frame := code5Cells, burst := some (code5Tally 2) } }, by decide⟩

theorem witness_BeaconFramesJoinBursts_3 :
    ∃ (g : GateNo) (lvl : Level) (n : Nat) (r : RawTime) (s : State),
      (s.gate g).fed = some n ∧ s.testStart = some r ∧ n < 5 * s.since r + 4 ∧ (s.gate g).entry.kind ≠ .unused
          ∧ (s.gate g).decoder.waiting = false ∧ generatorCell n = lvl ∧ (s.gate g).decoder.state = .assemble
          ∧ (s.gate g).decoder.frame.length = 7 ∧ ((runAfter (s.gate g).decoder.run lvl).length < 16
          ∨ lvl = .space) ∧ (s.gate g).entry.kind ≠ .box :=
  ⟨0, .mark, 10, 0,
    { withGate State.reset { lineGate with fed := some 10, decoder := { listening with
        state := .assemble, frame := List.replicate 7 .mark } } with testStart := some 0, race.raceClock := 2 }, by decide⟩

theorem witness_BeaconFramesJoinBursts_8 :
    ∃ (g : GateNo) (lvl : Level) (b : Tally) (s : State),
      (s.gate g).entry.kind ≠ .unused ∧ (s.gate g).fed = none ∧ (s.gate g).decoder.waiting = false
          ∧ (s.gate g).decoder.state = .assemble ∧ (s.gate g).decoder.frame.length = 7
          ∧ ((runAfter (s.gate g).decoder.run lvl).length < 16 ∨ lvl = .space) ∧ (s.gate g).entry.kind = .box
          ∧ (((s.gate g).decoder.burst).getD (Tally.opened s.race.raceClock)).add
            (judgeFrame (s.gate g).decoder.frame lvl false) s.race.raceClock = b
          ∧ (∀ code ∈ (judgeFrame (s.gate g).decoder.frame lvl false).toList, ∀ e ∈ b.entries, e.code = code → e.arrived = true ∨ e.count < s.cfg.voteMinimum) :=
  ⟨0, .mark, { code5Tally 3 with invalid := 1 },
    withGate State.reset { lineGate with entry := boxEntry, decoder := { listening with
        state := .assemble, frame := code5Cells, burst := some (code5Tally 3) } }, by decide⟩

theorem witness_BeaconFramesJoinBursts_9 :
    ∃ (g : GateNo) (lvl : Level) (n : Nat) (r : RawTime) (b : Tally) (s : State),
      (s.gate g).fed = some n ∧ s.testStart = some r ∧ n < 5 * s.since r + 4 ∧ (s.gate g).entry.kind ≠ .unused
          ∧ (s.gate g).decoder.waiting = false ∧ generatorCell n = lvl ∧ (s.gate g).decoder.state = .assemble
          ∧ (s.gate g).decoder.frame.length = 7 ∧ ((runAfter (s.gate g).decoder.run lvl).length < 16
          ∨ lvl = .space) ∧ (s.gate g).entry.kind = .box
              ∧ (((s.gate g).decoder.burst).getD { entries := [], invalid := 0, first := s.race.raceClock, last := s.race.raceClock, excess := false, dwell := false }).add (judgeFrame (s.gate g).decoder.frame lvl true) s.race.raceClock = b :=
  ⟨0, .space, 11, 0, { Tally.opened 2 with entries := [{ code := 63, count := 1, first := 2, last := 2, arrived := false }] },
    { withGate State.reset { lineGate with
        fed := some 11, entry := boxEntry, decoder := { listening with state := .assemble, frame := code63Cells } } with testStart := some 0, race.raceClock := 2 }, by decide⟩

theorem witness_BurstExpiriesCloseBursts_1 :
    ∃ (g : GateNo) (b : Tally) (s : State),
      (s.gate g).decoder.burst = some b ∧ s.cfg.burstGap ≤ s.since b.last ∧ (s.gate g).fed = none
          ∧ (s.gate g).entry.kind ≠ .box :=
  ⟨0, code5Tally 3,
    { withGate State.reset { lineGate with decoder := { listening with
        burst := some (code5Tally 3) } } with race.raceClock := 20 }, by decide⟩

theorem witness_BurstExpiriesCloseBursts_2 :
    ∃ (g : GateNo) (b : Tally) (s : State),
      (s.gate g).decoder.burst = some b ∧ s.cfg.burstGap ≤ s.since b.last ∧ (s.gate g).fed = none
          ∧ (s.gate g).entry.kind = .box :=
  ⟨0, code5Tally 3,
    { withGate State.reset { lineGate with entry := boxEntry, decoder := { listening with
        burst := some (code5Tally 3) } } with race.raceClock := 20 }, by decide⟩

theorem witness_BurstExpiriesCloseBursts_3 :
    ∃ (g : GateNo) (b : Tally) (s : State),
      (s.gate g).decoder.burst = some b ∧ s.cfg.dwellLimit ≤ s.since b.first ∧ (s.gate g).fed = none
          ∧ (s.gate g).entry.kind ≠ .box :=
  ⟨0, code5Tally 3,
    { withGate State.reset { lineGate with decoder := { listening with
        burst := some (code5Tally 3) } } with race.raceClock := 2000 }, by decide⟩

theorem witness_BurstExpiriesCloseBursts_4 :
    ∃ (g : GateNo) (b : Tally) (c : Instr) (s : State),
      ((c = .burstGapExpiry g ∧ s.cfg.burstGap ≤ s.since b.last) ∨ (c = .burstDwellExpiry g
          ∧ s.cfg.dwellLimit ≤ s.since b.first ∧ (s.gate g).entry.kind ≠ .box)) ∧ (s.gate g).decoder.burst = some b
          ∧ (s.gate g).fed.isSome = true :=
  ⟨0, code5Tally 3, .burstDwellExpiry 0,
    { withGate State.reset { lineGate with fed := some 0, decoder := { listening with
        burst := some (code5Tally 3) } } with race.raceClock := 2000 }, by decide⟩

theorem witness_VoteFormsTimesAndRoutesPasses_1 :
    ∃ (_g : GateNo) (b : Tally) (s : State),
      (∃ e ∈ b.entries, s.cfg.voteMinimum ≤ e.count) :=
  ⟨0, code5Tally 3, State.reset, by decide⟩

theorem witness_VoteFormsTimesAndRoutesPasses_2 :
    ∃ (_g : GateNo) (b : Tally) (s : State),
      (∀ e ∈ b.entries, e.count < s.cfg.voteMinimum) :=
  ⟨0, code5Tally 2, State.reset, by decide⟩

theorem witness_VoteFormsTimesAndRoutesPasses_8 :
    ∃ (_p : Pass) (s : State),
      s.resolver.queue.length ≤ 16 :=
  ⟨linePass, withQueue State.reset 16, by decide⟩

theorem witness_VoteFormsTimesAndRoutesPasses_11 :
    ∃ (_p : Pass) (i : Slot) (s : State),
      treatment (s.entrant i).state s.race.state = .untouched :=
  ⟨linePass, 0, withCar (inRace .running) (car .retired), by decide⟩

theorem witness_VoteFormsTimesAndRoutesPasses_12 :
    ∃ (_p : Pass) (i : Slot) (s : State),
      treatment (s.entrant i).state s.race.state = .position :=
  ⟨linePass, 0, withCar (inRace .countdown) (car .staged), by decide⟩

theorem witness_VoteFormsTimesAndRoutesPasses_13 :
    ∃ (_p : Pass) (i : Slot) (tr : Treatment) (s : State),
      treatment (s.entrant i).state s.race.state = tr ∧ (tr = .held ∨ tr = .full) :=
  ⟨linePass, 0, .held, withCar (inRace .suspended) (car .racing), by decide⟩

theorem witness_VoteFormsTimesAndRoutesPasses_14 :
    ∃ (_arrival : Bool) (i : Slot) (_now : Option RunTime) (tr : Treatment) (s : State),
      treatment (s.entrant i).state s.race.state = tr :=
  ⟨true, 0, some 5, .full, withCar (inRace .running) (car .racing), by decide⟩

theorem witness_ClaimWaitsAndHoldsExpire_1 :
    ∃ (tag : Byte) (e : QueuedPass) (s : State),
      s.queued tag = some e ∧ e.expired = false ∧ s.cfg.claimWait * 10000 ≤ s.since e.entered :=
  ⟨0#8, queued 0#8, { withPass (State.reset) (queued 0#8) with race.raceClock := 50000 }, by decide⟩

theorem witness_ClaimWaitsAndHoldsExpire_2 :
    ∃ (tag : Byte) (s : State),
      (∀ q ∈ s.resolver.queue, q.tag = tag → q.expired = true ∨ s.since q.entered < s.cfg.claimWait * 10000) :=
  ⟨0#8, { withPass (State.reset) (queued 0#8) with race.raceClock := 49999 }, by decide⟩

theorem witness_ClaimWaitsAndHoldsExpire_3 :
    ∃ (i : Slot) (p : PitPenalty) (h : RunTime) (s : State),
      (s.race.state = .running ∨ s.race.state = .finishing) ∧ (s.entrant i).state ≠ .vacant
          ∧ (s.entrant i).penalties = [p] ∧ (p.kind = .stopGo ∧ p.state = .serving)
          ∧ (s.entrant i).holdTimer = some h ∧ h ≤ s.race.runningClock :=
  ⟨0, stopGo .serving, 9,
    { withCar (inRace .running) { car .racing with
        penalties := [stopGo .serving], holdTimer := some 9 } with race.runningClock := 9 }, by decide⟩

theorem witness_ClaimWaitsAndHoldsExpire_4 :
    ∃ (i : Slot) (p q : PitPenalty) (rest : List PitPenalty) (h : RunTime) (s : State),
      (s.race.state = .running ∨ s.race.state = .finishing) ∧ (s.entrant i).state ≠ .vacant
          ∧ (s.entrant i).penalties = p :: q :: rest ∧ (p.kind = .stopGo ∧ p.state = .serving) ∧ q.state = .pending
          ∧ (s.entrant i).holdTimer = some h ∧ h ≤ s.race.runningClock :=
  ⟨0, stopGo .serving, stopGo .pending, [], 9,
    { withCar (inRace .running) { car .racing with
        penalties := [stopGo .serving, stopGo .pending], holdTimer := some 9 } with race.runningClock := 9 }, by decide⟩

theorem witness_ClaimWaitsAndHoldsExpire_5 :
    ∃ (i : Slot) (h : PowerHold) (s : State),
      (s.race.state = .running ∨ s.race.state = .finishing) ∧ (s.entrant i).state ≠ .vacant
          ∧ (s.entrant i).powerHold = some h ∧ h.expiry ≤ s.race.runningClock :=
  ⟨0, { level := 50, expiry := 9 },
    { withCar (inRace .running) { car .racing with
        powerHold := some { level := 50, expiry := 9 } } with race.runningClock := 9 }, by decide⟩

theorem witness_ClaimWaitsAndHoldsExpire_6 :
    ∃ (i : Slot) (s : State),
      ((s.race.state ≠ .running ∧ s.race.state ≠ .finishing)
          ∨ ((∀ h ∈ (s.entrant i).holdTimer.toList, s.race.runningClock < h)
              ∧ (∀ h ∈ (s.entrant i).powerHold.toList, s.race.runningClock < h.expiry))) :=
  ⟨0,
    { withCar (inRace .running) { car .racing with
        holdTimer := some 9, powerHold := some { level := 50, expiry := 9 } } with race.runningClock := 8 }, by decide⟩

theorem witness_ClaimWaitsAndHoldsExpire_7 :
    ∃ (i : Slot) (p : PitPenalty) (rest : List PitPenalty) (_now : RunTime) (s : State),
      (s.entrant i).penalties = p :: rest :=
  ⟨0, stopGo .active, [], 5,
    withCar (inRace .running) { car .racing with penalties := [stopGo .active] }, by decide⟩

theorem witness_ClaimWaitsAndHoldsExpire_8 :
    ∃ (i : Slot) (_now : RunTime) (s : State),
      (s.entrant i).penalties = [] :=
  ⟨0, 5, State.reset, by decide⟩

theorem witness_ClaimWaitsAndHoldsExpire_9 :
    ∃ (_i : Slot) (tr : Treatment) (_now : RunTime) (_s : State),
      (tr = .held ∨ tr = .full) :=
  ⟨0, .held, 5, State.reset, by decide⟩

theorem witness_ClaimWaitsAndHoldsExpire_10 :
    ∃ (i : Slot) (tr : Treatment) (p : PitPenalty) (rest : List PitPenalty) (_now : RunTime) (s : State),
      (tr = .held ∨ tr = .full) ∧ (s.entrant i).state ≠ .vacant ∧ (s.entrant i).penalties = p :: rest
          ∧ (p.kind = .stopGo ∧ p.state = .active) :=
  ⟨0, .full, stopGo .active, [], 5,
    withCar (inRace .running) { car .racing with penalties := [stopGo .active] }, by decide⟩

theorem witness_ClaimWaitsAndHoldsExpire_11 :
    ∃ (i : Slot) (tr : Treatment) (p : PitPenalty) (rest : List PitPenalty) (s : State),
      (tr = .held ∨ tr = .full) ∧ (s.entrant i).state ≠ .vacant ∧ (s.entrant i).penalties = p :: rest
          ∧ (p.kind = .stopGo ∧ p.state = .serving) ∧ (s.entrant i).pitStatus = .box :=
  ⟨0, .full, stopGo .serving, [],
    withCar (inRace .running) { car .racing with
        penalties := [stopGo .serving], pitStatus := .box, holdTimer := some 9 }, by decide⟩

theorem witness_SightingDeadlinesMakeOverdue_1 :
    ∃ (i : Slot) (d : RunTime) (s : State),
      (s.race.state = .running ∨ s.race.state = .finishing) ∧ (s.entrant i).state = .racing
          ∧ (s.entrant i).deadline = some d ∧ d ≤ s.race.runningClock ∧ s.cfg.autoLocalCaution = false :=
  ⟨0, 9,
    { withCar (inRace .running) { car .racing with deadline := some 9 } with
        race.runningClock := 9, cfg.autoLocalCaution := false }, by decide⟩

theorem witness_SightingDeadlinesMakeOverdue_2 :
    ∃ (i : Slot) (d : RunTime) (k : Fin 4) (s : State),
      (s.race.state = .running ∨ s.race.state = .finishing) ∧ (s.entrant i).state = .racing
          ∧ (s.entrant i).deadline = some d ∧ d ≤ s.race.runningClock ∧ s.cfg.autoLocalCaution = true
          ∧ (s.entrant i).sector = k.val :=
  ⟨0, 9, 3,
    { withCar (inRace .running) { car .racing with deadline := some 9, sector := 3 } with
        race.runningClock := 9 }, by decide⟩

theorem witness_SightingDeadlinesMakeOverdue_3 :
    ∃ (i : Slot) (s : State),
      ((s.race.state ≠ .running ∧ s.race.state ≠ .finishing) ∨ (s.entrant i).state ≠ .racing
          ∨ (∀ d ∈ (s.entrant i).deadline.toList, s.race.runningClock < d)) :=
  ⟨0,
    { withCar (inRace .running) { car .racing with deadline := some 9 } with race.runningClock := 8 }, by decide⟩

theorem witness_SightingDeadlinesMakeOverdue_4 :
    ∃ (i : Slot) (s : State),
      (s.entrant i).overdue = false :=
  ⟨0, withCar (inRace .running) (car .racing), by decide⟩

theorem witness_SightingDeadlinesMakeOverdue_5 :
    ∃ (i : Slot) (s : State),
      (s.entrant i).overdue = true :=
  ⟨0, withCar (inRace .running) { car .racing with overdue := true }, by decide⟩

theorem witness_CeilingFramesCarryMarkedCeilings_1 :
    ∃ (i : Slot) (code : Nat) (s : State),
      s.ceiling.sender = none ∧ s.ceiling.paused = false ∧ (s.entrant i).code = some code
          ∧ ((s.dirtyOf i = .lowered ∧ ∀ j : Slot, j < i → s.dirtyOf j ≠ .lowered) ∨ (s.dirtyOf i = .raised
          ∧ (∀ j : Slot, s.dirtyOf j ≠ .lowered) ∧ ∀ j : Slot, j < i → s.dirtyOf j ≠ .raised)) :=
  ⟨0, 7, (withCar (inRace .running) (car .racing)).setDirty 0 .lowered, by decide⟩

theorem witness_CeilingFramesCarryMarkedCeilings_2 :
    ∃ (s : State),
      (s.ceiling.sender.isSome = true ∨ ∀ j : Slot, s.dirtyOf j = .clean) :=
  ⟨State.reset, by decide⟩

theorem witness_CeilingFramesCarryMarkedCeilings_3 :
    ∃ (f : Sending) (s : State),
      s.ceiling.sender = some f ∧ 10 ≤ s.since f.since :=
  ⟨frame7, { State.reset with ceiling.sender := some frame7, race.raceClock := 10 }, by decide⟩

theorem witness_CeilingFramesCarryMarkedCeilings_4 :
    ∃ (s : State),
      (s.ceiling.sender = none ∨ ∃ f ∈ s.ceiling.sender.toList, s.since f.since < 10) :=
  ⟨{ State.reset with ceiling.sender := some frame7, race.raceClock := 9 }, by decide⟩

theorem witness_CeilingFramesCarryMarkedCeilings_5 :
    ∃ (s : State),
      0 ≤ (s.race.raceClock - s.ceiling.nextRefresh).toInt :=
  ⟨{ State.reset with race.raceClock := 2500 }, by decide⟩

theorem witness_CeilingFramesCarryMarkedCeilings_6 :
    ∃ (s : State),
      (s.race.raceClock - s.ceiling.nextRefresh).toInt < 0 :=
  ⟨{ State.reset with race.raceClock := 2499 }, by decide⟩

theorem witness_PauseBytesHoldTheSender_1 :
    ∃ (s : State),
      s.ceiling.paused = false :=
  ⟨State.reset, by decide⟩

theorem witness_PauseBytesHoldTheSender_2 :
    ∃ (s : State),
      s.ceiling.paused = true :=
  ⟨{ State.reset with ceiling.paused := true }, by decide⟩

theorem witness_PauseBytesHoldTheSender_3 :
    ∃ (b : Byte) (s : State),
      b ≠ 0x13#8 ∧ s.ceiling.paused = true :=
  ⟨0x12#8, { State.reset with ceiling.paused := true }, by decide⟩

theorem witness_PauseBytesHoldTheSender_4 :
    ∃ (b : Byte) (s : State),
      b ≠ 0x13#8 ∧ s.ceiling.paused = false :=
  ⟨0x14#8, State.reset, by decide⟩

theorem witness_PauseBytesHoldTheSender_6 :
    ∃ (f : Sending) (s : State),
      s.ceiling.paused = true ∧ s.ceiling.sender = some f ∧ 10 ≤ s.since f.since :=
  ⟨frame7,
    { State.reset with ceiling.paused := true, ceiling.sender := some frame7, race.raceClock := 10 }, by decide⟩

theorem witness_EffectiveCeilingIsLowestLimit_3 :
    ∃ (i : Slot) (s : State),
      (s.entrant i).state ≠ .vacant :=
  ⟨0, withCar (inRace .running) (car .racing), by decide⟩

theorem witness_CrossingsLaunchAndCreditLaps_1 :
    ∃ (i : Slot) (_now : RunTime) (s : State),
      (s.entrant i).latestCrossing = none ∧ (s.entrant i).state ≠ .vacant :=
  ⟨0, 5, withCar (inRace .running) (car .racing), by decide⟩

theorem witness_CrossingsLaunchAndCreditLaps_2 :
    ∃ (i : Slot) (now l : RunTime) (s : State),
      (s.entrant i).latestCrossing = some l ∧ now < l + s.cfg.lapFloor :=
  ⟨0, 15000, 1, withCar (inRace .running) { car .racing with latestCrossing := some 1 }, by decide⟩

theorem witness_CrossingsLaunchAndCreditLaps_3 :
    ∃ (i : Slot) (now l : RunTime) (s : State),
      (s.entrant i).latestCrossing = some l ∧ l + s.cfg.lapFloor ≤ now ∧ (s.entrant i).state ≠ .vacant
          ∧ (s.entrant i).penalties = [] ∧ s.race.state = .running ∧ (s.cfg.lapTarget = 0
          ∨ min 9999 ((s.entrant i).laps + 1) < s.cfg.lapTarget) :=
  ⟨0, 15001, 1, withCar (inRace .running) { car .racing with latestCrossing := some 1 }, by decide⟩

theorem witness_CrossingsLaunchAndCreditLaps_4 :
    ∃ (n : Nat) (_i : Slot) (_now : RunTime) (s : State),
      s.highMark < n :=
  ⟨1, 0, 5, State.reset, by decide⟩

theorem witness_CrossingsLaunchAndCreditLaps_5 :
    ∃ (i : Slot) (_b : Nat) (_now : RunTime) (s : State),
      (s.entrant i).state ≠ .vacant :=
  ⟨0, 1, 5, withCar (inRace .running) (car .racing), by decide⟩

theorem witness_CrossingsLaunchAndCreditLaps_6 :
    ∃ (i : Slot) (now l : RunTime) (s : State),
      (s.entrant i).latestCrossing = some l ∧ l + s.cfg.lapFloor ≤ now :=
  ⟨0, 15001, 1, withCar (inRace .running) { car .racing with latestCrossing := some 1 }, by decide⟩

theorem witness_CrossingsLaunchAndCreditLaps_7 :
    ∃ (i : Slot) (_now l : RunTime) (_assigned : Bool) (n : Nat) (s : State),
      (s.entrant i).state ≠ .vacant ∧ (s.entrant i).latestCrossing = some l ∧ min 9999 ((s.entrant i).laps + 1) = n :=
  ⟨0, 15001, 1, true, 9999,
    withCar (inRace .running) { car .racing with
        laps := 9999, latestCrossing := some 1, penalties := [driveThrough .active 1] }, by decide⟩

theorem witness_PitPassesServePenalties_1 :
    ∃ (i : Slot) (p : PitPenalty) (rest : List PitPenalty) (s : State),
      (s.entrant i).penalties = p :: rest ∧ (s.entrant i).state ≠ .vacant :=
  ⟨0, stopGo .serving, [],
    withCar (inRace .running) { car .racing with penalties := [stopGo .serving] }, by decide⟩

theorem witness_PitPassesServePenalties_2 :
    ∃ (i : Slot) (s : State),
      (s.entrant i).penalties = [] :=
  ⟨0, State.reset, by decide⟩

theorem witness_PitPassesServePenalties_3 :
    ∃ (i : Slot) (p : PitPenalty) (s : State),
      (s.entrant i).penalties = [p] ∧ p.kind = .driveThrough ∧ (p.state = .active ∨ p.state = .serving) :=
  ⟨0, driveThrough .active 3,
    withCar (inRace .running) { car .racing with penalties := [driveThrough .active 3] }, by decide⟩

theorem witness_PitPassesServePenalties_4 :
    ∃ (i : Slot) (p q : PitPenalty) (rest : List PitPenalty) (s : State),
      (s.entrant i).penalties = p :: q :: rest ∧ p.kind = .driveThrough ∧ (p.state = .active ∨ p.state = .serving)
          ∧ q.state = .pending ∧ (s.entrant i).pitStatus = .track :=
  ⟨0, driveThrough .serving 3, stopGo .pending, [],
    withCar (inRace .running) { car .racing with
        penalties := [driveThrough .serving 3, stopGo .pending] }, by decide⟩

theorem witness_MissedPenaltiesEscalate_1 :
    ∃ (i : Slot) (p : PitPenalty) (rest : List PitPenalty) (r : Nat) (s : State),
      (s.entrant i).penalties = p :: rest ∧ p.state = .active ∧ p.remaining = some r :=
  ⟨0, driveThrough .active 2, [], 2,
    withCar (inRace .running) { car .racing with penalties := [driveThrough .active 2] }, by decide⟩

theorem witness_MissedPenaltiesEscalate_2 :
    ∃ (i : Slot) (p : PitPenalty) (rest : List PitPenalty) (r : Nat) (s : State),
      (s.entrant i).penalties = p :: rest ∧ p.kind = .driveThrough ∧ p.state = .serving ∧ p.remaining = some r
          ∧ 1 < r ∧ (s.entrant i).pitStatus = .track :=
  ⟨0, driveThrough .serving 2, [], 2,
    withCar (inRace .running) { car .racing with penalties := [driveThrough .serving 2] }, by decide⟩

theorem witness_MissedPenaltiesEscalate_3 :
    ∃ (i : Slot) (p : PitPenalty) (s : State),
      (s.entrant i).penalties = [p] ∧ p.kind = .driveThrough ∧ p.state = .active ∧ p.remaining = some 1
          ∧ s.callTable[5] = none :=
  ⟨0, driveThrough .active 1,
    { withCar (inRace .running) { car .racing with penalties := [driveThrough .active 1] } with
        callTable := Vector.replicate 7 none }, by decide⟩

theorem witness_MissedPenaltiesEscalate_4 :
    ∃ (i : Slot) (p q : PitPenalty) (rest : List PitPenalty) (s : State),
      (s.entrant i).penalties = p :: q :: rest ∧ p.kind = .driveThrough ∧ p.state = .active ∧ p.remaining = some 1
          ∧ q.state = .pending ∧ (s.entrant i).pitStatus ≠ .box ∧ s.callTable[5] = none :=
  ⟨0, driveThrough .active 1, stopGo .pending, [],
    { withCar (inRace .running) { car .racing with
        penalties := [driveThrough .active 1, stopGo .pending] } with callTable := Vector.replicate 7 none }, by decide⟩

theorem witness_MissedPenaltiesEscalate_5 :
    ∃ (i : Slot) (p : PitPenalty) (rest : List PitPenalty) (h d v : Nat) (s : State),
      (s.entrant i).penalties = p :: rest ∧ p.kind = .driveThrough ∧ p.state = .active ∧ p.remaining = some 1
          ∧ (s.entrant i).pitStatus ≠ .box ∧ (s.entrant i).state = .racing ∧ s.callTable[5] = some (.stopGo h d v) :=
  ⟨0, driveThrough .active 1, [stopGo .pending], 10, 3, 1,
    withCar (inRace .running) { car .racing with
        penalties := [driveThrough .active 1, stopGo .pending] }, by decide⟩

theorem witness_MissedPenaltiesEscalate_6 :
    ∃ (i : Slot) (s : State),
      (s.entrant i).penalties = [] :=
  ⟨0, withCar (inRace .running) (car .racing), by decide⟩

theorem witness_MissedPenaltiesEscalate_7 :
    ∃ (i : Slot) (cls : CallClass) (s : State),
      ((s.entrant i).state ≠ .racing ∨ s.rulingFor cls = none) :=
  ⟨0, .manual, withCar (inRace .running) (car .racing), by decide⟩

theorem witness_MissedPenaltiesEscalate_8 :
    ∃ (i : Slot) (cls : CallClass) (s : State),
      (s.entrant i).state = .racing ∧ s.rulingFor cls = some .blackFlag :=
  ⟨0, .laneFault,
    { withCar (inRace .running) (car .racing) with
        callTable := defaultCallTable.set 3 (some .blackFlag) }, by decide⟩

theorem witness_MissedPenaltiesEscalate_9 :
    ∃ (i : Slot) (cls : CallClass) (l d : Nat) (s : State),
      (s.entrant i).state = .racing ∧ s.rulingFor cls = some (.powerHold l d) :=
  ⟨0, .jumpStart, 90, 60,
    { withCar (inRace .running) (car .racing) with
        callTable := defaultCallTable.set 0 (some (.powerHold 90 60)) }, by decide⟩

theorem witness_MissedPenaltiesEscalate_10 :
    ∃ (i : Slot) (cls : CallClass) (n : Nat) (s : State),
      (s.entrant i).state = .racing ∧ s.rulingFor cls = some (.lapDeduction n) :=
  ⟨0, .pitSpeeding, 9,
    { withCar (inRace .running) (car .racing) with
        callTable := defaultCallTable.set 1 (some (.lapDeduction 9)) }, by decide⟩

theorem witness_MissedPenaltiesEscalate_11 :
    ∃ (i : Slot) (cls : CallClass) (k : PenaltyKind) (h d v : Nat) (s : State),
      (s.entrant i).state = .racing ∧ s.rulingFor cls = some (if k =
          .stopGo then .stopGo h d v else .driveThrough d v) ∧ (cls ∈ [CallClass.missedDriveThrough, .missedStopGo]
              ∨ (s.entrant i).penalties = []) :=
  ⟨0, .missedStopGo, .stopGo, 60, 15, 9,
    { withCar (inRace .running) { car .racing with penalties := [stopGo .pending] } with
        callTable := defaultCallTable.set 6 (some (.stopGo 60 15 9)) }, by decide⟩

theorem witness_MissedPenaltiesEscalate_12 :
    ∃ (i : Slot) (cls : CallClass) (k : PenaltyKind) (h d v : Nat) (s : State),
      (s.entrant i).state = .racing ∧ s.rulingFor cls = some (if k =
          .stopGo then .stopGo h d v else .driveThrough d v) ∧ cls ∉ [CallClass.missedDriveThrough, .missedStopGo]
              ∧ (s.entrant i).penalties ≠ [] ∧ (∀ p ∈ (s.entrant i).penalties.take 1, p.state ≠ .pending) :=
  ⟨0, .callLimit, .driveThrough, 0, 3, 1,
    { withCar (inRace .running) { car .racing with penalties := [stopGo .active] } with
        callTable := defaultCallTable.set 4 (some (.driveThrough 3 1)) }, by decide⟩

theorem witness_MissedPenaltiesEscalate_13 :
    ∃ (i : Slot) (p : PitPenalty) (rest : List PitPenalty) (cls : CallClass) (s : State),
      (s.entrant i).penalties = p :: rest ∧ p.state = .active ∧ (p.remaining = some 1 ∨ p.remaining = some 0)
          ∧ cls = (if p.kind = .driveThrough then CallClass.missedDriveThrough else .missedStopGo) :=
  ⟨0, driveThrough .active 1, [], .missedDriveThrough,
    withCar (inRace .running) { car .racing with penalties := [driveThrough .active 1] }, by decide⟩

theorem witness_MissedPenaltiesEscalate_15 :
    ∃ (i : Slot) (p : PitPenalty) (rest : List PitPenalty) (h d v : Nat) (s : State),
      (s.entrant i).penalties = p :: rest ∧ p.kind = .stopGo ∧ p.state = .active ∧ p.remaining = some 1
          ∧ (s.entrant i).pitStatus ≠ .box ∧ (s.entrant i).state = .racing ∧ s.callTable[6] = some (.stopGo h d v) :=
  ⟨0, stopGoLast, [], 10, 3, 1,
    { withCar (inRace .running) { car .racing with penalties := [stopGoLast] } with
        callTable := defaultCallTable.set 6 (some (.stopGo 10 3 1)) }, by decide⟩

theorem witness_MissedPenaltiesEscalate_16 :
    ∃ (i : Slot) (p : PitPenalty) (s : State),
      (s.entrant i).penalties = [p] ∧ p.kind = .stopGo ∧ p.state = .active ∧ p.remaining = some 1
          ∧ (s.entrant i).state = .racing ∧ s.callTable[6] = some .blackFlag :=
  ⟨0, stopGoLast,
    { withCar (inRace .running) { car .racing with penalties := [stopGoLast] } with
        callTable := defaultCallTable.set 6 (some .blackFlag) }, by decide⟩

theorem witness_PassesMoveLaneAndPitStatus_1 :
    ∃ (_tr : Treatment) (i : Slot) (p : Pass) (s : State),
      (s.entrant i).state ≠ .vacant ∧ (s.entrant i).pitStatus = .track ∧ ((p.kind = .line ∧ p.lane ≠ some 6)
          ∨ p.kind = .split ∨ p.kind = .switch) :=
  ⟨.full, 0, linePass, withCar (inRace .running) (car .racing), by decide⟩

theorem witness_PassesMoveLaneAndPitStatus_2 :
    ∃ (_tr : Treatment) (i : Slot) (p : Pass) (s : State),
      (s.entrant i).state ≠ .vacant ∧ (s.entrant i).pitStatus = .pitLane ∧ ((p.kind = .line ∧ p.lane ≠ some 6)
          ∨ p.kind = .split ∨ p.kind = .switch) :=
  ⟨.held, 0, linePass, withCar (inRace .running) { car .racing with pitStatus := .pitLane }, by decide⟩

theorem witness_PassesMoveLaneAndPitStatus_3 :
    ∃ (_tr : Treatment) (i : Slot) (p : Pass) (s : State),
      (s.entrant i).state ≠ .vacant ∧ (s.entrant i).penalties = [] ∧ p.kind = .pitIn :=
  ⟨.full, 0, { linePass with kind := .pitIn, lane := some 6 },
    withCar (inRace .running) { car .racing with pitStatus := .box }, by decide⟩

theorem witness_PassesMoveLaneAndPitStatus_4 :
    ∃ (_tr : Treatment) (i : Slot) (p : Pass) (s : State),
      (s.entrant i).state ≠ .vacant ∧ ((p.kind = .line ∧ p.lane = some 6) ∨ p.kind = .box) :=
  ⟨.full, 0, { linePass with lane := some 6 }, withCar (inRace .running) (car .racing), by decide⟩

theorem witness_PassesMoveLaneAndPitStatus_5 :
    ∃ (_tr : Treatment) (i : Slot) (p : Pass) (s : State),
      (s.entrant i).state ≠ .vacant ∧ (s.entrant i).penalties = [] ∧ (s.entrant i).pitStatus ≠ .box
          ∧ p.kind = .pitOut :=
  ⟨.full, 0, { linePass with kind := .pitOut, lane := some 6 },
    withCar (inRace .running) (car .racing), by decide⟩

theorem witness_PassesMoveLaneAndPitStatus_6 :
    ∃ (tr : Treatment) (i : Slot) (_now : Option RunTime) (s : State),
      (s.entrant i).state ≠ .vacant ∧ ((s.entrant i).penalties = [] ∨ tr = .position) :=
  ⟨.held, 0, some 5, withCar (inRace .running) { car .racing with pitStatus := .box }, by decide⟩

theorem witness_PassesMoveLaneAndPitStatus_7 :
    ∃ (_tr : Treatment) (i : Slot) (p : Pass) (s : State),
      (s.entrant i).state ≠ .vacant ∧ p.kind = .pitIn :=
  ⟨.held, 0, { linePass with kind := .pitIn, lane := some 6 },
    withCar (inRace .running) { car .racing with penalties := [driveThrough .active 3] }, by decide⟩

theorem witness_PassesMoveLaneAndPitStatus_8 :
    ∃ (tr : Treatment) (i : Slot) (p : Pass) (w s : State),
      (s.entrant i).state ≠ .vacant ∧ s.leaveBox tr i = w ∧ p.kind = .pitOut :=
  ⟨.full, 0, { linePass with kind := .pitOut, lane := some 6 }, boxedCar.leaveBox .full 0,
    boxedCar, by decide, rfl, rfl⟩

theorem witness_PassesMoveLaneAndPitStatus_9 :
    ∃ (tr : Treatment) (i : Slot) (p : Pass) (w s : State),
      (s.entrant i).state ≠ .vacant ∧ s.leaveBox tr i = w ∧ (s.entrant i).pitStatus ≠ .track ∧ ((p.kind = .line
          ∧ p.lane ≠ some 6) ∨ p.kind = .split ∨ p.kind = .switch) :=
  ⟨.full, 0, linePass, boxedCar.leaveBox .full 0, boxedCar, by decide, rfl, by decide, by decide⟩

theorem witness_PassesMoveLaneAndPitStatus_10 :
    ∃ (_tr : Treatment) (i : Slot) (now : Option RunTime) (w s : State),
      (s.entrant i).state ≠ .vacant
          ∧ State.recompute { s with
            entrants := s.entrants.set i.val { s.entrant i with
              lane := some 6, pitStatus := .box, boxArrival := now, boxVisited := true,
              pitEntry := if (s.entrant i).pitStatus = .track then none else (s.entrant i).pitEntry } } i = w :=
  ⟨.full, 0, some 5, _,
    withCar (inRace .running) { car .racing with penalties := [stopGo .active] }, by decide, rfl⟩

theorem witness_PassesMoveLaneAndPitStatus_11 :
    ∃ (_tr : Treatment) (i : Slot) (w s : State),
      (s.entrant i).state ≠ .vacant
          ∧ State.recompute { s with
            entrants := s.entrants.set i.val { s.entrant i with
              pitStatus := .pitLane } } i = w :=
  ⟨.held, 0, _, boxedCar, by decide, rfl⟩

end Sys2Proof.Tests
end

section
/-! SUPPORT. The rules the gates' statements share: how a command ends, the gate array replaced, what box reports do
with it, and how a burst closes. -/

namespace Sys2Proof.Machine

/-! ### How a command ends -/

/-- A command that ends in `u` leaves `u` with its pins brought to what it gives. -/
theorem State.next_of_done {c : Instr} {s u : State} (h : exec c s = u.done) :
    ∃ t, exec c s = .next t ∧ t = { u with pins := t.pinsNow } := ⟨u.settle, h, rfl⟩

/-- A command that ends where it began changes nothing. -/
theorem State.unmovedBy_of_done {c : Instr} {s : State} (h : exec c s = s.done) : s.unmovedBy c := State.next_of_done h

/-- A request answered by a refusal is refused. -/
theorem State.refuses_of_answered {c : Instr} {s : State} {st : Status} (h : exec c s = answered (s.refuse st)) :
    s.refuses c st := ⟨(respond (s.refuse st)).settle, h, rfl⟩

/-! ### The gate array replaced -/

/-- The state with another gate array. -/
def State.withGates (s : State) (G : Vector Gate 24) : State := { s with gates := G }

@[simp] theorem State.withGates_self (s : State) : s.withGates s.gates = s := rfl

@[simp] theorem State.withGates_gates (s : State) (G : Vector Gate 24) : (s.withGates G).gates = G := rfl

@[simp] theorem State.withGates_withGates (s : State) (G H : Vector Gate 24) :
    (s.withGates G).withGates H = s.withGates H := rfl

@[simp] theorem State.withGates_entrant (s : State) (G : Vector Gate 24) (i : Slot) :
    (s.withGates G).entrant i = s.entrant i := rfl

@[simp] theorem State.withGates_gate (s : State) (G : Vector Gate 24) (g : GateNo) :
    (s.withGates G).gate g = G[g.val] := rfl

theorem State.modGate_eq_withGates (s : State) (g : GateNo) (f : Gate → Gate) :
    s.modGate g f = s.withGates (s.gates.set g.val (f (s.gate g))) := rfl

theorem State.modDecoder_eq_withGates (s : State) (g : GateNo) (f : Decoder → Decoder) :
    s.modDecoder g f = s.withGates (s.gates.set g.val { s.gate g with decoder := f (s.gate g).decoder }) := rfl

/-! ### Box reports do not look at the gate array

A report reads its own gate's entry and nothing else of the gates, so it can be carried out on another array. -/

@[simp] theorem State.withGates_modEntrant (s : State) (G : Vector Gate 24) (i : Slot) (f : Entrant → Entrant) :
    (s.withGates G).modEntrant i f = (s.modEntrant i f).withGates G := rfl

@[simp] theorem State.withGates_recompute (s : State) (G : Vector Gate 24) (i : Slot) :
    (s.withGates G).recompute i = (s.recompute i).withGates G := by
  by_cases h : (s.entrant i).state = .vacant
  · simp [State.recompute, h]
  · simp only [State.recompute, State.withGates_entrant, h, if_false]; rfl

/-- Work on the slots that is indifferent to the gate array, slot by slot, is so as a whole. -/
theorem foldl_withGates {α : Type} (f : State → α → State) (G : Vector Gate 24)
    (h : ∀ s a, f (s.withGates G) a = (f s a).withGates G) (l : List α) (s : State) :
    l.foldl f (s.withGates G) = (l.foldl f s).withGates G := by
  induction l generalizing s with
  | nil => rfl
  | cons a l ih => simp only [List.foldl_cons, h, ih]

@[simp] theorem State.withGates_recomputeAll (s : State) (G : Vector Gate 24) :
    (s.withGates G).recomputeAll = s.recomputeAll.withGates G :=
  foldl_withGates _ G (fun s i => s.withGates_recompute G i) _ s

@[simp] theorem State.withGates_notice (s : State) (G : Vector Gate 24) (p : Entrant → Bool) :
    (s.withGates G).notice p = (s.notice p).withGates G := by
  refine foldl_withGates _ G (fun s i => ?_) _ s
  by_cases h : ((s.entrant i).state == .racing && p (s.entrant i)) = true <;> simp [h]

@[simp] theorem State.withGates_modSector (s : State) (G : Vector Gate 24) (k : Nat)
    (f : SectorCaution → SectorCaution) : (s.withGates G).modSector k f = (s.modSector k f).withGates G := by
  have hrace : (s.withGates G).race = s.race := rfl
  unfold State.modSector
  rw [hrace]
  cases s.race.caution[k]? <;> rfl

@[simp] theorem State.withGates_localCaution (s : State) (G : Vector Gate 24) (k : Nat) :
    (s.withGates G).localCaution k = s.localCaution k := rfl

@[simp] theorem State.withGates_changeSector (s : State) (G : Vector Gate 24) (k : Nat)
    (f : SectorCaution → SectorCaution) : (s.withGates G).changeSector k f = (s.changeSector k f).withGates G := by
  simp only [State.changeSector, State.withGates_modSector, State.withGates_localCaution, State.withGates_notice]
  split
  · rfl
  · split <;> rw [State.withGates_recomputeAll]

@[simp] theorem State.withGates_dropHolder (s : State) (G : Vector Gate 24) (i : Slot) :
    (s.withGates G).dropHolder i = (s.dropHolder i).withGates G :=
  foldl_withGates (fun s k => s.changeSector k fun z => { z with holders := z.holders.filter (· != i) }) G
    (fun s k => s.withGates_changeSector G k _) _ s

@[simp] theorem State.withGates_release (s : State) (G : Vector Gate 24) (i : Slot) :
    (s.withGates G).release i = (s.release i).withGates G := by
  cases h : (s.entrant i).overdue <;> simp [State.release, h]

@[simp] theorem State.withGates_noteSeen (s : State) (G : Vector Gate 24) (i : Slot) (t : Option RunTime) :
    (s.withGates G).noteSeen i t = (s.noteSeen i t).withGates G := by
  cases t <;> rfl

@[simp] theorem State.withGates_moveDeadline (s : State) (G : Vector Gate 24) (i : Slot) (t : Option RunTime) :
    (s.withGates G).moveDeadline i t = (s.moveDeadline i t).withGates G := by
  have hcfg : (s.withGates G).cfg = s.cfg := rfl
  simp only [State.moveDeadline, State.withGates_entrant, hcfg, State.withGates_modEntrant]
  split
  · rfl
  · cases t with
    | none => rfl
    | some t => dsimp only; split <;> rfl

@[simp] theorem State.withGates_setPitStatus (s : State) (G : Vector Gate 24) (i : Slot) (p : PitStatus) :
    (s.withGates G).setPitStatus i p = (s.setPitStatus i p).withGates G := by
  simp [State.setPitStatus]

@[simp] theorem State.withGates_serveHead (s : State) (G : Vector Gate 24) (i : Slot) (p : PitPenalty)
    (rest : List PitPenalty) (t : RunTime) :
    (s.withGates G).serveHead i p rest t = (s.serveHead i p rest t).withGates G := by
  simp [State.serveHead, State.setPenalties, State.setHoldTimer]

@[simp] theorem State.withGates_unserveHead (s : State) (G : Vector Gate 24) (i : Slot) (p : PitPenalty)
    (rest : List PitPenalty) : (s.withGates G).unserveHead i p rest = (s.unserveHead i p rest).withGates G := by
  simp [State.unserveHead, State.setPenalties, State.setHoldTimer]

@[simp] theorem State.withGates_penaltyBoxArrival (s : State) (G : Vector Gate 24) (i : Slot) (t : RunTime) :
    (s.withGates G).penaltyBoxArrival i t = (s.penaltyBoxArrival i t).withGates G := by
  simp only [State.penaltyBoxArrival, State.withGates_entrant, State.withGates_serveHead]
  cases (s.entrant i).penalties with
  | nil => rfl
  | cons p rest => dsimp only; split <;> rfl

@[simp] theorem State.withGates_penaltyBoxDeparture (s : State) (G : Vector Gate 24) (i : Slot) :
    (s.withGates G).penaltyBoxDeparture i = (s.penaltyBoxDeparture i).withGates G := by
  simp only [State.penaltyBoxDeparture, State.withGates_entrant, State.withGates_unserveHead]
  cases (s.entrant i).penalties with
  | nil => rfl
  | cons p rest => dsimp only; split <;> rfl

@[simp] theorem State.withGates_arriveInBox (s : State) (G : Vector Gate 24) (tr : Treatment) (i : Slot)
    (t : Option RunTime) : (s.withGates G).arriveInBox tr i t = (s.arriveInBox tr i t).withGates G := by
  simp only [State.arriveInBox, State.withGates_modEntrant, State.withGates_setPitStatus]
  cases tr.scored <;> cases t <;> simp

@[simp] theorem State.withGates_leaveBox (s : State) (G : Vector Gate 24) (tr : Treatment) (i : Slot) :
    (s.withGates G).leaveBox tr i = (s.leaveBox tr i).withGates G := by
  simp only [State.leaveBox, State.withGates_entrant, State.withGates_setPitStatus, State.withGates_penaltyBoxDeparture]
  split
  · split <;> rfl
  · rfl

@[simp] theorem State.withGates_deliverBox (s : State) (G : Vector Gate 24) (arrival : Bool) (i : Slot)
    (t : Option RunTime) : (s.withGates G).deliverBox arrival i t = (s.deliverBox arrival i t).withGates G := by
  have hrace : (s.withGates G).race = s.race := rfl
  simp only [State.deliverBox, State.withGates_entrant, hrace]
  cases treatment (s.entrant i).state s.race.state <;> cases arrival <;> simp

/-- A box report on another gate array in which its gate has the same entry (R30). -/
theorem State.withGates_boxReport (s : State) (G : Vector Gate 24) (arrival : Bool) (g : GateNo) (code : Nat)
    (time : RawTime) (hG : G[g.val].entry = (s.gate g).entry) :
    (s.withGates G).boxReport arrival g code time = (s.boxReport arrival g code time).withGates G := by
  have hslot : (s.withGates G).slotOfCode code = s.slotOfCode code := rfl
  have hrun : ∀ p, (s.withGates G).runningOf p = s.runningOf p := fun _ => rfl
  simp only [State.boxReport, hslot, hrun, State.withGates_gate, hG]
  cases s.slotOfCode code <;> simp

/-- The same for the report a gate makes, which also asks whether the gate is under test (R21). -/
theorem State.withGates_reportBox (s : State) (G : Vector Gate 24) (arrival : Bool) (g : GateNo) (code : Nat)
    (time : RawTime) (hG : G[g.val].entry = (s.gate g).entry) (hfed : G[g.val].fed = (s.gate g).fed) :
    (s.withGates G).reportBox arrival g code time = (s.reportBox arrival g code time).withGates G := by
  cases h : (s.gate g).fed <;>
    simp [State.reportBox, Gate.underTest, hfed, h, s.withGates_boxReport G _ _ _ _ hG]

/-- The departures of a burst on another gate array in which its gate has the same entry and the same feed (R19). -/
theorem State.withGates_departures (s : State) (G : Vector Gate 24) (g : GateNo) (b : Tally)
    (hG : G[g.val].entry = (s.gate g).entry) (hfed : G[g.val].fed = (s.gate g).fed) :
    (s.withGates G).departures g b = (s.departures g b).withGates G := by
  unfold State.departures
  induction b.entries.filter (·.arrived) generalizing s with
  | nil => rfl
  | cons e l ih =>
    simp only [List.foldl_cons, s.withGates_reportBox G _ _ _ _ hG hfed]
    exact ih _ (by simpa using hG) (by simpa using hfed)

/-! ### The departures of a burst -/

/-- The departure reports of a burst's arrived codes, in the order of its entries, as the resolver takes them (R19). -/
def State.boxDepartures (s : State) (g : GateNo) (b : Tally) : State :=
  (b.entries.filter fun e => e.arrived).foldl (fun u e => u.boxReport false g e.code b.last) s

/-- At a gate on its line every departure report reaches the resolver (R19, R21). -/
theorem State.departures_of_onLine (s : State) (g : GateNo) (b : Tally) (h : (s.gate g).fed = none) :
    s.departures g b = s.boxDepartures g b := by
  unfold State.departures State.boxDepartures
  induction b.entries.filter (·.arrived) generalizing s with
  | nil => rfl
  | cons e l ih =>
    have hline : s.reportBox false g e.code b.last = s.boxReport false g e.code b.last := by
      simp [State.reportBox, Gate.underTest, h]
    simp only [List.foldl_cons, hline]
    exact ih _ (by simpa using h)

/-! ### How a burst closes -/

theorem State.closeOpen_of_some {s : State} {g : GateNo} {b : Tally} (h : (s.gate g).decoder.burst = some b) :
    s.closeOpen g = s.closeBurst g b := by simp [State.closeOpen, h]

theorem State.closeOpen_of_none {s : State} {g : GateNo} (h : (s.gate g).decoder.burst = none) :
    s.closeOpen g = s := by simp [State.closeOpen, h]

/-- At a gate on its line that is no Box gate the tally alone goes to the resolver (R17). -/
theorem State.closeBurst_notBox {s : State} {g : GateNo} (b : Tally) (hfed : (s.gate g).fed = none)
    (hkind : (s.gate g).entry.kind ≠ .box) :
    s.closeBurst g b = (s.modDecoder g fun d => { d with burst := none }).takeTally g b := by
  simp [State.closeBurst, Gate.underTest, hfed, hkind]

/-- At a Box gate on its line the departures go to the resolver before the tally (R17, R19). -/
theorem State.closeBurst_box {s : State} {g : GateNo} (b : Tally) (hfed : (s.gate g).fed = none)
    (hkind : (s.gate g).entry.kind = .box) :
    s.closeBurst g b
      = ((s.modDecoder g fun d => { d with burst := none }).boxDepartures g b).takeTally g b := by
  have hline : ((s.modDecoder g fun d => { d with burst := none }).gate g).fed = none := by
    simp [State.gate_modDecoder, hfed]
  simp [State.closeBurst, Gate.underTest, hfed, hkind, State.departures_of_onLine _ g b hline]

/-- A burst counts for the self-test just where some entry for code 63 reached the vote minimum (R21). -/
theorem State.countsForTest_iff (s : State) (b : Tally) :
    s.countsForTest b = true ↔ ∃ e ∈ b.entries, e.code = 63 ∧ s.cfg.voteMinimum ≤ e.count := by
  simp [State.countsForTest]

/-- Under test no tally is handed on: the burst is examined and counted (R21). -/
theorem State.closeBurst_underTest {s : State} {g : GateNo} (b : Tally) (hfed : (s.gate g).fed.isSome = true) :
    s.closeBurst g b = s.withGates (s.gates.set g.val { s.gate g with
      decoder := { (s.gate g).decoder with burst := none }
      counted := (s.gate g).counted
        + if ∃ e ∈ b.entries, e.code = 63 ∧ s.cfg.voteMinimum ≤ e.count then 1 else 0 }) := by
  by_cases h : ∃ e ∈ b.entries, e.code = 63 ∧ s.cfg.voteMinimum ≤ e.count
  · simp [State.closeBurst, Gate.underTest, hfed, (s.countsForTest_iff b).mpr h, h, State.modGate_eq_withGates,
      State.gate_modDecoder]
    simp [State.modDecoder_eq_withGates]
  · have hc : s.countsForTest b = false := by simpa using mt (s.countsForTest_iff b).mp h
    simp [State.closeBurst, Gate.underTest, hfed, hc, h, State.modDecoder_eq_withGates]

end Sys2Proof.Machine
end

section
/-! SUPPORT. Chapter 1, sections 1.4 and 1.5: the expiries that close a burst. -/

namespace Sys2Proof.Machine

theorem exec_burstGapExpiry_due {s : State} {g : GateNo} {b : Tally} (hb : (s.gate g).decoder.burst = some b)
    (hdue : s.cfg.burstGap ≤ s.since b.last) : exec (.burstGapExpiry g) s = (s.closeBurst g b).done := by
  have h : s.gapDue g = true := by simp [State.gapDue, hb, hdue]
  show (if s.gapDue g then (s.closeOpen g).done else s.done) = _
  simp [h, State.closeOpen_of_some hb]

theorem exec_burstGapExpiry_notDue {s : State} {g : GateNo} (h : s.gapDue g = false) :
    exec (.burstGapExpiry g) s = s.done := by
  show (if s.gapDue g then (s.closeOpen g).done else s.done) = _
  simp [h]

theorem exec_burstDwellExpiry_due {s : State} {g : GateNo} {b : Tally} (hb : (s.gate g).decoder.burst = some b)
    (hdue : s.cfg.dwellLimit ≤ s.since b.first) (hkind : (s.gate g).entry.kind ≠ .box) :
    exec (.burstDwellExpiry g) s = (s.closeBurst g { b with dwell := true }).done := by
  have h : s.dwellDue g = true := by simp [State.dwellDue, hb, hdue, hkind]
  show execBurstDwellExpiry g s = _
  simp [execBurstDwellExpiry, hb, h]

theorem exec_burstDwellExpiry_notDue {s : State} {g : GateNo} (h : s.dwellDue g = false) :
    exec (.burstDwellExpiry g) s = s.done := by
  show execBurstDwellExpiry g s = _
  cases hb : (s.gate g).decoder.burst <;> simp [execBurstDwellExpiry, hb, h]

/-- Settles O50: by whether the expiry is due, and whether the gate is a Box gate, another gate on its line, or under
test. -/
theorem burstExpiriesCloseBursts : Obligations.BurstExpiriesCloseBursts := by
  refine ⟨?gapOther, ?gapBox, ?dwell, ?underTest, ?notDue⟩
  case gapOther =>
    intro g b s hb hdue hfed hkind
    rw [exec_burstGapExpiry_due hb hdue, State.closeBurst_notBox b hfed hkind]
    exact ⟨_, rfl, rfl⟩
  case gapBox =>
    intro g b s hb hdue hfed hkind
    rw [exec_burstGapExpiry_due hb hdue, State.closeBurst_box b hfed hkind]
    exact ⟨_, rfl, rfl⟩
  case dwell =>
    intro g b s hb hdue hfed hkind
    rw [exec_burstDwellExpiry_due hb hdue hkind, State.closeBurst_notBox _ hfed hkind]
    exact ⟨_, rfl, rfl⟩
  case underTest =>
    rintro g b c s (⟨rfl, hdue⟩ | ⟨rfl, hdue, hkind⟩) hb hfed
    · rw [exec_burstGapExpiry_due hb hdue, State.closeBurst_underTest b hfed]
      exact ⟨_, rfl, rfl⟩
    · rw [exec_burstDwellExpiry_due hb hdue hkind, State.closeBurst_underTest _ hfed]
      exact ⟨_, rfl, rfl⟩
  case notDue =>
    intro g s
    have gap (h : s.gapDue g = false) : s.unmovedBy (.burstGapExpiry g) :=
      State.unmovedBy_of_done (exec_burstGapExpiry_notDue h)
    have dwell (h : s.dwellDue g = false) : s.unmovedBy (.burstDwellExpiry g) :=
      State.unmovedBy_of_done (exec_burstDwellExpiry_notDue h)
    refine ⟨fun hb => ⟨gap ?_, dwell ?_⟩, fun hkind => dwell ?_, fun b hb => ?_⟩
    · simp [State.gapDue, hb]
    · simp [State.dwellDue, hb]
    · cases hb : (s.gate g).decoder.burst <;> simp [State.dwellDue, hb, hkind]
    · rw [Option.mem_toList] at hb
      exact ⟨fun h => gap (by simp [State.gapDue, hb, h]), fun h => dwell (by simp [State.dwellDue, hb, h])⟩

end Sys2Proof.Machine
end

section
/-! SUPPORT. The power-on resets (R183). -/

namespace Sys2Proof.Machine

/-- With every cause masked ATN calls for none (R172, R175). -/
theorem State.calling_of_masked {s : State} (h : s.attention.mask = 0) : s.calling = [] := by
  simp [State.calling, Attention.enabled, h]

/-- In Setup with the POWER setting off, no flag, every cause masked and no response, every output is released (R122,
R123, R175, R178). -/
theorem State.pinsNow_atReset {s : State} (hrace : s.race = Sequencer.atReset) (hatt : s.attention = Attention.atReset)
    (htx : s.link.tx = .idle) : s.pinsNow = Pins.atReset := by
  have hcall : s.calling = [] := State.calling_of_masked (by rw [hatt]; rfl)
  have hreds : s.redsLit = 0 := by rw [State.redsLit, hrace]; rfl
  have hyellow : s.yellowCondition = false := by rw [State.yellowCondition, hrace]; decide
  have hpower : s.powerOut = false := by rw [State.powerOut, hrace]; rfl
  simp [State.pinsNow, Pins.atReset, hcall, hreds, hyellow, hpower, hrace, htx, Sequencer.atReset, RaceState.greenLit,
    TxState.driving]

/-- A gate after a power-on reset: Unused, its decoder afresh, on its line, with the level and the result it is given
(R2, R9, R22). -/
theorem State.powerOnReset_gate (s : State) (results : Vector TestResult 24) (straps : BitVec 5) (pins : PinLevels)
    (g : GateNo) : (s.powerOnReset results straps pins).settle.gate g = Gate.atReset results[g] pins.lines[g] := by
  simp [State.gate, State.powerOnReset, State.powerOn]

/-- A power-on reset leaves every block at its reset values. -/
theorem State.powerOnReset_poweredOn (s : State) (results : Vector TestResult 24) (straps : BitVec 5)
    (pins : PinLevels) : (s.powerOnReset results straps pins).settle.poweredOn := by
  have hgate := s.powerOnReset_gate results straps pins
  have hpins : (s.powerOnReset results straps pins).settle.pins = Pins.atReset :=
    State.pinsNow_atReset rfl rfl rfl
  have hentrant (i : Slot) : (s.powerOnReset results straps pins).settle.entrant i = Entrant.vacant := by
    simp [State.entrant, State.powerOnReset, State.powerOn]
  have hdirty (i : Slot) : (s.powerOnReset results straps pins).settle.dirtyOf i = .clean := by
    simp [State.dirtyOf, State.powerOnReset, State.powerOn, CeilingUnit.atReset]
  simp only [State.poweredOn, hgate, hpins, hentrant, hdirty]
  simp [State.powerOnReset, State.powerOn, Gate.atReset, GateEntry.unused, Decoder.fresh, Sequencer.atReset,
    SectorCaution.clear, Resolver.atReset, CeilingUnit.atReset, defaultConfig, ticksPerMs, InputLatch.atReset,
    InputLevels.shown, Attention.atReset, CommandLink.atReset, Pins.atReset]

/-- The result a reset by the pin or by RESET_PART leaves of a gate's test (R22). -/
theorem State.resultsAfterReset_get (s : State) (g : GateNo) :
    s.resultsAfterReset[g] = (match s.testStart, (s.gate g).result with
      | some _, .running => .aborted
      | some _, .skipped => .skipped
      | _, _ => .noTest) := by
  cases ht : s.testStart with
  | none => simp [State.resultsAfterReset, ht]
  | some t => cases hr : (s.gate g).result <;> simp [State.resultsAfterReset, ht, hr, TestResult.afterReset]

/-- Settles O18: each of the three commands is the power-on reset with the self-test results R22 leaves. -/
theorem powerOnResetsEveryBlock : Obligations.PowerOnResetsEveryBlock := by
  have reset (s : State) (results : Vector TestResult 24) (straps : BitVec 5) (pins : PinLevels) (g : GateNo) :
      ((s.powerOnReset results straps pins).settle.gate g).line = pins.lines[g]
        ∧ ((s.powerOnReset results straps pins).settle.gate g).result = results[g] := by
    rw [s.powerOnReset_gate]; exact ⟨rfl, rfl⟩
  refine ⟨fun s straps pins => ?powerUp, fun s straps pins => ?resetPin, fun s straps pins htx => ?reboot⟩
  case powerUp =>
    exact ⟨_, rfl, s.powerOnReset_poweredOn _ _ _, rfl, rfl, fun g => (reset ..).1, rfl,
      fun g => (reset s (Vector.replicate 24 .noTest) straps pins g).2.trans (by simp)⟩
  case resetPin =>
    exact ⟨_, rfl, s.powerOnReset_poweredOn _ _ _, rfl, rfl, fun g => (reset ..).1, rfl,
      fun g => (reset ..).2.trans (s.resultsAfterReset_get g)⟩
  case reboot =>
    have hreboot : exec (.resetPartReboot straps pins) s = exec (.resetPin straps pins) s := by
      show (if s.link.tx = .rebooting then (s.powerOnReset s.resultsAfterReset straps pins).done else s.done) = _
      rw [if_pos htx]; rfl
    exact ⟨_, hreboot, rfl, s.powerOnReset_poweredOn _ _ _, rfl, rfl, fun g => (reset ..).1, rfl⟩

end Sys2Proof.Machine
end

section
/-! SUPPORT. Chapter 1, sections 1.1 to 1.3: what a cell is at its gate, and what it makes of the gate. -/

namespace Sys2Proof.Machine

/-! ### What a cell is at a gate -/

/-- A space, or a mark in a run still shorter than sixteen, does not blind a gate (R5). -/
theorem not_blinds_of_short {lvl : Level} {n : Nat} (h : n < 16 ∨ lvl = .space) : ¬(lvl = .mark ∧ 16 ≤ n) := by
  rintro ⟨rfl, hn⟩
  rcases h with h | h
  · omega
  · cases h

/-- A gate takes a cell of a level: it is used, and its decoder does not wait, or waits and the line changes from space
to mark (R2, R10). -/
def Gate.takes (g : Gate) (lvl : Level) : Prop :=
  g.entry.kind ≠ .unused ∧ (g.decoder.waiting = false ∨ (lvl = .mark ∧ g.line = .space))

theorem Gate.takes.not_ignored {g : Gate} {lvl : Level} (h : g.takes lvl) :
    ¬(g.entry.kind = .unused ∨ (g.decoder.waiting = true ∧ (lvl = .space ∨ g.line = .mark))) := by
  obtain ⟨hkind, hwait⟩ := h
  rintro (hu | ⟨hw, hl⟩)
  · exact hkind hu
  · rcases hwait with h | ⟨hlvl, hline⟩
    · simp [h] at hw
    · simp [hlvl, hline] at hl

theorem Gate.cellKind_hunt {g : Gate} {lvl : Level} (h : g.takes lvl) (hst : g.decoder.state = .hunt)
    (hrun : (runAfter g.decoder.run lvl).length < 16 ∨ lvl = .space) : g.cellKind lvl = .ordinary := by
  simp only [Gate.cellKind, if_neg h.not_ignored, hst, if_neg (not_blinds_of_short hrun)]

theorem Gate.cellKind_assemble {g : Gate} {lvl : Level} (h : g.takes lvl) (hst : g.decoder.state = .assemble)
    (hrun : (runAfter g.decoder.run lvl).length < 16 ∨ lvl = .space) :
    g.cellKind lvl = if g.decoder.frame.length < 7 then .ordinary else .endsFrame := by
  simp only [Gate.cellKind, if_neg h.not_ignored, hst, if_neg (not_blinds_of_short hrun)]

theorem Gate.cellKind_blind {g : Gate} {lvl : Level} (h : g.takes lvl) (hst : g.decoder.state = .blind)
    (hrun : (runAfter g.decoder.run lvl).length < 4 ∨ lvl = .mark) : g.cellKind lvl = .ordinary := by
  have hnot : ¬(lvl = .space ∧ 4 ≤ (runAfter g.decoder.run lvl).length) := by
    rintro ⟨rfl, hn⟩
    rcases hrun with h | h
    · omega
    · cases h
  simp only [Gate.cellKind, if_neg h.not_ignored, hst, if_neg hnot]

/-- The cells GATE_CELL carries out in each decoder state (R3, R4, R5). -/
theorem Gate.cellKind_ordinary {g : Gate} {lvl : Level} (h : g.takes lvl)
    (hcase : (g.decoder.state = .hunt ∧ ((runAfter g.decoder.run lvl).length < 16 ∨ lvl = .space))
      ∨ (g.decoder.state = .assemble ∧ g.decoder.frame.length < 7
          ∧ ((runAfter g.decoder.run lvl).length < 16 ∨ lvl = .space))
      ∨ (g.decoder.state = .blind ∧ ((runAfter g.decoder.run lvl).length < 4 ∨ lvl = .mark))) :
    g.cellKind lvl = .ordinary := by
  obtain ⟨hst, hrun⟩ | ⟨hst, hlen, hrun⟩ | ⟨hst, hrun⟩ := hcase
  · exact Gate.cellKind_hunt h hst hrun
  · rw [Gate.cellKind_assemble h hst hrun, if_pos hlen]
  · exact Gate.cellKind_blind h hst hrun

theorem Gate.cellKind_endsFrame {g : Gate} {lvl : Level} (h : g.takes lvl) (hst : g.decoder.state = .assemble)
    (hlen : g.decoder.frame.length = 7) (hrun : (runAfter g.decoder.run lvl).length < 16 ∨ lvl = .space) :
    g.cellKind lvl = .endsFrame := by
  rw [Gate.cellKind_assemble h hst hrun, if_neg (by omega)]

theorem Gate.cellKind_blinds {g : Gate} (h : g.takes .mark) (hst : g.decoder.state ≠ .blind)
    (hrun : g.decoder.run = some { level := .mark, length := 15 }) : g.cellKind .mark = .blinds := by
  rw [Gate.cellKind, if_neg h.not_ignored, hrun]
  cases hs : g.decoder.state with
  | hunt => rfl
  | assemble => rfl
  | blind => exact absurd hs hst

theorem Gate.cellKind_unblinds {g : Gate} (h : g.takes .space) (hst : g.decoder.state = .blind)
    (hrun : g.decoder.run = some { level := .space, length := 3 }) : g.cellKind .space = .unblinds := by
  rw [Gate.cellKind, if_neg h.not_ignored, hrun, hst]
  rfl

/-! ### Which feed reaches the decoder -/

/-- The generator's next cell is due at a gate under test, and it is of a level (R1, R20). -/
def State.generates (s : State) (g : GateNo) (lvl : Level) : Prop :=
  ∃ n r, (s.gate g).fed = some n ∧ s.testStart = some r ∧ n < 5 * s.since r + 4 ∧ generatorCell n = lvl

theorem State.generates_iff (s : State) (g : GateNo) (lvl : Level) :
    s.generates g lvl ↔ s.generatorDue g = true ∧ ∃ n, (s.gate g).fed = some n ∧ generatorCell n = lvl := by
  unfold State.generates State.generatorDue
  cases s.testStart <;> cases (s.gate g).fed <;> simp

theorem State.cellKindAt_line {s : State} {g : GateNo} (lvl : Level) (h : (s.gate g).fed = none) :
    s.cellKindAt ⟨g, .line⟩ lvl = (s.gate g).cellKind lvl := by simp [State.cellKindAt, h]

theorem State.cellKindAt_generator {s : State} {g : GateNo} {lvl : Level} (h : s.generates g lvl) :
    s.cellKindAt ⟨g, .generator⟩ lvl = (s.gate g).cellKind lvl := by
  obtain ⟨hdue, n, hfed, hlvl⟩ := (s.generates_iff g lvl).mp h
  simp [State.cellKindAt, hdue, hfed, hlvl]

/-- A cell the generator does not send now reaches no decoder (R20). -/
theorem State.cellKindAt_not_generated {s : State} {g : GateNo} {lvl : Level} (h : ¬s.generates g lvl) :
    s.cellKindAt ⟨g, .generator⟩ lvl = .ignored := by
  by_contra hne
  obtain ⟨-, ⟨hsrc, -⟩ | ⟨n, -, hfed, hdue, hlvl⟩⟩ := State.cellKindAt_reaches hne
  · cases hsrc
  · exact h ((s.generates_iff g lvl).mpr ⟨hdue, n, hfed, hlvl⟩)

/-- At an Unused gate, at a gate under test, and at a waiting decoder whose line does not change from space to mark, a
cell of the line completes nothing (R2, R10, R20). -/
theorem State.cellKindAt_line_ignored {s : State} {g : GateNo} {lvl : Level}
    (h : (s.gate g).entry.kind = .unused ∨ (s.gate g).fed ≠ none
      ∨ ((s.gate g).decoder.waiting = true ∧ (lvl = .space ∨ (s.gate g).line = .mark))) :
    s.cellKindAt ⟨g, .line⟩ lvl = .ignored := by
  by_contra hne
  obtain ⟨hkind, ⟨-, hfed⟩ | ⟨n, hsrc, -⟩⟩ := State.cellKindAt_reaches hne
  · rw [hkind] at hne
    refine hne ?_
    rw [Gate.cellKind, if_pos]
    exact h.imp id fun h => h.resolve_left (by simp [hfed])
  · cases hsrc

/-! ### What each cell command does with a cell of its kind, and with another -/

theorem exec_gateCell_ordinary {s : State} {x : Feed} {lvl : Level} (h : s.cellKindAt x lvl = .ordinary) :
    exec (.gateCell x lvl) s = (s.modGate x.gate (·.ordinaryCell lvl)).done := by
  show execGateCell x lvl s = _
  simp [execGateCell, h]

theorem exec_gateCell_line_ignored {s : State} {g : GateNo} {lvl : Level}
    (h : s.cellKindAt ⟨g, .line⟩ lvl = .ignored) :
    exec (.gateCell ⟨g, .line⟩ lvl) s = (s.modGate g (·.noteLine lvl)).done := by
  show execGateCell _ lvl s = _
  simp [execGateCell, h]

theorem exec_gateCell_generator_ignored {s : State} {g : GateNo} {lvl : Level}
    (h : s.cellKindAt ⟨g, .generator⟩ lvl = .ignored) : exec (.gateCell ⟨g, .generator⟩ lvl) s = s.done := by
  show execGateCell _ lvl s = _
  simp [execGateCell, h]

theorem exec_beaconFrame_endsFrame {s : State} {x : Feed} {lvl : Level} (h : s.cellKindAt x lvl = .endsFrame) :
    exec (.beaconFrame x lvl) s = ((s.modGate x.gate (·.endFrame lvl)).frameEvent x.gate
      (judgeFrame (s.gate x.gate).decoder.frame lvl (s.gate x.gate).underTest)).done := by
  show execBeaconFrame x lvl s = _
  simp [execBeaconFrame, h]

theorem exec_beaconFrame_ignored {s : State} {x : Feed} {lvl : Level} (h : s.cellKindAt x lvl = .ignored) :
    exec (.beaconFrame x lvl) s = s.done := by
  show execBeaconFrame x lvl s = _
  simp [execBeaconFrame, h]

theorem exec_gateBlind_blinds {s : State} {x : Feed} (h : s.cellKindAt x .mark = .blinds) :
    exec (.gateBlind x) s = ((s.modGate x.gate (·.goBlind .mark)).watchBlind.closeOpen x.gate).done := by
  show execGateBlind x s = _
  simp [execGateBlind, h]

theorem exec_gateBlind_ignored {s : State} {x : Feed} (h : s.cellKindAt x .mark = .ignored) :
    exec (.gateBlind x) s = s.done := by
  show execGateBlind x s = _
  simp [execGateBlind, h]

theorem exec_gateUnblind_unblinds {s : State} {x : Feed} (h : s.cellKindAt x .space = .unblinds) :
    exec (.gateUnblind x) s = (s.modGate x.gate (·.endBlind .space)).watchBlind.done := by
  show execGateUnblind x s = _
  simp [execGateUnblind, h]

theorem exec_gateUnblind_ignored {s : State} {x : Feed} (h : s.cellKindAt x .space = .ignored) :
    exec (.gateUnblind x) s = s.done := by
  show execGateUnblind x s = _
  simp [execGateUnblind, h]

/-! ### What a cell makes of the gate -/

/-- A cell of the line is noted as the line's level and counted in the run (R2). -/
theorem Gate.countCell_line {g : Gate} (lvl : Level) (h : g.fed = none) :
    g.countCell lvl = { g with
      line := lvl, decoder := { g.decoder with run := some (runAfter g.decoder.run lvl), waiting := false } } := by
  simp [Gate.countCell, h]

/-- A cell of the generator leaves the line's level and moves the feed on (R20). -/
theorem Gate.countCell_generator {g : Gate} {n : Nat} (lvl : Level) (h : g.fed = some n) :
    g.countCell lvl = { g with
      fed := some (n + 1)
      decoder := { g.decoder with run := some (runAfter g.decoder.run lvl), waiting := false } } := by
  simp [Gate.countCell, h]

theorem Gate.ordinaryCell_hunt {g : Gate} (lvl : Level) (h : g.decoder.state = .hunt) :
    g.ordinaryCell lvl = { g.countCell lvl with decoder := { (g.countCell lvl).decoder with
      state := if lvl = .space ∧ g.decoder.run = some { level := .mark, length := 3 } then .assemble else .hunt
      frame := if lvl = .space ∧ g.decoder.run = some { level := .mark, length := 3 } then []
        else g.decoder.frame } } := by
  by_cases hsync : lvl = .space ∧ g.decoder.run = some { level := .mark, length := 3 }
  · simp [Gate.ordinaryCell, h, hsync]
  · simp [Gate.ordinaryCell, h, hsync, Gate.countCell]

theorem Gate.ordinaryCell_assemble {g : Gate} (lvl : Level) (h : g.decoder.state = .assemble) :
    g.ordinaryCell lvl
      = { g.countCell lvl with decoder := { (g.countCell lvl).decoder with frame := g.decoder.frame ++ [lvl] } } := by
  simp [Gate.ordinaryCell, h]

theorem Gate.ordinaryCell_blind {g : Gate} (lvl : Level) (h : g.decoder.state = .blind) :
    g.ordinaryCell lvl = g.countCell lvl := by
  simp [Gate.ordinaryCell, h]

/-! ### A gate under test takes the generator's cell as it would its line's -/

/-- The gate under test after a cell, told from what the same cell of its line would make of it: one cell more is fed,
and the line's level stays (R20). -/
def Gate.fedAs (g onLine : Gate) (n : Nat) : Gate := { onLine with fed := some (n + 1), line := g.line }

theorem Gate.countCell_fedAs {g : Gate} {n : Nat} (lvl : Level) (h : g.fed = some n) :
    g.countCell lvl = g.fedAs ({ g with fed := none }.countCell lvl) n := by
  simp [Gate.countCell, Gate.fedAs, h]

theorem Gate.ordinaryCell_fedAs {g : Gate} {n : Nat} (lvl : Level) (h : g.fed = some n) :
    g.ordinaryCell lvl = g.fedAs ({ g with fed := none }.ordinaryCell lvl) n := by
  cases hst : g.decoder.state with
  | hunt => simp only [Gate.ordinaryCell_hunt, hst, Gate.countCell_fedAs lvl h]; rfl
  | assemble => simp only [Gate.ordinaryCell_assemble, hst, Gate.countCell_fedAs lvl h]; rfl
  | blind => simp only [Gate.ordinaryCell_blind, hst, Gate.countCell_fedAs lvl h]

theorem Gate.goBlind_fedAs {g : Gate} {n : Nat} (lvl : Level) (h : g.fed = some n) :
    g.goBlind lvl = g.fedAs ({ g with fed := none }.goBlind lvl) n := by
  simp only [Gate.goBlind, Gate.countCell_fedAs lvl h]; rfl

theorem Gate.endBlind_fedAs {g : Gate} {n : Nat} (lvl : Level) (h : g.fed = some n) :
    g.endBlind lvl = g.fedAs ({ g with fed := none }.endBlind lvl) n := by
  simp only [Gate.endBlind, Gate.countCell_fedAs lvl h]; rfl

/-- The state with a gate under test put back on its line, to compare with (R20). -/
def State.onLine (s : State) (g : GateNo) : State :=
  s.withGates (s.gates.set g.val { s.gate g with fed := none })

@[simp] theorem State.onLine_gate (s : State) (g : GateNo) : (s.onLine g).gate g = { s.gate g with fed := none } := by
  simp [State.onLine]

theorem State.onLine_cellKindAt {s : State} {g : GateNo} (lvl : Level) :
    (s.onLine g).cellKindAt ⟨g, .line⟩ lvl = (s.gate g).cellKind lvl := by
  rw [State.cellKindAt_line lvl (by simp), State.onLine_gate]
  rfl

/-- A gate changed as a fed one is the gate changed on its line, its feed and its line's level put right. -/
theorem State.modGate_fedAs {s : State} {g : GateNo} {n : Nat} {f : Gate → Gate}
    (hf : f (s.gate g) = (s.gate g).fedAs (f { s.gate g with fed := none }) n) :
    s.modGate g f = ((s.onLine g).modGate g f).modGate g fun x => (s.gate g).fedAs x n := by
  simp only [State.modGate_eq_withGates, hf]
  simp [State.onLine]

/-! ### The blinded summary -/

theorem State.anyBlind_iff (s : State) : s.anyBlind = true ↔ ∃ g : GateNo, (s.gate g).decoder.state = .blind := by
  simp only [State.anyBlind, List.any_eq_true, Vector.mem_toList_iff, Vector.mem_iff_getElem, Gate.isBlind, beq_iff_eq,
    State.gate]
  constructor
  · rintro ⟨x, ⟨i, hi, rfl⟩, hx⟩; exact ⟨⟨i, hi⟩, hx⟩
  · rintro ⟨g, hg⟩; exact ⟨_, ⟨g.val, g.isLt, rfl⟩, hg⟩

/-- A change of a gate that leaves its decoder leaves the blinded summary. -/
theorem State.watchBlind_modGate {s : State} {g : GateNo} {f : Gate → Gate}
    (hf : (f (s.gate g)).decoder = (s.gate g).decoder) :
    (s.modGate g f).watchBlind = s.watchBlind.modGate g f := by
  have hblind : (s.modGate g f).anyBlind = s.anyBlind := by
    rw [Bool.eq_iff_iff, State.anyBlind_iff, State.anyBlind_iff]
    refine exists_congr fun k => ?_
    rw [State.gate_modGate]
    split
    · next h => rw [hf, h]
    · rfl
  simp only [State.watchBlind, hblind]; rfl

end Sys2Proof.Machine
end

section
/-! SUPPORT. Chapter 1, sections 1.1 and 1.2: the cells of a gate, Blind, and the generator's cells. -/

namespace Sys2Proof.Machine

/-! ### A gate on its line -/

/-- What a gate on its line becomes at the mark that blinds it, its burst closed (R5, R16). -/
def Gate.blinded (g : Gate) : Gate :=
  { g with
    line := .mark
    decoder := {
      state := .blind, run := some { level := .mark, length := 16 }, frame := [], burst := none, waiting := false } }

/-- The state once a gate has become Blind, its burst yet to be handed on (R5, R167). -/
def State.blindedAt (s : State) (g : GateNo) : State :=
  { s with
    gates := s.gates.set g.val (s.gate g).blinded
    inputs := { s.inputs with
      blindSince := if s.inputs.live.gateBlind then none else some (s.inputs.blindSince.getD s.race.raceClock) } }

@[simp] theorem State.blindedAt_gate (s : State) (g : GateNo) : (s.blindedAt g).gate g = (s.gate g).blinded := by
  simp [State.blindedAt, State.gate]

/-- The mark that brings the run to sixteen: the decoder is Blind with its burst still open (R5). -/
theorem Gate.goBlind_line {g : Gate} (hfed : g.fed = none)
    (hrun : g.decoder.run = some { level := .mark, length := 15 }) :
    g.goBlind .mark = { g.blinded with decoder := { g.blinded.decoder with burst := g.decoder.burst } } := by
  simp [Gate.goBlind, Gate.countCell_line _ hfed, hrun, runAfter, Gate.blinded]

/-- A gate that goes Blind makes the blinded summary true (R5, R167). -/
theorem State.watchBlind_of_blind {s : State} {g : GateNo} (h : (s.gate g).decoder.state = .blind) :
    s.watchBlind = { s with inputs := { s.inputs with
      blindSince := if s.inputs.live.gateBlind then none else some (s.inputs.blindSince.getD s.race.raceClock) } } := by
  have hany : s.anyBlind = true := s.anyBlind_iff.mpr ⟨g, h⟩
  cases hlive : s.inputs.live.gateBlind <;> simp [State.watchBlind, hany, hlive]

/-- A gate on its line goes Blind with its burst still open: closing that burst leaves `State.blindedAt`. -/
theorem State.goBlind_modDecoder {s : State} {g : GateNo} (hfed : (s.gate g).fed = none)
    (hrun : (s.gate g).decoder.run = some { level := .mark, length := 15 }) :
    ((s.modGate g (·.goBlind .mark)).watchBlind.modDecoder g fun d => { d with burst := none }) = s.blindedAt g := by
  have hblind : ((s.modGate g (·.goBlind .mark)).gate g).decoder.state = .blind := by
    simp [Gate.goBlind]
  have hgate : (s.modGate g (·.goBlind .mark)).watchBlind.gate g = (s.gate g).goBlind .mark := by simp
  rw [State.modDecoder_eq_withGates, hgate, Gate.goBlind_line hfed hrun, State.watchBlind_of_blind hblind]
  simp only [State.withGates, State.blindedAt, State.modGate_gates, Vector.set_set]
  rfl

/-- A decoder that has no open burst is not changed by closing it. -/
theorem State.modDecoder_noBurst {s : State} {g : GateNo} (h : (s.gate g).decoder.burst = none) :
    (s.modDecoder g fun d => { d with burst := none }) = s := by
  have hself : { s.gate g with decoder := { (s.gate g).decoder with burst := none } } = s.gate g := by rw [← h]
  rw [State.modDecoder_eq_withGates, hself]
  simp [State.gate]

@[simp] theorem Gate.goBlind_burst (g : Gate) (lvl : Level) : (g.goBlind lvl).decoder.burst = g.decoder.burst := rfl

/-! ### The cell commands at a gate on its line -/

theorem exec_gateCell_line {s : State} {g : GateNo} {lvl : Level} (hfed : (s.gate g).fed = none)
    (h : (s.gate g).cellKind lvl = .ordinary) :
    exec (.gateCell ⟨g, .line⟩ lvl) s = (s.modGate g (·.ordinaryCell lvl)).done :=
  exec_gateCell_ordinary (by rw [State.cellKindAt_line lvl hfed, h])

theorem exec_gateBlind_line {s : State} {g : GateNo} (hfed : (s.gate g).fed = none)
    (htakes : (s.gate g).takes .mark) (hst : (s.gate g).decoder.state ≠ .blind)
    (hrun : (s.gate g).decoder.run = some { level := .mark, length := 15 }) :
    exec (.gateBlind ⟨g, .line⟩) s = ((s.modGate g (·.goBlind .mark)).watchBlind.closeOpen g).done :=
  exec_gateBlind_blinds (by rw [State.cellKindAt_line _ hfed, Gate.cellKind_blinds htakes hst hrun])

/-- With no burst open a gate on its line goes Blind and nothing is handed on (R5). -/
theorem exec_gateBlind_line_noBurst {s : State} {g : GateNo} (hfed : (s.gate g).fed = none)
    (htakes : (s.gate g).takes .mark) (hst : (s.gate g).decoder.state ≠ .blind)
    (hrun : (s.gate g).decoder.run = some { level := .mark, length := 15 })
    (hburst : (s.gate g).decoder.burst = none) : exec (.gateBlind ⟨g, .line⟩) s = (s.blindedAt g).done := by
  have hnone : ((s.modGate g (·.goBlind .mark)).watchBlind.gate g).decoder.burst = none := by simp [hburst]
  rw [exec_gateBlind_line hfed htakes hst hrun, State.closeOpen_of_none hnone, ← State.modDecoder_noBurst hnone,
    State.goBlind_modDecoder hfed hrun]

/-- With a burst open a gate on its line goes Blind and closes it (R5, R16, R17, R19). -/
theorem exec_gateBlind_line_burst {s : State} {g : GateNo} {b : Tally} (hfed : (s.gate g).fed = none)
    (htakes : (s.gate g).takes .mark) (hst : (s.gate g).decoder.state ≠ .blind)
    (hrun : (s.gate g).decoder.run = some { level := .mark, length := 15 })
    (hburst : (s.gate g).decoder.burst = some b) :
    exec (.gateBlind ⟨g, .line⟩) s
      = ((if (s.gate g).entry.kind = .box then (s.blindedAt g).boxDepartures g b else s.blindedAt g).takeTally g b).done
    := by
  have hsome : ((s.modGate g (·.goBlind .mark)).watchBlind.gate g).decoder.burst = some b := by simp [hburst]
  have hfed' : ((s.modGate g (·.goBlind .mark)).watchBlind.gate g).fed = none := by
    simp [Gate.goBlind, Gate.countCell, hfed]
  have hentry : ((s.modGate g (·.goBlind .mark)).watchBlind.gate g).entry = (s.gate g).entry := by
    simp [Gate.goBlind, Gate.countCell]
  rw [exec_gateBlind_line hfed htakes hst hrun, State.closeOpen_of_some hsome]
  by_cases hbox : (s.gate g).entry.kind = .box
  · rw [State.closeBurst_box b hfed' (by rw [hentry, hbox]), State.goBlind_modDecoder hfed hrun, if_pos hbox]
  · rw [State.closeBurst_notBox b hfed' (by rw [hentry]; exact hbox), State.goBlind_modDecoder hfed hrun,
      if_neg hbox]

theorem Gate.endBlind_line {g : Gate} (hfed : g.fed = none) (hwait : g.decoder.waiting = false)
    (hrun : g.decoder.run = some { level := .space, length := 3 }) :
    g.endBlind .space = { g with
      line := .space
      decoder := { g.decoder with state := .hunt, run := some { level := .space, length := 4 } } } := by
  simp [Gate.endBlind, Gate.countCell_line _ hfed, hrun, runAfter, hwait]

/-- The space that ends Blind at a gate on its line (R5). -/
theorem exec_gateUnblind_line {s : State} {g : GateNo} (hfed : (s.gate g).fed = none)
    (htakes : (s.gate g).takes .space) (hst : (s.gate g).decoder.state = .blind)
    (hrun : (s.gate g).decoder.run = some { level := .space, length := 3 }) :
    exec (.gateUnblind ⟨g, .line⟩) s = (s.modGate g (·.endBlind .space)).watchBlind.done :=
  exec_gateUnblind_unblinds (by rw [State.cellKindAt_line _ hfed, Gate.cellKind_unblinds htakes hst hrun])

/-! ### The cell commands at a gate under test -/

/-- A due cell of the generator does to its gate what the same cell of the line would do, but for the feed and the
line's level (R20). -/
theorem exec_gateCell_generator {s : State} {g : GateNo} {lvl : Level} {n : Nat} (hgen : s.generates g lvl)
    (hfed : (s.gate g).fed = some n) (h : (s.gate g).cellKind lvl = .ordinary) :
    exec (.gateCell ⟨g, .line⟩ lvl) (s.onLine g) = ((s.onLine g).modGate g (·.ordinaryCell lvl)).done
    ∧ exec (.gateCell ⟨g, .generator⟩ lvl) s
      = (((s.onLine g).modGate g (·.ordinaryCell lvl)).modGate g fun x => (s.gate g).fedAs x n).done := by
  refine ⟨exec_gateCell_ordinary (by rw [State.onLine_cellKindAt, h]), ?_⟩
  rw [exec_gateCell_ordinary (by rw [State.cellKindAt_generator hgen, h]),
    State.modGate_fedAs (Gate.ordinaryCell_fedAs lvl hfed)]

theorem exec_gateBlind_generator {s : State} {g : GateNo} {n : Nat} (hgen : s.generates g .mark)
    (hfed : (s.gate g).fed = some n) (h : (s.gate g).cellKind .mark = .blinds)
    (hburst : (s.gate g).decoder.burst = none) :
    exec (.gateBlind ⟨g, .line⟩) (s.onLine g) = ((s.onLine g).modGate g (·.goBlind .mark)).watchBlind.done
    ∧ exec (.gateBlind ⟨g, .generator⟩) s
      = (((s.onLine g).modGate g (·.goBlind .mark)).watchBlind.modGate g fun x => (s.gate g).fedAs x n).done := by
  constructor
  · rw [exec_gateBlind_blinds (by rw [State.onLine_cellKindAt, h]), State.closeOpen_of_none (by simp [hburst])]
  · rw [exec_gateBlind_blinds (by rw [State.cellKindAt_generator hgen, h]), State.closeOpen_of_none (by simp [hburst]),
      State.modGate_fedAs (Gate.goBlind_fedAs .mark hfed), State.watchBlind_modGate rfl]

theorem exec_gateUnblind_generator {s : State} {g : GateNo} {n : Nat} (hgen : s.generates g .space)
    (hfed : (s.gate g).fed = some n) (h : (s.gate g).cellKind .space = .unblinds) :
    exec (.gateUnblind ⟨g, .line⟩) (s.onLine g) = ((s.onLine g).modGate g (·.endBlind .space)).watchBlind.done
    ∧ exec (.gateUnblind ⟨g, .generator⟩) s
      = (((s.onLine g).modGate g (·.endBlind .space)).watchBlind.modGate g fun x => (s.gate g).fedAs x n).done := by
  constructor
  · rw [exec_gateUnblind_unblinds (by rw [State.onLine_cellKindAt, h])]
  · rw [exec_gateUnblind_unblinds (by rw [State.cellKindAt_generator hgen, h]),
      State.modGate_fedAs (Gate.endBlind_fedAs .space hfed), State.watchBlind_modGate rfl]

/-- The generator's cells: 83 frames of code 63, then space (R1, R20). -/
theorem generatorCell_eq (n : Nat) :
    generatorCell n = if 996 ≤ n ∨ n % 12 = 3 ∨ n % 12 = 11 then .space else .mark := by
  by_cases h : n < 996
  · simp [generatorCell, testCells, testFrameCell, h, Nat.not_le.mpr h]
  · simp [generatorCell, testCells, h, Nat.not_lt.mp h]

/-- Settles O48: by the feed, then by the kind of the cell. -/
theorem gateCellsMoveDecoders : Obligations.GateCellsMoveDecoders := by
  refine ⟨?hunt, ?assemble, ?blind, ?run, ?goesBlind, ?closesOther, ?endsBlind, ?untaken, ?noted, ?generator,
    ?genCell, ?closesBox, ?genBlind, ?genUnblind, ?notDue⟩
  case hunt =>
    intro g lvl s hkind hfed hwait hst hrun
    rw [exec_gateCell_line hfed (Gate.cellKind_hunt ⟨hkind, hwait⟩ hst hrun), State.modGate_eq_withGates,
      Gate.ordinaryCell_hunt lvl hst, Gate.countCell_line lvl hfed]
    exact ⟨_, rfl, rfl⟩
  case assemble =>
    intro g lvl s hkind hfed hwait hst hlen hrun
    rw [exec_gateCell_line hfed (Gate.cellKind_ordinary ⟨hkind, hwait⟩ (.inr (.inl ⟨hst, hlen, hrun⟩))),
      State.modGate_eq_withGates, Gate.ordinaryCell_assemble lvl hst, Gate.countCell_line lvl hfed]
    exact ⟨_, rfl, rfl⟩
  case blind =>
    intro g lvl s hkind hfed hwait hst hrun
    rw [exec_gateCell_line hfed (Gate.cellKind_blind ⟨hkind, hwait⟩ hst hrun), State.modGate_eq_withGates,
      Gate.ordinaryCell_blind lvl hst, Gate.countCell_line lvl hfed]
    exact ⟨_, rfl, rfl⟩
  case run =>
    intro lvl r
    refine ⟨rfl, ?_⟩
    by_cases h : r.level = lvl <;> simp [runAfter, h]
  case goesBlind =>
    intro g s hkind hfed hwait hst hrun hburst
    exact State.next_of_done
      (exec_gateBlind_line_noBurst hfed ⟨hkind, hwait.imp_right fun h => ⟨rfl, h⟩⟩ hst hrun hburst)
  case closesOther =>
    intro g b s hbox hkind hfed hwait hst hrun hburst
    rw [exec_gateBlind_line_burst hfed ⟨hkind, hwait.imp_right fun h => ⟨rfl, h⟩⟩ hst hrun hburst, if_neg hbox]
    exact ⟨_, rfl, rfl⟩
  case closesBox =>
    intro g b s hbox hkind hfed hwait hst hrun hburst
    rw [exec_gateBlind_line_burst hfed ⟨hkind, hwait.imp_right fun h => ⟨rfl, h⟩⟩ hst hrun hburst, if_pos hbox]
    exact ⟨_, rfl, rfl⟩
  case endsBlind =>
    intro g s hkind hfed hwait hst hrun
    rw [exec_gateUnblind_line hfed ⟨hkind, .inl hwait⟩ hst hrun]
    refine ⟨_, rfl, ?_⟩
    have hblind : (∃ h : GateNo,
        ((s.modGate g (·.endBlind .space)).watchBlind.settle.gate h).decoder.state = .blind)
          ↔ (s.modGate g (·.endBlind .space)).anyBlind = true := (State.anyBlind_iff _).symm
    simp only [hblind, Bool.decide_eq_true, eq_comm (a := s.inputs.live.gateBlind),
      ← Gate.endBlind_line hfed hwait hrun]
    rfl
  case untaken =>
    intro g lvl s h
    have hign (l : Level) : s.cellKindAt ⟨g, .line⟩ l = .ignored :=
      State.cellKindAt_line_ignored (h.imp_right .inl)
    exact ⟨State.unmovedBy_of_done (exec_beaconFrame_ignored (hign _)),
      State.unmovedBy_of_done (exec_gateBlind_ignored (hign _)),
      State.unmovedBy_of_done (exec_gateUnblind_ignored (hign _))⟩
  case noted =>
    intro g lvl s h
    exact State.next_of_done (exec_gateCell_line_ignored (State.cellKindAt_line_ignored h))
  case generator => exact generatorCell_eq
  case genCell =>
    intro g lvl n r s hfed htest hdue hkind hwait hlvl hcase
    obtain ⟨hline, hgen⟩ := exec_gateCell_generator ⟨n, r, hfed, htest, hdue, hlvl⟩ hfed
      (Gate.cellKind_ordinary ⟨hkind, .inl hwait⟩ hcase)
    exact ⟨_, hline, _, hgen, rfl⟩
  case genBlind =>
    intro g n r s hfed htest hdue hkind hwait hlvl hst hrun hburst
    obtain ⟨hline, hgen⟩ := exec_gateBlind_generator ⟨n, r, hfed, htest, hdue, hlvl⟩ hfed
      (Gate.cellKind_blinds ⟨hkind, .inl hwait⟩ hst hrun) hburst
    exact ⟨_, hline, _, hgen, rfl⟩
  case genUnblind =>
    intro g n r s hfed htest hdue hkind hwait hlvl hst hrun
    obtain ⟨hline, hgen⟩ := exec_gateUnblind_generator ⟨n, r, hfed, htest, hdue, hlvl⟩ hfed
      (Gate.cellKind_unblinds ⟨hkind, .inl hwait⟩ hst hrun)
    exact ⟨_, hline, _, hgen, rfl⟩
  case notDue =>
    intro g lvl s h
    have hign : s.cellKindAt ⟨g, .generator⟩ lvl = .ignored := by
      refine State.cellKindAt_not_generated ?_
      rintro ⟨n, r, hfed, htest, hdue, hlvl⟩
      rcases h n (by simp [hfed]) r (by simp [htest]) with hlate | hother
      · omega
      · exact hother hlvl
    refine ⟨State.unmovedBy_of_done (exec_gateCell_generator_ignored hign),
      State.unmovedBy_of_done (exec_beaconFrame_ignored hign), ?_, ?_⟩
    · rintro rfl; exact State.unmovedBy_of_done (exec_gateBlind_ignored hign)
    · rintro rfl; exact State.unmovedBy_of_done (exec_gateUnblind_ignored hign)

end Sys2Proof.Machine
end

section
/-! SUPPORT. Chapter 1, sections 1.3 to 1.5: frames and the tallies they join. -/

namespace Sys2Proof.Machine

/-! ### The judgement of a frame -/

theorem levelBit_le_one (l : Level) : levelBit l ≤ 1 := by cases l <;> decide

theorem levelBit_eq_zero_iff (l : Level) : levelBit l = 0 ↔ l = .space := by cases l <;> decide

theorem levelBit_eq_one_iff (l : Level) : levelBit l = 1 ↔ l = .mark := by cases l <;> decide

section Cells
variable (a b c d e f p : Level)

/-- The code of a frame is its first six cells read as binary digits (R1). -/
theorem frameCode_cells : frameCode [a, b, c, d, e, f, p]
    = 32 * levelBit a + 16 * levelBit b + 8 * levelBit c + 4 * levelBit d + 2 * levelBit e + levelBit f := by
  simp only [frameCode, List.take_succ_cons, List.take_zero, List.foldl_cons, List.foldl_nil]
  omega

theorem frameCode_eq_zero_iff : frameCode [a, b, c, d, e, f, p] = 0
    ↔ [a, b, c, d, e, f] = List.replicate 6 .space := by
  simp only [frameCode_cells, List.replicate, List.cons.injEq, and_true, ← levelBit_eq_zero_iff]
  omega

theorem frameCode_eq_63_iff : frameCode [a, b, c, d, e, f, p] = 63
    ↔ [a, b, c, d, e, f] = List.replicate 6 .mark := by
  have ha := levelBit_le_one a
  have hb := levelBit_le_one b
  have hc := levelBit_le_one c
  have hd := levelBit_le_one d
  have he := levelBit_le_one e
  have hf := levelBit_le_one f
  simp only [frameCode_cells, List.replicate, List.cons.injEq, and_true, ← levelBit_eq_one_iff]
  omega

end Cells

/-! ### The tally a frame joins -/

/-- The tally of a gate's burst once a frame has opened or joined it (R11, R12, R13). -/
def State.tallyWith (s : State) (g : GateNo) (frame : Option Nat) : Tally :=
  (((s.gate g).decoder.burst).getD (Tally.opened s.race.raceClock)).add frame s.race.raceClock

theorem Tally.add_invalid (b : Tally) (now : RawTime) :
    b.add none now = { b with invalid := min 255 (b.invalid + 1), last := now } := rfl

theorem Tally.add_known {b : Tally} {code : Nat} (now : RawTime) (h : ∃ e ∈ b.entries, e.code = code) :
    b.add (some code) now = { b with
      last := now
      entries := b.entries.map fun e =>
        if e.code = code then { e with count := min 255 (e.count + 1), last := now } else e } := by
  have hany : (b.entries.any fun e => e.code == code) = true := by simpa using h
  simp only [Tally.add, hany, if_true]
  rfl

theorem Tally.add_new {b : Tally} {code : Nat} (now : RawTime) (h : ∀ e ∈ b.entries, e.code ≠ code)
    (hlen : b.entries.length < 4) :
    b.add (some code) now = { b with
      last := now
      entries := b.entries ++ [{ code := code, count := 1, first := now, last := now, arrived := false }] } := by
  have hany : (b.entries.any fun e => e.code == code) = false := by simpa using h
  simp [Tally.add, hany, hlen]

theorem Tally.add_excess {b : Tally} {code : Nat} (now : RawTime) (h : ∀ e ∈ b.entries, e.code ≠ code)
    (hlen : 4 ≤ b.entries.length) : b.add (some code) now = { b with last := now, excess := true } := by
  have hany : (b.entries.any fun e => e.code == code) = false := by simpa using h
  simp [Tally.add, hany, Nat.not_lt.mpr hlen]

/-! ### Arrivals -/

/-- A frame makes a code arrive: it carries the code, and the code's entry has reached the vote minimum and not yet
reported (R18). -/
def Tally.arrival (b : Tally) (minimum : Nat) (frame : Option Nat) (code : Nat) : Prop :=
  frame = some code ∧ ∃ e ∈ b.entries, e.code = code ∧ e.arrived = false ∧ minimum ≤ e.count

theorem arrivalDue_iff (minimum code : Nat) (b : Tally) :
    arrivalDue minimum code b = true ↔ b.arrival minimum (some code) code := by
  simp [arrivalDue, Tally.arrival, and_assoc]

theorem State.frameEvent_arrival {s : State} {g : GateNo} {frame : Option Nat} {code : Nat}
    (hbox : (s.gate g).entry.kind = .box) (h : (s.tallyWith g frame).arrival s.cfg.voteMinimum frame code) :
    s.frameEvent g frame
      = (s.modDecoder g fun d => { d with burst := some ((s.tallyWith g frame).arrive code) }).reportBox true g code
          s.race.raceClock := by
  obtain rfl := h.1
  have hdue := (arrivalDue_iff _ _ _).mpr h
  exact if_pos ⟨hbox, hdue⟩

/-- A frame that makes no code arrive joins the burst and reports nothing (R11, R18). -/
theorem State.frameEvent_noArrival {s : State} {g : GateNo} {frame : Option Nat}
    (h : (s.gate g).entry.kind = .box → ∀ code, ¬(s.tallyWith g frame).arrival s.cfg.voteMinimum frame code) :
    s.frameEvent g frame = s.modDecoder g fun d => { d with burst := some (s.tallyWith g frame) } := by
  cases frame with
  | none => rfl
  | some code => exact if_neg fun hdue => h hdue.1 code ((arrivalDue_iff _ _ _).mp hdue.2)

/-- The arrived flag set in every entry a condition picks: where that is the entries of one code, that code arrives. -/
theorem Tally.arrive_of_iff {b : Tally} {code : Nat} {p : CodeEntry → Prop} [DecidablePred p]
    (h : ∀ e ∈ b.entries, p e ↔ e.code = code) :
    { b with entries := b.entries.map fun e => if p e then { e with arrived := true } else e } = b.arrive code := by
  have hmap : (b.entries.map fun e => if p e then { e with arrived := true } else e)
      = b.entries.map fun e => if e.code = code then { e with arrived := true } else e :=
    List.map_congr_left fun e he => by simp [h e he]
  rw [hmap]; rfl

/-- Where the condition picks no entry, the tally stays. -/
theorem Tally.arrive_of_none {b : Tally} {p : CodeEntry → Prop} [DecidablePred p] (h : ∀ e ∈ b.entries, ¬p e) :
    { b with entries := b.entries.map fun e => if p e then { e with arrived := true } else e } = b := by
  have hmap : (b.entries.map fun e => if p e then { e with arrived := true } else e) = b.entries :=
    (List.map_congr_left fun e he => if_neg (h e he)).trans (List.map_id _)
  rw [hmap]

/-! ### The end cell at a gate -/

/-- A gate whose frame has ended, its burst's tally given (R4, R11). -/
def Gate.framed (g : Gate) (lvl : Level) (b : Tally) : Gate :=
  { g.endFrame lvl with decoder := { (g.endFrame lvl).decoder with burst := some b } }

theorem Gate.framed_line {g : Gate} (lvl : Level) (b : Tally) (h : g.fed = none) :
    g.framed lvl b = { g with
      line := lvl
      decoder := {
        state := .hunt, run := some (runAfter g.decoder.run lvl), frame := [], waiting := false
        burst := some b } } := by
  simp [Gate.framed, Gate.endFrame, Gate.countCell_line lvl h]

theorem Gate.framed_generator {g : Gate} {n : Nat} (lvl : Level) (b : Tally) (h : g.fed = some n) :
    g.framed lvl b = { g with
      fed := some (n + 1)
      decoder := {
        state := .hunt, run := some (runAfter g.decoder.run lvl), frame := [], waiting := false
        burst := some b } } := by
  simp [Gate.framed, Gate.endFrame, Gate.countCell_generator lvl h]

theorem State.endFrame_modDecoder (s : State) (g : GateNo) (lvl : Level) (b : Tally) :
    ((s.modGate g (·.endFrame lvl)).modDecoder g fun d => { d with burst := some b })
      = s.withGates (s.gates.set g.val ((s.gate g).framed lvl b)) := by
  rw [State.modDecoder_eq_withGates, State.gate_modGate_same, State.modGate_gates, Vector.set_set]
  rfl

theorem State.endFrame_tallyWith (s : State) (g : GateNo) (lvl : Level) (frame : Option Nat) :
    (s.modGate g (·.endFrame lvl)).tallyWith g frame = s.tallyWith g frame := by
  simp only [State.tallyWith, State.gate_modGate_same]; rfl

theorem State.endFrame_kind (s : State) (g : GateNo) (lvl : Level) :
    ((s.modGate g (·.endFrame lvl)).gate g).entry.kind = (s.gate g).entry.kind := by
  rw [State.gate_modGate_same]; rfl

/-! ### BEACON_FRAME -/

theorem State.cellKindAt_line_endsFrame {s : State} {g : GateNo} {lvl : Level} (hfed : (s.gate g).fed = none)
    (htakes : (s.gate g).takes lvl) (hst : (s.gate g).decoder.state = .assemble)
    (hlen : (s.gate g).decoder.frame.length = 7)
    (hrun : (runAfter (s.gate g).decoder.run lvl).length < 16 ∨ lvl = .space) :
    s.cellKindAt ⟨g, .line⟩ lvl = .endsFrame := by
  rw [State.cellKindAt_line lvl hfed, Gate.cellKind_endsFrame htakes hst hlen hrun]

theorem State.cellKindAt_generator_endsFrame {s : State} {g : GateNo} {lvl : Level} (hgen : s.generates g lvl)
    (htakes : (s.gate g).takes lvl) (hst : (s.gate g).decoder.state = .assemble)
    (hlen : (s.gate g).decoder.frame.length = 7)
    (hrun : (runAfter (s.gate g).decoder.run lvl).length < 16 ∨ lvl = .space) :
    s.cellKindAt ⟨g, .generator⟩ lvl = .endsFrame := by
  rw [State.cellKindAt_generator hgen, Gate.cellKind_endsFrame htakes hst hlen hrun]

section EndCell
variable {s : State} {g : GateNo} {src : Source} {lvl : Level} {frame : Option Nat}

/-- An end cell whose frame makes no code arrive (R4, R11). -/
theorem exec_beaconFrame_noArrival (hcell : s.cellKindAt ⟨g, src⟩ lvl = .endsFrame)
    (hframe : judgeFrame (s.gate g).decoder.frame lvl (s.gate g).underTest = frame)
    (h : (s.gate g).entry.kind = .box → ∀ code, ¬(s.tallyWith g frame).arrival s.cfg.voteMinimum frame code) :
    exec (.beaconFrame ⟨g, src⟩ lvl) s
      = (s.withGates (s.gates.set g.val ((s.gate g).framed lvl (s.tallyWith g frame)))).done := by
  rw [exec_beaconFrame_endsFrame hcell, hframe, State.frameEvent_noArrival, State.endFrame_tallyWith,
    State.endFrame_modDecoder]
  rwa [State.endFrame_kind, State.endFrame_tallyWith]

/-- An end cell whose frame makes a code arrive at a Box gate (R4, R11, R18). -/
theorem exec_beaconFrame_arrival {code : Nat} (hcell : s.cellKindAt ⟨g, src⟩ lvl = .endsFrame)
    (hframe : judgeFrame (s.gate g).decoder.frame lvl (s.gate g).underTest = frame)
    (hbox : (s.gate g).entry.kind = .box) (h : (s.tallyWith g frame).arrival s.cfg.voteMinimum frame code) :
    exec (.beaconFrame ⟨g, src⟩ lvl) s
      = ((s.withGates (s.gates.set g.val ((s.gate g).framed lvl ((s.tallyWith g frame).arrive code)))).reportBox
          true g code s.race.raceClock).done := by
  rw [exec_beaconFrame_endsFrame hcell, hframe,
    State.frameEvent_arrival (code := code) (by rwa [State.endFrame_kind]) (by rwa [State.endFrame_tallyWith]),
    State.endFrame_tallyWith, State.endFrame_modDecoder]
  rfl

end EndCell

theorem Gate.underTest_of_line {g : Gate} (h : g.fed = none) : g.underTest = false := by simp [Gate.underTest, h]

theorem Gate.underTest_of_fed {g : Gate} {n : Nat} (h : g.fed = some n) : g.underTest = true := by
  simp [Gate.underTest, h]

theorem State.reportBox_line {s : State} {g : GateNo} (arrival : Bool) (code : Nat) (t : RawTime)
    (h : (s.gate g).fed = none) : s.reportBox arrival g code t = s.boxReport arrival g code t := by
  simp [State.reportBox, Gate.underTest_of_line h]

theorem State.reportBox_underTest {s : State} {g : GateNo} (arrival : Bool) (code : Nat) (t : RawTime)
    (h : (s.gate g).fed.isSome = true) : s.reportBox arrival g code t = s := by
  simp [State.reportBox, Gate.underTest, h]

/-- A box report for a code goes to the entrant that carries it, at the frame time moved by the gate's offset (R27,
R30). -/
theorem State.boxReport_some {s : State} {g : GateNo} {code : Nat} {i : Slot} (arrival : Bool) (time : RawTime)
    (h : s.slotOfCode code = some i) : s.boxReport arrival g code time
      = s.deliverBox arrival i (s.runningOf (time + BitVec.ofInt 32 ((s.gate g).entry.offset.getD 0))) := by
  simp [State.boxReport, h, passRaw]

/-- Settles O49: the cell ends the frame; then by the feed, and by whether the frame makes a code arrive. -/
theorem beaconFramesJoinBursts : Obligations.BeaconFramesJoinBursts := by
  refine ⟨?lineOther, ?lineArrival, ?generatorOther, ?judged, Tally.add_invalid, ?added, ?reported, ?lineNoArrival,
    ?generatorBox⟩
  case lineOther =>
    intro g lvl s hkind hfed hwait hst hlen hrun hbox
    have hcell := State.cellKindAt_line_endsFrame hfed ⟨hkind, .inl hwait⟩ hst hlen hrun
    rw [exec_beaconFrame_noArrival hcell rfl (fun h => absurd h hbox), Gate.framed_line _ _ hfed,
      Gate.underTest_of_line hfed]
    exact ⟨_, rfl, rfl⟩
  case lineArrival =>
    intro g lvl code b s hkind hfed hwait hst hlen hrun hbox hjudge hb harr
    have hcell := State.cellKindAt_line_endsFrame hfed ⟨hkind, .inl hwait⟩ hst hlen hrun
    have hframe := Gate.underTest_of_line hfed ▸ hjudge
    have htally : s.tallyWith g (some code) = b := by rw [← hb, hjudge]; rfl
    have harrival : (s.tallyWith g (some code)).arrival s.cfg.voteMinimum (some code) code := by
      rw [htally]; exact ⟨rfl, harr⟩
    rw [exec_beaconFrame_arrival hcell hframe hbox harrival, htally, Gate.framed_line _ _ hfed,
      State.reportBox_line _ _ _ (by simp [hfed])]
    exact ⟨_, rfl, rfl⟩
  case lineNoArrival =>
    intro g lvl b s hkind hfed hwait hst hlen hrun hbox hb hnone
    have hcell := State.cellKindAt_line_endsFrame hfed ⟨hkind, .inl hwait⟩ hst hlen hrun
    have hframe : judgeFrame (s.gate g).decoder.frame lvl (s.gate g).underTest
        = judgeFrame (s.gate g).decoder.frame lvl false := by rw [Gate.underTest_of_line hfed]
    have htally : s.tallyWith g (judgeFrame (s.gate g).decoder.frame lvl false) = b := hb
    rw [exec_beaconFrame_noArrival hcell hframe, htally, Gate.framed_line _ _ hfed]
    · exact ⟨_, rfl, rfl⟩
    · rw [htally]
      rintro - code ⟨hcode, e, he, hecode, hnew, hcount⟩
      rcases hnone code (by simp [hcode]) e he hecode with h | h
      · simp [hnew] at h
      · omega
  case generatorOther =>
    intro g lvl n r s hfed htest hdue hkind hwait hlvl hst hlen hrun hbox
    have hgen : s.generates g lvl := ⟨n, r, hfed, htest, hdue, hlvl⟩
    have hcell := State.cellKindAt_generator_endsFrame hgen ⟨hkind, .inl hwait⟩ hst hlen hrun
    rw [exec_beaconFrame_noArrival hcell rfl (fun h => absurd h hbox), Gate.framed_generator _ _ hfed,
      Gate.underTest_of_fed hfed]
    exact ⟨_, rfl, rfl⟩
  case generatorBox =>
    intro g lvl n r b s hfed htest hdue hkind hwait hlvl hst hlen hrun hbox hb
    have hgen : s.generates g lvl := ⟨n, r, hfed, htest, hdue, hlvl⟩
    have hcell := State.cellKindAt_generator_endsFrame hgen ⟨hkind, .inl hwait⟩ hst hlen hrun
    have hframe : judgeFrame (s.gate g).decoder.frame lvl (s.gate g).underTest
        = judgeFrame (s.gate g).decoder.frame lvl true := by rw [Gate.underTest_of_fed hfed]
    have htally : s.tallyWith g (judgeFrame (s.gate g).decoder.frame lvl true) = b := hb
    by_cases harr : ∃ code, (s.tallyWith g (judgeFrame (s.gate g).decoder.frame lvl true)).arrival s.cfg.voteMinimum
        (judgeFrame (s.gate g).decoder.frame lvl true) code
    · obtain ⟨code, harrival⟩ := harr
      obtain ⟨hcode, hentry⟩ := htally ▸ harrival
      rw [exec_beaconFrame_arrival hcell hframe hbox harrival, htally, Gate.framed_generator _ _ hfed,
        State.reportBox_underTest _ _ _ (by simp), Tally.arrive_of_iff (code := code)]
      · exact ⟨_, rfl, rfl⟩
      · intro e _
        rw [hcode, Option.some_inj]
        exact ⟨fun h => h.1.symm, fun h => ⟨h.symm, by rwa [h]⟩⟩
    · rw [exec_beaconFrame_noArrival hcell hframe (fun _ code h => harr ⟨code, h⟩), htally,
        Gate.framed_generator _ _ hfed, Tally.arrive_of_none]
      · exact ⟨_, rfl, rfl⟩
      · rintro e - ⟨hcode, hentry⟩
        exact harr ⟨e.code, hcode, htally.symm ▸ hentry⟩
  case judged =>
    intro a b c d e f p endCell underTest
    simp only [judgeFrame, frameCode_eq_zero_iff, frameCode_eq_63_iff, ← frameCode_cells a b c d e f p]
  case added =>
    exact fun b code now => ⟨Tally.add_known now, Tally.add_new now, Tally.add_excess now⟩
  case reported =>
    exact fun arrival g code time i s =>
      ⟨fun h => by simp [State.boxReport, h], State.boxReport_some arrival time⟩

end Sys2Proof.Machine
end

section
/-! SUPPORT. Chapter 1, sections 1.1 and 1.6: bursts discarded by CONFIG_GATE and by the self-test. -/

namespace Sys2Proof.Machine

/-! ### A request that is accepted -/

/-- An accepted request whose rule leaves the link and the race clock alone answers OK from now (R179, R180). -/
theorem State.next_of_accept {c : Instr} {s u : State} (h : exec c s = answered u.accept) (hlink : u.link = s.link)
    (hclock : u.race.raceClock = s.race.raceClock) :
    exec c s = .next ({ u with link := s.replied .okay } : State).settle := by
  have hreply : s.replied .okay = { u.link with tx := .waiting .okay u.race.raceClock } := by
    rw [State.replied, hlink, hclock]
  rw [h, hreply]
  rfl

/-! ### A burst discarded -/

/-- What the discarding of a gate's burst does beside the gates: the departure reports of a Box gate (R16, R19). -/
def State.discarded (s : State) (g : GateNo) : State :=
  match (s.gate g).decoder.burst with
  | some b => if (s.gate g).entry.kind = .box then s.departures g b else s
  | none => s

/-- Discarding reports nothing at a gate that is no Box gate or has no burst (R16). -/
theorem State.discarded_quiet {s : State} {g : GateNo}
    (h : (s.gate g).entry.kind ≠ .box ∨ (s.gate g).decoder.burst = none) : s.discarded g = s := by
  cases hb : (s.gate g).decoder.burst with
  | none => simp [State.discarded, hb]
  | some b =>
    have hkind : (s.gate g).entry.kind ≠ .box := h.resolve_right (by simp [hb])
    simp [State.discarded, hb, hkind]

/-- Discarding the burst of a Box gate on its line reports its arrived codes as departures (R16, R19). -/
theorem State.discarded_box {s : State} {g : GateNo} {b : Tally} (hkind : (s.gate g).entry.kind = .box)
    (hfed : (s.gate g).fed = none) (hb : (s.gate g).decoder.burst = some b) :
    s.discarded g = s.boxDepartures g b := by
  simp [State.discarded, hb, hkind, s.departures_of_onLine g b hfed]

/-- The reports leave the gates, the race clock, the inputs and the link. -/
theorem State.discarded_frame (s : State) (g : GateNo) :
    (s.discarded g).gates = s.gates ∧ (s.discarded g).race.raceClock = s.race.raceClock
      ∧ (s.discarded g).inputs = s.inputs ∧ (s.discarded g).link = s.link := by
  cases hb : (s.gate g).decoder.burst <;> by_cases hkind : (s.gate g).entry.kind = .box <;>
    simp [State.discarded, hb, hkind]

/-- Discarding a burst on another gate array in which its gate is the same: the reports, and the gate without it. -/
theorem State.withGates_discardBurst (s : State) (G : Vector Gate 24) (g : GateNo) (hG : G[g.val] = s.gate g) :
    (s.withGates G).discardBurst g = (s.discarded g).withGates
      (G.set g.val { s.gate g with decoder := { (s.gate g).decoder with burst := none } }) := by
  cases hb : (s.gate g).decoder.burst with
  | none =>
    have hself : { s.gate g with decoder := { (s.gate g).decoder with burst := none } } = G[g.val] := by rw [hG, ← hb]
    rw [hself, Vector.set_getElem_self]
    simp [State.discardBurst, State.discarded, hG, hb]
  | some b =>
    simp only [State.discardBurst, State.discarded, State.withGates_gate, hG, hb, State.modDecoder_eq_withGates,
      State.withGates_withGates]
    split
    · rw [State.withGates_departures _ _ _ _ (by simp) (by simp), State.withGates_gates]
    · rfl

/-- A burst discarded and its gate then replaced by a form that has none: the reports, and the gate in its new form. -/
theorem State.withGates_discardBurst_modGate (s : State) (G : Vector Gate 24) (g : GateNo) (hG : G[g.val] = s.gate g)
    {f : Gate → Gate}
    (hf : f { s.gate g with decoder := { (s.gate g).decoder with burst := none } } = f (s.gate g)) :
    ((s.withGates G).discardBurst g).modGate g f = (s.discarded g).withGates (G.set g.val (f (s.gate g))) := by
  rw [State.withGates_discardBurst s G g hG, State.modGate_eq_withGates]
  simp only [State.withGates_gate, Vector.getElem_set_self, hf, State.withGates_withGates, State.withGates_gates,
    Vector.set_set]

/-! ### CONFIG_GATE -/

theorem gateKindOf_none_iff (b : Byte) : gateKindOf b = none ↔ 6 < b.toNat := by
  unfold gateKindOf
  generalize b.toNat = n
  by_cases h : 6 < n
  · obtain ⟨m, rfl⟩ : ∃ m, n = m + 7 := ⟨n - 7, by omega⟩
    simp
  · interval_cases n <;> simp

/-- CONFIG_GATE is refused outside Setup and while a self-test runs (R7, R20, R104). -/
theorem State.configGateRequest_locked {s : State} (gate kind lane boundary sector : Byte) (offset : Word16)
    (h : s.race.state ≠ .setup ∨ s.testStart.isSome = true) :
    s.configGateRequest gate kind lane boundary sector offset = s.refuse .wrongState := if_pos h

section Unlocked
variable {s : State} {gate kind lane boundary sector : Byte} {offset : Word16}
  (hrace : s.race.state = .setup) (htest : s.testStart = none)
include hrace htest

theorem State.configGate_unlocked : ¬(s.race.state ≠ .setup ∨ s.testStart.isSome = true) := by simp [hrace, htest]

/-- A gate number, a kind or a field out of its range is refused with BAD_VALUE (R6, R7). -/
theorem State.configGateRequest_badValue
    (h : 23 < gate.toNat ∨ ((gateKindOf kind).bind fun k => gateEntryOf k lane boundary sector offset) = none) :
    s.configGateRequest gate kind lane boundary sector offset = s.refuse .badValue := by
  rw [State.configGateRequest, if_neg (State.configGate_unlocked hrace htest)]
  split
  · next hgate =>
    have hvalues := h.resolve_left (by omega)
    cases hk : gateKindOf kind with
    | none => rfl
    | some k =>
      have he : gateEntryOf k lane boundary sector offset = none := by simpa [hk] using hvalues
      simp only [he]
  · rfl

/-- An accepted CONFIG_GATE: the reports of the burst discarded, the gate configured, and the blinded summary watched
(R7, R16, R19). -/
theorem State.configGateRequest_accepted {g : GateNo} {k : GateKind} {e : GateEntry} (hk : gateKindOf kind = some k)
    (he : gateEntryOf k lane boundary sector offset = some e) :
    s.configGateRequest (BitVec.ofNat 8 g.val) kind lane boundary sector offset
      = ((s.discarded g).withGates (s.gates.set g.val ((s.gate g).configured e))).watchBlind.accept := by
  have hval : (BitVec.ofNat 8 g.val).toNat = g.val := by
    rw [BitVec.toNat_ofNat]; exact Nat.mod_eq_of_lt (by omega)
  have hgate := State.withGates_discardBurst_modGate s s.gates g rfl (f := (·.configured e)) rfl
  rw [State.withGates_self] at hgate
  rw [State.configGateRequest, if_neg (State.configGate_unlocked hrace htest), dif_pos (by omega)]
  simp only [hval, hk, he, Fin.eta, hgate]

theorem exec_configGate_accepted {g : GateNo} {k : GateKind} {e : GateEntry} (hk : gateKindOf kind = some k)
    (he : gateEntryOf k lane boundary sector offset = some e) :
    ∃ t, exec (.configGate (BitVec.ofNat 8 g.val) kind lane boundary sector offset) s = .next t
      ∧ t.gates = s.gates.set g.val ((s.gate g).configured e)
      ∧ t.link = s.replied .okay
      ∧ t = { s.discarded g with
          gates := t.gates, inputs := { s.inputs with blindSince := t.inputs.blindSince }
          link := s.replied .okay, pins := t.pinsNow } := by
  obtain ⟨-, hclock, hinputs, hlink⟩ := s.discarded_frame g
  have hrequest : exec (.configGate (BitVec.ofNat 8 g.val) kind lane boundary sector offset) s
      = answered ((s.discarded g).withGates (s.gates.set g.val ((s.gate g).configured e))).watchBlind.accept :=
    congrArg answered (State.configGateRequest_accepted hrace htest hk he)
  refine ⟨_, State.next_of_accept hrequest hlink hclock, rfl, rfl, ?_⟩
  rw [← hinputs]; rfl

end Unlocked

/-- The fields each gate kind uses, with their ranges (R6). -/
theorem gateEntryOf_cases (lane boundary sector : Byte) (offset : Word16) :
    gateEntryOf .unused lane boundary sector offset
        = some { kind := .unused, lane := none, boundary := none, sector := none, offset := none }
    ∧ gateEntryOf .line lane boundary sector offset
        = (if 6 < lane.toNat then none
          else some { kind := .line, lane := some lane.toNat, boundary := none, sector := none
                      offset := some offset.toInt })
    ∧ gateEntryOf .split lane boundary sector offset
        = (if 5 < lane.toNat ∨ boundary.toNat = 0 ∨ 3 < boundary.toNat then none
          else some { kind := .split, lane := some lane.toNat, boundary := some boundary.toNat, sector := none
                      offset := some offset.toInt })
    ∧ gateEntryOf .switch lane boundary sector offset
        = (if 5 < lane.toNat ∨ 3 < sector.toNat then none
          else some { kind := .switch, lane := some lane.toNat, boundary := none, sector := some sector.toNat
                      offset := some offset.toInt })
    ∧ ∀ k ∈ [GateKind.pitIn, .box, .pitOut], gateEntryOf k lane boundary sector offset
        = (if lane.toNat = 6
          then some { kind := k, lane := some 6, boundary := none, sector := none, offset := some offset.toInt }
          else none) := by
  have swap {p q : Prop} [Decidable p] [Decidable q] (x : Option GateEntry) (h : p ↔ ¬q) :
      (if p then x else none) = if q then none else x := by
    by_cases hq : q <;> simp [h, hq]
  refine ⟨rfl, swap _ (by omega), swap _ (by omega), swap _ (by omega), fun k hk => ?_⟩
  have hlane : gateEntryOf k lane boundary sector offset = if lane.toNat = 6
      then some { kind := k, lane := some lane.toNat, boundary := none, sector := none, offset := some offset.toInt }
      else none := by
    simp only [List.mem_cons, List.not_mem_nil, or_false] at hk
    obtain rfl | rfl | rfl := hk <;> rfl
  rw [hlane]
  split
  · next h => rw [h]
  · rfl

/-- Settles O27: by the lock, by the range of the values, and by whether a Box gate's burst is open. -/
theorem configGateWritesEntry : Obligations.ConfigGateWritesEntry := by
  refine ⟨?accepted, ?badKind, ?badField, gateEntryOf_cases, ?box, ?locked, ?kinds⟩
  case accepted =>
    intro g kind lane boundary sector offset k e s hrace htest hk he
    obtain ⟨t, hexec, hgates, hlink, ht⟩ := exec_configGate_accepted hrace htest hk he
    refine ⟨t, hexec, hgates, hlink, fun hquiet => ?_⟩
    rwa [State.discarded_quiet hquiet] at ht
  case badKind =>
    intro gate kind lane boundary sector offset s hrace htest h
    refine State.refuses_of_answered (congrArg answered (State.configGateRequest_badValue hrace htest ?_))
    exact h.imp_right fun hkind => by rw [(gateKindOf_none_iff kind).mpr hkind]; rfl
  case badField =>
    intro gate kind lane boundary sector offset k s hrace htest hk he
    exact State.refuses_of_answered
      (congrArg answered (State.configGateRequest_badValue hrace htest (.inr (by simpa [hk] using he))))
  case box =>
    intro g kind lane boundary sector offset k e b s hrace htest hk he hkind hfed hb
    obtain ⟨t, hexec, -, -, ht⟩ := exec_configGate_accepted hrace htest hk he
    rw [State.discarded_box hkind hfed hb] at ht
    exact ⟨t, hexec, ht⟩
  case locked =>
    intro gate kind lane boundary sector offset s _ htest
    exact State.refuses_of_answered
      (congrArg answered (s.configGateRequest_locked gate kind lane boundary sector offset (.inr htest)))
  case kinds => exact fun b => ⟨by decide, (gateKindOf_none_iff b).mpr⟩

/-! ### SELF_TEST -/

/-- A gate as a starting self-test takes it, its burst discarded if the gate is used (R16, R20). -/
def State.beginTest (s : State) (g : GateNo) : State :=
  (if (s.gate g).entry.kind = .unused then s else s.discardBurst g).modGate g Gate.startTest

/-- The self-test runs from now (R20). -/
def State.testFromNow (s : State) : State := { s with testStart := some s.race.raceClock }

theorem State.startTest_eq (s : State) :
    s.startTest = (s.forGates State.beginTest).testFromNow.watchBlind := by
  have hwatch (u : State) : ({ u with testStart := some u.race.raceClock } : State).watchBlind
      = u.testFromNow.watchBlind := rfl
  exact hwatch _

theorem State.withGates_beginTest (s : State) (G : Vector Gate 24) (g : GateNo) (hG : G[g.val] = s.gate g) :
    (s.withGates G).beginTest g = (s.discarded g).withGates (G.set g.val (s.gate g).startTest) := by
  by_cases hkind : (s.gate g).entry.kind = .unused
  · rw [State.discarded_quiet (.inl (by simp [hkind]))]
    simp [State.beginTest, hG, hkind, State.modGate_eq_withGates]
  · rw [State.beginTest, State.withGates_gate, hG, if_neg hkind]
    exact State.withGates_discardBurst_modGate s G g hG (by simp [Gate.startTest, hkind])

/-- The gates a pass over the gate numbers leaves, each number's gate replaced by the one given. -/
theorem foldl_set_getElem (F : GateNo → Gate) (l : List GateNo) (G : Vector Gate 24) (k : GateNo) :
    (l.foldl (fun G g => G.set g.val (F g)) G)[k.val] = if k ∈ l then F k else G[k.val] := by
  induction l generalizing G with
  | nil => rfl
  | cons g l ih =>
    rw [List.foldl_cons, ih]
    by_cases hk : k = g
    · subst hk; simp
    · have hne : g.val ≠ k.val := fun h => hk (Fin.ext h.symm)
      simp [hk, Vector.getElem_set_ne _ _ hne]

/-- The start of the self-test, gate by gate: the reports of the bursts discarded, in the order of the gates, and each
gate as the test starts on it (R16, R19, R20; log entry 15). -/
theorem State.foldl_beginTest (s : State) (l : List GateNo) (hl : l.Nodup) (u : State) (G : Vector Gate 24)
    (hu : u.gates = s.gates) (hG : ∀ g ∈ l, G[g.val] = s.gate g) :
    l.foldl State.beginTest (u.withGates G)
      = (l.foldl State.discarded u).withGates (l.foldl (fun G g => G.set g.val (s.gate g).startTest) G) := by
  induction l generalizing u G with
  | nil => rfl
  | cons g l ih =>
    obtain ⟨hg, hl⟩ := List.nodup_cons.mp hl
    have hgate : u.gate g = s.gate g := State.gate_congr hu g
    rw [List.foldl_cons, u.withGates_beginTest G g ((hG g (by simp)).trans hgate.symm), hgate]
    refine ih hl _ _ ((u.discarded_frame g).1.trans hu) fun k hk => ?_
    have hne : g.val ≠ k.val := fun h => hg (Fin.ext h ▸ hk)
    rw [Vector.getElem_set_ne _ _ hne, hG k (by simp [hk])]

/-- The reports of all gates leave the gates, the race clock, the inputs and the link. -/
theorem State.foldl_discarded_frame (s : State) (l : List GateNo) :
    (l.foldl State.discarded s).gates = s.gates ∧ (l.foldl State.discarded s).race.raceClock = s.race.raceClock
      ∧ (l.foldl State.discarded s).inputs = s.inputs ∧ (l.foldl State.discarded s).link = s.link :=
  ⟨foldl_keeps (·.gates) _ (fun s g => (s.discarded_frame g).1) l s,
    foldl_keeps (·.race.raceClock) _ (fun s g => (s.discarded_frame g).2.1) l s,
    foldl_keeps (·.inputs) _ (fun s g => (s.discarded_frame g).2.2.1) l s,
    foldl_keeps (·.link) _ (fun s g => (s.discarded_frame g).2.2.2) l s⟩

theorem exec_selfTest_locked {s : State} (h : s.testStart.isSome = true) :
    exec .selfTest s = answered (s.refuse .wrongState) := congrArg answered (if_pos (.inr h))

/-- An accepted SELF_TEST: the reports of the bursts discarded leave `d`, and every gate is as the test starts on it
(R16, R20). -/
theorem exec_selfTest_accepted {s d : State} (hrace : s.race.state = .setup) (htest : s.testStart = none)
    (hd : allSlots.foldl State.discarded s = d) :
    ∃ t, exec .selfTest s = .next t
      ∧ t.testStart = some s.race.raceClock ∧ t.link = s.replied .okay
      ∧ (∀ g : GateNo, t.gate g = (s.gate g).startTest)
      ∧ t = { d with
          gates := t.gates, testStart := t.testStart, inputs := { s.inputs with blindSince := t.inputs.blindSince }
          link := s.replied .okay, pins := t.pinsNow } := by
  obtain ⟨-, hclock, hinputs, hlink⟩ := hd ▸ s.foldl_discarded_frame allSlots
  have hfold := s.foldl_beginTest allSlots (by decide) s s.gates rfl (fun _ _ => rfl)
  have hget (g : GateNo) := foldl_set_getElem (fun g => (s.gate g).startTest) allSlots s.gates g
  generalize allSlots.foldl (fun G g => G.set g.val (s.gate g).startTest) s.gates = G at hfold hget
  rw [State.withGates_self, hd] at hfold
  have hstart : s.startTest = (d.withGates G).testFromNow.watchBlind := by
    rw [State.startTest_eq, State.forGates, hfold]
  have hexec : exec .selfTest s = answered (d.withGates G).testFromNow.watchBlind.accept := by
    rw [← hstart]; exact congrArg answered (if_neg (by simp [hrace, htest]))
  refine ⟨_, State.next_of_accept hexec hlink hclock, by rw [← hclock]; rfl, rfl, fun g => ?_, by rw [← hinputs]; rfl⟩
  exact (hget g).trans (if_pos (mem_allSlots g))

/-- The reports at all gates, written out for gates on their lines (R19). -/
theorem State.foldl_discarded_onLine (s : State) (hfed : ∀ g : GateNo, (s.gate g).fed = none) (l : List GateNo)
    (u : State) (hu : u.gates = s.gates) :
    l.foldl State.discarded u = l.foldl (fun u g => (s.gate g).decoder.burst.toList.foldl (fun u b =>
        if (s.gate g).entry.kind = .box then
          (b.entries.filter fun e => e.arrived).foldl (fun u e => u.boxReport false g e.code b.last) u
        else u) u) u := by
  induction l generalizing u with
  | nil => rfl
  | cons g l ih =>
    have hgate : u.gate g = s.gate g := State.gate_congr hu g
    have hhead : u.discarded g = (s.gate g).decoder.burst.toList.foldl (fun u b =>
        if (s.gate g).entry.kind = .box then
          (b.entries.filter fun e => e.arrived).foldl (fun u e => u.boxReport false g e.code b.last) u
        else u) u := by
      cases hb : (s.gate g).decoder.burst with
      | none => rw [State.discarded_quiet (.inr (by rw [hgate, hb]))]; rfl
      | some b =>
        simp [State.discarded, hgate, hb, u.departures_of_onLine g b (by rw [hgate, hfed]), State.boxDepartures]
    rw [List.foldl_cons, List.foldl_cons, ← hhead]
    exact ih _ ((u.discarded_frame g).1.trans hu)

/-! ### SELF_TEST_END -/

theorem exec_selfTestEnd_due {s : State} {r : RawTime} (h : s.testStart = some r) (hdue : 500 ≤ s.since r) :
    exec .selfTestEnd s = s.endTest.done := by
  have hdue : s.testDue = true := by simp [State.testDue, h, hdue]
  show (if s.testDue then s.endTest.done else s.done) = _
  rw [if_pos hdue]

/-- What the end of the self-test changes (R21). -/
theorem State.endTest_eq (s : State) : s.endTest = { s with
    gates := s.endTest.gates, testStart := none, attention := { s.attention with test := true }
    inputs := { s.inputs with blindSince := s.endTest.inputs.blindSince } } := by
  unfold State.endTest
  generalize (Vector.ofFn fun g : Fin 24 => (s.gate g).reconnect (s.gate g).grade) = G
  rfl

/-- At the end of the self-test a gate under test is graded and reconnected, and every other gate stays (R21). -/
theorem State.endTest_gate (s : State) (g : GateNo) : s.endTest.gate g =
    if (s.gate g).fed = none then s.gate g
    else { s.gate g with
      decoder := { state := .hunt, run := none, frame := [], burst := none, waiting := true }
      fed := none, result := if (s.gate g).counted = 1 then .pass else .fail, counted := 0 } := by
  have hget : s.endTest.gate g = (s.gate g).reconnect (s.gate g).grade := by
    simp [State.endTest, State.gate]
  rw [hget]
  cases hfed : (s.gate g).fed <;> simp [Gate.reconnect, Gate.underTest, hfed, Gate.grade, Decoder.cleared]

/-- Settles O30: the start by what the discarded bursts report, the end by the grade of each gate. -/
theorem selfTestStartsAndEnds : Obligations.SelfTestStartsAndEnds := by
  refine ⟨?starts, fun s h => State.refuses_of_answered (exec_selfTest_locked h), ?ends, ?reports⟩
  case starts =>
    intro s hrace htest
    obtain ⟨t, hexec, hstart, hlink, hgates, -⟩ := exec_selfTest_accepted hrace htest rfl
    refine ⟨t, hexec, hstart, hlink, hgates, fun hquiet => ?_⟩
    have hnone : allSlots.foldl State.discarded s = s :=
      List.foldl_fixed' (fun g => State.discarded_quiet (Decidable.not_or_of_imp (hquiet g))) allSlots
    obtain ⟨t', hexec', -, -, -, ht'⟩ := exec_selfTest_accepted hrace htest hnone
    obtain rfl : t = t' := by injection hexec.symm.trans hexec'
    exact ht'
  case ends =>
    intro r s htest hdue
    refine ⟨_, exec_selfTestEnd_due htest hdue, ?_, s.endTest_gate⟩
    rw [State.pinsNow_settle, State.settle_gates, State.settle_inputs, State.settle]
    generalize s.endTest.pinsNow = pins
    exact congrArg (fun u : State => { u with pins := pins }) s.endTest_eq
  case reports =>
    intro s hrace htest hfed
    obtain ⟨t, hexec, -, -, -, ht⟩ :=
      exec_selfTest_accepted hrace htest (s.foldl_discarded_onLine hfed allSlots s rfl)
    exact ⟨t, hexec, ht⟩

end Sys2Proof.Machine
end

section
/-! SUPPORT. What every step keeps, from what every command keeps: a completed frame carries out a request command, and
a step is a command or a tick. -/

namespace Sys2Proof.Machine

/-! ### A frame is its request -/

/-- A frame's request is the effect of a request command, or is refused before it comes to one (R179). -/
theorem State.carryOut_command (s : State) (code : Byte) (body : List Byte) :
    (∃ c, (requestBytes c).isSome = true ∧ exec c s = answered (s.carryOut code body))
      ∨ (s.carryOut code body).1 = s := by
  unfold State.carryOut
  split
  case h_1 => exact .inl ⟨.status, rfl, rfl⟩
  case h_3 => exact .inl ⟨.configGate .., rfl, rfl⟩
  case h_5 => exact .inl ⟨.configCall .., rfl, rfl⟩
  case h_7 =>
    split
    · exact .inl ⟨.configRace _, rfl, rfl⟩
    · exact .inr rfl
  case h_8 => exact .inl ⟨.power _, rfl, rfl⟩
  case h_10 => exact .inl ⟨.selfTest, rfl, rfl⟩
  case h_12 => exact .inl ⟨.enter .., rfl, rfl⟩
  case h_14 => exact .inl ⟨.lookup _, rfl, rfl⟩
  case h_16 => exact .inl ⟨.lookupSlot _, rfl, rfl⟩
  case h_18 => exact .inl ⟨.amend .., rfl, rfl⟩
  case h_20 => exact .inl ⟨.retire _, rfl, rfl⟩
  case h_22 => exact .inl ⟨.exclude _, rfl, rfl⟩
  case h_24 => exact .inl ⟨.call .., rfl, rfl⟩
  case h_26 => exact .inl ⟨.waive .., rfl, rfl⟩
  case h_28 => exact .inl ⟨.readPasses _, rfl, rfl⟩
  case h_30 => exact .inl ⟨.assign .., rfl, rfl⟩
  case h_32 => exact .inl ⟨.discard _, rfl, rfl⟩
  case h_34 => exact .inl ⟨.standings .., rfl, rfl⟩
  case h_36 => exact .inl ⟨.stage, rfl, rfl⟩
  case h_38 => exact .inl ⟨.start _, rfl, rfl⟩
  case h_40 => exact .inl ⟨.yellow _, rfl, rfl⟩
  case h_42 => exact .inl ⟨.zone .., rfl, rfl⟩
  case h_44 => exact .inl ⟨.suspend, rfl, rfl⟩
  case h_46 => exact .inl ⟨.resume _, rfl, rfl⟩
  case h_48 => exact .inl ⟨.endRace, rfl, rfl⟩
  case h_50 => exact .inl ⟨.resetRace, rfl, rfl⟩
  case h_52 => exact .inl ⟨.resetPart, rfl, rfl⟩
  case h_54 => exact .inl ⟨.readAttention, rfl, rfl⟩
  case h_56 => exact .inl ⟨.setMask _, rfl, rfl⟩
  case h_58 => exact .inl ⟨.ackStations, rfl, rfl⟩
  case h_60 => exact .inl ⟨.readPenaltyActivity, rfl, rfl⟩
  all_goals exact .inr rfl

/-- What a completed frame comes to: nothing, its request with the answer, or a broadcast's request alone (R177). -/
theorem State.judgeCommand_cases (s : State) (addr len code : Byte) (body : List Byte) (b : Byte) :
    s.judgeCommand addr len code body b = s.setRx .hunt
      ∨ s.judgeCommand addr len code body b = respond ((s.setRx .hunt).carryOut code body)
      ∨ s.judgeCommand addr len code body b = ((s.setRx .hunt).carryOut code body).1 := by
  unfold State.judgeCommand State.broadcast
  dsimp only
  (repeat' split) <;> simp

/-- What every request command keeps, and what reads neither the link nor the pins, the check byte of a frame keeps. -/
theorem execCommandFrame_keeps {P : State → Prop}
    (hlink : ∀ (s : State) (l : CommandLink) (p : Pins), P s → P { s with link := l, pins := p })
    (hrequest : ∀ (c : Instr) (s : State), (requestBytes c).isSome = true → P s → ∃ t, exec c s = .next t ∧ P t)
    (b : Byte) {s : State} (hs : P s) : ∃ t, exec (.commandFrame b) s = .next t ∧ P t := by
  have hunt : P (s.setRx .hunt) := hlink s { s.link with rx := .hunt, lastByte := s.race.raceClock } s.pins hs
  have carried (code : Byte) (body : List Byte) : P ((s.setRx .hunt).carryOut code body).1 := by
    rcases (s.setRx .hunt).carryOut_command code body with ⟨c, hc, hexec⟩ | h
    · obtain ⟨t, ht, hP⟩ := hrequest c _ hc hunt
      rw [hexec, answered_next] at ht
      exact hlink (respond _).settle ((s.setRx .hunt).carryOut code body).1.link
        ((s.setRx .hunt).carryOut code body).1.pins (ht ▸ hP)
    · rwa [h]
  have judged (addr len code : Byte) (body : List Byte) : P (s.judgeCommand addr len code body b) := by
    rcases s.judgeCommand_cases addr len code body b with h | h | h <;> rw [h]
    · exact hunt
    · exact hlink _ _ _ (carried code body)
    · exact carried code body
  show ∃ t, execCommandFrame b s = .next t ∧ P t
  unfold execCommandFrame
  split
  · exact ⟨_, rfl, hlink _ _ _ (judged ..)⟩
  · exact ⟨_, rfl, hlink _ _ _ hs⟩

/-! ### A step is a command or a tick -/

/-- What every command keeps, what does not read the waiting commands, and what a tick keeps, every step keeps. -/
theorem step_keeps {P : State → Prop} (hpending : ∀ (s : State) (l : List Instr), P s → P { s with pending := l })
    (hexec : ∀ (c : Instr) (s : State), P s → ∃ t, exec c s = .next t ∧ P t)
    (htick : ∀ s : State, P s → P s.tick.settle) (s : State) (hs : P s) : ∃ t, step s = .next t ∧ P t := by
  cases hp : s.pending with
  | cons c rest =>
    have hstep : step s = exec c { s with pending := rest } := by simp [step, hp]
    rw [hstep]
    exact hexec c _ (hpending s rest hs)
  | nil =>
    rw [step_of_empty s hp]
    rcases s.idle_cases with ⟨e, l, -, hidle⟩ | ⟨-, hidle⟩ <;> rw [hidle]
    · exact hexec e s hs
    · exact ⟨_, rfl, htick s hs⟩

end Sys2Proof.Machine
end

section
/-! SUPPORT. Chapter 2, section 2.5: which commands touch the Unclaimed Pass Queue, and that none spoils its form. -/

namespace Sys2Proof.Machine

/-! ### The queue's own operations -/

/-- The queue's form reads the resolver alone. -/
theorem State.queueKept_of_resolver {s t : State} (h : t.resolver = s.resolver) (hs : s.queueKept) : t.queueKept := by
  simpa only [State.queueKept, h] using hs

/-- A pass that joins takes a free tag, and the oldest of 16 makes way (R31, R32, R33). -/
theorem State.enqueuePass_queueKept {s : State} (p : Pass) (hs : s.queueKept) : (s.enqueuePass p).queueKept := by
  obtain ⟨hlen, hnodup⟩ := hs
  obtain ⟨kept, tag, hkept, htag, -, hqueue⟩ := s.enqueuePass_queue p
  have hkept : kept.length < 16 ∧ (kept.map (·.tag)).Nodup := by
    rcases hkept with ⟨rfl, hroom, -⟩ | ⟨rfl, -, -⟩
    · exact ⟨hroom, hnodup⟩
    · refine ⟨by simp; omega, ?_⟩
      rw [List.map_drop]
      exact hnodup.sublist (List.drop_sublist ..)
  have hfree : tag ∉ kept.map (·.tag) := by
    rw [← tagHeld_iff, htag, freeTag_free kept 16 _ (by decide) hkept.1]
    decide
  rw [State.queueKept, hqueue]
  refine ⟨by simp; omega, ?_⟩
  rw [List.map_append, List.map_singleton, ← List.concat_eq_append]
  exact hkept.2.concat hfree

/-- An entry that leaves takes its tag with it (R40, R42). -/
theorem State.settleEntry_queueKept {s : State} (tag : Byte) (hs : s.queueKept) : (s.settleEntry tag).queueKept := by
  obtain ⟨hlen, hnodup⟩ := hs
  exact ⟨(List.length_filter_le ..).trans hlen, hnodup.sublist (List.filter_sublist.map _)⟩

theorem QueuedPass.expire_tag (tag : Byte) (q : QueuedPass) : (q.expire tag).tag = q.tag := by
  unfold QueuedPass.expire
  split <;> rfl

/-- A routed pass is delivered, which leaves the queue, or joins it (R29). -/
theorem State.route_queueKept {s : State} (p : Pass) (hs : s.queueKept) : (s.route p).queueKept := by
  unfold State.route
  split
  · exact State.enqueuePass_queueKept p hs
  · split
    · next i _ => exact State.queueKept_of_resolver (by simp) hs
    · exact State.enqueuePass_queueKept _ hs

theorem State.takeTally_queueKept {s : State} (g : GateNo) (b : Tally) (hs : s.queueKept) :
    (s.takeTally g b).queueKept :=
  foldl_induction State.queueKept State.route (fun _ p h => State.route_queueKept p h) _ s hs

/-- A burst that closes is counted under test, and else voted (R17, R21). -/
theorem State.closeBurst_queueKept {s : State} (g : GateNo) (b : Tally) (hs : s.queueKept) :
    (s.closeBurst g b).queueKept := by
  unfold State.closeBurst
  dsimp only
  split
  · exact State.queueKept_of_resolver (by split <;> rfl) hs
  · exact State.takeTally_queueKept g b (State.queueKept_of_resolver (by split <;> simp) hs)

theorem State.closeOpen_queueKept {s : State} (g : GateNo) (hs : s.queueKept) : (s.closeOpen g).queueKept := by
  cases hb : (s.gate g).decoder.burst with
  | none => rwa [State.closeOpen_of_none hb]
  | some b => rw [State.closeOpen_of_some hb]; exact State.closeBurst_queueKept g b hs

/-! ### What leaves the resolver -/

theorem State.startTest_resolver (s : State) : s.startTest.resolver = s.resolver := by
  have gate (s : State) (g : GateNo) : (s.beginTest g).resolver = s.resolver := by
    unfold State.beginTest
    split <;> simp
  rw [s.startTest_eq, State.watchBlind_resolver, State.forGates]
  dsimp only [State.testFromNow]
  exact foldl_keeps State.resolver State.beginTest gate allSlots s

theorem State.amendItems_resolver (s : State) (i : Slot) (items : Byte) (d : Int) (v : Option Nat)
    (st : Option StationNo) : (s.amendItems i items d v st).resolver = s.resolver := by
  have laps (s : State) : (s.amendLaps i d).resolver = s.resolver := by
    unfold State.amendLaps
    dsimp only
    split <;> simp
  have override (s : State) : (s.amendOverride i v).resolver = s.resolver := by simp [State.amendOverride]
  have station (s : State) : (s.amendStation i st).resolver = s.resolver := rfl
  have flag (s : State) : (s.amendBlackFlag i).resolver = s.resolver := by
    unfold State.amendBlackFlag
    split <;> simp
  have calls (s : State) : (s.resetCalls i).resolver = s.resolver := rfl
  simp only [State.amendItems, apply_ite State.resolver, laps, override, station, flag, calls, ite_self]

theorem State.readActivityRequest_resolver (s : State) : s.readActivityRequest.1.resolver = s.resolver :=
  State.forSlots_keeps State.resolver _ (fun s i => s.modEntrant_resolver i _) s

theorem State.raceReset_resolver (s : State) : s.raceReset.resolver = Resolver.atReset := by
  simp [State.raceReset]

/-- The refresh of the ceilings leaves the queue (R163). -/
theorem State.refresh_resolver (s : State) : s.refresh.resolver = s.resolver := by
  unfold State.refresh
  dsimp only
  exact State.forSlots_keeps State.resolver _ (fun s i => by split <;> simp) s

/-- The call action leaves the queue (R170). -/
theorem State.callAction_resolver (s : State) : s.callAction.resolver = s.resolver := by
  unfold State.callAction
  split <;> simp

/-! ### Which commands touch the queue -/

/-- The commands that may add to the Unclaimed Pass Queue, remove from it, or write its latches. -/
def touchesQueue : Instr → Bool
  | .readPasses _ | .assign .. | .discard _ | .resetRace | .commandFrame _ => true
  | .gateBlind _ | .burstGapExpiry _ | .burstDwellExpiry _ | .claimWaitExpiry _ => true
  | .powerUp .. | .resetPin .. | .resetPartReboot .. => true
  | _ => false

/-- A request whose rule leaves the resolver leaves it when it is answered. -/
theorem answered_resolver {s : State} {r : State × Answer} (h : r.1.resolver = s.resolver) :
    ∃ t, answered r = .next t ∧ t.resolver = s.resolver := ⟨_, rfl, h⟩

/-- A command that ends in a state with the resolver as it was leaves it. -/
theorem done_resolver {s u : State} (h : u.resolver = s.resolver) :
    ∃ t, u.done = .next t ∧ t.resolver = s.resolver := ⟨_, rfl, h⟩

/-- The same for an event that comes only where its condition holds. -/
theorem ite_done_resolver {s u : State} {p : Prop} [Decidable p] (h : u.resolver = s.resolver) :
    ∃ t, (if p then u.done else s.done) = .next t ∧ t.resolver = s.resolver := by
  split
  · exact done_resolver h
  · exact done_resolver rfl

/-- Every other command leaves the resolver as it is. -/
theorem exec_resolver {c : Instr} (s : State) (h : touchesQueue c = false) :
    ∃ t, exec c s = .next t ∧ t.resolver = s.resolver := by
  cases c
  case status | resetPart | setMask | ackStations | returnByteError => exact ⟨_, rfl, rfl⟩
  case configGate | configCall | configRace | power | selfTest =>
    refine answered_resolver ?_
    simp only [State.configGateRequest, State.configCallRequest, State.configRaceRequest, State.powerRequest,
      State.selfTestRequest]
    (repeat' split) <;> simp [State.startTest_resolver]
  case enter | lookup | lookupSlot | amend | retire | exclude =>
    refine answered_resolver ?_
    simp only [State.enterRequest, State.enterCar, State.lookupRequest, State.lookupSlotRequest, State.amendRequest,
      State.retireRequest, State.vacate, State.retireEntrant, State.excludeRequest, State.excludeEntrant]
    (repeat' split) <;> simp [State.amendItems_resolver]
  case call | waive | standings | readAttention =>
    refine answered_resolver ?_
    simp only [State.callRequest, State.waiveRequest, State.standingsRequest, State.readAttentionRequest]
    (repeat' split) <;> simp
  case stage | start | yellow | zone | suspend | resume | endRace =>
    refine answered_resolver ?_
    simp only [State.stageRequest, State.startRequest, State.startCountdown, State.yellowRequest, State.zoneRequest,
      State.suspendRequest, State.resumeRequest, State.endRequest]
    (repeat' split) <;> simp
  case readPenaltyActivity => exact answered_resolver s.readActivityRequest_resolver
  case pauseByte | resumingByte => exact done_resolver (by simp)
  case rxGapTimeout | rxByteError | commandByte | selfTestEnd | beaconFrame | gateUnblind | sightingDeadlineExpiry
      | timeTargetReached | runningClockCap | stopGoHoldExpiry | powerHoldExpiry | blindedSummaryEdge
      | linkHoldExpiry =>
    exact ite_done_resolver (by simp)
  case ceilingRefresh => exact ite_done_resolver s.refresh_resolver
  case responseStart | responseEnd | ceilingFrameEnd =>
    simp only [exec, execResponseStart, execResponseEnd, execCeilingFrameEnd]
    split
    · exact ite_done_resolver rfl
    all_goals exact done_resolver rfl
  case gateCell | countdownStep | finishWindowExpiry | ceilingFrameStart =>
    simp only [exec, execGateCell, execCountdownStep, execFinishWindowExpiry, execCeilingFrameStart]
    split <;> exact done_resolver (by simp)
  case stationRelease | redPress | redRelease | powerSenseLoss | powerSenseRestore =>
    simp only [exec, execStationRelease, execRedPress, execRedRelease, execPowerSenseLoss, execPowerSenseRestore]
    split <;> exact done_resolver (by simp)
  case stationPress =>
    simp only [exec, execStationPress]
    split
    · exact done_resolver rfl
    · split <;> exact done_resolver (by simp [State.callAction_resolver])
  all_goals cases h

/-! ### The commands that touch it -/

theorem State.readPassesRequest_queueKept {s : State} (n : Byte) (hs : s.queueKept) :
    (s.readPassesRequest n).1.queueKept := by
  unfold State.readPassesRequest
  split <;> exact hs

theorem State.discardRequest_queueKept {s : State} (tag : Byte) (hs : s.queueKept) :
    (s.discardRequest tag).1.queueKept := by
  unfold State.discardRequest
  split
  · exact hs
  · exact State.settleEntry_queueKept tag hs

theorem State.assignLate_queueKept {s : State} (i : Slot) (tag : Byte) (p : Pass) (a : RunTime) (hs : s.queueKept) :
    (s.assignLate i tag p a).1.queueKept := by
  have settled (o : LateOutcome) : ((s.deliverLate i p a o).settleEntry tag).queueKept :=
    State.settleEntry_queueKept tag (State.queueKept_of_resolver (by simp) hs)
  unfold State.assignLate
  split
  · exact hs
  · exact hs
  · exact settled _
  · exact settled _
  · exact settled _

theorem State.assignRequest_queueKept {s : State} (tag code : Byte) (hs : s.queueKept) :
    (s.assignRequest tag code).1.queueKept := by
  unfold State.assignRequest
  split
  · exact hs
  split
  · exact hs
  split
  · exact hs
  split
  · exact hs
  split
  · exact State.assignLate_queueKept _ _ _ _ hs
  · exact State.settleEntry_queueKept tag (State.queueKept_of_resolver (by simp) hs)

/-- A command that ends in a state whose queue has its form leaves it its form. -/
theorem done_queueKept {u : State} (h : u.queueKept) : ∃ t, u.done = .next t ∧ t.queueKept := ⟨_, rfl, h⟩

theorem answered_queueKept {r : State × Answer} (h : r.1.queueKept) : ∃ t, answered r = .next t ∧ t.queueKept :=
  ⟨_, rfl, h⟩

/-- An expired claim wait is noted in the entry, whose tag stays (R35). -/
theorem execClaimWaitExpiry_queueKept {s : State} (tag : Byte) (hs : s.queueKept) :
    ∃ t, execClaimWaitExpiry tag s = .next t ∧ t.queueKept := by
  have noted : (({ s with resolver := { s.resolver with
      queue := s.resolver.queue.map (QueuedPass.expire tag), waitLatch := true } } : State)).queueKept := by
    obtain ⟨hlen, hnodup⟩ := hs
    refine ⟨by simpa using hlen, ?_⟩
    simpa [Function.comp_def, QueuedPass.expire_tag] using hnodup
  unfold execClaimWaitExpiry
  split
  · split
    · exact done_queueKept noted
    · exact done_queueKept hs
  · exact done_queueKept hs

/-- The events that close a burst hand its passes on (R14, R15, R16). -/
theorem exec_burstEvents_queueKept {s : State} (hs : s.queueKept) (g : GateNo) (feed : Feed) :
    (∃ t, execBurstGapExpiry g s = .next t ∧ t.queueKept) ∧ (∃ t, execBurstDwellExpiry g s = .next t ∧ t.queueKept)
      ∧ ∃ t, execGateBlind feed s = .next t ∧ t.queueKept := by
  refine ⟨?gap, ?dwell, ?blind⟩
  case gap =>
    unfold execBurstGapExpiry
    split
    · exact done_queueKept (State.closeOpen_queueKept g hs)
    · exact done_queueKept hs
  case dwell =>
    unfold execBurstDwellExpiry
    split
    · exact done_queueKept (State.closeBurst_queueKept g _ hs)
    · exact done_queueKept hs
  case blind =>
    unfold execGateBlind
    split
    · exact done_queueKept (State.closeOpen_queueKept feed.gate (State.queueKept_of_resolver rfl hs))
    · exact done_queueKept hs

/-- Every command but the check byte of a frame leaves the queue its form. -/
theorem exec_queueKept {c : Instr} {s : State} (hc : ∀ b, c ≠ .commandFrame b) (hs : s.queueKept) :
    ∃ t, exec c s = .next t ∧ t.queueKept := by
  by_cases htouch : touchesQueue c = false
  · obtain ⟨t, hexec, hres⟩ := exec_resolver s htouch
    exact ⟨t, hexec, State.queueKept_of_resolver hres hs⟩
  have empty (t : State) (h : t.resolver = Resolver.atReset) : t.queueKept := by
    simp [State.queueKept, h, Resolver.atReset]
  cases c
  case readPasses n => exact answered_queueKept (State.readPassesRequest_queueKept n hs)
  case assign tag code => exact answered_queueKept (State.assignRequest_queueKept tag code hs)
  case discard tag => exact answered_queueKept (State.discardRequest_queueKept tag hs)
  case resetRace => exact answered_queueKept (empty _ s.raceReset_resolver)
  case commandFrame b => exact absurd rfl (hc b)
  case gateBlind feed => exact (exec_burstEvents_queueKept hs feed.gate feed).2.2
  case burstGapExpiry g => exact (exec_burstEvents_queueKept hs g ⟨g, .line⟩).1
  case burstDwellExpiry g => exact (exec_burstEvents_queueKept hs g ⟨g, .line⟩).2.1
  case claimWaitExpiry tag => exact execClaimWaitExpiry_queueKept tag hs
  case powerUp | resetPin => exact done_queueKept (empty _ rfl)
  case resetPartReboot straps pins =>
    show ∃ t, (if s.link.tx = .rebooting then _ else s.done) = .next t ∧ _
    split
    · exact done_queueKept (empty _ rfl)
    · exact done_queueKept hs
  all_goals exact absurd rfl htouch

/-- Every command leaves the queue its form. -/
theorem exec_queueKept_all (c : Instr) (s : State) (hs : s.queueKept) : ∃ t, exec c s = .next t ∧ t.queueKept := by
  by_cases hc : ∃ b, c = .commandFrame b
  · obtain ⟨b, rfl⟩ := hc
    refine execCommandFrame_keeps (fun _ _ _ h => h) (fun c s hc h => exec_queueKept ?_ h) b hs
    rintro b rfl
    cases hc
  · exact exec_queueKept (fun b h => hc ⟨b, h⟩) hs

/-- Settles O10: no command, and no tick, spoils the form of the queue. -/
theorem unclaimedQueueKept : Obligations.UnclaimedQueueKept :=
  step_keeps (P := fun s => s.queueKept) (fun _ _ h => h) exec_queueKept_all (fun _ h => h)

end Sys2Proof.Machine
end

section
/-! SUPPORT. Chapter 2, section 2.5: READ_PASSES and DISCARD. -/

namespace Sys2Proof.Machine

/-! ### The bytes of the entries read -/

theorem candidateBytes_pair (c : Option (Nat × Nat)) : ∃ a b, candidateBytes c = [a, b] := by
  cases c <;> exact ⟨_, _, rfl⟩

theorem QueuedPass.bytes_length (q : QueuedPass) : q.bytes.length = 17 := by
  obtain ⟨a, b, h0⟩ := candidateBytes_pair q.pass.candidates[0]?
  obtain ⟨c, d, h1⟩ := candidateBytes_pair q.pass.candidates[1]?
  simp [QueuedPass.bytes, h0, h1, word32, optWord32]

/-- A pass entry is sent as 4 bytes of its place, 8 of its times, and 5 of its marks and candidates (section 11.6). -/
theorem QueuedPass.bytes_places (q : QueuedPass) (rest : List Byte) :
    bodyAt (q.bytes ++ rest) 0 4
        = [q.tag, byteOf q.pass.gate.val, optByte q.pass.lane, byteOf q.pass.kind.number]
      ∧ bodyAt (q.bytes ++ rest) 4 8 = word32 q.pass.raw.toNat ++ optWord32 q.pass.running
      ∧ bodyAt (q.bytes ++ rest) 12 5
        = [q.pass.marks.byte] ++ candidateBytes q.pass.candidates[0]? ++ candidateBytes q.pass.candidates[1]? := by
  obtain ⟨a, b, h0⟩ := candidateBytes_pair q.pass.candidates[0]?
  obtain ⟨c, d, h1⟩ := candidateBytes_pair q.pass.candidates[1]?
  rw [QueuedPass.bytes, h0, h1]
  exact ⟨rfl, rfl, rfl⟩

/-- The bytes of entries of one length, from an entry's first on. -/
theorem drop_flatMap_of_length {α β : Type} {f : α → List β} {n : Nat} (hf : ∀ x, (f x).length = n) {l : List α}
    {k : Nat} {x : α} (h : l[k]? = some x) : (l.flatMap f).drop (n * k) = f x ++ (l.drop (k + 1)).flatMap f := by
  induction l generalizing k with
  | nil => simp at h
  | cons y l ih =>
    cases k with
    | zero =>
      obtain rfl : y = x := by simpa using h
      simp
    | succ k =>
      have hy : n * (k + 1) = (f y).length + n * k := by rw [hf]; ring
      rw [List.flatMap_cons, hy, List.drop_length_add_append, ih (by simpa using h), List.drop_succ_cons]

/-- The bytes of a READ_PASSES answer that lie in one entry. -/
theorem bodyAt_entry {l : List QueuedPass} {k : Nat} {q : QueuedPass} (h : l[k]? = some q) (flag : Byte) (j n : Nat) :
    bodyAt (flag :: l.flatMap QueuedPass.bytes) (1 + j + 17 * k) n
      = bodyAt (q.bytes ++ (l.drop (k + 1)).flatMap QueuedPass.bytes) j n := by
  have hj : 1 + j + 17 * k = 17 * k + j + 1 := by omega
  rw [bodyAt, bodyAt, hj, List.drop_succ_cons, ← List.drop_drop, drop_flatMap_of_length QueuedPass.bytes_length h]

/-! ### READ_PASSES -/

/-- READ_PASSES in range answers OK with the oldest entries and clears the two latches (R34, R39). -/
theorem exec_readPasses_inRange {n : Byte} {s : State} (hn : 1 ≤ n.toNat ∧ n.toNat ≤ 4) :
    exec (.readPasses n) s = answered
      ({ s with resolver := { s.resolver with waitLatch := false, overrun := false } },
        Answer.okWith (flagByte (decide (n.toNat < s.resolver.queue.length))
          :: (s.resolver.queue.take n.toNat).flatMap QueuedPass.bytes)) := by
  have hr : inRange 1 4 n.toNat = true := by simpa [inRange] using hn
  exact congrArg answered (if_pos hr)

theorem exec_readPasses_outOfRange {n : Byte} {s : State} (hn : n.toNat = 0 ∨ 4 < n.toNat) :
    exec (.readPasses n) s = answered (s.refuse .badValue) := by
  have hr : ¬ inRange 1 4 n.toNat = true := by simp [inRange]; omega
  exact congrArg answered (if_neg hr)

/-! ### DISCARD -/

/-- No entry holds a tag the queue does not find (R32). -/
theorem State.queued_none_iff {s : State} {tag : Byte} : s.queued tag = none ↔ ∀ q ∈ s.resolver.queue, q.tag ≠ tag := by
  simp [State.queued]

theorem exec_discard_held {tag : Byte} {q : QueuedPass} {s : State} (hq : s.queued tag = some q) :
    exec (.discard tag) s = answered (s.settleEntry tag).accept := by
  show answered (s.discardRequest tag) = _
  rw [State.discardRequest, hq]

theorem exec_discard_notHeld {tag : Byte} {s : State} (hq : s.queued tag = none) :
    exec (.discard tag) s = answered (s.refuse .noPass) := by
  show answered (s.discardRequest tag) = _
  rw [State.discardRequest, hq]

/-- Settles O36: by the range of `n`, and by whether an entry holds the tag. -/
theorem readPassesAndDiscard : Obligations.ReadPassesAndDiscard := by
  refine ⟨?read, ?badValue, ?discard, ?noPass⟩
  case read =>
    intro n s hn
    refine ⟨_, exec_readPasses_inRange hn, _, rfl, rfl, rfl, rfl, ?_, rfl, ?_⟩
    · simp [Answer.okWith, List.length_flatMap, QueuedPass.bytes_length]; omega
    · intro k hk q hq
      have hq : (s.resolver.queue.take n.toNat)[k.val]? = some q := by
        rw [List.getElem?_take_of_lt hk]
        exact Option.mem_toList.mp hq
      have place := bodyAt_entry hq (flagByte (decide (n.toNat < s.resolver.queue.length)))
      obtain ⟨hplace, htimes, hmarks⟩ :=
        q.bytes_places (((s.resolver.queue.take n.toNat).drop (k.val + 1)).flatMap QueuedPass.bytes)
      exact ⟨(place 0 4).trans hplace, (place 4 8).trans htimes, (place 12 5).trans hmarks⟩
  case badValue => exact fun n s hn => State.refuses_of_answered (exec_readPasses_outOfRange hn)
  case discard =>
    intro tag q s hq htag
    obtain ⟨e, he⟩ := Option.ne_none_iff_exists'.mp fun h : s.queued tag = none =>
      State.queued_none_iff.mp h q hq htag
    exact ⟨_, State.next_of_accept (exec_discard_held he) rfl rfl, rfl⟩
  case noPass =>
    exact fun tag s h => State.refuses_of_answered (exec_discard_notHeld (State.queued_none_iff.mpr h))

end Sys2Proof.Machine
end

section
/-! SUPPORT. ASSIGN (chapter 2, section 2.5), and the late assignment of Line passes (chapter 4, section 4.7). -/

namespace Sys2Proof.Machine

/-! ### The late assignment -/

/-- The judging of an assigned Line pass, by the crossings the record holds (R85). -/
theorem judgeLate_eqs (floor p l a : Nat) :
    judgeLate floor none (some p) a = .launch ∧ judgeLate floor none none a = .launch
      ∧ judgeLate floor (some l) (some p) a =
          (if l < a + floor ∧ a < l + floor then .duplicate
          else if l < a then .credit l
          else if p < a + floor ∧ a < p + floor then .duplicate
          else if p < a then .split p l else .tooOld)
      ∧ judgeLate floor (some l) none a =
          (if l < a + floor ∧ a < l + floor then .duplicate else if l < a then .credit l else .tooOld) := by
  simp [judgeLate, withinFloor]

/-- A pass between the last two crossings, clear of both by the lap floor, splits the last lap (R85). -/
theorem judgeLate_between {floor p l a : Nat} (hp : p + floor ≤ a) (hl : a + floor ≤ l) (hbetween : p < a ∧ a < l) :
    judgeLate floor (some l) (some p) a = .split p l := by
  rw [(judgeLate_eqs floor p l a).2.2.1, if_neg (by omega), if_neg (by omega), if_neg (by omega), if_pos hbetween.1]

/-- A late pass older than the latest pass time takes the Lap Unit's part alone (R55, R86). -/
theorem State.deliverLate_eq (s : State) (i : Slot) (p : Pass) (a : RunTime) (o : LateOutcome) :
    s.deliverLate i p a o =
      (if ∃ u ∈ (s.entrant i).latestPass.toList, a < u then s.lateLap i a o
        else (s.scoredPass .full i p).lateLap i a o) := by
  unfold State.deliverLate
  cases (s.entrant i).latestPass <;> simp

/-- The split of the last lap writes the record, and places the entrant again at its new laps (R87, R88). -/
theorem State.split_eq (s : State) (i : Slot) (p l a : RunTime) : s.split i p l a = { s with
    entrants := s.entrants.set i.val ((s.entrant i).splitLap s.cfg.lapCeiling p l a)
    standings := placeAgain i ((s.entrant i).splitLap s.cfg.lapCeiling p l a).key s.standings } := by
  rw [State.split, State.replace, State.entrant_modEntrant_same]
  rfl

/-- Two halves of a lap under caution are no best lap (R73, R87). -/
theorem Entrant.splitLap_bestLap_of_caution (e : Entrant) (ceiling p l a : Nat) (h : e.lastLapMarks.caution = true) :
    (e.splitLap ceiling p l a).bestLap = e.bestLap := by
  simp [Entrant.splitLap, judgeBest, h]

/-- The records of a table in which one is replaced. -/
theorem State.entrant_of_set {s t : State} {i : Slot} {e : Entrant} (h : t.entrants = s.entrants.set i.val e) :
    t.entrant i = e ∧ ∀ j : Slot, j ≠ i → t.entrant j = s.entrant j :=
  have hmod (j : Slot) : t.entrant j = (s.modEntrant i fun _ => e).entrant j := State.entrant_congr h j
  ⟨(hmod i).trans (s.entrant_modEntrant_same i _), fun j hj => (hmod j).trans (s.entrant_modEntrant_other _ hj)⟩

/-! ### ASSIGN -/

/-- Full treatment is that of a Racing entrant in Running or Finishing (R54). -/
theorem treatment_full_iff (e : EntrantState) (r : RaceState) :
    treatment e r = .full ↔ e = .racing ∧ (r = .running ∨ r = .finishing) := by
  cases e <;> cases r <;> simp [treatment]

/-- The states ASSIGN takes no pass for, and the others (R41). -/
theorem EntrantState.closed_iff (e : EntrantState) : e.closed = true ↔ e ∈ [.finished, .retired, .excluded] := by
  cases e <;> simp [EntrantState.closed]

theorem EntrantState.open_iff (e : EntrantState) : e.closed = false ↔ e ∈ [.vacant, .staged, .racing] := by
  cases e <;> simp [EntrantState.closed]

section Assign

variable {s : State} {tag code : Byte} {q : QueuedPass} {i : Slot}

theorem exec_assign_noPass (hq : s.queued tag = none) : exec (.assign tag code) s = answered (s.refuse .noPass) := by
  show answered (s.assignRequest tag code) = _
  rw [State.assignRequest, hq]

theorem exec_assign_noEntrant (hq : s.queued tag = some q) (hi : s.named code = none) :
    exec (.assign tag code) s = answered (s.refuse .noEntrant) := by
  show answered (s.assignRequest tag code) = _
  rw [State.assignRequest, hq, hi]

theorem exec_assign_closed (hq : s.queued tag = some q) (hi : s.named code = some i)
    (hstate : (s.entrant i).state.closed = true) : exec (.assign tag code) s = answered (s.refuse .wrongState) := by
  show answered (s.assignRequest tag code) = _
  simp only [State.assignRequest, hq, hi, hstate, if_true]

theorem exec_assign_tooOld (hq : s.queued tag = some q) (hi : s.named code = some i)
    (hstate : (s.entrant i).state.closed = false) (hold : assignTooOld (s.entrant i) q.pass = true) :
    exec (.assign tag code) s = answered (s.refuse .tooOld) := by
  show answered (s.assignRequest tag code) = _
  simp [State.assignRequest, hq, hi, hstate, hold]

/-- A Line pass with a running time, to a Racing entrant in Running or Finishing, goes to late assignment (R42). -/
theorem exec_assign_late {a : RunTime} (hq : s.queued tag = some q) (hi : s.named code = some i)
    (hstate : (s.entrant i).state = .racing) (hrace : s.race.state = .running ∨ s.race.state = .finishing)
    (hkind : q.pass.kind = .line) (ha : q.pass.running = some a) :
    exec (.assign tag code) s = answered (s.assignLate i tag q.pass.assigned a) := by
  have hfull : treatment (s.entrant i).state s.race.state = .full :=
    (treatment_full_iff _ _).mpr ⟨hstate, hrace⟩
  have hold : assignTooOld (s.entrant i) q.pass = false := by simp [assignTooOld, ha, hkind]
  have hopen : (s.entrant i).state.closed = false := by rw [hstate]; rfl
  show answered (s.assignRequest tag code) = _
  simp only [State.assignRequest, hq, hi, hopen, hold, ha, hkind, hfull]
  rfl

/-- Any other pass is delivered as passes are (R42). -/
theorem exec_assign_deliver (hq : s.queued tag = some q) (hi : s.named code = some i)
    (hstate : (s.entrant i).state.closed = false) (hold : assignTooOld (s.entrant i) q.pass = false)
    (hother : q.pass.kind ≠ .line ∨ q.pass.running = none
      ∨ ¬((s.entrant i).state = .racing ∧ (s.race.state = .running ∨ s.race.state = .finishing))) :
    exec (.assign tag code) s = answered ((s.deliver i q.pass.assigned).settleEntry tag).accept := by
  show answered (s.assignRequest tag code) = _
  simp only [State.assignRequest, hq, hi, hstate, hold, treatment_full_iff, Bool.false_eq_true, if_false]
  split
  · next a ha hlate =>
    obtain ⟨hkind, hfull⟩ := of_decide_eq_true hlate
    simp [hkind, ha, hfull] at hother
  · rfl

/-- The late assignment of a pass the Lap Unit takes (R84, R86). -/
theorem State.assignLate_accepted {p : Pass} {a : RunTime} {o : LateOutcome}
    (ho : judgeLate s.cfg.lapFloor (s.entrant i).latestCrossing (s.entrant i).prevCrossing a = o)
    (hdup : o ≠ .duplicate) (hold : o ≠ .tooOld) : s.assignLate i tag p a = ((s.deliverLate i p a o).settleEntry tag).accept := by
  rw [State.assignLate, ho]
  cases o with
  | launch | credit | split => rfl
  | duplicate => exact absurd rfl hdup
  | tooOld => exact absurd rfl hold

/-- An accepted ASSIGN has the effects of the delivery, and its entry leaves the queue (R35, R42). -/
theorem exec_assign_accepted {u : State} (h : exec (.assign tag code) s = answered (u.settleEntry tag).accept)
    (hresolver : u.resolver = s.resolver) (hlink : u.link = s.link) (hclock : u.race.raceClock = s.race.raceClock) :
    ∃ t, exec (.assign tag code) s = .next t ∧ t = { u with
      resolver := { s.resolver with queue := s.resolver.queue.filter fun x => x.tag != tag, waitLatch := false }
      link := s.replied .okay, pins := t.pinsNow } := by
  rw [← hresolver]
  exact ⟨_, State.next_of_accept h hlink hclock, rfl⟩

/-- A Line pass older than the latest pass time, between the last two crossings and clear of both, splits the last lap
and has no other effect (R55, R85, R87). -/
theorem exec_assign_split {a p l u : RunTime} (hq : s.queued tag = some q) (hi : s.named code = some i)
    (hstate : (s.entrant i).state = .racing) (hrace : s.race.state = .running ∨ s.race.state = .finishing)
    (hkind : q.pass.kind = .line) (ha : q.pass.running = some a) (hp : (s.entrant i).prevCrossing = some p)
    (hl : (s.entrant i).latestCrossing = some l) (hu : (s.entrant i).latestPass = some u) (hau : a < u)
    (hpa : p + s.cfg.lapFloor ≤ a) (hal : a + s.cfg.lapFloor ≤ l) (hbetween : p < a ∧ a < l) :
    exec (.assign tag code) s = answered ((s.split i p l a).settleEntry tag).accept := by
  have ho : judgeLate s.cfg.lapFloor (s.entrant i).latestCrossing (s.entrant i).prevCrossing a = .split p l := by
    rw [hl, hp]
    exact judgeLate_between hpa hal hbetween
  have hsplit : s.deliverLate i q.pass.assigned a (.split p l) = s.split i p l a := by
    rw [State.deliverLate_eq, if_pos ⟨u, by simp [hu], hau⟩, State.lateLap]
  rw [exec_assign_late hq hi hstate hrace hkind ha, State.assignLate_accepted ho nofun nofun, hsplit]

end Assign

/-- Settles O37: by the refusals of R41 in order, and by the delivery the pass takes. -/
theorem assignSettlesPass : Obligations.AssignSettlesPass := by
  refine ⟨?delivered, ?late, ?split, ?noPass, ?noEntrant, ?closed, ?tooOld, ?lateRefused, judgeLate_eqs,
    fun i pass a o s => s.deliverLate_eq i pass a o, ?lapPart⟩
  case delivered =>
    intro tag code q i s hq hi hstate hold hother
    have hopen := (EntrantState.open_iff _).mpr hstate
    exact exec_assign_accepted (exec_assign_deliver hq hi hopen hold hother) (by simp) (by simp) (by simp)
  case late =>
    intro tag code q i a o s hq hi hstate hrace hkind ha ho hdup hold
    have hexec := exec_assign_late hq hi hstate hrace hkind ha
    rw [State.assignLate_accepted ho hdup hold] at hexec
    exact exec_assign_accepted hexec (by simp) (by simp) (by simp)
  case split =>
    intro tag code q i a p l u s hq hi hstate hrace hkind ha hp hl hu hau hpa hal hbetween
    have hexec := exec_assign_split hq hi hstate hrace hkind ha hp hl hu hau hpa hal hbetween
    obtain ⟨t, hnext, ht⟩ := exec_assign_accepted hexec (by simp) (by simp) (by simp)
    rw [State.split_eq] at ht
    have htable : t.entrants = s.entrants.set i.val ((s.entrant i).splitLap s.cfg.lapCeiling p l a) :=
      congrArg State.entrants ht
    obtain ⟨hsame, hother⟩ := State.entrant_of_set htable
    refine ⟨t, hnext, ?_⟩
    rw [hsame, htable]
    exact ⟨ht, hother, rfl, Entrant.splitLap_bestLap_of_caution _ _ _ _ _⟩
  case noPass =>
    intro tag code s h
    exact State.refuses_of_answered (exec_assign_noPass (State.queued_none_iff.mpr h))
  case noEntrant =>
    intro tag code q s hq hi
    exact State.refuses_of_answered (exec_assign_noEntrant hq hi)
  case closed =>
    intro tag code q i s hq hi hstate
    exact State.refuses_of_answered (exec_assign_closed hq hi ((EntrantState.closed_iff _).mpr hstate))
  case tooOld =>
    intro tag code q i s hq hi hstate hold
    have hopen := (EntrantState.open_iff _).mpr (List.mem_cons_of_mem _ hstate)
    refine State.refuses_of_answered (exec_assign_tooOld hq hi hopen ?_)
    rcases hold with ⟨hnone, hracing⟩ | ⟨hkind, a, ha, u, hu, hau⟩
    · simp [assignTooOld, hnone, hracing]
    · rw [Option.mem_toList] at ha hu
      simp [assignTooOld, ha, hu, hkind, hau]
  case lateRefused =>
    intro tag code q i a s hq hi hstate hrace hkind ha
    have hexec := exec_assign_late hq hi hstate hrace hkind ha
    refine ⟨fun ho => ?_, fun ho => ?_⟩ <;>
      exact State.refuses_of_answered (hexec.trans (by rw [State.assignLate, ho]))
  case lapPart =>
    intro i a p l s
    refine ⟨fun h => ?_, rfl, rfl, rfl, s.split_eq i p l a⟩
    simp [State.crossing, h, State.lateLap]

end Sys2Proof.Machine
end

section
/-! SUPPORT. One entrant's record and dirty class replaced: the form in which what is done to one entrant is computed. -/

namespace Sys2Proof.Machine

/-- The state with one entrant's record and dirty class replaced. -/
def State.withRecord (s : State) (i : Slot) (e : Entrant) (d : DirtyClass) : State :=
  { s with entrants := s.entrants.set i.val e, ceiling := { s.ceiling with dirty := s.ceiling.dirty.set i.val d } }

@[simp] theorem State.withRecord_self (s : State) (i : Slot) : s.withRecord i (s.entrant i) (s.dirtyOf i) = s := by
  simp [State.withRecord, State.entrant, State.dirtyOf]

@[simp] theorem State.withRecord_entrant (s : State) (i : Slot) (e : Entrant) (d : DirtyClass) :
    (s.withRecord i e d).entrant i = e := by simp [State.withRecord, State.entrant]

@[simp] theorem State.withRecord_dirtyOf (s : State) (i : Slot) (e : Entrant) (d : DirtyClass) :
    (s.withRecord i e d).dirtyOf i = d := by simp [State.withRecord, State.dirtyOf]

theorem State.withRecord_entrant_other (s : State) {i j : Slot} (e : Entrant) (d : DirtyClass) (h : j ≠ i) :
    (s.withRecord i e d).entrant j = s.entrant j :=
  s.entrant_modEntrant_other (fun _ => e) h

theorem State.withRecord_dirtyOf_other (s : State) {i j : Slot} (e : Entrant) (d : DirtyClass) (h : j ≠ i) :
    (s.withRecord i e d).dirtyOf j = s.dirtyOf j :=
  s.dirtyOf_setDirty_other d h

@[simp] theorem State.withRecord_race (s : State) (i : Slot) (e : Entrant) (d : DirtyClass) :
    (s.withRecord i e d).race = s.race := rfl

@[simp] theorem State.withRecord_effectiveFor (s : State) (i : Slot) (e : Entrant) (d : DirtyClass) (f : Entrant) :
    (s.withRecord i e d).effectiveFor f = s.effectiveFor f := rfl

@[simp] theorem State.settle_dirtyOf (s : State) (i : Slot) : s.settle.dirtyOf i = s.dirtyOf i := rfl

@[simp] theorem State.settle_effectiveFor (s : State) (e : Entrant) : s.settle.effectiveFor e = s.effectiveFor e := rfl

@[simp] theorem State.withRecord_modEntrant (s : State) (i : Slot) (e : Entrant) (d : DirtyClass)
    (f : Entrant → Entrant) : (s.withRecord i e d).modEntrant i f = s.withRecord i (f e) d := by
  rw [State.modEntrant, State.withRecord_entrant]
  simp [State.withRecord]

@[simp] theorem State.withRecord_setDirty (s : State) (i : Slot) (e : Entrant) (d c : DirtyClass) :
    (s.withRecord i e d).setDirty i c = s.withRecord i e c := by
  simp [State.setDirty, State.withRecord]

/-- A record with the effective ceiling the state gives it (R158). -/
def State.limited (s : State) (e : Entrant) : Entrant := { e with effective := s.effectiveFor e }

/-- A recomputation of the entrant itself (R159, R160). -/
@[simp] theorem State.withRecord_recompute (s : State) (i : Slot) (e : Entrant) (d : DirtyClass)
    (h : e.state ≠ .vacant) : (s.withRecord i e d).recompute i
      = s.withRecord i (s.limited e) (DirtyClass.mark e.effective (s.effectiveFor e) d) := by
  rw [State.recompute, State.withRecord_entrant, if_neg h]
  simp [State.limited]

theorem State.modEntrant_eq_withRecord (s : State) (i : Slot) (f : Entrant → Entrant) :
    s.modEntrant i f = s.withRecord i (f (s.entrant i)) (s.dirtyOf i) := by
  rw [← s.withRecord_modEntrant, s.withRecord_self]

theorem DirtyClass.mark_same (v : Nat) (d : DirtyClass) : DirtyClass.mark v v d = d := by simp [DirtyClass.mark]

/-- One entrant's ceiling moved, and marked by the move, is what R160 makes of every class. -/
theorem State.withRecord_markedFrom (s : State) (i : Slot) (e : Entrant) :
    (s.withRecord i e (DirtyClass.mark (s.entrant i).effective e.effective (s.dirtyOf i))).settle.markedFrom s := by
  intro j
  rw [State.settle_entrant, State.settle_dirtyOf]
  by_cases h : j = i
  · subst h; simp
  · rw [s.withRecord_dirtyOf_other _ _ h, s.withRecord_entrant_other _ _ h, DirtyClass.mark_same]

/-- A command that replaces one entrant's record and dirty class leaves the rest. -/
theorem State.withRecord_frame (s : State) (i : Slot) (e : Entrant) (d : DirtyClass) {t : State}
    (ht : t = (s.withRecord i e d).settle) :
    t = { s with entrants := s.entrants.set i.val (t.entrant i), ceiling := { s.ceiling with dirty := t.ceiling.dirty }
                 pins := t.pinsNow } := by
  subst ht
  rw [State.settle_entrant, State.withRecord_entrant]
  rfl

/-- A state with one record and dirty class of another replaced has the class it reads there. -/
theorem State.eq_withRecord_dirtyOf {s t : State} {i : Slot} {e : Entrant} {d : DirtyClass}
    (h : t = s.withRecord i e d) : t = s.withRecord i e (t.dirtyOf i) := by
  rw [h, State.withRecord_dirtyOf]

end Sys2Proof.Machine
end

section
/-! SUPPORT. Claim waits (chapter 2, section 2.5), and stop-and-go and power holds (chapter 8). -/

namespace Sys2Proof.Machine

/-! ### Claim waits -/

theorem exec_claimWaitExpiry_due {s : State} {tag : Byte} {e : QueuedPass} (hq : s.queued tag = some e)
    (hdue : s.claimDue e = true) : exec (.claimWaitExpiry tag) s = State.done { s with
      resolver := { s.resolver with queue := s.resolver.queue.map (QueuedPass.expire tag), waitLatch := true } } := by
  show execClaimWaitExpiry tag s = _
  rw [execClaimWaitExpiry, hq]
  exact if_pos hdue

theorem exec_claimWaitExpiry_notDue {s : State} {tag : Byte} (h : ∀ e, s.queued tag = some e → s.claimDue e = false) :
    exec (.claimWaitExpiry tag) s = s.done := by
  show execClaimWaitExpiry tag s = _
  unfold execClaimWaitExpiry
  split
  · next e hq => simp [h e hq]
  · rfl

/-- An entry the queue finds for a tag is one of its entries with that tag. -/
theorem State.queued_some {s : State} {tag : Byte} {e : QueuedPass} (h : s.queued tag = some e) :
    e ∈ s.resolver.queue ∧ e.tag = tag :=
  ⟨List.mem_of_find?_eq_some h, by simpa using List.find?_some h⟩

/-! ### The expiries of holds -/

theorem RaceState.clockRuns_iff (r : RaceState) : r.clockRuns = true ↔ r = .running ∨ r = .finishing := by
  cases r <;> simp [RaceState.clockRuns]

theorem exec_stopGoHoldExpiry_due {s : State} {i : Slot} (h : s.holdTimerDue i = true) :
    exec (.stopGoHoldExpiry i) s = (s.serveOut i).done := if_pos h

theorem exec_stopGoHoldExpiry_notDue {s : State} {i : Slot} (h : s.holdTimerDue i = false) :
    exec (.stopGoHoldExpiry i) s = s.done := if_neg (by simp [h])

theorem exec_powerHoldExpiry_due {s : State} {i : Slot} (h : s.powerHoldDue i = true) :
    exec (.powerHoldExpiry i) s = ((s.setPowerHold i none).markActivity i).done := if_pos h

theorem exec_powerHoldExpiry_notDue {s : State} {i : Slot} (h : s.powerHoldDue i = false) :
    exec (.powerHoldExpiry i) s = s.done := if_neg (by simp [h])

theorem State.holdTimerDue_of {s : State} {i : Slot} {p : PitPenalty} {rest : List PitPenalty} {h : RunTime}
    (hrace : s.race.state = .running ∨ s.race.state = .finishing) (hp : (s.entrant i).penalties = p :: rest)
    (hserving : p.kind = .stopGo ∧ p.state = .serving) (hh : (s.entrant i).holdTimer = some h)
    (hdue : h ≤ s.race.runningClock) : s.holdTimerDue i = true := by
  simp [State.holdTimerDue, (RaceState.clockRuns_iff _).mpr hrace, Entrant.servingStopGo, hp, hserving, hh, hdue]

/-- No hold expires while the running clock stands, or before it has come to the timer (R102, R146; log entry 3). -/
theorem State.holdTimerDue_false {s : State} {i : Slot}
    (h : ¬(s.race.state = .running ∨ s.race.state = .finishing)
      ∨ ∀ u ∈ (s.entrant i).holdTimer.toList, s.race.runningClock < u) : s.holdTimerDue i = false := by
  rcases h with h | h
  · have : s.race.state.clockRuns = false := by simpa using mt (RaceState.clockRuns_iff _).mp h
    simp [State.holdTimerDue, this]
  · cases hu : (s.entrant i).holdTimer with
    | none => simp [State.holdTimerDue, hu]
    | some u => simp [State.holdTimerDue, hu, h u (by simp [hu])]

/-- The same for a power hold (R150; log entry 3). -/
theorem State.powerHoldDue_false {s : State} {i : Slot}
    (h : ¬(s.race.state = .running ∨ s.race.state = .finishing)
      ∨ ∀ u ∈ (s.entrant i).powerHold.toList, s.race.runningClock < u.expiry) : s.powerHoldDue i = false := by
  rcases h with h | h
  · have : s.race.state.clockRuns = false := by simpa using mt (RaceState.clockRuns_iff _).mp h
    simp [State.powerHoldDue, this]
  · cases hu : (s.entrant i).powerHold with
    | none => simp [State.powerHoldDue, hu]
    | some u => simp [State.powerHoldDue, hu, h u (by simp [hu])]

/-! ### The queue and its hold timer in the record -/

/-- The record with another pit-penalty queue and hold timer. -/
def Entrant.withQueue (e : Entrant) (l : List PitPenalty) (u : Option RunTime) : Entrant :=
  { e with penalties := l, holdTimer := u }

/-- The record with the penalty activity mark. -/
def Entrant.marked (e : Entrant) : Entrant := { e with activity := true }

@[simp] theorem Entrant.withQueue_withQueue (e : Entrant) (l k : List PitPenalty) (u v : Option RunTime) :
    (e.withQueue l u).withQueue k v = e.withQueue k v := rfl

@[simp] theorem Entrant.marked_withQueue (e : Entrant) (l : List PitPenalty) (u : Option RunTime) :
    e.marked.withQueue l u = (e.withQueue l u).marked := rfl

@[simp] theorem State.limited_limited_withQueue (s : State) (e : Entrant) (l : List PitPenalty) (u : Option RunTime) :
    s.limited ((s.limited e).withQueue l u) = s.limited (e.withQueue l u) := rfl

@[simp] theorem Entrant.withQueue_state (e : Entrant) (l : List PitPenalty) (u : Option RunTime) :
    (e.withQueue l u).state = e.state := rfl

@[simp] theorem Entrant.marked_state (e : Entrant) : e.marked.state = e.state := rfl

@[simp] theorem State.limited_state (s : State) (e : Entrant) : (s.limited e).state = e.state := rfl

theorem State.serveHead_eq (s : State) (i : Slot) (p : PitPenalty) (rest : List PitPenalty) (u : RunTime) :
    s.serveHead i p rest u
      = (s.modEntrant i (·.withQueue ({ p with state := .serving } :: rest) (some u))).recompute i := by
  simp only [State.serveHead, State.setPenalties, State.setHoldTimer, State.modEntrant_eq_withRecord s,
    State.withRecord_modEntrant]
  rfl

theorem State.unserveHead_eq (s : State) (i : Slot) (p : PitPenalty) (rest : List PitPenalty) :
    s.unserveHead i p rest
      = (s.modEntrant i (·.withQueue ({ p with state := .active } :: rest) none)).recompute i := by
  simp only [State.unserveHead, State.setPenalties, State.setHoldTimer, State.modEntrant_eq_withRecord s,
    State.withRecord_modEntrant]
  rfl

/-- The removal of a Serving stop-and-go takes its hold timer with it (R146). -/
theorem State.dropHead_serving {s : State} {i : Slot} {p : PitPenalty} {rest : List PitPenalty}
    (hp : (s.entrant i).penalties = p :: rest) (hserving : p.kind = .stopGo ∧ p.state = .serving) :
    s.dropHead i = (s.modEntrant i (·.withQueue rest none)).recompute i := by
  have h : p.servingStopGo = true := by simp [PitPenalty.servingStopGo, hserving]
  simp only [State.dropHead, hp, h, if_true, State.setPenalties, State.setHoldTimer, State.modEntrant_eq_withRecord s,
    State.withRecord_modEntrant]
  rfl

/-- A served stop-and-go leaves the queue behind it, no hold timer, and the activity mark (R146). -/
theorem State.dropHead_markActivity {s : State} {i : Slot} {p : PitPenalty} {rest : List PitPenalty}
    (hv : (s.entrant i).state ≠ .vacant) (hp : (s.entrant i).penalties = p :: rest)
    (hserving : p.kind = .stopGo ∧ p.state = .serving) :
    (s.dropHead i).markActivity i = s.withRecord i (s.limited ((s.entrant i).withQueue rest none).marked)
      (DirtyClass.mark (s.entrant i).effective (s.effectiveFor ((s.entrant i).withQueue rest none)) (s.dirtyOf i)) := by
  rw [State.dropHead_serving hp hserving, State.modEntrant_eq_withRecord, State.withRecord_recompute,
    State.markActivity, State.withRecord_modEntrant]
  · rfl
  · exact hv

theorem State.serveOut_last {s : State} {i : Slot} {p : PitPenalty} (hv : (s.entrant i).state ≠ .vacant)
    (hp : (s.entrant i).penalties = [p]) (hserving : p.kind = .stopGo ∧ p.state = .serving) :
    s.serveOut i = s.withRecord i (s.limited ((s.entrant i).withQueue [] none).marked)
      (DirtyClass.mark (s.entrant i).effective (s.effectiveFor ((s.entrant i).withQueue [] none)) (s.dirtyOf i)) := by
  rw [State.serveOut, State.dropHead_markActivity hv hp hserving]
  exact State.judgeHead_nil _ _ (by rw [State.withRecord_entrant]; rfl)

/-- The ceiling reads no more of the queue than whether its head is a Serving stop-and-go (R158). -/
theorem State.effectiveFor_withQueue (s : State) (e : Entrant) {l k : List PitPenalty} (u v : Option RunTime)
    (h : (e.withQueue l u).servingStopGo = (e.withQueue k v).servingStopGo) :
    s.effectiveFor (e.withQueue l u) = s.effectiveFor (e.withQueue k v) := by
  unfold State.effectiveFor State.limits
  rw [h]
  rfl

theorem State.limited_withQueue_penalties (s : State) (e : Entrant) {l k : List PitPenalty} (u : Option RunTime)
    (h : (e.withQueue l u).servingStopGo = (e.withQueue k u).servingStopGo) :
    ({ s.limited (e.withQueue l u).marked with penalties := k } : Entrant) = s.limited (e.withQueue k u).marked := by
  show ({ e.withQueue k u with activity := true, effective := s.effectiveFor (e.withQueue l u) } : Entrant) = _
  rw [s.effectiveFor_withQueue e u u h]
  rfl

/-- The entry behind a served stop-and-go becomes the head: Serving if it is a stop-and-go and the car stands in the
box, else Active (R142, R146). -/
theorem State.serveOut_next {s : State} {i : Slot} {p q : PitPenalty} {rest : List PitPenalty}
    (hv : (s.entrant i).state ≠ .vacant) (hp : (s.entrant i).penalties = p :: q :: rest)
    (hserving : p.kind = .stopGo ∧ p.state = .serving) (hq : q.state = .pending) :
    ∃ d, s.serveOut i = s.withRecord i (s.limited ((s.entrant i).withQueue
      ({ q with
        state := if q.kind = .stopGo ∧ (s.entrant i).pitStatus = .box then .serving else .active
        remaining := some q.deadline } :: rest)
      (if q.kind = .stopGo ∧ (s.entrant i).pitStatus = .box then some (s.race.runningClock + q.holdTicks)
        else none)).marked) d := by
  have hbox : (s.limited ((s.entrant i).withQueue (q :: rest) none).marked).pitStatus = (s.entrant i).pitStatus := rfl
  rw [State.serveOut, State.dropHead_markActivity hv hp hserving,
    State.judgeHead_pending _ i q rest (by rw [State.withRecord_entrant]; rfl) hq, State.withRecord_entrant, hbox]
  split
  · next h =>
    rw [State.serveHead_eq, State.withRecord_modEntrant, State.withRecord_recompute, State.limited_limited_withQueue,
      Entrant.marked_withQueue, Entrant.withQueue_withQueue, State.withRecord_race]
    · exact ⟨_, rfl⟩
    · simpa using hv
  · next h =>
    rw [State.setPenalties, State.withRecord_modEntrant]
    rw [s.limited_withQueue_penalties _ none]
    · exact ⟨_, rfl⟩
    · simp [Entrant.servingStopGo, Entrant.withQueue, hq, PitPenalty.activated] <;> rfl

/-- A served power hold: absent, with the activity mark, and one recomputation (R150). -/
theorem State.powerHold_served {s : State} {i : Slot} (hv : (s.entrant i).state ≠ .vacant) :
    (s.setPowerHold i none).markActivity i = s.withRecord i (s.limited { s.entrant i with powerHold := none }.marked)
      (DirtyClass.mark (s.entrant i).effective (s.effectiveFor { s.entrant i with powerHold := none })
        (s.dirtyOf i)) := by
  rw [State.setPowerHold, State.modEntrant_eq_withRecord, State.withRecord_recompute, State.markActivity,
    State.withRecord_modEntrant]
  · rfl
  · exact hv

/-! ### The box -/

section Box

variable {s : State} {i : Slot} {p : PitPenalty} {rest : List PitPenalty}

theorem State.penaltyBoxArrival_stopGo {now : RunTime} (hp : (s.entrant i).penalties = p :: rest)
    (h : p.kind = .stopGo ∧ p.state = .active) :
    s.penaltyBoxArrival i now = s.serveHead i p rest (now + p.holdTicks) := by
  simp [State.penaltyBoxArrival, hp, h]

theorem State.penaltyBoxArrival_other {now : RunTime} (hp : (s.entrant i).penalties = p :: rest)
    (h : ¬(p.kind = .stopGo ∧ p.state = .active)) : s.penaltyBoxArrival i now = s := by
  simp only [State.penaltyBoxArrival, hp, if_neg h]

theorem State.penaltyBoxDeparture_stopGo (hp : (s.entrant i).penalties = p :: rest)
    (h : p.kind = .stopGo ∧ p.state = .serving) : s.penaltyBoxDeparture i = s.unserveHead i p rest := by
  simp [State.penaltyBoxDeparture, hp, PitPenalty.servingStopGo, h]

theorem State.penaltyBoxDeparture_other (hp : (s.entrant i).penalties = p :: rest)
    (h : ¬(p.kind = .stopGo ∧ p.state = .serving)) : s.penaltyBoxDeparture i = s := by
  have : p.servingStopGo = false := by simpa [PitPenalty.servingStopGo] using h
  simp [State.penaltyBoxDeparture, hp, this]

/-- The record of a car at a standstill in the box (R60). -/
def Entrant.inBox (e : Entrant) (now : Option RunTime) : Entrant :=
  { e with
    lane := some 6, pitStatus := .box, boxArrival := now, boxVisited := true
    pitEntry := if e.pitStatus = .track then none else e.pitEntry }

theorem State.arriveInBox_position (s : State) (i : Slot) (now : Option RunTime) :
    s.arriveInBox .position i now = (s.modEntrant i (·.inBox now)).recompute i := by
  have h : s.arriveInBox .position i now = State.recompute ((s.modEntrant i fun e =>
      { e with lane := some 6, boxArrival := now, boxVisited := true
               pitEntry := if e.pitStatus = .track then none else e.pitEntry }).modEntrant i
      fun e => { e with pitStatus := .box }) i := by cases now <;> rfl
  rw [h, s.modEntrant_eq_withRecord, State.withRecord_modEntrant, s.modEntrant_eq_withRecord]
  rfl

/-- A scored arrival is the Penalty Unit's too (R54, R60). -/
theorem State.arriveInBox_scored {tr : Treatment} (htr : tr = .held ∨ tr = .full) (now : RunTime) :
    s.arriveInBox tr i (some now) = (s.arriveInBox .position i (some now)).penaltyBoxArrival i now := by
  rcases htr with rfl | rfl <;> rfl

theorem State.leaveBox_notInBox (tr : Treatment) (h : (s.entrant i).pitStatus ≠ .box) : s.leaveBox tr i = s :=
  if_neg h

theorem State.leaveBox_position (h : (s.entrant i).pitStatus = .box) :
    s.leaveBox .position i = (s.modEntrant i fun e => { e with pitStatus := .pitLane }).recompute i := if_pos h

theorem State.leaveBox_scored {tr : Treatment} (htr : tr = .held ∨ tr = .full)
    (h : (s.entrant i).pitStatus = .box) : s.leaveBox tr i = (s.leaveBox .position i).penaltyBoxDeparture i := by
  rw [State.leaveBox_position h]
  rcases htr with rfl | rfl <;> exact if_pos h

/-- While the head is a Serving stop-and-go the ceiling is 0 (R158). -/
theorem State.effectiveFor_serving (s : State) {e : Entrant} (h : e.servingStopGo = true) : s.effectiveFor e = 0 := by
  have hzero : 0 ∈ s.limits e := by simp [State.limits, h]
  exact Nat.le_zero.mp ((foldl_min_le (s.limits e) _).2 0 hzero)

/-- An arrival that makes the head Serving (R60, R144). -/
theorem State.arriveInBox_stopGo {tr : Treatment} (htr : tr = .held ∨ tr = .full) (now : RunTime)
    (hv : (s.entrant i).state ≠ .vacant) (hp : (s.entrant i).penalties = p :: rest)
    (h : p.kind = .stopGo ∧ p.state = .active) : ∃ d, s.arriveInBox tr i (some now) = s.withRecord i
      { ((s.entrant i).inBox (some now)).withQueue ({ p with state := .serving } :: rest)
          (some (now + p.holdTicks)) with effective := 0 } d := by
  have hv' : ((s.entrant i).inBox (some now)).state ≠ .vacant := hv
  rw [State.arriveInBox_scored htr, State.arriveInBox_position, State.modEntrant_eq_withRecord,
    State.withRecord_recompute _ _ _ _ hv', State.penaltyBoxArrival_stopGo (p := p) (rest := rest) _ h,
    State.serveHead_eq, State.withRecord_modEntrant, State.withRecord_recompute, State.limited_limited_withQueue,
    State.limited, State.effectiveFor_serving]
  · exact ⟨_, rfl⟩
  · simp [Entrant.servingStopGo, Entrant.withQueue, h]
  · exact hv'
  · rw [State.withRecord_entrant]
    exact hp

/-- A departure before the hold has run (R60, R144). -/
theorem State.leaveBox_stopGo {tr : Treatment} (htr : tr = .held ∨ tr = .full)
    (hv : (s.entrant i).state ≠ .vacant) (hp : (s.entrant i).penalties = p :: rest)
    (h : p.kind = .stopGo ∧ p.state = .serving) (hbox : (s.entrant i).pitStatus = .box) :
    ∃ d, s.leaveBox tr i = s.withRecord i
      (s.limited ({ s.entrant i with pitStatus := .pitLane }.withQueue ({ p with state := .active } :: rest) none))
      d := by
  rw [State.leaveBox_scored htr hbox, State.leaveBox_position hbox, State.modEntrant_eq_withRecord,
    State.withRecord_recompute, State.penaltyBoxDeparture_stopGo (p := p) (rest := rest) _ h,
    State.unserveHead_eq, State.withRecord_modEntrant, State.withRecord_recompute, State.limited_limited_withQueue]
  · exact ⟨_, rfl⟩
  · exact hv
  · rw [State.withRecord_entrant]
    exact hp
  · exact hv

end Box

/-- Settles O52: by what is due, by the head of the queue, and by whether the car stands in the box. -/
theorem claimWaitsAndHoldsExpire : Obligations.ClaimWaitsAndHoldsExpire := by
  refine ⟨?claim, ?claimNotDue, ?holdLast, ?holdNext, ?power, ?notDue, ?boxHead, ?boxNone, ?treatments,
    ?arrival, ?departure⟩
  case claim =>
    intro tag e s hq hexpired hdue
    have hdue : s.cfg.claimWait * ticksPerSecond ≤ s.since e.entered := hdue
    have hdue : s.claimDue e = true := by simp [State.claimDue, hexpired, hdue]
    exact State.next_of_done (exec_claimWaitExpiry_due hq hdue)
  case claimNotDue =>
    intro tag s h
    refine State.unmovedBy_of_done (exec_claimWaitExpiry_notDue fun e he => ?_)
    obtain ⟨hmem, htag⟩ := State.queued_some he
    rcases h e hmem htag with hexp | hwait
    · simp [State.claimDue, hexp]
    · have : ¬ s.cfg.claimWait * ticksPerSecond ≤ s.since e.entered := Nat.not_le.mpr hwait
      simp [State.claimDue, this]
  case holdLast =>
    intro i p h s hrace hv hp hserving hh hdue
    refine ⟨_, exec_stopGoHoldExpiry_due (State.holdTimerDue_of hrace hp hserving hh hdue), ?_⟩
    rw [State.serveOut_last hv hp hserving]
    refine ⟨State.withRecord_frame _ _ _ _ rfl, ?_, ?_, ?_, s.withRecord_markedFrom i _⟩
    all_goals simp only [State.settle_entrant, State.withRecord_entrant, State.settle_effectiveFor,
      State.withRecord_effectiveFor]
    · rfl
    · rfl
    · rfl
  case holdNext =>
    intro i p q rest h s hrace hv hp hserving hq hh hdue
    refine ⟨_, exec_stopGoHoldExpiry_due (State.holdTimerDue_of hrace hp hserving hh hdue), ?_⟩
    obtain ⟨d, hout⟩ := State.serveOut_next hv hp hserving hq
    rw [hout]
    refine ⟨State.withRecord_frame _ _ _ _ rfl, ?_, ?_, ?_⟩
    all_goals simp only [State.settle_entrant, State.withRecord_entrant, State.settle_effectiveFor,
      State.withRecord_effectiveFor]
    · rfl
    · rfl
    · rfl
  case power =>
    intro i h s hrace hv hh hdue
    have hdue : s.powerHoldDue i = true := by
      simp [State.powerHoldDue, (RaceState.clockRuns_iff _).mpr hrace, hh, hdue]
    refine ⟨_, exec_powerHoldExpiry_due hdue, ?_⟩
    rw [State.powerHold_served hv]
    refine ⟨?_, s.withRecord_markedFrom i _⟩
    simp only [State.settle_entrant, State.withRecord_entrant, State.settle_effectiveFor, State.withRecord_effectiveFor]
    rfl
  case notDue =>
    intro i s h
    have hstop : s.holdTimerDue i = false := State.holdTimerDue_false (h.imp not_or.mpr And.left)
    have hpower : s.powerHoldDue i = false := State.powerHoldDue_false (h.imp not_or.mpr And.right)
    exact ⟨State.unmovedBy_of_done (exec_stopGoHoldExpiry_notDue hstop),
      State.unmovedBy_of_done (exec_powerHoldExpiry_notDue hpower)⟩
  case boxHead =>
    intro i p rest now s hp
    refine ⟨fun h => ?_, fun h => ?_, fun h => ?_, fun h => ?_⟩
    · rw [State.penaltyBoxArrival_stopGo hp h, State.serveHead_eq]
      rfl
    · exact State.penaltyBoxArrival_other hp (not_and_or.mpr h)
    · rw [State.penaltyBoxDeparture_stopGo hp h, State.unserveHead_eq]
      rfl
    · exact State.penaltyBoxDeparture_other hp (not_and_or.mpr h)
  case boxNone =>
    intro i now s hp
    simp [State.penaltyBoxArrival, State.penaltyBoxDeparture, hp]
  case treatments =>
    intro i tr now s htr
    refine ⟨?_, ?_, ?_, ?_⟩
    · exact State.arriveInBox_scored htr now
    · rcases htr with rfl | rfl <;> rfl
    · exact State.leaveBox_notInBox tr
    · exact State.leaveBox_scored htr
  case arrival =>
    intro i tr p rest now s htr hv hp h
    obtain ⟨d, harrive⟩ := State.arriveInBox_stopGo htr now hv hp h
    exact State.eq_withRecord_dirtyOf harrive
  case departure =>
    intro i tr p rest s htr hv hp h hbox
    obtain ⟨d, hleave⟩ := State.leaveBox_stopGo htr hv hp h hbox
    refine (State.eq_withRecord_dirtyOf hleave).trans ?_
    have hentrant := congrArg (State.entrant · i) hleave
    simp only [State.withRecord_entrant] at hentrant
    rw [hentrant]
    rfl

end Sys2Proof.Machine
end

section
/-! SUPPORT. Chapter 2, section 2.2: two candidates that tie in count, half the range of raw times apart. -/

namespace Sys2Proof.Machine

/-- A code entry of one frame, at a raw time. -/
def CodeEntry.ofFrame (code : Nat) (time : RawTime) : CodeEntry :=
  { code := code, count := 1, first := time, last := time, arrived := false }

/-- Raw times 2^31 apart come before each other both ways, since −2^31 is its own negative modulo 2^32 (R25): the later
of two such entries in the tally outranks the earlier one, although that one comes before it too. -/
theorem candidatesOf_halfRange :
    candidatesOf [.ofFrame 1 0, .ofFrame 2 0x80000000] = [(2, 1), (1, 1)] := by decide

/-- Refutes O51: the ranking of two candidates with equal counts is said to follow `(a.first - b.first).toInt < 0`,
which holds both ways for first times 2^31 apart. Entries at raw times 0 and 2^31 meet its condition, and `candidatesOf`
ranks them the other way round. -/
theorem not_voteFormsTimesAndRoutesPasses : ¬ Obligations.VoteFormsTimesAndRoutesPasses := by
  rintro ⟨-, -, -, ranking, -⟩
  have ranked : candidatesOf [.ofFrame 1 0, .ofFrame 2 0x80000000] = [(1, 1), (2, 1)] :=
    (ranking (.ofFrame 1 0) (.ofFrame 2 0x80000000)).2.1 (.inr ⟨rfl, by decide⟩)
  rw [candidatesOf_halfRange] at ranked
  exact absurd ranked (by decide)

end Sys2Proof.Machine
end

section
/-! SUPPORT. Chapter 3, section 3.1: who an entrant is, and that no event and no request but ENTER and AMEND gives a
record a code or a station. -/

namespace Sys2Proof.Machine

/-! ### Records of the same car -/

/-- The record `f` is at most the entrant `e` is: if it is not Vacant, neither is `e`, it carries `e`'s code, and it has
`e`'s station or none. -/
def Entrant.SameCar (e f : Entrant) : Prop :=
  f.state ≠ .vacant → e.state ≠ .vacant ∧ f.code = e.code ∧ (f.station = none ∨ f.station = e.station)

/-- Every record of `t` is at most the entrant its slot holds in `s`. -/
def State.SameCars (s t : State) : Prop := ∀ j : Slot, (s.entrant j).SameCar (t.entrant j)

theorem Entrant.SameCar.refl (e : Entrant) : e.SameCar e := fun h => ⟨h, rfl, .inr rfl⟩

theorem State.SameCars.refl (s : State) : s.SameCars s := fun _ => .refl _

theorem State.SameCars.trans {s t u : State} (hst : s.SameCars t) (htu : t.SameCars u) : s.SameCars u := by
  intro j hj
  obtain ⟨hstate, hcode, hstation⟩ := htu j hj
  obtain ⟨hstate', hcode', hstation'⟩ := hst j hstate
  refine ⟨hstate', hcode.trans hcode', ?_⟩
  rcases hstation with h | h
  · exact .inl h
  · rwa [h]

/-- Codes and stations that no two entrants share stay so while the records are at most who they were (R44). -/
theorem State.SameCars.identitiesKept {s t : State} (h : s.SameCars t) (hs : s.identitiesKept) : t.identitiesKept := by
  intro i hi
  obtain ⟨hsi, hcode, hstation⟩ := h i hi
  obtain ⟨hrange, hdistinct⟩ := hs i hsi
  refine ⟨by rwa [hcode], fun j hj hij => ?_⟩
  obtain ⟨hsj, hcodej, hstationj⟩ := h j hj
  obtain ⟨hcodes, hstations⟩ := hdistinct j hsj hij
  refine ⟨by rwa [hcode, hcodej], ?_⟩
  rcases hstation with h' | h'
  · exact .inl h'
  · rw [h']
    rcases hstationj with hj' | hj' <;> rw [hj']
    · exact eq_or_ne _ _
    · exact hstations

/-- An operation that leaves every record's code, state and station leaves who the entrants are. -/
theorem State.SameCars.of_fields {s t : State} (h : ∀ j : Slot, (t.entrant j).code = (s.entrant j).code
    ∧ (t.entrant j).state = (s.entrant j).state ∧ (t.entrant j).station = (s.entrant j).station) : s.SameCars t := by
  intro j hj
  obtain ⟨hcode, hstate, hstation⟩ := h j
  exact ⟨hstate ▸ hj, hcode, .inr hstation⟩

theorem State.modEntrant_sameCars (s : State) {i : Slot} {f : Entrant → Entrant} (h : ∀ e : Entrant, e.SameCar (f e)) :
    s.SameCars (s.modEntrant i f) := by
  intro j
  rw [State.entrant_modEntrant]
  split
  · next hj => rw [hj]; exact h _
  · exact .refl _

/-- An entrant whose code and station are kept is the entrant it was, whatever becomes of its state. -/
theorem State.modEntrant_sameCars_of_entrant {s : State} {i : Slot} {f : Entrant → Entrant}
    (hi : (s.entrant i).state ≠ .vacant) (h : ∀ e, (f e).code = e.code ∧ (f e).station = e.station) :
    s.SameCars (s.modEntrant i f) := by
  intro j
  rw [State.entrant_modEntrant]
  split
  · next hj => rw [hj]; exact fun _ => ⟨hi, (h _).1, .inr (h _).2⟩
  · exact .refl _

theorem State.SameCars.of_entrants {s t : State} (h : t.entrants = s.entrants) : s.SameCars t := by
  intro j
  rw [State.entrant_congr h]
  exact .refl _

/-- What is done slot by slot is done to all of them. -/
theorem State.SameCars.forSlots {f : State → Slot → State} (h : ∀ (s : State) (i : Slot), s.SameCars (f s i))
    (s : State) : s.SameCars (s.forSlots f) :=
  State.forSlots_induction s.SameCars f (fun u i hu => hu.trans (h u i)) s (.refl s)

/-! ### Finishes and green -/

/-- An entrant that finishes was one (R53). -/
theorem State.finishEntrant_sameCars {s : State} {i : Slot} (st : FinishStatus) (t : RunTime)
    (h : (s.entrant i).state ≠ .vacant) : s.SameCars (s.finishEntrant i st t) := by
  have finished (u : State) : u.SameCars (u.recompute i) := .of_fields (by simp)
  have converted (u : State) : u.SameCars (((u.release i).convertPenalties i).recompute i) := .of_fields (by simp)
  unfold State.finishEntrant
  dsimp only
  refine .trans ?_ (converted _)
  refine .trans (.trans ?_ (finished _)) (State.modEntrant_sameCars _ fun _ hi => ⟨hi, rfl, .inr rfl⟩)
  exact State.modEntrant_sameCars_of_entrant h fun _ => ⟨rfl, rfl⟩

theorem State.finishAll_sameCars (s : State) (t : RunTime) : s.SameCars (s.finishAll t) := by
  refine State.SameCars.forSlots (fun s i => ?_) s
  split
  · next h => exact State.finishEntrant_sameCars _ t (by simp [h])
  · exact .refl s

theorem State.endRace_sameCars (s : State) (t : RunTime) : s.SameCars (s.endRace t) :=
  (s.finishAll_sameCars t).trans (.of_fields (by simp [State.endRace]))

theorem State.judgeCrossing_sameCars {s : State} {i : Slot} (t : RunTime) (h : (s.entrant i).state ≠ .vacant) :
    s.SameCars (s.judgeCrossing i t) := by
  have finish := State.finishEntrant_sameCars .flagged t h
  unfold State.judgeCrossing
  split
  · split
    · exact finish.trans (.of_fields (by simp))
    · exact .refl s
  · exact finish.trans (.of_fields (by simp))
  all_goals exact .refl s

/-- An entrant that takes green was one (R52). -/
theorem State.greenEntrant_sameCars {s : State} {i : Slot} (h : (s.entrant i).state ≠ .vacant) :
    s.SameCars (s.greenEntrant i) := by
  have racing (u : State) : u.SameCars ((u.recompute i).zeroLaps i) := .of_fields (by simp)
  have timed (u : State) (m : Bool) : u.SameCars ((u.firstDeadline i).reportJumpStart i m) := .of_fields (by simp)
  unfold State.greenEntrant
  dsimp only
  refine .trans ?_ (timed _ _)
  refine .trans (.trans ?_ (racing _)) (State.modEntrant_sameCars _ fun _ hi => ⟨hi, rfl, .inr rfl⟩)
  exact State.modEntrant_sameCars_of_entrant h fun _ => ⟨rfl, rfl⟩

theorem State.greenEntrants_sameCars (s : State) : s.SameCars s.greenEntrants := by
  refine State.SameCars.forSlots (fun s i => ?_) s
  split
  · next h => exact State.greenEntrant_sameCars (by simp [h])
  · exact .refl s

theorem State.green_sameCars (s : State) : s.SameCars s.green := by
  have taken (u : State) : u.SameCars u.greenEntrants.recomputeAll :=
    u.greenEntrants_sameCars.trans (.of_fields (by simp))
  unfold State.green
  dsimp only
  refine .trans ?_ (taken _)
  exact .of_fields fun _ => ⟨rfl, rfl, rfl⟩

theorem State.stepCountdown_sameCars (s : State) (c : Countdown) : s.SameCars (s.stepCountdown c) := by
  unfold State.stepCountdown
  split
  · exact s.green_sameCars
  · split
    · exact .refl s
    · split
      · exact s.green_sameCars
      · exact .refl s

/-! ### Laps and passes -/

/-- A credited crossing may finish the entrant it is credited to (R76). -/
theorem State.credit_sameCars {s : State} {i : Slot} (l t : RunTime) (a : Bool) (h : (s.entrant i).state ≠ .vacant) :
    s.SameCars (s.credit i l t a) := by
  unfold State.credit
  refine .trans (.of_fields ?_) (State.judgeCrossing_sameCars t ?_)
  · intro j
    by_cases hj : j = i <;> simp [hj, Entrant.credited]
  · simpa [Entrant.credited] using h

theorem State.lateLap_sameCars {s : State} {i : Slot} (a : RunTime) (o : LateOutcome)
    (h : (s.entrant i).state ≠ .vacant) : s.SameCars (s.lateLap i a o) := by
  cases o with
  | credit l => exact State.credit_sameCars l a true h
  | launch => exact .of_fields (by simp [State.lateLap])
  | split p l => exact .of_fields (by simp [State.lateLap])
  | duplicate | tooOld => exact .refl s

theorem State.lapStep_sameCars {s : State} {i : Slot} (p : Pass) (h : (s.entrant i).state ≠ .vacant) :
    s.SameCars (s.lapStep i p) := by
  unfold State.lapStep
  split
  · unfold State.crossing
    split
    · exact .of_fields (by simp)
    · split
      · exact .refl s
      · exact State.credit_sameCars _ _ _ h
  · exact .of_fields (by simp)
  · exact .refl s

/-- Only a Racing entrant's pass comes to the Lap Unit (R54). -/
theorem State.deliver_sameCars (s : State) (i : Slot) (p : Pass) : s.SameCars (s.deliver i p) := by
  unfold State.deliver
  split
  · exact .refl s
  · exact .of_fields (by simp)
  · exact .of_fields (by simp)
  · next htr =>
    have hracing := ((treatment_full_iff _ _).mp htr).1
    exact .trans (.of_fields (by simp)) (State.lapStep_sameCars p (by simp [hracing]))

theorem State.deliverLate_sameCars {s : State} {i : Slot} (p : Pass) (a : RunTime) (o : LateOutcome)
    (h : (s.entrant i).state ≠ .vacant) : s.SameCars (s.deliverLate i p a o) := by
  rw [State.deliverLate_eq]
  split
  · exact State.lateLap_sameCars a o h
  · exact .trans (.of_fields (by simp)) (State.lateLap_sameCars a o (by simpa using h))

theorem State.route_sameCars (s : State) (p : Pass) : s.SameCars (s.route p) := by
  unfold State.route
  split
  · exact .refl s
  · split
    · exact s.deliver_sameCars _ p
    · exact .refl s

theorem State.takeTally_sameCars (s : State) (g : GateNo) (b : Tally) : s.SameCars (s.takeTally g b) :=
  foldl_induction s.SameCars State.route (fun u p hu => hu.trans (u.route_sameCars p)) _ s (.refl s)

theorem State.closeBurst_sameCars (s : State) (g : GateNo) (b : Tally) : s.SameCars (s.closeBurst g b) := by
  unfold State.closeBurst
  dsimp only
  split
  · split <;> exact .refl s
  · refine .trans (.of_fields ?_) (State.takeTally_sameCars _ g b)
    intro j
    split <;> simp

theorem State.closeOpen_sameCars (s : State) (g : GateNo) : s.SameCars (s.closeOpen g) := by
  unfold State.closeOpen
  split
  · exact s.closeBurst_sameCars g _
  · exact .refl s

/-! ### Requests -/

/-- A vacated record is no entrant (R49). -/
theorem State.vacate_sameCars (s : State) (i : Slot) : s.SameCars (s.vacate i) := by
  have vacated : (s.leaveStandings i).SameCars ((s.leaveStandings i).modEntrant i fun _ => Entrant.vacant) :=
    State.modEntrant_sameCars _ fun _ h => absurd rfl h
  exact fun j => vacated j

/-- An entrant that retires was one, and keeps its code and station (R50). -/
theorem State.retireEntrant_sameCars {s : State} {i : Slot} (h : (s.entrant i).state ≠ .vacant) :
    s.SameCars (s.retireEntrant i) := by
  have told (u : State) : u.SameCars (u.recompute i) := .of_fields (by simp)
  have released (u : State) : u.SameCars (u.release i) := .of_fields (by simp)
  have cleared (u : State) : u.SameCars (((u.clearPenalties i).recompute i).checkFinished) := .of_fields (by simp)
  unfold State.retireEntrant
  dsimp only
  refine .trans ?_ (cleared _)
  refine .trans ?_ (State.modEntrant_sameCars _ fun _ hi => ⟨hi, rfl, .inr rfl⟩)
  refine .trans ?_ (released _)
  refine .trans ?_ (State.modEntrant_sameCars _ fun _ hi => ⟨hi, rfl, .inr rfl⟩)
  refine .trans ?_ (told _)
  exact State.modEntrant_sameCars_of_entrant h fun _ => ⟨rfl, rfl⟩

/-- An excluded entrant was one, keeps its code and has no station (R51). -/
theorem State.excludeEntrant_sameCars {s : State} {i : Slot} (h : (s.entrant i).state ≠ .vacant) :
    s.SameCars (s.excludeEntrant i) := by
  have told (u : State) : u.SameCars ((u.recompute i).leaveStandings i) := .of_fields (by simp)
  have released (u : State) : u.SameCars (u.release i) := .of_fields (by simp)
  have cleared (u : State) : u.SameCars ((u.clearPenalties i).setBlackFlag i false) := .of_fields (by simp)
  have judged (u : State) : u.SameCars (u.recompute i).checkFinished := .of_fields (by simp)
  unfold State.excludeEntrant
  dsimp only
  refine .trans ?_ (judged _)
  refine .trans ?_ (State.modEntrant_sameCars _ fun _ hi => ⟨hi, rfl, .inl rfl⟩)
  refine .trans ?_ (cleared _)
  refine .trans ?_ (State.modEntrant_sameCars _ fun _ hi => ⟨hi, rfl, .inr rfl⟩)
  refine .trans ?_ (released _)
  refine .trans ?_ (State.modEntrant_sameCars _ fun _ hi => ⟨hi, rfl, .inr rfl⟩)
  refine .trans ?_ (told _)
  exact State.modEntrant_sameCars_of_entrant h fun _ => ⟨rfl, rfl⟩

theorem State.named_not_vacant {s : State} {code : Byte} {i : Slot} (h : s.named code = some i) :
    (s.entrant i).state ≠ .vacant := by
  unfold State.named State.slotOfCode at h
  split at h
  · cases h
  · have := List.find?_some h
    simp_all

theorem State.retireRequest_sameCars (s : State) (code : Byte) : s.SameCars (s.retireRequest code).1 := by
  unfold State.retireRequest
  split
  · exact .refl s
  · next hi =>
    split
    · rw [State.accept_fst]; exact s.vacate_sameCars _
    · split
      · exact .refl s
      · rw [State.accept_fst]; exact State.retireEntrant_sameCars (State.named_not_vacant hi)

theorem State.excludeRequest_sameCars (s : State) (code : Byte) : s.SameCars (s.excludeRequest code).1 := by
  unfold State.excludeRequest
  split
  · exact .refl s
  · next hi =>
    split
    · exact .refl s
    · rw [State.accept_fst]; exact State.excludeEntrant_sameCars (State.named_not_vacant hi)

theorem State.assignRequest_sameCars (s : State) (tag code : Byte) : s.SameCars (s.assignRequest tag code).1 := by
  unfold State.assignRequest
  split
  · exact .refl s
  split
  · exact .refl s
  next i hi =>
    have hv := State.named_not_vacant hi
    have late (p : Pass) (a : RunTime) (o : LateOutcome) :
        s.SameCars ((s.deliverLate i p a o).settleEntry tag).accept.1 :=
      (State.deliverLate_sameCars p a o hv).trans (.of_fields fun _ => ⟨rfl, rfl, rfl⟩)
    split
    · exact .refl s
    split
    · exact .refl s
    split
    · unfold State.assignLate
      split
      · exact .refl s
      · exact .refl s
      all_goals exact late _ _ _
    · exact (s.deliver_sameCars i _).trans (.of_fields fun _ => ⟨rfl, rfl, rfl⟩)

theorem State.readActivityRequest_sameCars (s : State) : s.SameCars s.readActivityRequest.1 := by
  have cleared (u : State) (i : Slot) : u.SameCars (u.modEntrant i fun e => { e with activity := false }) :=
    u.modEntrant_sameCars fun _ h => ⟨h, rfl, .inr rfl⟩
  unfold State.readActivityRequest
  exact State.SameCars.forSlots cleared s

theorem State.startTest_sameCars (s : State) : s.SameCars s.startTest := by
  have begun (u : State) (g : GateNo) : u.SameCars (u.beginTest g) := by
    unfold State.beginTest
    split <;> exact .of_fields (by simp)
  have watched (u : State) : u.SameCars u.testFromNow.watchBlind := .of_entrants rfl
  rw [State.startTest_eq]
  exact .trans (State.SameCars.forSlots begun s) (watched _)

/-- A race reset keeps each entrant's code and station (R66). -/
theorem State.raceReset_sameCars (s : State) : s.SameCars s.raceReset := by
  have reset (e : Entrant) : e.SameCar e.raceReset := by
    unfold Entrant.raceReset
    split
    · exact .refl e
    · next h => exact fun _ => ⟨h, rfl, .inr rfl⟩
  have told (u : State) : u.SameCars u.rebuildStandings.recomputeAll :=
    .trans (t := u.rebuildStandings) (.refl u) (.of_fields (by simp))
  unfold State.raceReset
  dsimp only
  refine .trans ?_ (told _)
  intro j
  have hj : (s.abortTest.entrant j).SameCar (s.abortTest.entrant j).raceReset := reset _
  rw [State.abortTest_entrant] at hj
  simpa [State.entrant_mk] using hj

theorem State.refresh_sameCars (s : State) : s.SameCars s.refresh := by
  refine .of_entrants ?_
  unfold State.refresh
  dsimp only
  exact State.forSlots_keeps State.entrants _ (fun u i => by split <;> simp) s

theorem State.callAction_sameCars (s : State) : s.SameCars s.callAction := by
  unfold State.callAction
  split
  · exact .refl s
  all_goals exact .of_fields (by simp)

theorem State.suspensionCause_sameCars (s : State) (why : Reason) : s.SameCars (s.suspensionCause why) :=
  .of_fields (by simp)

theorem State.countPress_sameCars (s : State) (n : StationNo) : s.SameCars (s.countPress n) := .of_fields (by simp)

/-- After a power-on reset no record is an entrant (R66). -/
theorem State.powerOnReset_sameCars (s : State) (results : Vector TestResult 24) (straps : BitVec 5)
    (pins : PinLevels) : s.SameCars (s.powerOnReset results straps pins) := by
  intro j hj
  have hvacant : (s.powerOnReset results straps pins).entrant j = Entrant.vacant := by
    simp [State.entrant, State.powerOnReset, State.powerOn]
  exact absurd (congrArg Entrant.state hvacant) hj

/-! ### Commands -/

/-- A command that ends in `u` leaves the entrants as they are in `u`. -/
theorem done_sameCars {s u : State} (h : s.SameCars u) : ∃ t, u.done = .next t ∧ s.SameCars t :=
  ⟨_, rfl, h.trans (.of_fields fun _ => ⟨rfl, rfl, rfl⟩)⟩

/-- The same for an event that comes only where its condition holds. -/
theorem ite_done_sameCars {s u : State} {p : Prop} [Decidable p] (h : s.SameCars u) :
    ∃ t, (if p then u.done else s.done) = .next t ∧ s.SameCars t := by
  split
  · exact done_sameCars h
  · exact done_sameCars (.refl s)

theorem answered_sameCars {s : State} {r : State × Answer} (h : s.SameCars r.1) :
    ∃ t, answered r = .next t ∧ s.SameCars t := ⟨_, rfl, h.trans (.of_fields fun _ => ⟨rfl, rfl, rfl⟩)⟩

/-- The requests that give a record a code or a station, and the check byte of a frame, which may be one of them. -/
def namesCars : Instr → Bool
  | .enter .. | .amend .. | .commandFrame _ => true
  | _ => false

/-- Every other command leaves every record at most who it was. -/
theorem exec_sameCars {c : Instr} (s : State) (h : namesCars c = false) :
    ∃ t, exec c s = .next t ∧ s.SameCars t := by
  cases c
  case enter | amend | commandFrame => cases h
  case status | resetPart | setMask | ackStations => exact answered_sameCars (.of_entrants rfl)
  case lookup | lookupSlot | standings | readAttention =>
    refine answered_sameCars ?_
    simp only [State.lookupRequest, State.lookupSlotRequest, State.standingsRequest, State.readAttentionRequest]
    (repeat' split) <;> exact .of_entrants rfl
  case configGate | configCall | configRace | power =>
    refine answered_sameCars ?_
    simp only [State.configGateRequest, State.configCallRequest, State.configRaceRequest, State.powerRequest]
    (repeat' split) <;> exact .of_fields (by simp [State.entrant_mk, State.entrants_getElem])
  case selfTest =>
    refine answered_sameCars ?_
    simp only [State.selfTestRequest]
    split
    · exact .refl s
    · rw [State.accept_fst]; exact s.startTest_sameCars
  case retire code => exact answered_sameCars (s.retireRequest_sameCars code)
  case exclude code => exact answered_sameCars (s.excludeRequest_sameCars code)
  case call | waive =>
    refine answered_sameCars ?_
    simp only [State.callRequest, State.waiveRequest]
    (repeat' split) <;> exact .of_fields (by simp)
  case readPasses | discard =>
    refine answered_sameCars ?_
    simp only [State.readPassesRequest, State.discardRequest]
    (repeat' split) <;> exact .of_entrants rfl
  case assign tag code => exact answered_sameCars (s.assignRequest_sameCars tag code)
  case stage | start | yellow | zone | suspend | resume =>
    refine answered_sameCars ?_
    simp only [State.stageRequest, State.startRequest, State.startCountdown, State.yellowRequest, State.zoneRequest,
      State.suspendRequest, State.resumeRequest]
    (repeat' split) <;> exact .of_fields (by simp [State.entrant_mk, State.entrants_getElem])
  case endRace =>
    refine answered_sameCars ?_
    simp only [State.endRequest]
    split
    · rw [State.accept_fst]; exact s.endRace_sameCars _
    · exact .refl s
  case resetRace =>
    refine answered_sameCars ?_
    rw [State.resetRaceRequest, State.accept_fst]
    exact s.raceReset_sameCars
  case readPenaltyActivity =>
    exact answered_sameCars s.readActivityRequest_sameCars
  case rxGapTimeout | rxByteError | commandByte | gateUnblind | blindedSummaryEdge =>
    exact ite_done_sameCars (.of_entrants rfl)
  case beaconFrame | selfTestEnd | sightingDeadlineExpiry | stopGoHoldExpiry | powerHoldExpiry
      | timeTargetReached =>
    exact ite_done_sameCars (.of_fields (by simp))
  case linkHoldExpiry =>
    refine ite_done_sameCars (.trans ?_ (State.suspensionCause_sameCars _ _))
    exact .of_entrants rfl
  case runningClockCap => exact ite_done_sameCars (s.endRace_sameCars _)
  case ceilingRefresh => exact ite_done_sameCars s.refresh_sameCars
  case burstGapExpiry g => exact ite_done_sameCars (s.closeOpen_sameCars g)
  case pauseByte | resumingByte => exact done_sameCars (.of_entrants (by simp))
  case returnByteError => exact done_sameCars (.refl s)
  case powerUp | resetPin => exact done_sameCars (s.powerOnReset_sameCars _ _ _)
  case resetPartReboot => exact ite_done_sameCars (s.powerOnReset_sameCars _ _ _)
  case gateBlind feed =>
    refine ite_done_sameCars (.trans ?_ (State.closeOpen_sameCars _ feed.gate))
    exact .of_entrants rfl
  case responseStart | responseEnd | ceilingFrameEnd =>
    simp only [exec, execResponseStart, execResponseEnd, execCeilingFrameEnd]
    split
    · exact ite_done_sameCars (.of_entrants rfl)
    all_goals exact done_sameCars (.refl s)
  case gateCell | ceilingFrameStart =>
    simp only [exec, execGateCell, execCeilingFrameStart]
    split <;> exact done_sameCars (.of_entrants (by simp))
  case countdownStep =>
    simp only [exec, execCountdownStep]
    split
    · exact done_sameCars (s.stepCountdown_sameCars _)
    · exact done_sameCars (.refl s)
  case finishWindowExpiry =>
    simp only [exec, execFinishWindowExpiry]
    split
    · exact done_sameCars (s.endRace_sameCars _)
    · exact done_sameCars (.refl s)
  case burstDwellExpiry g =>
    simp only [exec, execBurstDwellExpiry]
    split
    · exact done_sameCars (s.closeBurst_sameCars g _)
    · exact done_sameCars (.refl s)
  case claimWaitExpiry =>
    simp only [exec, execClaimWaitExpiry]
    split
    · exact ite_done_sameCars (.of_entrants rfl)
    · exact done_sameCars (.refl s)
  case stationRelease | redRelease | powerSenseRestore =>
    simp only [exec, execStationRelease, execRedRelease, execPowerSenseRestore]
    split <;> exact done_sameCars (.of_entrants rfl)
  case redPress | powerSenseLoss =>
    simp only [exec, execRedPress, execPowerSenseLoss]
    split
    · exact done_sameCars (.of_entrants rfl)
    · refine done_sameCars (.trans ?_ (State.suspensionCause_sameCars _ _))
      exact .of_entrants rfl
  case stationPress =>
    simp only [exec, execStationPress]
    split
    · exact done_sameCars (.of_entrants rfl)
    · split
      · refine done_sameCars (.trans ?_ (State.countPress_sameCars _ _))
        refine .trans ?_ (State.callAction_sameCars _)
        exact .of_entrants rfl
      · exact done_sameCars (.of_entrants rfl)

end Sys2Proof.Machine
end

section
/-! SUPPORT. Chapter 3, sections 3.1 and 3.2: how the requests find entrants, codes, stations and Vacant slots. -/

namespace Sys2Proof.Machine

/-- A slot that is found by its code holds an entrant with that code (R46). -/
theorem State.slotOfCode_some {s : State} {n : Nat} {i : Slot} (h : s.slotOfCode n = some i) :
    (s.entrant i).state ≠ .vacant ∧ (s.entrant i).code = some n := by
  simpa using List.find?_some h

theorem State.slotOfCode_none_iff {s : State} {n : Nat} :
    s.slotOfCode n = none ↔ ∀ j : Slot, (s.entrant j).state = .vacant ∨ (s.entrant j).code ≠ some n := by
  simp [State.slotOfCode, mem_allSlots, or_iff_not_imp_left]

/-- A code that names an entrant is its code, from 1 to 62 (R46). -/
theorem State.named_some {s : State} {code : Byte} {i : Slot} (h : s.named code = some i) :
    (1 ≤ code.toNat ∧ code.toNat ≤ 62) ∧ (s.entrant i).state ≠ .vacant
      ∧ (s.entrant i).code = some code.toNat := by
  unfold State.named at h
  split at h
  · cases h
  · exact ⟨by omega, State.slotOfCode_some h⟩

theorem State.named_none_iff {s : State} {code : Byte} :
    s.named code = none ↔ code.toNat = 0 ∨ 62 < code.toNat
      ∨ ∀ j : Slot, (s.entrant j).state = .vacant ∨ (s.entrant j).code ≠ some code.toNat := by
  rw [← State.slotOfCode_none_iff, State.named]
  split
  · next h => simp; omega
  · next h =>
    have hzero : code.toNat ≠ 0 := fun hz => h (.inl hz)
    have hrange : ¬62 < code.toNat := fun hz => h (.inr hz)
    simp [hzero, hrange]

/-- A station is taken where an entrant, other than the one excepted, has it (R45, R47). -/
theorem State.stationTaken_iff {s : State} {n : StationNo} {but : Option Slot} :
    s.stationTaken n but = true
      ↔ ∃ j : Slot, (s.entrant j).state ≠ .vacant ∧ (s.entrant j).station = some n ∧ some j ≠ but := by
  simp [State.stationTaken, mem_allSlots, and_assoc]

/-- The station an ENTER or AMEND names is taken; FF names none (R45, R47). -/
def State.takenAs (s : State) (st : Option StationNo) (but : Option Slot) : Bool :=
  match st with
  | some n => s.stationTaken n but
  | none => false

theorem State.takenAs_iff {s : State} {st : Option StationNo} {but : Option Slot} :
    s.takenAs st but = true
      ↔ ∃ j : Slot, (s.entrant j).state ≠ .vacant ∧ (s.entrant j).station = st ∧ st ≠ none ∧ some j ≠ but := by
  cases st with
  | none => simp [State.takenAs]
  | some n => simp [State.takenAs, State.stationTaken_iff]

/-- FF is no station, and 0 to 5 name the stations (R45, section 11.5). -/
theorem stationItem_inRange {b : Byte} (h : b = 0xFF#8 ∨ b.toNat < 6) : stationItem b = some (stationOf b) := by
  unfold stationItem
  split
  · next hff => subst hff; decide
  · next hff =>
    have hlt : b.toNat < 6 := h.resolve_left hff
    simp [stationOf, hlt]

theorem stationItem_outOfRange {b : Byte} (h : 5 < b.toNat ∧ b ≠ 0xFF#8) : stationItem b = none := by
  obtain ⟨hlarge, hff⟩ := h
  have hlt : ¬b.toNat < 6 := by omega
  simp [stationItem, hff, stationOf, hlt]

/-- The station a byte names, as the number it is. -/
theorem stationOf_val {b : Byte} {st : Option StationNo} (h : b.toNat < 6) :
    st.map (·.val) = some b.toNat ↔ st = stationOf b := by
  cases st <;> simp [stationOf, h, Fin.ext_iff]

theorem stationOf_ff : stationOf 0xFF#8 = none := by decide

theorem State.vacantSlot_lowest {s : State} {i : Slot} (hi : (s.entrant i).state = .vacant)
    (hlow : ∀ j : Slot, j < i → (s.entrant j).state ≠ .vacant) : s.vacantSlot = some i := by
  have hslots : allSlots = List.finRange 24 := rfl
  rw [State.vacantSlot, hslots, List.find?_eq_some_iff_getElem]
  refine ⟨by simpa using hi, i.val, by simp, by simp, fun k hk => ?_⟩
  simpa using hlow ⟨k, hk.trans i.isLt⟩ hk

theorem State.vacantSlot_none {s : State} (h : ∀ j : Slot, (s.entrant j).state ≠ .vacant) : s.vacantSlot = none := by
  simp [State.vacantSlot, h]

end Sys2Proof.Machine
end

section
/-! SUPPORT. Chapter 3, section 3.2: ENTER. -/

namespace Sys2Proof.Machine

/-! ### The judging of an ENTER -/

theorem carCode_iff (code : Byte) : carCode code = true ↔ 1 ≤ code.toNat ∧ code.toNat ≤ 62 := by
  simp [carCode, inRange]

section Enter

variable {s : State} {code station : Byte}

theorem exec_enter_wrongState (hrace : s.race.state ≠ .setup ∧ s.race.state ≠ .staging) :
    exec (.enter code station) s = answered (s.refuse .wrongState) := congrArg answered (if_pos hrace)

theorem exec_enter_badValue (hrace : s.race.state = .setup ∨ s.race.state = .staging)
    (h : code.toNat = 0 ∨ 62 < code.toNat ∨ (5 < station.toNat ∧ station ≠ 0xFF#8)) :
    exec (.enter code station) s = answered (s.refuse .badValue) := by
  refine congrArg answered ((if_neg (not_and_or.mpr (by simpa using hrace))).trans ?_)
  split
  · next st hcode hstation =>
    have hrange := (carCode_iff code).mp hcode
    have hout : 5 < station.toNat ∧ station ≠ 0xFF#8 := by
      rcases h with h | h | h
      · omega
      · omega
      · exact h
    rw [stationItem_outOfRange hout] at hstation
    cases hstation
  · rfl

/-- An ENTER in Setup or Staging with a code and a station in their ranges comes to the codes and stations in use, and
then to the Vacant slots (R45). -/
theorem exec_enter_judged (hrace : s.race.state = .setup ∨ s.race.state = .staging)
    (hcode : 1 ≤ code.toNat ∧ code.toNat ≤ 62) (hstation : station = 0xFF#8 ∨ station.toNat < 6) :
    exec (.enter code station) s = answered (
      if (s.slotOfCode code.toNat).isSome then s.refuse .codeInUse
      else if s.takenAs (stationOf station) none then s.refuse .stationInUse
      else match s.vacantSlot with
        | none => s.refuse .tableFull
        | some i => (s.enterCar i code.toNat (stationOf station), Answer.okWith [byteOf i.val])) := by
  refine congrArg answered ((if_neg (not_and_or.mpr (by simpa using hrace))).trans ?_)
  rw [(carCode_iff code).mpr hcode, stationItem_inRange hstation]
  cases stationOf station <;> rfl

end Enter

end Sys2Proof.Machine
end

section
/-! SUPPORT. Chapter 3, section 3.2: ENTER's effect. -/

namespace Sys2Proof.Machine

/-- An answered request whose rule leaves the link and the race clock alone answers from now (R179, R180). -/
theorem State.next_of_answered {c : Instr} {s u : State} {a : Answer} (h : exec c s = answered (u, a))
    (hlink : u.link = s.link) (hclock : u.race.raceClock = s.race.raceClock) :
    exec c s = .next ({ u with link := s.replied a } : State).settle := by
  have hreply : s.replied a = { u.link with tx := .waiting a u.race.raceClock } := by
    rw [State.replied, hlink, hclock]
  rw [h, hreply]
  rfl

/-- A request that replaces one record and its dirty class: the record and the class are the new ones, the others and
every other block stay, and the answer is prepared. -/
theorem State.withRecord_replied {u t : State} {i : Slot} {e : Entrant} {d : DirtyClass} {l : CommandLink}
    (ht : t = ({ u.withRecord i e d with link := l } : State).settle) :
    (t.entrant i = e ∧ t.dirtyOf i = d)
      ∧ (∀ j : Slot, j ≠ i → t.entrant j = u.entrant j ∧ t.dirtyOf j = u.dirtyOf j)
      ∧ t = { u with
          entrants := u.entrants.set i.val e, ceiling := { u.ceiling with dirty := u.ceiling.dirty.set i.val d }
          link := l, pins := t.pinsNow } := by
  subst ht
  exact ⟨⟨u.withRecord_entrant i e d, u.withRecord_dirtyOf i e d⟩,
    fun j hj => ⟨u.withRecord_entrant_other e d hj, u.withRecord_dirtyOf_other e d hj⟩, rfl⟩

/-! ### A new entrant -/

/-- The record of a new entrant (R45), its effective ceiling apart. -/
def Entrant.entered (n : Nat) (st : Option StationNo) : Entrant :=
  { Entrant.vacant with code := some n, state := .staged, station := st }

/-- An accepted ENTER replaces the record, marks its ceiling, and appends the slot to the Standing Order (R45, R96,
R159). -/
theorem State.enterCar_eq (s : State) (i : Slot) (n : Nat) (st : Option StationNo) :
    s.enterCar i n st = (s.joinStandings i).withRecord i (s.limited (Entrant.entered n st))
      (DirtyClass.mark 0 (s.effectiveFor (Entrant.entered n st)) (s.dirtyOf i)) := by
  have hrecord : s.enterCar i n st
      = ((s.joinStandings i).withRecord i (Entrant.entered n st) (s.dirtyOf i)).recompute i := by
    rw [State.enterCar, s.modEntrant_eq_withRecord]
    rfl
  rw [hrecord, State.withRecord_recompute _ _ _ _ (by simp [Entrant.entered])]
  rfl

/-- Settles O31: an ENTER is judged in the order of R45's table, and fills the lowest Vacant slot. -/
theorem enterTakesLowestVacantSlot : Obligations.EnterTakesLowestVacantSlot := by
  refine ⟨?accepted, ?wrongState, ?badValue, ?codeInUse, ?stationInUse, ?tableFull⟩
  case accepted =>
    intro code station i s hrace hcode hfree hstation hi hlow
    have hrange : station = 0xFF#8 ∨ station.toNat < 6 := hstation.imp_right And.left
    have hnotTaken : s.takenAs (stationOf station) none = false := by
      rw [Bool.eq_false_iff, ne_eq, State.takenAs_iff]
      rintro ⟨j, hj, hjst, hsome, -⟩
      rcases hstation with rfl | ⟨hlt, hothers⟩
      · exact hsome stationOf_ff
      · exact (hothers j).resolve_left hj ((stationOf_val hlt).mpr hjst)
    have hexec := exec_enter_judged hrace hcode hrange
    rw [State.slotOfCode_none_iff.mpr hfree, hnotTaken, State.vacantSlot_lowest hi hlow] at hexec
    have hexec : exec (.enter code station) s
        = answered (s.enterCar i code.toNat (stationOf station), Answer.okWith [byteOf i.val]) := hexec
    rw [State.enterCar_eq] at hexec
    refine ⟨_, State.next_of_answered hexec rfl rfl, ?_⟩
    obtain ⟨⟨hentrant, -⟩, -, ht⟩ := State.withRecord_replied rfl
    refine ht.trans ?_
    rw [hentrant]
    rfl
  case wrongState =>
    exact fun code station s hsetup hstaging => State.refuses_of_answered (exec_enter_wrongState ⟨hsetup, hstaging⟩)
  case badValue =>
    exact fun code station s hrace h => State.refuses_of_answered (exec_enter_badValue hrace h)
  case codeInUse =>
    intro code station j s hrace hcode hstation hj hjcode
    have hused : (s.slotOfCode code.toNat).isSome = true := by
      rw [Option.isSome_iff_ne_none, ne_eq, State.slotOfCode_none_iff]
      exact fun h => (h j).elim hj (· hjcode)
    refine State.refuses_of_answered ((exec_enter_judged hrace hcode hstation.symm).trans ?_)
    rw [if_pos hused]
  case stationInUse =>
    intro code station j s hrace hcode hstation hfree hj hjst
    have htaken : s.takenAs (stationOf station) none = true :=
      State.takenAs_iff.mpr ⟨j, hj, (stationOf_val hstation).mp hjst, by simp [stationOf, hstation], by simp⟩
    refine State.refuses_of_answered ((exec_enter_judged hrace hcode (.inr hstation)).trans ?_)
    rw [State.slotOfCode_none_iff.mpr hfree, htaken]
    rfl
  case tableFull =>
    intro code s hrace hcode h
    refine State.refuses_of_answered ((exec_enter_judged hrace hcode (.inl rfl)).trans ?_)
    rw [State.slotOfCode_none_iff.mpr fun j => .inr (h j).2, stationOf_ff, State.vacantSlot_none fun j => (h j).1]
    rfl

end Sys2Proof.Machine
end

section
/-! SUPPORT. Chapter 3, section 3.2: AMEND. -/

namespace Sys2Proof.Machine

/-! ### The judging of an AMEND -/

section Amend

variable {s : State} {code items override station : Byte} {delta : Word16} {i : Slot}

theorem exec_amend_noEntrant (hi : s.named code = none) :
    exec (.amend code items delta override station) s = answered (s.refuse .noEntrant) := by
  show answered (s.amendRequest code items delta override station) = _
  rw [State.amendRequest, hi]

theorem exec_amend_excluded (hi : s.named code = some i) (hstate : (s.entrant i).state = .excluded) :
    exec (.amend code items delta override station) s = answered (s.refuse .wrongState) := by
  show answered (s.amendRequest code items delta override station) = _
  simp only [State.amendRequest, hi, hstate, if_true]

theorem exec_amend_badDelta (hi : s.named code = some i) (hstate : (s.entrant i).state ≠ .excluded)
    (h : items.getLsbD 0 = true ∧ (delta.toInt < -9999 ∨ 9999 < delta.toInt)) :
    exec (.amend code items delta override station) s = answered (s.refuse .badValue) := by
  show answered (s.amendRequest code items delta override station) = _
  simp only [State.amendRequest, hi, if_neg hstate, if_pos h]

theorem exec_amend_badStation (hi : s.named code = some i) (hstate : (s.entrant i).state ≠ .excluded)
    (hitem : items.getLsbD 2 = true) (h : 5 < station.toNat ∧ station ≠ 0xFF#8) :
    exec (.amend code items delta override station) s = answered (s.refuse .badValue) := by
  show answered (s.amendRequest code items delta override station) = _
  simp only [State.amendRequest, hi, if_neg hstate, hitem, if_true, stationItem_outOfRange h, ite_self]

/-- An AMEND whose laps delta and station are in range where they are given comes to the stations in use (R47). -/
theorem exec_amend_judged (hi : s.named code = some i) (hstate : (s.entrant i).state ≠ .excluded)
    (hdelta : items.getLsbD 0 = true → -9999 ≤ delta.toInt ∧ delta.toInt ≤ 9999)
    (hstation : items.getLsbD 2 = true → station = 0xFF#8 ∨ station.toNat < 6) :
    exec (.amend code items delta override station) s = answered (
      if s.takenAs (if items.getLsbD 2 then stationOf station else none) (some i) then s.refuse .stationInUse
      else (s.amendItems i items delta.toInt (overrideOf override)
        (if items.getLsbD 2 then stationOf station else none)).accept) := by
  have hinRange : ¬(items.getLsbD 0 = true ∧ (delta.toInt < -9999 ∨ 9999 < delta.toInt)) := by
    rintro ⟨hitem, h⟩
    have := hdelta hitem
    omega
  have hst : (if items.getLsbD 2 then stationItem station else some none)
      = some (if items.getLsbD 2 then stationOf station else none) := by
    split
    · next hitem => exact stationItem_inRange (hstation hitem)
    · rfl
  show answered (s.amendRequest code items delta override station) = _
  simp only [State.amendRequest, hi, if_neg hstate, if_neg hinRange, hst]
  cases (if items.getLsbD 2 then stationOf station else none) <;> rfl

end Amend

/-! ### Its items, one by one -/

/-- The state with another Standing Order. -/
def State.withStandings (s : State) (l : List Standing) : State := { s with standings := l }

@[simp] theorem State.withStandings_standings (s : State) (l : List Standing) :
    (s.withStandings l).standings = l := rfl

@[simp] theorem State.withStandings_self (s : State) : s.withStandings s.standings = s := rfl

/-- A replaced entrant is placed again by its new key. -/
theorem State.withRecord_replace (s : State) (i : Slot) (e : Entrant) (d : DirtyClass) :
    (s.withRecord i e d).replace i = (s.withStandings (placeAgain i e.key s.standings)).withRecord i e d := by
  rw [State.replace, State.withRecord_entrant]
  rfl

section Items

variable (s : State) (i : Slot) (e : Entrant) (d : DirtyClass) (given : Bool)

theorem State.withRecord_amendLaps (delta : Int) :
    (if given then (s.withRecord i e d).amendLaps i delta else s.withRecord i e d)
      = (s.withStandings
          (if (if given then lapsPlus e.laps delta else e.laps) = e.laps then s.standings
          else placeAgain i { laps := if given then lapsPlus e.laps delta else e.laps, reach := e.reachTime }
            s.standings)).withRecord i
        { e with laps := if given then lapsPlus e.laps delta else e.laps } d := by
  cases given with
  | false => simp
  | true =>
    simp only [if_true, State.amendLaps, State.withRecord_entrant]
    split
    · next h => rw [h, State.withStandings_self]
    · rw [State.withRecord_modEntrant, State.withRecord_replace]
      rfl

theorem State.withRecord_amendOverride (v : Option Nat) (he : e.state ≠ .vacant) :
    (if given then (s.withRecord i e d).amendOverride i v else s.withRecord i e d)
      = s.withRecord i { e with
          override := if given then v else e.override
          effective := if given then s.effectiveFor { e with override := v } else e.effective }
        (DirtyClass.mark e.effective (if given then s.effectiveFor { e with override := v } else e.effective) d) := by
  cases given with
  | false => simp [DirtyClass.mark_same]
  | true =>
    simp only [if_true, State.amendOverride, State.withRecord_modEntrant]
    exact s.withRecord_recompute i _ d he

theorem State.withRecord_amendStation (st : Option StationNo) :
    (if given then (s.withRecord i e d).amendStation i st else s.withRecord i e d)
      = s.withRecord i { e with station := if given then st else e.station } d := by
  cases given <;> simp [State.amendStation]

theorem State.withRecord_amendBlackFlag (he : e.state ≠ .vacant) :
    (if given then (s.withRecord i e d).amendBlackFlag i else s.withRecord i e d)
      = s.withRecord i { e with
          blackFlag := e.blackFlag && !given
          effective := if given && e.blackFlag then s.effectiveFor { e with blackFlag := false } else e.effective }
        (DirtyClass.mark e.effective
          (if given && e.blackFlag then s.effectiveFor { e with blackFlag := false } else e.effective) d) := by
  cases given with
  | false => simp [DirtyClass.mark_same]
  | true =>
    simp only [if_true, State.amendBlackFlag, State.withRecord_entrant]
    cases hflag : e.blackFlag with
    | false =>
      simp only [Bool.and_false, Bool.false_and, Bool.false_eq_true, if_false, DirtyClass.mark_same]
      rw [← hflag]
    | true =>
      simp only [if_true, State.setBlackFlag, State.withRecord_modEntrant]
      exact s.withRecord_recompute i _ d he

theorem State.withRecord_resetCalls :
    (if given then (s.withRecord i e d).resetCalls i else s.withRecord i e d)
      = s.withRecord i { e with callsUsed := if given then 0 else e.callsUsed } d := by
  cases given <;> simp [State.resetCalls]

end Items

/-! ### All its items -/

/-- The record of an accepted AMEND (R48), its effective ceiling apart. -/
def Entrant.amended (e : Entrant) (items : Byte) (delta : Int) (override : Option Nat) (st : Option StationNo) :
    Entrant :=
  { e with
    laps := if items.getLsbD 0 then lapsPlus e.laps delta else e.laps
    override := if items.getLsbD 1 then override else e.override
    station := if items.getLsbD 2 then st else e.station
    blackFlag := e.blackFlag && !items.getLsbD 3
    callsUsed := if items.getLsbD 4 then 0 else e.callsUsed }

/-- An AMEND writes the override, or clears a set Black-flag mark: the ceiling is recomputed (R48, R159). -/
def Entrant.amendLimits (e : Entrant) (items : Byte) : Bool :=
  items.getLsbD 1 || (items.getLsbD 3 && e.blackFlag)

/-- The ceiling as an AMEND has it when the override has been written, and before the Black-flag mark is cleared. -/
def State.overriddenCeiling (s : State) (e : Entrant) (items : Byte) (override : Option Nat) : Nat :=
  if items.getLsbD 1 then s.effectiveFor { e with override := override } else e.effective

/-- The ceiling an AMEND leaves (R48, R159). -/
def State.amendedCeiling (s : State) (e : Entrant) (items : Byte) (delta : Int) (override : Option Nat)
    (st : Option StationNo) : Nat :=
  if e.amendLimits items then s.effectiveFor (e.amended items delta override st) else e.effective

/-- The cleared mark's ceiling is the last one, and without it the override's is. -/
theorem State.amendedCeiling_eq (s : State) (e : Entrant) (items : Byte) (delta : Int) (override : Option Nat)
    (st : Option StationNo) : s.amendedCeiling e items delta override st
      = if items.getLsbD 3 && e.blackFlag then s.effectiveFor { e.amended items delta override st with blackFlag := false }
        else s.overriddenCeiling e items override := by
  unfold State.amendedCeiling Entrant.amendLimits
  cases hcleared : items.getLsbD 3 && e.blackFlag with
  | true =>
    have hmark : (e.blackFlag && !items.getLsbD 3) = false := by
      obtain ⟨hclear, -⟩ := Bool.and_eq_true_iff.mp hcleared
      rw [hclear, Bool.not_true, Bool.and_false]
    rw [Bool.or_true, if_pos rfl, if_pos rfl, Entrant.amended, hmark]
  | false =>
    have hmark : (e.blackFlag && !items.getLsbD 3) = e.blackFlag := by
      cases hflag : e.blackFlag <;> simp_all
    rw [Bool.or_false, if_neg Bool.false_ne_true, State.overriddenCeiling]
    split
    · next hoverride => rw [Entrant.amended, hmark, if_pos hoverride]; rfl
    · rfl

/-- An accepted AMEND replaces the record, places the entrant again if its laps changed, and marks it as the
recomputations do (R48, R93, R159). -/
theorem State.amendItems_eq {s : State} {i : Slot} (items : Byte) (delta : Int) (override : Option Nat)
    (st : Option StationNo) (hv : (s.entrant i).state ≠ .vacant) :
    s.amendItems i items delta override st
      = (s.withStandings
          (if ((s.entrant i).amended items delta override st).laps = (s.entrant i).laps then s.standings
          else placeAgain i ((s.entrant i).amended items delta override st).key s.standings)).withRecord i
        { (s.entrant i).amended items delta override st with
          effective := s.amendedCeiling (s.entrant i) items delta override st }
        (DirtyClass.mark (s.overriddenCeiling (s.entrant i) items override)
          (s.amendedCeiling (s.entrant i) items delta override st)
          (DirtyClass.mark (s.entrant i).effective (s.overriddenCeiling (s.entrant i) items override)
            (s.dirtyOf i))) := by
  have hitems : s.amendItems i items delta override st
      = (s.withRecord i (s.entrant i) (s.dirtyOf i)).amendItems i items delta override st := by
    rw [State.withRecord_self]
  rw [hitems, State.amendedCeiling_eq]
  simp only [State.amendItems]
  rw [State.withRecord_amendLaps, State.withRecord_amendOverride, State.withRecord_amendStation,
    State.withRecord_amendBlackFlag, State.withRecord_resetCalls]
  · rfl
  · exact hv
  · exact hv

end Sys2Proof.Machine
end

section
/-! SUPPORT. Chapter 3, section 3.2: AMEND's statement. -/

namespace Sys2Proof.Machine

/-- FF clears the override, and a value above 100 is taken as 100 (R47). -/
theorem overrideOf_eq (b : Byte) : overrideOf b = if b = 0xFF#8 then none else some (min 100 b.toNat) := by
  have hff : b.toNat = 255 ↔ b = 0xFF#8 := (BitVec.toNat_eq (x := b) (y := 0xFF#8)).symm
  simp only [overrideOf, hff, Nat.min_comm]

/-- Where the override and the clearing of the mark are not given together, an AMEND recomputes at most once. -/
theorem State.amend_marks_once (s : State) (e : Entrant) {items : Byte} (delta : Int) (override : Option Nat)
    (st : Option StationNo) (d : DirtyClass) (h : (items.getLsbD 1 && items.getLsbD 3) = false) :
    DirtyClass.mark (s.overriddenCeiling e items override) (s.amendedCeiling e items delta override st)
      (DirtyClass.mark e.effective (s.overriddenCeiling e items override) d)
      = DirtyClass.mark e.effective (s.amendedCeiling e items delta override st) d := by
  rcases Bool.and_eq_false_iff.mp h with hoverride | hclear
  · have hkept : s.overriddenCeiling e items override = e.effective := by
      rw [State.overriddenCeiling, if_neg (by rw [hoverride]; exact Bool.false_ne_true)]
    rw [hkept, DirtyClass.mark_same]
  · have hlast : s.amendedCeiling e items delta override st = s.overriddenCeiling e items override := by
      rw [State.amendedCeiling_eq, hclear]
      rfl
    rw [hlast, DirtyClass.mark_same]

/-- Settles O32: an AMEND is judged in the order of R47's table, and its items are written together. -/
theorem amendAppliesItsItems : Obligations.AmendAppliesItsItems := by
  refine ⟨?accepted, ?noEntrant, ?excluded, ?badValue, ?stationInUse⟩
  case accepted =>
    intro code items delta override station i s hi hstate hdelta hstation
    have hv := State.named_not_vacant hi
    have hrange (hitem : items.getLsbD 2 = true) : station = 0xFF#8 ∨ station.toNat < 6 :=
      (hstation hitem).imp_right And.left
    have hnotTaken : s.takenAs (if items.getLsbD 2 then stationOf station else none) (some i) = false := by
      rw [Bool.eq_false_iff, ne_eq, State.takenAs_iff]
      rintro ⟨j, hj, hjst, hsome, hji⟩
      have hitem : items.getLsbD 2 = true := by
        by_contra hnot
        exact hsome (if_neg hnot)
      rw [if_pos hitem] at hjst hsome
      rcases hstation hitem with rfl | ⟨hlt, hothers⟩
      · exact hsome stationOf_ff
      · exact (((hothers j).resolve_left hj).resolve_left fun h => hji (congrArg some h))
          ((stationOf_val hlt).mpr hjst)
    have hexec := exec_amend_judged (override := override) hi hstate hdelta hrange
    rw [hnotTaken, State.amendItems_eq _ _ _ _ hv] at hexec
    refine ⟨_, State.next_of_accept hexec rfl rfl, rfl, ?_⟩
    obtain ⟨⟨hentrant, hdirty⟩, hothers, -⟩ := State.withRecord_replied rfl
    refine ⟨hothers, ?record, ?standings, fun honce j => ?marked⟩
    case record =>
      have hst : (if items.getLsbD 2 then (if items.getLsbD 2 then stationOf station else none)
          else (s.entrant i).station) = if items.getLsbD 2 then stationOf station else (s.entrant i).station := by
        split <;> rfl
      rw [hentrant, ← overrideOf_eq, ← hst]
      rfl
    case standings =>
      rw [hentrant]
      rfl
    case marked =>
      by_cases hj : j = i
      · subst hj
        rw [hentrant, hdirty]
        exact s.amend_marks_once _ _ _ _ _ honce
      · obtain ⟨hsame, hclass⟩ := hothers j hj
        rw [hsame, hclass]
        exact (DirtyClass.mark_same _ _).symm
  case noEntrant =>
    exact fun code items delta override station s hi => State.refuses_of_answered (exec_amend_noEntrant hi)
  case excluded =>
    exact fun code items delta override station i s hi h => State.refuses_of_answered (exec_amend_excluded hi h)
  case badValue =>
    rintro code items delta override station i s hi hstate (h | ⟨hitem, h⟩)
    · exact State.refuses_of_answered (exec_amend_badDelta hi hstate h)
    · exact State.refuses_of_answered (exec_amend_badStation hi hstate hitem h)
  case stationInUse =>
    intro code items delta override station i j s hi hstate hdelta hitem hlt hji hj hjst
    have htaken : s.takenAs (if items.getLsbD 2 then stationOf station else none) (some i) = true := by
      rw [if_pos hitem]
      exact State.takenAs_iff.mpr ⟨j, hj, (stationOf_val hlt).mp hjst, by simp [stationOf, hlt], by simpa using hji⟩
    refine State.refuses_of_answered ((exec_amend_judged hi hstate hdelta fun _ => .inr hlt).trans ?_)
    rw [htaken]
    rfl

end Sys2Proof.Machine
end

section
/-! SUPPORT. Chapter 3, section 3.1: codes and stations that no two entrants share (R44). -/

namespace Sys2Proof.Machine

/-- One record replaced by an entrant whose code is in range and nobody else's, and whose station is nobody else's. -/
theorem State.identitiesKept_of_replaced {s t : State} {i : Slot} (hs : s.identitiesKept)
    (hothers : ∀ j : Slot, j ≠ i → t.entrant j = s.entrant j) (hrange : (t.entrant i).code.any (inRange 1 62) = true)
    (hown : ∀ j : Slot, j ≠ i → (s.entrant j).state ≠ .vacant → (t.entrant i).code ≠ (s.entrant j).code
      ∧ ((t.entrant i).station = none ∨ (t.entrant i).station ≠ (s.entrant j).station)) : t.identitiesKept := by
  intro a ha
  by_cases hai : a = i
  · subst hai
    refine ⟨hrange, fun j hj haj => ?_⟩
    rw [hothers j haj.symm] at hj ⊢
    exact hown j haj.symm hj
  · rw [hothers a hai] at ha ⊢
    obtain ⟨hcode, hdistinct⟩ := hs a ha
    refine ⟨hcode, fun j hj haj => ?_⟩
    by_cases hji : j = i
    · subst hji
      obtain ⟨hcodes, hstations⟩ := hown a haj ha
      refine ⟨hcodes.symm, ?_⟩
      rcases hstations with h | h
      · rw [h]; exact eq_or_ne _ _
      · exact .inr h.symm
    · rw [hothers j hji] at hj ⊢
      exact hdistinct j hj haj

/-- A new entrant has a code and a station that no entrant has (R45). -/
theorem State.enterCar_identitiesKept {s : State} {code : Byte} {st : Option StationNo} (i : Slot)
    (hcode : carCode code = true) (hfree : s.slotOfCode code.toNat = none) (htaken : ¬s.takenAs st none = true)
    (hs : s.identitiesKept) : (s.enterCar i code.toNat st).identitiesKept := by
  rw [State.enterCar_eq]
  refine State.identitiesKept_of_replaced hs (fun j hj => State.withRecord_entrant_other _ _ _ hj) ?_
    fun j _ hj => ?_
  · rw [State.withRecord_entrant]
    exact hcode
  · rw [State.withRecord_entrant]
    refine ⟨fun h => (State.slotOfCode_none_iff.mp hfree j).elim hj (· h.symm), ?_⟩
    rw [or_iff_not_imp_left]
    exact fun hsome h => htaken (State.takenAs_iff.mpr ⟨j, hj, h.symm, hsome, by simp⟩)

theorem State.enterRequest_identitiesKept {s : State} (code station : Byte) (hs : s.identitiesKept) :
    (s.enterRequest code station).1.identitiesKept := by
  unfold State.enterRequest
  split
  · exact hs
  split
  · next st hcode _ =>
    split
    · exact hs
    next hfree =>
    have hfree : s.slotOfCode code.toNat = none := by simpa using hfree
    have entered (htaken : ¬s.takenAs st none = true) (i : Slot) : (s.enterCar i code.toNat st).identitiesKept :=
      State.enterCar_identitiesKept i hcode hfree htaken hs
    cases st with
    | none =>
      rw [if_neg (by simp)]
      split
      · exact hs
      · exact entered Bool.false_ne_true _
    | some n =>
      dsimp only
      split
      · exact hs
      · next htaken =>
        split
        · exact hs
        · exact entered htaken _
  · exact hs

/-- An amended entrant has its code, and its station or one that no other entrant has (R47). -/
theorem State.amendItems_identitiesKept {s : State} {i : Slot} {items : Byte} {st : Option StationNo} (delta : Int)
    (override : Option Nat) (hv : (s.entrant i).state ≠ .vacant) (htaken : ¬s.takenAs st (some i) = true)
    (hs : s.identitiesKept) : (s.amendItems i items delta override st).identitiesKept := by
  obtain ⟨hrange, hdistinct⟩ := hs i hv
  rw [State.amendItems_eq _ _ _ _ hv]
  refine State.identitiesKept_of_replaced hs (fun j hj => State.withRecord_entrant_other _ _ _ hj) ?_
    fun j hji hj => ?_
  · rw [State.withRecord_entrant]
    exact hrange
  · obtain ⟨hcodes, hstations⟩ := hdistinct j hj hji.symm
    rw [State.withRecord_entrant]
    refine ⟨hcodes, ?_⟩
    dsimp only [Entrant.amended]
    split
    · rw [or_iff_not_imp_left]
      exact fun hsome h => htaken (State.takenAs_iff.mpr ⟨j, hj, h.symm, hsome, by simpa using hji⟩)
    · exact hstations

theorem State.amendRequest_identitiesKept {s : State} (code items : Byte) (delta : Word16) (override station : Byte)
    (hs : s.identitiesKept) : (s.amendRequest code items delta override station).1.identitiesKept := by
  unfold State.amendRequest
  split
  · exact hs
  next i hi =>
  split
  · exact hs
  split
  · exact hs
  split
  · exact hs
  next st _ =>
  have amended (htaken : ¬s.takenAs st (some i) = true) :
      (s.amendItems i items delta.toInt (overrideOf override) st).identitiesKept :=
    State.amendItems_identitiesKept _ _ (State.named_not_vacant hi) htaken hs
  cases st with
  | none =>
    rw [if_neg (by simp)]
    exact amended Bool.false_ne_true
  | some n =>
    dsimp only
    split
    · exact hs
    · next htaken => exact amended htaken

/-- Every command but the check byte of a frame keeps codes and stations apart. -/
theorem exec_identitiesKept {c : Instr} {s : State} (hc : ∀ b, c ≠ .commandFrame b) (hs : s.identitiesKept) :
    ∃ t, exec c s = .next t ∧ t.identitiesKept := by
  by_cases hnames : namesCars c = false
  · obtain ⟨t, hexec, hsame⟩ := exec_sameCars s hnames
    exact ⟨t, hexec, hsame.identitiesKept hs⟩
  cases c
  case enter code station => exact ⟨_, rfl, State.enterRequest_identitiesKept code station hs⟩
  case amend code items delta override station =>
    exact ⟨_, rfl, State.amendRequest_identitiesKept code items delta override station hs⟩
  case commandFrame b => exact absurd rfl (hc b)
  all_goals exact absurd rfl hnames

/-- Settles O12: ENTER and AMEND give codes and stations nobody has, no other command gives any, and no tick does. -/
theorem codesAndStationsKept : Obligations.CodesAndStationsKept := by
  refine step_keeps (P := fun s => s.identitiesKept) (fun _ _ h => h) (fun c s hs => ?_) (fun _ h => h)
  by_cases hc : ∃ b, c = .commandFrame b
  · obtain ⟨b, rfl⟩ := hc
    refine execCommandFrame_keeps (fun _ _ _ h => h) (fun c s hc h => exec_identitiesKept ?_ h) b hs
    rintro b rfl
    cases hc
  · exact exec_identitiesKept (fun b h => hc ⟨b, h⟩) hs

end Sys2Proof.Machine
end

section
/-! SUPPORT. The state after reset meets the invariants that every step keeps. -/

namespace Sys2Proof.Machine

theorem State.reset_entrant (i : Slot) : State.reset.entrant i = Entrant.vacant := by
  simp [State.entrant, State.reset, State.powerOn]

theorem State.reset_dirtyOf (i : Slot) : State.reset.dirtyOf i = .clean := by
  simp [State.dirtyOf, State.reset, State.powerOn, CeilingUnit.atReset]

/-- Settles O17: after reset every record is Vacant, every list empty, and every clock at 0. -/
theorem invariantsHoldAtReset : Obligations.InvariantsHoldAtReset := by
  refine ⟨?clocks, ?standings, ?queue, ?pitQueues, ?identities, ?ceilings, ?holders, ?racing, ?latches⟩
  case clocks => exact ⟨by decide, fun _ => ⟨rfl, rfl⟩, fun h => absurd h (by decide), fun h => absurd h (by decide)⟩
  case standings =>
    refine ⟨.nil, fun i => ?_, .nil, fun x hx => absurd hx List.not_mem_nil, fun i _ => ?_⟩
    · rw [State.reset_entrant]
      exact iff_of_false List.not_mem_nil (by decide)
    · rw [State.reset_entrant]
      rfl
  case queue => exact ⟨by decide, .nil⟩
  case pitQueues =>
    intro i
    rw [State.reset_entrant]
    decide
  case identities => exact fun i hi => absurd (congrArg Entrant.state (State.reset_entrant i)) hi
  case ceilings =>
    intro i
    rw [State.reset_entrant, State.reset_dirtyOf]
    exact ⟨rfl, rfl⟩
  case holders =>
    have hnone : State.reset.allHolders = [] := by decide
    rw [State.holdersKept, hnone]
    refine ⟨.nil, fun i hi => absurd hi List.not_mem_nil, fun i hi => ?_⟩
    rw [State.reset_entrant] at hi
    cases hi
  case racing =>
    intro i hi
    rw [State.reset_entrant] at hi
    cases hi
  case latches => exact ⟨fun _ => rfl, rfl⟩

end Sys2Proof.Machine
end

section
/-! SUPPORT. Chapter 3, section 3.2: LOOKUP and LOOKUP_SLOT, and the places of the record body (section 11.6). -/

namespace Sys2Proof.Machine

/-! ### Bytes by fields -/

/-- The bytes of fields one after the other: each field is read at the sum of the lengths before it. -/
theorem bodyAt_field {l : List (List Byte)} {lengths : List Nat} (hl : l.map List.length = lengths) {k : Nat}
    {x : List Byte} (hx : l[k]? = some x) {o n : Nat} (ho : (lengths.take k).sum = o) (hn : x.length = n) :
    bodyAt l.flatten o n = x := by
  subst ho hn
  induction l generalizing k lengths with
  | nil => cases hx
  | cons y l ih =>
    subst hl
    cases k with
    | zero =>
      obtain rfl : y = x := by simpa using hx
      simp [bodyAt]
    | succ k =>
      have hrest := ih rfl (by simpa using hx)
      rw [bodyAt] at hrest
      simpa [bodyAt, List.drop_length_add_append] using hrest

theorem word16_length (n : Nat) : (word16 n).length = 2 := rfl

theorem optWord16_length (v : Option Nat) : (optWord16 v).length = 2 := rfl

theorem optWord32_length (v : Option Nat) : (optWord32 v).length = 4 := rfl

theorem sectorBytes_length (l : List (Option Nat)) : (sectorBytes l).length = 17 := rfl

theorem penaltyBytes_length (p : Option PitPenalty) : (penaltyBytes p).length = 14 := by
  cases p <;> rfl

/-! ### The record body -/

/-- The fields of the record body, in the groups of section 11.6. -/
def Entrant.fields (e : Entrant) (slot : Slot) (now : RunTime) : List (List Byte) :=
  [[byteOf slot.val, optByte e.code, byteOf e.state.number, optByte (e.station.map (·.val)), optByte e.lane,
      byteOf e.pitStatus.number],
    [e.flagsByte, byteOf e.pitStops], word16 e.laps ++ word16 e.lapsDown,
    [byteOf e.sector, byteOf e.callsUsed, optByte e.override, byteOf e.effective],
    [byteOf (finishNumber e.finishStatus), e.lastLapMarks.byte], optWord16 (e.bestLap.map (·.lap)),
    optWord32 e.pitEntry ++ optWord32 e.boxArrival,
    optWord32 e.latestCrossing ++ optWord32 e.prevCrossing ++ optWord32 e.reachTime,
    optWord32 e.lastLap ++ optWord32 (e.bestLap.map (·.ticks)) ++ optWord32 e.lastBoundary,
    optWord32 e.gap ++ optWord32 e.latestPass ++ optWord32 e.deadline ++ optWord32 e.finishTime,
    sectorBytes e.currentSectors, sectorBytes e.lastSectors, [byteOf e.penalties.length],
    penaltyBytes e.penalties[0]?, penaltyBytes e.penalties[1]?, penaltyBytes e.penalties[2]?,
    penaltyBytes e.penalties[3]?, optWord32 (e.holdTimer.map (· - now)), [optByte (e.powerHold.map (·.level))],
    optWord32 (e.powerHold.map (·.expiry - now))]

theorem Entrant.bytes_eq (e : Entrant) (slot : Slot) (now : RunTime) :
    e.bytes slot now = (e.fields slot now).flatten := by
  unfold Entrant.bytes Entrant.fields
  simp only [List.flatten_cons, List.flatten_nil, List.append_assoc, List.cons_append, List.nil_append, List.append_nil]

theorem Entrant.fields_lengths (e : Entrant) (slot : Slot) (now : RunTime) :
    (e.fields slot now).map List.length = [6, 2, 4, 4, 2, 2, 8, 12, 12, 16, 17, 17, 1, 14, 14, 14, 14, 4, 1, 4] := by
  simp [Entrant.fields, word16_length, optWord16_length, optWord32_length, sectorBytes_length, penaltyBytes_length]

/-- The record body has 168 bytes, each field at its place (section 11.6). -/
theorem State.recordAnswer_bytes (s : State) (i : Slot) :
    s.recordAnswer i ((s.entrant i).bytes i s.race.runningClock) := by
  have hlengths := (s.entrant i).fields_lengths i s.race.runningClock
  have place {k : Nat} {x : List Byte} (hx : ((s.entrant i).fields i s.race.runningClock)[k]? = some x) {o n : Nat} :=
    bodyAt_field hlengths hx (o := o) (n := n)
  have queue (k : Fin 4) : ((s.entrant i).fields i s.race.runningClock)[13 + k.val]?
        = some (penaltyBytes (s.entrant i).penalties[k.val]?)
      ∧ ([6, 2, 4, 4, 2, 2, 8, 12, 12, 16, 17, 17, 1, 14, 14, 14, 14, 4, 1, 4].take (13 + k.val)).sum
        = 103 + 14 * k.val := by
    fin_cases k <;> exact ⟨rfl, rfl⟩
  rw [State.recordAnswer, Entrant.bytes_eq]
  refine ⟨?length, place (k := 0) rfl rfl rfl, place (k := 1) rfl rfl rfl, place (k := 2) rfl rfl rfl,
    place (k := 3) rfl rfl rfl, place (k := 4) rfl rfl rfl, place (k := 5) rfl rfl rfl, place (k := 6) rfl rfl rfl,
    place (k := 7) rfl rfl rfl, place (k := 8) rfl rfl rfl, place (k := 9) rfl rfl rfl, place (k := 10) rfl rfl rfl,
    place (k := 11) rfl rfl rfl, place (k := 12) rfl rfl rfl, fun k => ?queue, place (k := 17) rfl rfl rfl,
    place (k := 18) rfl rfl rfl, place (k := 19) rfl rfl rfl⟩
  case length =>
    rw [List.length_flatten, hlengths]
    rfl
  case queue =>
    obtain ⟨hfield, hoffset⟩ := queue k
    exact place hfield hoffset (penaltyBytes_length _)

/-! ### The two requests -/

/-- A request answered with an entrant's record, nothing else changed. -/
def State.answersRecord (s : State) (c : Instr) (i : Slot) : Prop :=
  exec c s = answered (s, Answer.okWith ((s.entrant i).bytes i s.race.runningClock))

theorem exec_lookup_named {s : State} {code : Byte} {i : Slot} (h : s.named code = some i) :
    s.answersRecord (.lookup code) i := by
  show answered (s.lookupRequest code) = _
  rw [State.lookupRequest, h]

theorem exec_lookupSlot_slot (s : State) (i : Slot) : s.answersRecord (.lookupSlot (BitVec.ofNat 8 i.val)) i := by
  have hval : (BitVec.ofNat 8 i.val).toNat = i.val := by
    rw [BitVec.toNat_ofNat]
    omega
  have hlt : (BitVec.ofNat 8 i.val).toNat < 24 := hval.trans_lt i.isLt
  have hslot : (⟨(BitVec.ofNat 8 i.val).toNat, hlt⟩ : Slot) = i := Fin.ext hval
  show answered (s.lookupSlotRequest _) = _
  rw [State.lookupSlotRequest, dif_pos hlt, hslot]

/-- Settles O25: the record body stands in the answer, and the refusals are those of R46. -/
theorem lookupsAnswerRecord : Obligations.LookupsAnswerRecord := by
  have answers {s : State} {c : Instr} {i : Slot} (h : s.answersRecord c i) : ∃ t, exec c s = .next t
      ∧ ∃ a, t.link.tx = .waiting a s.race.raceClock ∧ t = { s with link := s.replied a, pins := t.pinsNow }
      ∧ a.status = .ok ∧ a.reboot = false ∧ s.recordAnswer i a.body :=
    ⟨_, h, _, rfl, rfl, rfl, rfl, s.recordAnswer_bytes i⟩
  refine ⟨fun code i s h => answers (exec_lookup_named h), fun i s => answers (exec_lookupSlot_slot s i), ?noEntrant,
    ?noSlot⟩
  case noEntrant =>
    intro code s h
    refine State.refuses_of_answered ?_
    show answered (s.lookupRequest code) = _
    rw [State.lookupRequest, State.named_none_iff.mpr h]
  case noSlot =>
    intro slot s h
    exact State.refuses_of_answered (congrArg answered (dif_neg (by omega)))

end Sys2Proof.Machine
end

section
/-! SUPPORT. Sections 6.5 and 9.2: recomputation by records, the Caution Map by sectors, and what is left alone. -/

namespace Sys2Proof.Machine

/-! ### What the Caution Map's operations leave -/

/-- The state `s` with the Caution Map, the records and the dirty classes of `t`. -/
def State.withCars (s t : State) : State :=
  { s with
    race := { s.race with caution := t.race.caution }
    entrants := t.entrants, ceiling := { s.ceiling with dirty := t.ceiling.dirty } }

theorem State.withCars_trans {s t u : State} (ht : t = s.withCars t) (hu : u = t.withCars u) : u = s.withCars u := by
  rw [ht] at hu
  exact hu

theorem State.recompute_withCars (s : State) (i : Slot) : s.recompute i = s.withCars (s.recompute i) := by
  unfold State.recompute
  dsimp only
  split <;> rfl

theorem State.forSlots_withCars {f : State → Slot → State} (h : ∀ s i, f s i = s.withCars (f s i)) (s : State) :
    s.forSlots f = s.withCars (s.forSlots f) :=
  State.forSlots_induction (fun t => t = s.withCars t) f (fun t i ht => State.withCars_trans ht (h t i)) s rfl

theorem State.recomputeAll_withCars (s : State) : s.recomputeAll = s.withCars s.recomputeAll :=
  State.forSlots_withCars State.recompute_withCars s

theorem State.notice_withCars (s : State) (c : Entrant → Bool) : s.notice c = s.withCars (s.notice c) :=
  State.forSlots_withCars (fun s i => by split <;> rfl) s

/-! ### Recomputation by records -/

theorem State.recomputeAll_recomputedIn (s : State) (j : Slot) :
    s.recomputeAll.entrant j = (s.entrant j).recomputedIn s := by
  rw [State.recomputeAll_entrant, Entrant.recomputedIn]
  by_cases hv : (s.entrant j).state = .vacant
  · rw [if_neg (not_not.mpr hv), if_pos hv]
  · rw [if_pos hv, if_neg hv]

/-- The recomputation of every entrant marks each as R160 has it. -/
theorem State.recomputeAll_markedFrom (s : State) : s.recomputeAll.markedFrom s := by
  intro j
  rw [State.recomputeAll_recomputedIn, State.recomputeAll_dirtyOf, Entrant.recomputedIn]
  by_cases hv : (s.entrant j).state = .vacant
  · simp [hv, DirtyClass.mark_same]
  · simp [hv]

/-- A recomputation reads the configuration, the race state, the yellow flag, and which sectors are under local caution
(R157, R158). -/
theorem Entrant.recomputedIn_congr {s t : State} (e : Entrant) (hcfg : t.cfg = s.cfg)
    (hstate : t.race.state = s.race.state) (hyellow : t.race.yellow = s.race.yellow)
    (hcaution : ∀ k : Nat, t.localCaution k = s.localCaution k) : e.recomputedIn t = e.recomputedIn s := by
  have hlimits : t.limits e = s.limits e := by
    unfold State.limits
    rw [hcaution, hcfg]
  have heffective : t.effectiveFor e = s.effectiveFor e := by
    unfold State.effectiveFor
    rw [hlimits, hcfg, hyellow, hstate]
  rw [Entrant.recomputedIn, Entrant.recomputedIn, heffective]

/-- Of two recomputations the later one counts. -/
theorem Entrant.recomputedIn_recomputedIn (e : Entrant) (s t : State) :
    (e.recomputedIn s).recomputedIn t = e.recomputedIn t := by
  unfold Entrant.recomputedIn
  dsimp only
  split <;> rfl

/-- A record no recomputation changes. -/
def Entrant.Still (e : Entrant) : Prop := ∀ t : State, e.recomputedIn t = e

theorem Entrant.still_of_vacant {e : Entrant} (h : e.state = .vacant) : e.Still := by
  intro t
  rw [Entrant.recomputedIn, if_pos h]

/-! ### The Caution Map by sectors -/

theorem State.modSector_eq (s : State) (k : Fin 4) (f : SectorCaution → SectorCaution) :
    s.modSector k.val f
      = { s with race := { s.race with caution := s.race.caution.set k.val (f s.race.caution[k]) } } := by
  have hget : s.race.caution[k.val]? = some s.race.caution[k] := by simp
  have hset : s.race.caution.setIfInBounds k.val (f s.race.caution[k])
      = s.race.caution.set k.val (f s.race.caution[k]) := by
    ext j hj
    simp only [Vector.getElem_setIfInBounds, Vector.getElem_set]
  rw [State.modSector, hget]
  exact congrArg (fun v => ({ s with race := { s.race with caution := v } } : State)) hset

theorem State.modSector_withCars (s : State) (k : Fin 4) (f : SectorCaution → SectorCaution) :
    s.modSector k.val f = s.withCars (s.modSector k.val f) := by
  rw [State.modSector_eq]
  rfl

theorem State.modSector_caution (s : State) (k j : Fin 4) (f : SectorCaution → SectorCaution) :
    (s.modSector k.val f).race.caution[j] = if j = k then f s.race.caution[k] else s.race.caution[j] := by
  rw [State.modSector_eq]
  by_cases h : j = k
  · subst h; simp
  · have hne : k.val ≠ j.val := fun e => h (Fin.ext e.symm)
    simp [h, Vector.getElem_set_ne _ _ hne]

theorem State.localCaution_sector (s : State) (k : Fin 4) : s.localCaution k.val = s.race.caution[k].inForce := by
  have hget : s.race.caution[k.val]? = some s.race.caution[k] := by simp
  rw [State.localCaution, hget]

theorem State.localCaution_beyond (s : State) {k : Nat} (h : 4 ≤ k) : s.localCaution k = false := by
  have hget : s.race.caution[k]? = none := by simp [h]
  rw [State.localCaution, hget]

/-- Local caution agrees everywhere where it agrees in the four sectors. -/
theorem State.localCaution_forall {s t : State} :
    (∀ k : Nat, t.localCaution k = s.localCaution k) ↔ ∀ k : Fin 4, t.localCaution k.val = s.localCaution k.val := by
  refine ⟨fun h k => h k.val, fun h k => ?_⟩
  by_cases hk : k < 4
  · exact h ⟨k, hk⟩
  · rw [s.localCaution_beyond (by omega), t.localCaution_beyond (by omega)]

theorem SectorCaution.inForce_iff (z : SectorCaution) : z.inForce = true ↔ z.hostFlag = true ∨ z.holders ≠ [] := by
  simp [SectorCaution.inForce]

theorem State.modSector_localCaution (s : State) (k j : Fin 4) (f : SectorCaution → SectorCaution) :
    (s.modSector k.val f).localCaution j.val
      = if j = k then (f s.race.caution[k]).inForce else s.localCaution j.val := by
  rw [State.localCaution_sector, State.modSector_caution, s.localCaution_sector j]
  split <;> rfl

end Sys2Proof.Machine
end

section
/-! SUPPORT. Section 6.5 and chapter 3, section 3.5: a changed sector, a dropped holder, and a release. -/

namespace Sys2Proof.Machine

/-! ### A changed sector -/

theorem State.recomputeAll_race (s : State) : s.recomputeAll.race = s.race := by simp

theorem State.modSector_dirtyOf (s : State) (k : Fin 4) (f : SectorCaution → SectorCaution) (j : Slot) :
    (s.modSector k.val f).dirtyOf j = s.dirtyOf j := by
  rw [State.dirtyOf, State.dirtyOf]
  simp

/-- A change that leaves a sector under local caution, or out of it, tells nobody (R114). -/
theorem State.changeSector_kept {s : State} {k : Fin 4} {f : SectorCaution → SectorCaution}
    (h : (f s.race.caution[k]).inForce = s.localCaution k.val) : s.changeSector k.val f = s.modSector k.val f := by
  have hlc := s.modSector_localCaution k k f
  rw [if_pos rfl, h] at hlc
  rw [State.changeSector]
  rw [hlc, if_pos rfl]

/-- A sector that leaves local caution has every ceiling recomputed (R114). -/
theorem State.changeSector_left {s : State} {k : Fin 4} {f : SectorCaution → SectorCaution}
    (h : s.localCaution k.val = true) (hf : (f s.race.caution[k]).inForce = false) :
    s.changeSector k.val f = (s.modSector k.val f).recomputeAll := by
  have hlc := s.modSector_localCaution k k f
  rw [if_pos rfl, hf] at hlc
  rw [State.changeSector]
  rw [hlc, h]
  rfl

/-- A sector that comes under local caution has the notice sent in it and every ceiling recomputed (R114, R116). -/
theorem State.changeSector_entered {s : State} {k : Fin 4} {f : SectorCaution → SectorCaution}
    (h : s.localCaution k.val = false) (hf : (f s.race.caution[k]).inForce = true) :
    s.changeSector k.val f = ((s.modSector k.val f).notice fun e => e.sector == k.val).recomputeAll := by
  have hlc := s.modSector_localCaution k k f
  rw [if_pos rfl, hf] at hlc
  rw [State.changeSector]
  rw [hlc, h]
  rfl

/-! ### Relief -/

/-- `w` is `u` after holders have left the Caution Map (R114): every record and mark stays if no sector left local
caution, and otherwise every entrant has been recomputed. -/
structure State.Relieved (u w : State) : Prop where
  frame : w = u.withCars w
  falls : ∀ k : Fin 4, w.localCaution k.val = true → u.localCaution k.val = true
  records : ((∀ k : Fin 4, w.localCaution k.val = u.localCaution k.val) ∧ w.entrants = u.entrants
      ∧ w.ceiling = u.ceiling)
    ∨ ((∃ k : Fin 4, w.localCaution k.val ≠ u.localCaution k.val)
      ∧ ∀ j : Slot, w.entrant j = (u.entrant j).recomputedIn w)
  still : ∀ j : Slot, (u.entrant j).Still → w.dirtyOf j = u.dirtyOf j

theorem State.Relieved.refl (u : State) : u.Relieved u :=
  ⟨rfl, fun _ h => h, .inl ⟨fun _ => rfl, rfl, rfl⟩, fun _ _ => rfl⟩

/-- In a relieved state a recomputation reads only the Caution Map anew. -/
theorem Entrant.recomputedIn_withCars {u w : State} (e : Entrant) (h : w = u.withCars w)
    (hcaution : ∀ k : Fin 4, w.localCaution k.val = u.localCaution k.val) : e.recomputedIn w = e.recomputedIn u :=
  Entrant.recomputedIn_congr e (by rw [h]; rfl) (by rw [h]; rfl) (by rw [h]; rfl)
    (State.localCaution_forall.mpr hcaution)

/-- A record no recomputation changes stays in a relief. -/
theorem State.Relieved.entrant_still {u w : State} (h : u.Relieved w) {j : Slot} (hj : (u.entrant j).Still) :
    w.entrant j = u.entrant j := by
  rcases h.records with ⟨-, hentrants, -⟩ | ⟨-, hrecomputed⟩
  · exact State.entrant_congr hentrants j
  · rw [hrecomputed j, hj w]

theorem State.Relieved.trans {u v w : State} (huv : u.Relieved v) (hvw : v.Relieved w) : u.Relieved w where
  frame := State.withCars_trans huv.frame hvw.frame
  falls k h := huv.falls k (hvw.falls k h)
  still j hj := by
    have hv : (v.entrant j).Still := by rw [huv.entrant_still hj]; exact hj
    rw [hvw.still j hv, huv.still j hj]
  records := by
    rcases huv.records with ⟨hlcv, hentv, hceilv⟩ | ⟨⟨k, hk⟩, hentv⟩
    · rcases hvw.records with ⟨hlcw, hentw, hceilw⟩ | ⟨⟨k, hk⟩, hentw⟩
      · exact .inl ⟨fun k => (hlcw k).trans (hlcv k), hentw.trans hentv, hceilw.trans hceilv⟩
      · refine .inr ⟨⟨k, fun h => hk (h.trans (hlcv k).symm)⟩, fun j => ?_⟩
        rw [hentw j, State.entrant_congr hentv j]
    · have hleft : w.localCaution k.val ≠ u.localCaution k.val := by
        intro h
        have hu := huv.falls k
        have hw := hvw.falls k
        cases hc : u.localCaution k.val <;> simp_all
      refine .inr ⟨⟨k, hleft⟩, fun j => ?_⟩
      rcases hvw.records with ⟨hlcw, hentw, -⟩ | ⟨-, hentw⟩
      · rw [State.entrant_congr hentw j, hentv j, Entrant.recomputedIn_withCars _ hvw.frame hlcw]
      · rw [hentw j, hentv j, Entrant.recomputedIn_recomputedIn]

/-! ### A dropped holder -/

/-- A sector without one of its holders. -/
def SectorCaution.without (z : SectorCaution) (i : Slot) : SectorCaution :=
  { z with holders := z.holders.filter (· != i) }

theorem SectorCaution.without_inForce {z : SectorCaution} {i : Slot} (h : (z.without i).inForce = true) :
    z.inForce = true := by
  rw [SectorCaution.inForce_iff] at h ⊢
  exact h.imp_right fun hne he => hne (by rw [SectorCaution.without, he]; rfl)

theorem SectorCaution.without_of_notMem {z : SectorCaution} {i : Slot} (h : i ∉ z.holders) : z.without i = z := by
  have : z.holders.filter (· != i) = z.holders := List.filter_eq_self.mpr fun j hj => by
    simpa using fun hji : j = i => h (hji ▸ hj)
  rw [SectorCaution.without, this]

/-- A slot leaves the holder list of one sector. -/
def State.forget (s : State) (k : Fin 4) (i : Slot) : State := s.changeSector k.val (·.without i)

theorem State.dropHolder_eq_forget (s : State) (i : Slot) :
    s.dropHolder i = (((s.forget 0 i).forget 1 i).forget 2 i).forget 3 i := rfl

/-- The two ways a slot leaves a sector's holder list: the sector stays as it was, or leaves local caution. -/
theorem State.forget_cases (s : State) (k : Fin 4) (i : Slot) :
    (s.forget k i = s.modSector k.val (·.without i)
        ∧ (s.race.caution[k].without i).inForce = s.localCaution k.val)
      ∨ (s.forget k i = (s.modSector k.val (·.without i)).recomputeAll
        ∧ s.localCaution k.val = true ∧ (s.race.caution[k].without i).inForce = false) := by
  cases hafter : (s.race.caution[k].without i).inForce with
  | true =>
    have hlc : s.localCaution k.val = true := by
      rw [State.localCaution_sector]
      exact SectorCaution.without_inForce hafter
    exact .inl ⟨State.changeSector_kept (hafter.trans hlc.symm), hlc.symm⟩
  | false =>
    cases hlc : s.localCaution k.val with
    | true => exact .inr ⟨State.changeSector_left hlc hafter, rfl, rfl⟩
    | false => exact .inl ⟨State.changeSector_kept (hafter.trans hlc.symm), rfl⟩

theorem State.forget_caution (s : State) (k j : Fin 4) (i : Slot) :
    (s.forget k i).race.caution[j] = if j = k then s.race.caution[k].without i else s.race.caution[j] := by
  rw [← State.modSector_caution s k j (·.without i)]
  rcases s.forget_cases k i with ⟨h, -⟩ | ⟨h, -⟩
  · rw [h]
  · rw [h, State.recomputeAll_race]

/-- A slot that holds nothing in the sector leaves nothing behind. -/
theorem State.forget_of_notMem {s : State} {k : Fin 4} {i : Slot} (h : i ∉ s.race.caution[k].holders) :
    s.forget k i = s := by
  have hz : s.race.caution[k].without i = s.race.caution[k] := SectorCaution.without_of_notMem h
  have hset : s.race.caution.set k.val s.race.caution[k] = s.race.caution := by simp
  rw [State.forget, State.changeSector_kept (by rw [hz, State.localCaution_sector]), State.modSector_eq, hz, hset]

theorem State.modSector_localCaution_of_inForce {s : State} {k : Fin 4} {f : SectorCaution → SectorCaution}
    (h : (f s.race.caution[k]).inForce = s.localCaution k.val) (j : Fin 4) :
    (s.modSector k.val f).localCaution j.val = s.localCaution j.val := by
  rw [State.modSector_localCaution]
  split
  · next hj => rw [h, hj]
  · rfl

theorem State.forget_relieved (s : State) (k : Fin 4) (i : Slot) : s.Relieved (s.forget k i) := by
  rcases s.forget_cases k i with ⟨h, hsame⟩ | ⟨h, hbefore, hafter⟩
  · rw [h]
    have hlc := State.modSector_localCaution_of_inForce (f := (·.without i)) hsame
    exact ⟨State.modSector_withCars s k _, fun j hj => hlc j ▸ hj, .inl ⟨hlc, by simp, by simp⟩,
      fun j _ => State.modSector_dirtyOf s k _ j⟩
  · have hlc : ∀ j : Fin 4, (s.forget k i).localCaution j.val = if j = k then false else s.localCaution j.val := by
      intro j
      rw [State.localCaution_sector, State.forget_caution, s.localCaution_sector j]
      split
      · exact hafter
      · rfl
    have hframe : s.forget k i = s.withCars (s.forget k i) := by
      rw [h]
      exact State.withCars_trans (State.modSector_withCars s k _) (State.recomputeAll_withCars _)
    refine ⟨hframe, fun j hj => ?_, .inr ⟨⟨k, ?_⟩, fun j => ?_⟩, fun j hj => ?_⟩
    · rw [hlc] at hj
      split at hj
      · exact absurd hj Bool.false_ne_true
      · exact hj
    · rw [hlc, if_pos rfl, hbefore]
      exact Bool.false_ne_true
    · have hsame : (s.entrant j).recomputedIn (s.forget k i)
          = (s.entrant j).recomputedIn (s.modSector k.val (·.without i)) := by
        refine Entrant.recomputedIn_congr _ ?_ ?_ ?_ fun n => ?_ <;> rw [h]
        · simp
        · simp
        · simp
        · rw [State.localCaution, State.localCaution]; simp
      rw [hsame, h, State.recomputeAll_recomputedIn, State.modSector_entrant]
    · have hmarked := (State.recomputeAll_markedFrom (s.modSector k.val (·.without i))) j
      rw [State.recomputeAll_recomputedIn, State.modSector_entrant, hj, DirtyClass.mark_same] at hmarked
      rw [h, hmarked, State.modSector_dirtyOf]

/-- A slot's leaving one sector marks every entrant as R160 has it. -/
theorem State.forget_markedFrom (s : State) (k : Fin 4) (i : Slot) : (s.forget k i).markedFrom s := by
  rcases s.forget_cases k i with ⟨h, -⟩ | ⟨h, -⟩
  · intro j
    rw [h, State.modSector_entrant, DirtyClass.mark_same, State.modSector_dirtyOf]
  · have hmarked := State.recomputeAll_markedFrom (s.modSector k.val (·.without i))
    intro j
    have hj := hmarked j
    rw [State.modSector_entrant, State.modSector_dirtyOf] at hj
    rw [h, hj]

theorem State.dropHolder_relieved (s : State) (i : Slot) : s.Relieved (s.dropHolder i) := by
  rw [State.dropHolder_eq_forget]
  exact (s.forget_relieved 0 i).trans <| (State.forget_relieved _ 1 i).trans <|
    (State.forget_relieved _ 2 i).trans (State.forget_relieved _ 3 i)

theorem State.dropHolder_caution (s : State) (i : Slot) (j : Fin 4) :
    (s.dropHolder i).race.caution[j] = s.race.caution[j].without i := by
  rw [State.dropHolder_eq_forget]
  simp only [State.forget_caution]
  revert j
  simp [Fin.forall_fin_succ]

/-- A slot that stands in one sector's list at most leaves that sector alone. -/
theorem State.dropHolder_of_single {s : State} {i : Slot} {k : Fin 4}
    (h : ∀ j : Fin 4, j ≠ k → i ∉ s.race.caution[j].holders) : s.dropHolder i = s.forget k i := by
  have hafter : ∀ j : Fin 4, j ≠ k → (s.forget k i).forget j i = s.forget k i := fun j hj =>
    State.forget_of_notMem (by rw [State.forget_caution, if_neg hj]; exact h j hj)
  have hbefore : ∀ j : Fin 4, j ≠ k → s.forget j i = s := fun j hj => State.forget_of_notMem (h j hj)
  rw [State.dropHolder_eq_forget]
  revert hafter hbefore
  revert k
  simp +contextual [Fin.forall_fin_succ]

/-! ### A release -/

/-- The record with the Overdue mark away. -/
def Entrant.seen (e : Entrant) : Entrant := { e with overdue := false }

theorem State.modEntrant_of_eq {s : State} {i : Slot} {f : Entrant → Entrant} (h : f (s.entrant i) = s.entrant i) :
    s.modEntrant i f = s := by
  rw [s.modEntrant_eq_withRecord, h, State.withRecord_self]

/-- A release clears the Overdue mark and relieves the Caution Map (R65). -/
theorem State.release_relieved (s : State) (i : Slot) : (s.modEntrant i Entrant.seen).Relieved (s.release i) := by
  rw [State.release]
  split
  · exact State.dropHolder_relieved _ i
  · next h =>
    rw [State.modEntrant_of_eq (f := Entrant.seen) (by rw [Entrant.seen, ← Bool.eq_false_iff.mpr h])]
    exact .refl s

theorem State.release_caution (s : State) (i : Slot) (k : Fin 4) :
    (s.release i).race.caution[k]
      = if (s.entrant i).overdue then s.race.caution[k].without i else s.race.caution[k] := by
  rw [State.release]
  split
  · rw [State.dropHolder_caution, State.modEntrant_race]
  · rfl

/-- A slot of a Caution Map whose holders stand once in it is in one sector's list at most. -/
theorem State.holder_of_one_sector {s : State} (h : s.allHolders.Nodup) (i : Slot) :
    ∃ k : Fin 4, ∀ j : Fin 4, j ≠ k → i ∉ s.race.caution[j].holders := by
  obtain ⟨-, hdisjoint⟩ := List.nodup_flatMap.mp h
  have hapart : ∀ j k : Fin 4, j < k → i ∈ s.race.caution[j].holders → i ∉ s.race.caution[k].holders := by
    intro j k hjk hj hk
    have := List.pairwise_iff_getElem.mp hdisjoint j.val k.val (by simp) (by simp) hjk
    exact this (by simpa using hj) (by simpa using hk)
  by_cases hin : ∃ k : Fin 4, i ∈ s.race.caution[k].holders
  · obtain ⟨k, hk⟩ := hin
    refine ⟨k, fun j hj hjin => ?_⟩
    rcases lt_or_gt_of_ne hj with hlt | hgt
    · exact hapart j k hlt hjin hk
    · exact hapart k j hgt hk hjin
  · exact ⟨0, fun j _ hj => hin ⟨j, hj⟩⟩

/-- Where the holders stand once in the map, a release marks every entrant as R160 has it. -/
theorem State.release_markedFrom {s : State} (h : s.allHolders.Nodup) (i : Slot) : (s.release i).markedFrom s := by
  rw [State.release]
  split
  · obtain ⟨k, hk⟩ := State.holder_of_one_sector h i
    rw [State.dropHolder_of_single (k := k) (by simpa using hk)]
    intro j
    have hj := State.forget_markedFrom (s.modEntrant i fun e => { e with overdue := false }) k i j
    rw [State.modEntrant_dirtyOf] at hj
    have heffective : ((s.modEntrant i fun e => { e with overdue := false }).entrant j).effective
        = (s.entrant j).effective := by
      rw [State.entrant_modEntrant]
      split
      · next hji => rw [hji]
      · rfl
    rw [hj, heffective]
  · exact fun j => (DirtyClass.mark_same _ _).symm

end Sys2Proof.Machine
end

section
/-! SUPPORT. Chapter 3, section 3.5: sighting deadlines. -/

namespace Sys2Proof.Machine

/-! ### A holder joins -/

/-- A sector with one more holder. -/
def SectorCaution.joined (z : SectorCaution) (i : Slot) : SectorCaution := { z with holders := z.holders ++ [i] }

theorem SectorCaution.joined_inForce (z : SectorCaution) (i : Slot) : (z.joined i).inForce = true :=
  z.joined i |>.inForce_iff.mpr (.inr (by simp [SectorCaution.joined]))

/-- A holder joins a sector that is under local caution already. -/
theorem State.addHolder_again {s : State} {k : Fin 4} (i : Slot) (h : s.localCaution k.val = true) :
    s.addHolder k.val i = s.modSector k.val (·.joined i) :=
  State.changeSector_kept (f := (·.joined i)) ((SectorCaution.joined_inForce _ i).trans h.symm)

/-- The first holder of a sector brings it under local caution. -/
theorem State.addHolder_first {s : State} {k : Fin 4} (i : Slot) (h : s.localCaution k.val = false) :
    s.addHolder k.val i = ((s.modSector k.val (·.joined i)).notice fun e => e.sector == k.val).recomputeAll :=
  State.changeSector_entered (f := (·.joined i)) h (SectorCaution.joined_inForce _ i)

theorem State.addHolder_withCars (s : State) (k : Fin 4) (i : Slot) :
    s.addHolder k.val i = s.withCars (s.addHolder k.val i) := by
  cases h : s.localCaution k.val with
  | true =>
    rw [State.addHolder_again i h]
    exact State.modSector_withCars s k _
  | false =>
    rw [State.addHolder_first i h]
    exact State.withCars_trans (State.modSector_withCars s k _)
      (State.withCars_trans (State.notice_withCars _ _) (State.recomputeAll_withCars _))

theorem State.notice_race (s : State) (c : Entrant → Bool) : (s.notice c).race = s.race := by simp

theorem State.notice_dirtyOf (s : State) (c : Entrant → Bool) (j : Slot) : (s.notice c).dirtyOf j = s.dirtyOf j := by
  rw [State.dirtyOf, State.dirtyOf]
  simp

theorem State.addHolder_caution (s : State) (k : Fin 4) (i : Slot) :
    (s.addHolder k.val i).race.caution = s.race.caution.set k.val (s.race.caution[k].joined i) := by
  have hmod : (s.modSector k.val (·.joined i)).race.caution = s.race.caution.set k.val (s.race.caution[k].joined i) := by
    rw [State.modSector_eq]
  cases h : s.localCaution k.val with
  | true => rw [State.addHolder_again i h, hmod]
  | false => rw [State.addHolder_first i h, State.recomputeAll_race, State.notice_race, hmod]

/-- The record that carries the notice of a sector's caution (R116). -/
def Entrant.noticed (e : Entrant) (k : Nat) : Entrant :=
  { e with lapCaution := e.lapCaution || (e.state == .racing && e.sector == k) }

theorem State.notice_noticed (s : State) (k : Nat) (j : Slot) :
    (s.notice fun e => e.sector == k).entrant j = (s.entrant j).noticed k := by
  rw [State.notice_entrant, Entrant.noticed]
  by_cases h : (s.entrant j).state = .racing ∧ ((s.entrant j).sector == k) = true
  · rw [if_pos h, beq_iff_eq.mpr h.1, h.2, Bool.and_self, Bool.or_true]
  · have hfalse : ((s.entrant j).state == .racing && (s.entrant j).sector == k) = false := by simpa using h
    rw [if_neg h, hfalse, Bool.or_false]

/-- What the first holder of a sector does to the records (R114, R116). -/
theorem State.addHolder_first_entrant {s : State} {k : Fin 4} (i : Slot) (h : s.localCaution k.val = false) (j : Slot) :
    (s.addHolder k.val i).entrant j = ((s.entrant j).noticed k.val).recomputedIn (s.addHolder k.val i) := by
  have hsame : ((s.entrant j).noticed k.val).recomputedIn (s.addHolder k.val i)
      = ((s.entrant j).noticed k.val).recomputedIn ((s.modSector k.val (·.joined i)).notice fun e => e.sector == k.val) := by
    rw [State.addHolder_first i h]
    refine Entrant.recomputedIn_congr _ (by simp) ?_ ?_ fun n => ?_
    · rw [State.recomputeAll_race]
    · rw [State.recomputeAll_race]
    · rw [State.localCaution, State.localCaution, State.recomputeAll_race]
  rw [hsame, State.addHolder_first i h, State.recomputeAll_recomputedIn, State.notice_noticed, State.modSector_entrant]

theorem State.addHolder_markedFrom (s : State) (k : Fin 4) (i : Slot) : (s.addHolder k.val i).markedFrom s := by
  intro j
  cases h : s.localCaution k.val with
  | true =>
    rw [State.addHolder_again i h, State.modSector_dirtyOf, State.modSector_entrant, DirtyClass.mark_same]
  | false =>
    have hmarked := State.recomputeAll_markedFrom ((s.modSector k.val (·.joined i)).notice fun e => e.sector == k.val) j
    rw [State.notice_noticed, State.modSector_entrant, State.notice_dirtyOf, State.modSector_dirtyOf] at hmarked
    rw [State.addHolder_first i h]
    exact hmarked

/-! ### SIGHTING_DEADLINE_EXPIRY -/

/-- The record of an entrant whose sighting deadline has expired (R64). -/
def Entrant.lost (e : Entrant) : Entrant := { e with deadline := none, overdue := true }

theorem State.expireSighting_off {s : State} (i : Slot) (h : s.cfg.autoLocalCaution = false) :
    s.expireSighting i = s.modEntrant i Entrant.lost := if_neg (by simp [h])

theorem State.expireSighting_on {s : State} (i : Slot) (h : s.cfg.autoLocalCaution = true) :
    s.expireSighting i = (s.modEntrant i Entrant.lost).addHolder (s.entrant i).sector i := by
  have hsector : ((s.modEntrant i Entrant.lost).entrant i).sector = (s.entrant i).sector := by
    rw [State.entrant_modEntrant_same]
    rfl
  rw [← hsector]
  exact if_pos h

theorem exec_sightingDeadlineExpiry_due {s : State} {i : Slot} {d : RunTime}
    (hrace : s.race.state = .running ∨ s.race.state = .finishing) (hracing : (s.entrant i).state = .racing)
    (hd : (s.entrant i).deadline = some d) (hdue : d ≤ s.race.runningClock) :
    exec (.sightingDeadlineExpiry i) s = (s.expireSighting i).done := by
  have : s.sightingDue i = true := by
    simp [State.sightingDue, (RaceState.clockRuns_iff _).mpr hrace, hracing, hd, hdue]
  exact if_pos this

theorem exec_sightingDeadlineExpiry_notDue {s : State} {i : Slot}
    (h : (s.race.state ≠ .running ∧ s.race.state ≠ .finishing) ∨ (s.entrant i).state ≠ .racing
      ∨ ∀ d ∈ (s.entrant i).deadline.toList, s.race.runningClock < d) :
    exec (.sightingDeadlineExpiry i) s = s.done := by
  have hnot : s.sightingDue i = false := by
    rcases h with h | h | h
    · have : s.race.state.clockRuns = false := by
        simpa using mt (RaceState.clockRuns_iff _).mp (not_or.mpr h)
      simp [State.sightingDue, this]
    · simp [State.sightingDue, h]
    · cases hd : (s.entrant i).deadline with
      | none => simp [State.sightingDue, hd]
      | some d => simp [State.sightingDue, hd, h d (by simp [hd])]
  exact if_neg (by simp [hnot])

/-- Settling replaces the pins alone. -/
theorem State.settle_of_eq {t u : State} (h : t = u) : t.settle = { u with pins := t.settle.pinsNow } := by
  subst h
  rfl

theorem Entrant.recomputedIn_settle (e : Entrant) (t : State) : e.recomputedIn t.settle = e.recomputedIn t := rfl

/-! ### A report -/

theorem laterOf_eq (now : RunTime) (o : Option RunTime) : laterOf now o = match o with
    | some u => max now u
    | none => now := by cases o <;> rfl

/-- Settles O53: an expiry is the change of one sector's holders, a release that of each sector in turn. -/
theorem sightingDeadlinesMakeOverdue : Obligations.SightingDeadlinesMakeOverdue := by
  refine ⟨?off, ?on, ?notDue, ?unlost, ?released, ?noted, ?moved⟩
  case off =>
    intro i d s hrace hracing hd hdue hoff
    have hexec := exec_sightingDeadlineExpiry_due hrace hracing hd hdue
    rw [State.expireSighting_off i hoff] at hexec
    exact State.next_of_done hexec
  case on =>
    intro i d k s hrace hracing hd hdue hon hsector
    have hexec := exec_sightingDeadlineExpiry_due hrace hracing hd hdue
    rw [State.expireSighting_on i hon, hsector] at hexec
    refine ⟨_, hexec, ?_, ?_, fun j => ?_⟩
    · have hframe := State.addHolder_withCars (s.modEntrant i Entrant.lost) k i
      have hcaution := State.addHolder_caution (s.modEntrant i Entrant.lost) k i
      rw [State.withCars, hcaution] at hframe
      exact State.settle_of_eq hframe
    · have hforce : (s.modEntrant i Entrant.lost).localCaution k.val = true
          ↔ s.race.caution[k].hostFlag = true ∨ s.race.caution[k].holders ≠ [] := by
        rw [State.localCaution_sector]
        exact SectorCaution.inForce_iff _
      split
      · next h =>
        rw [State.settle_entrants, State.addHolder_again i (hforce.mpr h)]
        simp [State.modEntrant, Entrant.lost]
      · next h =>
        have hout := Bool.eq_false_iff.mpr (mt hforce.mp h)
        intro j
        rw [Entrant.recomputedIn_settle, State.settle_entrant, State.addHolder_first_entrant i hout j]
        congr 1
        rw [State.entrant_modEntrant]
        by_cases hj : j = i
        · subst hj; simp [Entrant.lost, Entrant.noticed]
        · simp [hj, Entrant.noticed]
    · have hmarked := State.addHolder_markedFrom (s.modEntrant i Entrant.lost) k i j
      have heffective : ((s.modEntrant i Entrant.lost).entrant j).effective = (s.entrant j).effective := by
        rw [State.entrant_modEntrant]
        split
        · next hji => rw [hji]; rfl
        · rfl
      rw [heffective, State.modEntrant_dirtyOf] at hmarked
      exact hmarked
  case notDue =>
    exact fun i s h => State.unmovedBy_of_done (exec_sightingDeadlineExpiry_notDue h)
  case unlost =>
    exact fun i s => s.release_not_overdue i
  case released =>
    intro i s hlost
    have hrel := s.release_relieved i
    refine ⟨hrel.frame, fun k => ?_, ?_⟩
    · rw [State.release_caution, if_pos hlost]
      rfl
    · rcases hrel.records with ⟨hsame, hentrants, hceiling⟩ | ⟨⟨k, hk⟩, hentrant⟩
      · rw [if_neg fun ⟨k, hk⟩ => hk (hsame k).symm]
        exact ⟨hentrants, hceiling⟩
      · rw [if_pos ⟨k, fun h => hk h.symm⟩]
        intro j
        rw [hentrant j]
        congr 1
        rw [State.entrant_modEntrant]
        by_cases hj : j = i
        · subst hj; simp [Entrant.seen]
        · simp [hj, bne_iff_ne.mpr hj]
  case noted =>
    intro i now s
    refine ⟨?_, rfl⟩
    simp only [State.noteSeen, laterOf_eq]
    rfl
  case moved =>
    intro i now s
    refine ⟨fun hbox seen _ => if_pos hbox, fun hbox => ⟨if_neg hbox, fun hwindow => ?_, fun hwindow => ?_⟩⟩
    · rw [State.moveDeadline, if_neg hbox]
      exact if_pos hwindow
    · rw [State.moveDeadline, if_neg hbox]
      refine (if_neg hwindow).trans ?_
      simp only [laterOf_eq]
      rfl

end Sys2Proof.Machine
end

section
/-! SUPPORT. Chapter 3, section 3.2: RETIRE and EXCLUDE. -/

namespace Sys2Proof.Machine

/-! ### An entrant out of the race -/

/-- An entrant that has left the race for good (R50, R51). -/
def EntrantState.out : EntrantState → Bool
  | .retired | .excluded => true
  | .vacant | .staged | .racing | .finished => false

theorem stateCeiling_out (c : Ceilings) (yellow : Bool) {st : EntrantState} (h : st.out = true) (r : RaceState) :
    stateCeiling c yellow st r = 0 := by
  cases st <;> simp_all [EntrantState.out, stateCeiling]

/-- An entrant out of the race has a ceiling of 0 (R157, R158). -/
theorem State.effectiveFor_out (s : State) {e : Entrant} (h : e.state.out = true) : s.effectiveFor e = 0 := by
  rw [State.effectiveFor, stateCeiling_out _ _ h]
  exact Nat.le_zero.mp (foldl_min_le (s.limits e) 0).1

theorem EntrantState.out_ne_vacant {st : EntrantState} (h : st.out = true) : st ≠ .vacant := by
  rintro rfl
  exact Bool.false_ne_true h

theorem Entrant.still_of_out {e : Entrant} (h : e.state.out = true) (hzero : e.effective = 0) : e.Still := by
  intro t
  rw [Entrant.recomputedIn, if_neg (EntrantState.out_ne_vacant h), t.effectiveFor_out h, ← hzero]

theorem State.withRecord_recompute_out (s : State) (i : Slot) {e : Entrant} (d : DirtyClass)
    (h : e.state.out = true) : (s.withRecord i e d).recompute i
      = s.withRecord i { e with effective := 0 } (DirtyClass.mark e.effective 0 d) := by
  rw [State.withRecord_recompute _ _ _ _ (EntrantState.out_ne_vacant h), State.limited, s.effectiveFor_out h]

/-- A recomputation of an entrant out of the race, its ceiling 0 already, changes nothing. -/
theorem State.withRecord_recompute_still (s : State) (i : Slot) {e : Entrant} (d : DirtyClass)
    (h : e.state.out = true) (hzero : e.effective = 0) :
    (s.withRecord i e d).recompute i = s.withRecord i e d := by
  rw [State.withRecord_recompute_out s i d h, hzero, DirtyClass.mark_same, ← hzero]

/-! ### A withdrawal -/

/-- The record with the ceiling, state and deadline that come before the release of a withdrawn entrant. -/
def Entrant.leaving (e : Entrant) (st : EntrantState) : Entrant :=
  { e with state := st, deadline := none, effective := 0 }

/-- The state in which a withdrawn entrant has been released and its record has become `e`. -/
def State.withdrawn (s : State) (i : Slot) (st : EntrantState) (e : Entrant) : State :=
  ((s.withRecord i ((s.entrant i).leaving st)
    (DirtyClass.mark (s.entrant i).effective 0 (s.dirtyOf i))).release i).withRecord i e
    (DirtyClass.mark (s.entrant i).effective 0 (s.dirtyOf i))

section Release

variable (s : State) (i : Slot) {st : EntrantState} (d : DirtyClass)

theorem State.withRecord_leaving_relieved :
    (s.withRecord i ((s.entrant i).leaving st).seen d).Relieved
      ((s.withRecord i ((s.entrant i).leaving st) d).release i) := by
  have h := (s.withRecord i ((s.entrant i).leaving st) d).release_relieved i
  rwa [State.withRecord_modEntrant] at h

theorem Entrant.leaving_seen_still (e : Entrant) (hst : st.out = true) : (e.leaving st).seen.Still :=
  Entrant.still_of_out hst rfl

/-- The release of a withdrawn entrant leaves its record, the Overdue mark apart, and its mark. -/
theorem State.release_leaving (hst : st.out = true) :
    (s.withRecord i ((s.entrant i).leaving st) d).release i
      = ((s.withRecord i ((s.entrant i).leaving st) d).release i).withRecord i ((s.entrant i).leaving st).seen d := by
  have hrel := s.withRecord_leaving_relieved i (st := st) d
  have hstill : ((s.withRecord i ((s.entrant i).leaving st).seen d).entrant i).Still := by
    rw [State.withRecord_entrant]
    exact (s.entrant i).leaving_seen_still hst
  have hentrant := hrel.entrant_still hstill
  have hdirty := hrel.still i hstill
  rw [State.withRecord_entrant] at hentrant
  rw [State.withRecord_dirtyOf] at hdirty
  conv_lhs => rw [← State.withRecord_self ((s.withRecord i ((s.entrant i).leaving st) d).release i) i, hentrant, hdirty]

end Release

theorem State.retireEntrant_eq (s : State) (i : Slot) :
    s.retireEntrant i
      = (s.withdrawn i .retired { (s.entrant i).withdrawnAs .retired with effective := 0 }).checkFinished := by
  have hfirst : ((s.modEntrant i fun e => { e with state := .retired }).recompute i).modEntrant i
        (fun e => { e with deadline := none })
      = s.withRecord i ((s.entrant i).leaving .retired) (DirtyClass.mark (s.entrant i).effective 0 (s.dirtyOf i)) := by
    rw [State.modEntrant_eq_withRecord s, State.withRecord_recompute_out _ _ _ rfl, State.withRecord_modEntrant]
    rfl
  rw [State.retireEntrant, hfirst, State.release_leaving s i _ rfl, State.withRecord_modEntrant, State.clearPenalties,
    State.withRecord_modEntrant, State.withRecord_recompute_still _ _ _ rfl rfl,
    State.withRecord_recompute_still _ _ _ rfl rfl]
  rfl

theorem State.excludeEntrant_eq (s : State) (i : Slot) :
    s.excludeEntrant i = ((s.withStandings (s.standings.filter fun x => x.slot != i)).withdrawn i .excluded
      { (s.entrant i).withdrawnAs .excluded with
        station := none, blackFlag := false, effective := 0 }).checkFinished := by
  have hfirst : (((s.modEntrant i fun e => { e with state := .excluded }).recompute i).leaveStandings i).modEntrant i
        (fun e => { e with deadline := none })
      = (s.withStandings (s.standings.filter fun x => x.slot != i)).withRecord i ((s.entrant i).leaving .excluded)
        (DirtyClass.mark (s.entrant i).effective 0 (s.dirtyOf i)) := by
    have hleave : (s.withRecord i { s.entrant i with state := .excluded, effective := 0 }
          (DirtyClass.mark (s.entrant i).effective 0 (s.dirtyOf i))).leaveStandings i
        = (s.withStandings (s.standings.filter fun x => x.slot != i)).withRecord i
          { s.entrant i with state := .excluded, effective := 0 }
          (DirtyClass.mark (s.entrant i).effective 0 (s.dirtyOf i)) := rfl
    rw [State.modEntrant_eq_withRecord s, State.withRecord_recompute_out _ _ _ rfl]
    refine (congrArg (State.modEntrant · i _) hleave).trans ?_
    rw [State.withRecord_modEntrant]
    rfl
  rw [State.excludeEntrant, hfirst]
  have hrelease := State.release_leaving (s.withStandings (s.standings.filter fun x => x.slot != i)) i
    (st := .excluded) (DirtyClass.mark (s.entrant i).effective 0 (s.dirtyOf i)) rfl
  have hkept : (s.withStandings (s.standings.filter fun x => x.slot != i)).entrant i = s.entrant i := rfl
  rw [hkept] at hrelease
  rw [hrelease, State.withRecord_modEntrant, State.clearPenalties,
    State.withRecord_modEntrant, State.withRecord_recompute_still _ _ _ rfl rfl, State.setBlackFlag,
    State.withRecord_modEntrant, State.withRecord_recompute_still _ _ _ rfl rfl, State.withRecord_modEntrant,
    State.withRecord_recompute_still _ _ _ rfl rfl]
  rfl

/-! ### What a withdrawal leaves -/

section Withdrawn

variable (s : State) (i : Slot) {st : EntrantState} (e : Entrant)

@[simp] theorem State.withdrawn_entrant : (s.withdrawn i st e).entrant i = e := State.withRecord_entrant _ i e _

@[simp] theorem State.withdrawn_dirtyOf :
    (s.withdrawn i st e).dirtyOf i = DirtyClass.mark (s.entrant i).effective 0 (s.dirtyOf i) :=
  State.withRecord_dirtyOf _ i e _

theorem State.withRecord_withCars (u : State) (d : DirtyClass) :
    u.withRecord i e d = u.withCars (u.withRecord i e d) := rfl

theorem State.withdrawn_withCars : s.withdrawn i st e = s.withCars (s.withdrawn i st e) :=
  State.withCars_trans
    (State.withCars_trans (s.withRecord_withCars i _ _) (s.withRecord_leaving_relieved i (st := st) _).frame)
    (State.withRecord_withCars i e _ _)

theorem State.withdrawn_caution (k : Fin 4) : (s.withdrawn i st e).race.caution[k]
    = if (s.entrant i).overdue then s.race.caution[k].without i else s.race.caution[k] := by
  have h := (s.withRecord i ((s.entrant i).leaving st)
    (DirtyClass.mark (s.entrant i).effective 0 (s.dirtyOf i))).release_caution i k
  rw [State.withRecord_entrant] at h
  exact h

/-- What a withdrawal does to another entrant's record: nothing, unless a sector leaves local caution (R65, R114). -/
theorem State.withdrawn_other :
    ((∀ k : Fin 4, (s.withdrawn i st e).localCaution k.val = s.localCaution k.val)
        ∧ ∀ j : Slot, j ≠ i → (s.withdrawn i st e).entrant j = s.entrant j
          ∧ (s.withdrawn i st e).dirtyOf j = s.dirtyOf j)
      ∨ ((∃ k : Fin 4, (s.withdrawn i st e).localCaution k.val ≠ s.localCaution k.val)
        ∧ ∀ j : Slot, j ≠ i
          → (s.withdrawn i st e).entrant j = (s.entrant j).recomputedIn (s.withdrawn i st e)) := by
  have hrel := s.withRecord_leaving_relieved i (st := st) (DirtyClass.mark (s.entrant i).effective 0 (s.dirtyOf i))
  rcases hrel.records with ⟨hsame, hentrants, hceiling⟩ | ⟨hleft, hentrant⟩
  · refine .inl ⟨hsame, fun j hj => ⟨?_, ?_⟩⟩
    · exact (State.withRecord_entrant_other _ _ _ hj).trans
        ((State.entrant_congr hentrants j).trans (State.withRecord_entrant_other _ _ _ hj))
    · refine (State.withRecord_dirtyOf_other _ _ _ hj).trans ?_
      rw [State.dirtyOf, hceiling]
      exact State.withRecord_dirtyOf_other _ _ _ hj
  · refine .inr ⟨hleft, fun j hj => (State.withRecord_entrant_other _ _ _ hj).trans ?_⟩
    rw [hentrant j, State.withRecord_entrant_other _ _ _ hj]
    rfl

theorem State.withdrawn_dirtyOf_vacant {j : Slot} (hj : j ≠ i) (hv : (s.entrant j).state = .vacant) :
    (s.withdrawn i st e).dirtyOf j = s.dirtyOf j := by
  refine (State.withRecord_dirtyOf_other _ _ _ hj).trans ?_
  rw [(s.withRecord_leaving_relieved i (st := st) _).still j, State.withRecord_dirtyOf_other _ _ _ hj]
  rw [State.withRecord_entrant_other _ _ _ hj]
  exact Entrant.still_of_vacant hv

/-- Where the holders stand once in the map, a withdrawal marks every entrant as R160 has it. -/
theorem State.withdrawn_markedFrom (h : s.allHolders.Nodup) (hzero : e.effective = 0) :
    (s.withdrawn i st e).markedFrom s := by
  intro j
  by_cases hj : j = i
  · rw [hj, State.withdrawn_entrant, State.withdrawn_dirtyOf, hzero]
  · have hmarked := State.release_markedFrom (s := s.withRecord i ((s.entrant i).leaving st)
      (DirtyClass.mark (s.entrant i).effective 0 (s.dirtyOf i))) h i j
    rw [State.withRecord_entrant_other _ _ _ hj, State.withRecord_dirtyOf_other _ _ _ hj] at hmarked
    have hentrant := State.withRecord_entrant_other ((s.withRecord i ((s.entrant i).leaving st)
      (DirtyClass.mark (s.entrant i).effective 0 (s.dirtyOf i))).release i) e
      (DirtyClass.mark (s.entrant i).effective 0 (s.dirtyOf i)) hj
    rw [State.withdrawn, State.withRecord_dirtyOf_other _ _ _ hj, hentrant, hmarked]

end Withdrawn

/-! ### The race once an entrant is withdrawn -/

theorem State.racingLeft_iff (s : State) : s.racingLeft = true ↔ ∃ j : Slot, (s.entrant j).state = .racing := by
  simp [State.racingLeft, mem_allSlots]

theorem State.checkFinished_running {s : State}
    (h : s.race.state = .finishing → ∃ j : Slot, (s.entrant j).state = .racing) : s.checkFinished = s := by
  rcases s.checkFinished_cases with ⟨hrace, hleft, -⟩ | ⟨-, hsame⟩
  · exact absurd (s.racingLeft_iff.mpr (h hrace)) (by simp [hleft])
  · exact hsame

theorem State.checkFinished_last {s : State} (hrace : s.race.state = .finishing)
    (h : ∀ j : Slot, (s.entrant j).state ≠ .racing) : s.checkFinished = s.complete := by
  rcases s.checkFinished_cases with ⟨-, -, hdone⟩ | ⟨hleft, -⟩
  · exact hdone
  · obtain ⟨j, hj⟩ := s.racingLeft_iff.mp (hleft hrace)
    exact absurd hj (h j)

section Judged

variable {s : State} {i : Slot} {st : EntrantState} {e : Entrant}

theorem State.withdrawn_race_state : (s.withdrawn i st e).race.state = s.race.state := by
  rw [s.withdrawn_withCars i e]
  rfl

theorem State.withdrawn_state_other {j : Slot} (hj : j ≠ i) :
    ((s.withdrawn i st e).entrant j).state = (s.entrant j).state := by
  rcases s.withdrawn_other i e (st := st) with ⟨-, h⟩ | ⟨-, h⟩
  · rw [(h j hj).1]
  · rw [h j hj]
    rfl

theorem State.withdrawn_checkFinished
    (h : s.race.state = .finishing → ∃ j : Slot, j ≠ i ∧ (s.entrant j).state = .racing) :
    (s.withdrawn i st e).checkFinished = s.withdrawn i st e :=
  State.checkFinished_running fun hrace =>
    have ⟨j, hj, hracing⟩ := h (State.withdrawn_race_state.symm.trans hrace)
    ⟨j, (State.withdrawn_state_other hj).trans hracing⟩

theorem State.withdrawn_complete (hrace : s.race.state = .finishing) (he : e.state ≠ .racing)
    (h : ∀ j : Slot, j ≠ i → (s.entrant j).state ≠ .racing) :
    (s.withdrawn i st e).checkFinished = (s.withdrawn i st e).complete := by
  refine State.checkFinished_last (State.withdrawn_race_state.trans hrace) fun j => ?_
  by_cases hj : j = i
  · rw [hj, State.withdrawn_entrant]
    exact he
  · rw [State.withdrawn_state_other hj]
    exact h j hj

end Judged

/-! ### The requests -/

/-- The race made Complete (R119), its ceilings apart. -/
def State.raceOver (s : State) : State :=
  { s with
    race := { s.race with state := .complete, finishDeadline := none, resume := none, suspStart := none }
    ceiling := { s.ceiling with holdStart := none }, attention := { s.attention with race := true } }

theorem State.complete_eq (s : State) : s.complete = s.raceOver.recomputeAll := rfl

/-- The completion of a race by records (R119, R159). -/
theorem State.complete_entrant (s : State) (j : Slot) :
    s.complete.entrant j = (s.entrant j).recomputedIn s.complete := by
  have hsame : (s.entrant j).recomputedIn s.complete = (s.entrant j).recomputedIn s.raceOver := by
    rw [State.complete_eq]
    refine Entrant.recomputedIn_congr _ (by simp) ?_ ?_ fun n => ?_
    · rw [State.recomputeAll_race]
    · rw [State.recomputeAll_race]
    · rw [State.localCaution, State.localCaution, State.recomputeAll_race]
  rw [hsame]
  exact State.recomputeAll_recomputedIn s.raceOver j

theorem State.complete_markedFrom (s : State) : s.complete.markedFrom s :=
  State.recomputeAll_markedFrom s.raceOver

theorem State.complete_caution (s : State) : s.complete.race.caution = s.race.caution := by simp

/-- What a withdrawal makes of the part: `e` in the slot, and the rest as the release leaves it. -/
structure State.Withdrawn (s : State) (i : Slot) (e : Entrant) (w : State) : Prop where
  frame : w = s.withCars w
  entrant : w.entrant i = e
  dirtyOf : w.dirtyOf i = DirtyClass.mark (s.entrant i).effective 0 (s.dirtyOf i)
  caution : ∀ k : Fin 4, w.race.caution[k]
    = if (s.entrant i).overdue then s.race.caution[k].without i else s.race.caution[k]
  other : ((∀ k : Fin 4, w.localCaution k.val = s.localCaution k.val)
      ∧ ∀ j : Slot, j ≠ i → w.entrant j = s.entrant j ∧ w.dirtyOf j = s.dirtyOf j)
    ∨ ((∃ k : Fin 4, w.localCaution k.val ≠ s.localCaution k.val)
      ∧ ∀ j : Slot, j ≠ i → w.entrant j = (s.entrant j).recomputedIn w)
  vacant : ∀ j : Slot, j ≠ i → (s.entrant j).state = .vacant → w.dirtyOf j = s.dirtyOf j
  marked : s.allHolders.Nodup → e.effective = 0 → w.markedFrom s

theorem State.withdrawn_isWithdrawn (s : State) (i : Slot) (st : EntrantState) (e : Entrant) :
    s.Withdrawn i e (s.withdrawn i st e) :=
  ⟨s.withdrawn_withCars i e, s.withdrawn_entrant i e, s.withdrawn_dirtyOf i e, s.withdrawn_caution i e,
    s.withdrawn_other i e, fun _ => s.withdrawn_dirtyOf_vacant i e, s.withdrawn_markedFrom i e⟩

/-! ### The race made Complete by a withdrawal -/

section Completed

variable {s w : State} {i : Slot} {e : Entrant}

theorem State.complete_withCars (w : State) : w.complete = w.raceOver.withCars w.complete :=
  State.recomputeAll_withCars w.raceOver

theorem State.Withdrawn.complete_frame (h : s.Withdrawn i e w) : w.complete = s.raceOver.withCars w.complete := by
  have hover : w.raceOver.withCars w.complete = s.raceOver.withCars w.complete := by
    rw [h.frame]
    rfl
  rw [← hover]
  exact w.complete_withCars

theorem State.complete_localCaution (w : State) (k : Nat) : w.complete.localCaution k = w.localCaution k := by
  rw [State.localCaution, State.localCaution, State.complete_caution]

theorem State.Withdrawn.complete_entrant_self (h : s.Withdrawn i e w) (he : e.Still) : w.complete.entrant i = e := by
  rw [State.complete_entrant, h.entrant, he]

theorem State.Withdrawn.complete_entrant_other (h : s.Withdrawn i e w) {j : Slot} (hj : j ≠ i) :
    w.complete.entrant j = (s.entrant j).recomputedIn w.complete := by
  rw [State.complete_entrant]
  rcases h.other with ⟨-, hother⟩ | ⟨-, hother⟩
  · rw [(hother j hj).1]
  · rw [hother j hj, Entrant.recomputedIn_recomputedIn]

theorem State.Withdrawn.complete_dirtyOf (h : s.Withdrawn i e w) (he : e.Still) :
    w.complete.dirtyOf i = DirtyClass.mark (s.entrant i).effective 0 (s.dirtyOf i) := by
  rw [w.complete_markedFrom i, h.complete_entrant_self he, h.entrant, DirtyClass.mark_same, h.dirtyOf]

/-- Where no sector left local caution, one recomputation has marked each entrant. -/
theorem State.Withdrawn.complete_markedFrom (h : s.Withdrawn i e w) (he : e.Still) (hzero : e.effective = 0)
    (hsame : ∀ k : Fin 4, w.complete.localCaution k.val = s.localCaution k.val) : w.complete.markedFrom s := by
  intro j
  by_cases hj : j = i
  · rw [hj, h.complete_dirtyOf he, h.complete_entrant_self he, hzero]
  · rcases h.other with ⟨-, hother⟩ | ⟨⟨k, hk⟩, -⟩
    · rw [w.complete_markedFrom j, (hother j hj).1, (hother j hj).2]
    · exact absurd ((w.complete_localCaution k.val).symm.trans (hsame k)) hk

/-- Where a sector left local caution, two recomputations have. -/
theorem State.Withdrawn.complete_marked_twice (h : s.Withdrawn i e w) (hzero : e.effective = 0)
    (hkept : s.allHolders.Nodup) (hleft : ∃ k : Fin 4, w.complete.localCaution k.val ≠ s.localCaution k.val) {j : Slot}
    (hj : j ≠ i) (hv : (s.entrant j).state ≠ .vacant) :
    w.complete.dirtyOf j = DirtyClass.mark (w.effectiveFor (s.entrant j)) (w.complete.entrant j).effective
      (DirtyClass.mark (s.entrant j).effective (w.effectiveFor (s.entrant j)) (s.dirtyOf j)) := by
  have heffective : (w.entrant j).effective = w.effectiveFor (s.entrant j) := by
    rcases h.other with ⟨hsame, -⟩ | ⟨-, hother⟩
    · obtain ⟨k, hk⟩ := hleft
      exact absurd ((w.complete_localCaution k.val).trans (hsame k)) hk
    · rw [hother j hj, Entrant.recomputedIn, if_neg hv]
  rw [w.complete_markedFrom j, h.marked hkept hzero j, heffective]

theorem State.Withdrawn.complete_dirtyOf_vacant (h : s.Withdrawn i e w) {j : Slot} (hj : j ≠ i)
    (hv : (s.entrant j).state = .vacant) : w.complete.dirtyOf j = s.dirtyOf j := by
  have hsame : (w.entrant j).Still := by
    refine Entrant.still_of_vacant ?_
    rcases h.other with ⟨-, hother⟩ | ⟨-, hother⟩
    · rw [(hother j hj).1, hv]
    · rw [hother j hj]
      exact hv
  rw [w.complete_markedFrom j, State.complete_entrant, hsame, DirtyClass.mark_same, h.vacant j hj hv]

end Completed

section Requests

variable {c : Instr} {code : Byte} {s : State} {i : Slot} {st : EntrantState} {e : Entrant} {l : List Standing}

theorem exec_retire_vacates (hi : s.named code = some i) (hrace : s.race.state = .setup ∨ s.race.state = .staging) :
    exec (.retire code) s = answered (s.vacate i).accept := by
  show answered (s.retireRequest code) = _
  simp only [State.retireRequest, hi, if_pos hrace]

theorem exec_retire_retires (hi : s.named code = some i) (hrace : ¬(s.race.state = .setup ∨ s.race.state = .staging))
    (hstate : ¬((s.entrant i).state = .retired ∨ (s.entrant i).state = .excluded)) :
    exec (.retire code) s = answered ((s.withStandings s.standings).withdrawn i .retired
      { (s.entrant i).withdrawnAs .retired with effective := 0 }).checkFinished.accept := by
  show answered (s.retireRequest code) = _
  simp only [State.retireRequest, hi, if_neg hrace, if_neg hstate]
  rw [State.retireEntrant_eq]
  rfl

theorem exec_retire_refused (hi : s.named code = some i) (hrace : ¬(s.race.state = .setup ∨ s.race.state = .staging))
    (hstate : (s.entrant i).state = .retired ∨ (s.entrant i).state = .excluded) :
    exec (.retire code) s = answered (s.refuse .wrongState) := by
  show answered (s.retireRequest code) = _
  simp only [State.retireRequest, hi, if_neg hrace, if_pos hstate]

theorem exec_exclude_excludes (hi : s.named code = some i)
    (hopen : ¬(s.race.state = .setup ∨ s.race.state = .staging ∨ (s.entrant i).state = .excluded)) :
    exec (.exclude code) s
      = answered ((s.withStandings (s.standings.filter fun x => x.slot != i)).withdrawn i .excluded
        { (s.entrant i).withdrawnAs .excluded with
          station := none, blackFlag := false, effective := 0 }).checkFinished.accept := by
  show answered (s.excludeRequest code) = _
  simp only [State.excludeRequest, hi, if_neg hopen]
  rw [State.excludeEntrant_eq]

theorem exec_exclude_refused (hi : s.named code = some i)
    (hshut : s.race.state = .setup ∨ s.race.state = .staging ∨ (s.entrant i).state = .excluded) :
    exec (.exclude code) s = answered (s.refuse .wrongState) := by
  show answered (s.excludeRequest code) = _
  simp only [State.excludeRequest, hi, if_pos hshut]

theorem exec_retire_noEntrant (hi : s.named code = none) :
    exec (.retire code) s = answered (s.refuse .noEntrant) := by
  show answered (s.retireRequest code) = _
  simp only [State.retireRequest, hi]

theorem exec_exclude_noEntrant (hi : s.named code = none) :
    exec (.exclude code) s = answered (s.refuse .noEntrant) := by
  show answered (s.excludeRequest code) = _
  simp only [State.excludeRequest, hi]

/-- A withdrawal that leaves the race in its state (R50, R51). -/
theorem exec_withdrawn
    (hexec : exec c s = answered ((s.withStandings l).withdrawn i st e).checkFinished.accept) (hzero : e.effective = 0)
    (hrace : s.race.state = .finishing → ∃ j : Slot, j ≠ i ∧ (s.entrant j).state = .racing) :
    ∃ t, exec c s = .next t
    ∧ t = { s with
        race := { s.race with caution := t.race.caution }
        entrants := t.entrants, standings := l, ceiling := { s.ceiling with dirty := t.ceiling.dirty }
        link := s.replied .okay, pins := t.pinsNow }
    ∧ t.entrant i = e
    ∧ (∀ j : Slot, j ≠ i → t.entrant j =
        if ∀ k : Fin 4, t.localCaution k.val = s.localCaution k.val then s.entrant j else (s.entrant j).recomputedIn t)
    ∧ t.dirtyOf i = DirtyClass.mark (s.entrant i).effective 0 (s.dirtyOf i)
    ∧ (s.holdersKept → t.markedFrom s)
    ∧ ∀ k : Fin 4, t.race.caution[k] =
        if (s.entrant i).overdue then
          { s.race.caution[k] with holders := s.race.caution[k].holders.filter fun j => j != i }
        else s.race.caution[k] := by
  have h := (s.withStandings l).withdrawn_isWithdrawn i st e
  have hframe := h.frame
  rw [State.withdrawn_checkFinished (s := s.withStandings l) hrace] at hexec
  refine ⟨_, State.next_of_accept hexec (by rw [hframe]; rfl) (by rw [hframe]; rfl), ?_, h.entrant, fun j hj => ?_,
    h.dirtyOf, fun hkept => h.marked hkept.1 hzero, h.caution⟩
  · exact State.settle_of_eq (congrArg (fun u : State => { u with link := s.replied .okay }) hframe)
  · rcases h.other with ⟨hsame, hother⟩ | ⟨⟨k, hk⟩, hother⟩
    · exact (hother j hj).1.trans (if_pos hsame).symm
    · exact (hother j hj).trans (if_neg fun h => hk (h k)).symm

/-- A withdrawal that takes the last Racing entrant out of a Finishing race (R50, R51, R119). -/
theorem exec_withdrawnLast {w : State} (h : (s.withStandings l).Withdrawn i e w)
    (hexec : exec c s = answered w.complete.accept) (hout : e.state.out = true) (hzero : e.effective = 0)
    (hentrant : (s.entrant i).state ≠ .vacant) :
    ∃ t, exec c s = .next t
    ∧ t = { s with
        race := { s.race with
          state := .complete, finishDeadline := none, resume := none, suspStart := none, caution := t.race.caution }
        entrants := t.entrants, standings := l
        ceiling := { s.ceiling with dirty := t.ceiling.dirty, holdStart := none }
        attention := { s.attention with race := true }
        link := s.replied .okay, pins := t.pinsNow }
    ∧ t.entrant i = e
    ∧ (∀ j : Slot, j ≠ i → t.entrant j = (s.entrant j).recomputedIn t)
    ∧ (∀ k : Fin 4, t.race.caution[k] =
        if (s.entrant i).overdue then
          { s.race.caution[k] with holders := s.race.caution[k].holders.filter fun j => j != i }
        else s.race.caution[k])
    ∧ t.dirtyOf i = DirtyClass.mark (s.entrant i).effective 0 (s.dirtyOf i)
    ∧ ((∀ k : Fin 4, t.localCaution k.val = s.localCaution k.val) → t.markedFrom s)
    ∧ (s.holdersKept → (∃ k : Fin 4, t.localCaution k.val ≠ s.localCaution k.val) →
        ∀ j : Slot, j ≠ i → (s.entrant j).state ≠ .vacant → t.dirtyOf j =
          DirtyClass.mark (({ s with race := { s.race with caution := t.race.caution } } : State).effectiveFor (s.entrant j))
            (t.entrant j).effective
            (DirtyClass.mark (s.entrant j).effective
              (({ s with race := { s.race with caution := t.race.caution } } : State).effectiveFor (s.entrant j))
              (s.dirtyOf j)))
    ∧ (∀ j : Slot, (s.entrant j).state = .vacant → t.dirtyOf j = s.dirtyOf j) := by
  have he : e.Still := Entrant.still_of_out hout hzero
  have hframe := h.complete_frame
  have hself := h.complete_entrant_self he
  have hother (j : Slot) (hj : j ≠ i) := h.complete_entrant_other hj
  have hcaution : w.complete.race.caution = w.race.caution := w.complete_caution
  have hdirty := h.complete_dirtyOf he
  have hmarked := h.complete_markedFrom he hzero
  have htwice (hkept : s.holdersKept) := h.complete_marked_twice hzero hkept.1
  have hvacant (j : Slot) (hj : j ≠ i) := h.complete_dirtyOf_vacant hj
  generalize w.complete = u at *
  have heffective (e : Entrant) : w.effectiveFor e
      = ({ s with race := { s.race with caution := u.race.caution } } : State).effectiveFor e := by
    rw [hcaution, h.frame]
    rfl
  refine ⟨_, State.next_of_accept hexec (by rw [hframe]; rfl) (by rw [hframe]; rfl), ?_, hself, hother, fun k => ?_,
    hdirty, hmarked, fun hkept hleft j hj hv => ?_, fun j hv => hvacant j (fun hj => hentrant (hj ▸ hv)) hv⟩
  · exact State.settle_of_eq (congrArg (fun u : State => { u with link := s.replied .okay }) hframe)
  · exact (congrArg (fun v : Vector SectorCaution 4 => v[k]) hcaution).trans (h.caution k)
  · have hj := htwice hkept hleft hj hv
    rw [heffective] at hj
    exact hj

end Requests

/-- Settles O33: both requests withdraw the entrant in one way; the race is then judged by whether a Racing one is
left. -/
theorem retireAndExclude : Obligations.RetireAndExclude := by
  refine ⟨?vacated, ?retired, ?excluded, ?last, ?noEntrant, ?retireRefused, ?excludeRefused⟩
  case vacated =>
    intro code i s hi hrace
    exact ⟨_, State.next_of_accept (exec_retire_vacates hi hrace) rfl rfl, rfl⟩
  case retired =>
    intro code i s hi hsetup hstaging hretired hexcluded hrace
    exact exec_withdrawn (exec_retire_retires hi (not_or.mpr ⟨hsetup, hstaging⟩) (not_or.mpr ⟨hretired, hexcluded⟩))
      rfl hrace
  case excluded =>
    intro code i s hi hsetup hstaging hexcluded hrace
    exact exec_withdrawn (exec_exclude_excludes hi (by simp [hsetup, hstaging, hexcluded])) rfl hrace
  case last =>
    intro code i c s hc hi hrace hretired hexcluded hlast
    obtain ⟨-, hentrant, -⟩ := State.named_some hi
    rcases hc with rfl | rfl
    · have hretired : (s.entrant i).state ≠ .retired := hretired.resolve_right (by simp)
      simp only [if_true]
      have hexec := exec_retire_retires hi (by simp [hrace]) (not_or.mpr ⟨hretired, hexcluded⟩)
      rw [State.withdrawn_complete (s := s.withStandings s.standings) hrace (by simp [Entrant.withdrawnAs]) hlast] at hexec
      exact exec_withdrawnLast (State.withdrawn_isWithdrawn _ i _ _) hexec rfl rfl hentrant
    · have hother : Instr.exclude code ≠ Instr.retire code := by simp
      simp only [if_neg hother]
      have hexec := exec_exclude_excludes hi (by simp [hrace, hexcluded])
      rw [State.withdrawn_complete (s := s.withStandings (s.standings.filter fun x => x.slot != i)) hrace
        (by simp [Entrant.withdrawnAs]) hlast] at hexec
      exact exec_withdrawnLast (State.withdrawn_isWithdrawn _ i _ _) hexec rfl rfl hentrant
  case noEntrant =>
    exact fun code s h => ⟨State.refuses_of_answered (exec_retire_noEntrant h),
      State.refuses_of_answered (exec_exclude_noEntrant h)⟩
  case retireRefused =>
    intro code i s hi hsetup hstaging hstate
    exact State.refuses_of_answered (exec_retire_refused hi (not_or.mpr ⟨hsetup, hstaging⟩) hstate)
  case excludeRefused =>
    exact fun code i s hi h => State.refuses_of_answered (exec_exclude_refused hi h)

end Sys2Proof.Machine
end

section
/-! SUPPORT. Chapter 3, section 3.6: lane, pit status and infractions of a pass. -/

namespace Sys2Proof.Machine

/-! ### What no ceiling is computed from -/

/-- A change of a record that no ceiling is computed from (R158). -/
structure Entrant.Aside (g : Entrant → Entrant) : Prop where
  limited : ∀ (s : State) (e : Entrant), s.limited (g e) = g (s.limited e)
  state : ∀ e : Entrant, (g e).state = e.state
  effective : ∀ e : Entrant, (g e).effective = e.effective

theorem Entrant.aside_lane (lane : Option Nat) : Entrant.Aside fun e => { e with lane := lane } :=
  ⟨fun _ _ => rfl, fun _ => rfl, fun _ => rfl⟩

theorem State.modEntrant_modEntrant (s : State) (i : Slot) (f g : Entrant → Entrant) :
    (s.modEntrant i f).modEntrant i g = s.modEntrant i fun e => g (f e) := by
  rw [s.modEntrant_eq_withRecord, State.withRecord_modEntrant, ← s.modEntrant_eq_withRecord i fun e => g (f e)]

/-- A change no ceiling is computed from may as well come before the recomputation. -/
theorem State.recompute_modEntrant {g : Entrant → Entrant} (hg : Entrant.Aside g) {s : State} {i : Slot}
    (hv : (s.entrant i).state ≠ .vacant) : (s.recompute i).modEntrant i g = (s.modEntrant i g).recompute i := by
  have heffective : s.effectiveFor (g (s.entrant i)) = s.effectiveFor (s.entrant i) := by
    have h := congrArg Entrant.effective (hg.limited s (s.entrant i))
    rw [hg.effective] at h
    exact h
  have hrecompute : s.recompute i = s.withRecord i (s.limited (s.entrant i))
      (DirtyClass.mark (s.entrant i).effective (s.effectiveFor (s.entrant i)) (s.dirtyOf i)) := by
    conv_lhs => rw [← s.withRecord_self i]
    exact s.withRecord_recompute i _ _ hv
  rw [hrecompute, State.withRecord_modEntrant, s.modEntrant_eq_withRecord,
    State.withRecord_recompute _ _ _ _ (by rwa [hg.state]), hg.limited, hg.effective, heffective]

/-! ### The infractions -/

theorem Treatment.scored_iff (tr : Treatment) : tr.scored = true ↔ tr = .held ∨ tr = .full := by
  cases tr <;> simp [Treatment.scored]

theorem laneChanged_iff (lane gateLane : Option Nat) :
    laneChanged lane gateLane = true ↔ lane ≠ gateLane ∧ ∃ l ∈ lane.toList, l ≤ 5 := by
  cases lane with
  | none => simp [laneChanged]
  | some l => simp [laneChanged, and_comm]

theorem State.sectorCaution_iff (s : State) (sector : Option Nat) :
    s.sectorCaution sector = true ↔ s.race.yellow = true ∨ ∃ k ∈ sector.toList, s.localCaution k = true := by
  cases sector <;> simp [State.sectorCaution]

theorem pitSpeeding_iff (minimum : Nat) (entry exit : Option RunTime) :
    pitSpeeding minimum entry exit = true
      ↔ minimum ≠ 0 ∧ ∃ a ∈ entry.toList, ∃ b ∈ exit.toList, a ≤ b ∧ b - a < minimum := by
  cases entry <;> cases exit <;> simp [pitSpeeding, and_assoc]

/-! ### The box -/

section Box

variable (s : State) (i : Slot) (tr : Treatment)

theorem State.setPitStatus_eq (p : PitStatus) :
    s.setPitStatus i p = (s.modEntrant i fun e => { e with pitStatus := p }).recompute i := rfl

theorem State.setPitStatus_pitStatus (p : PitStatus) : ((s.setPitStatus i p).entrant i).pitStatus = p := by
  rw [State.setPitStatus_eq]
  simp

theorem State.leaveBox_eq : s.leaveBox tr i
    = if (s.entrant i).pitStatus ≠ .box then s
      else if tr = .held ∨ tr = .full then (s.setPitStatus i .pitLane).penaltyBoxDeparture i
      else s.setPitStatus i .pitLane := by
  simp only [State.leaveBox, Treatment.scored_iff, ne_eq, ite_not]

/-- After a box departure's effect the car is not in the box (R60). -/
theorem State.leaveBox_pitStatus : ((s.leaveBox tr i).entrant i).pitStatus
    = if (s.entrant i).pitStatus = .box then .pitLane else (s.entrant i).pitStatus := by
  rw [State.leaveBox_eq]
  by_cases hbox : (s.entrant i).pitStatus = .box
  · rw [if_neg (not_not.mpr hbox), if_pos hbox]
    split
    · have hkept : (((s.setPitStatus i .pitLane).penaltyBoxDeparture i).entrant i).pitStatus
          = ((s.setPitStatus i .pitLane).entrant i).pitStatus := by simp
      rw [hkept, State.setPitStatus_pitStatus]
    · exact State.setPitStatus_pitStatus _ _ _
  · rw [if_pos hbox, if_neg hbox]

theorem State.leaveBox_state : ((s.leaveBox tr i).entrant i).state = (s.entrant i).state := by simp

theorem State.arriveInBox_eq (now : Option RunTime) : s.arriveInBox tr i now = match now with
    | some a => if tr = .held ∨ tr = .full then (s.arriveInBox .position i now).penaltyBoxArrival i a
      else s.arriveInBox .position i now
    | none => s.arriveInBox .position i now := by
  cases now with
  | none => cases tr <;> rfl
  | some a => cases tr <;> rfl

variable {s i}

/-- Without pit penalties the Penalty Unit has nothing to do at a pit gate or in the box (R142 to R145). -/
theorem State.penalties_nil (h : (s.entrant i).penalties = []) :
    s.penaltyPitIn i = s ∧ s.penaltyPitOut i = s ∧ s.penaltyBoxDeparture i = s
      ∧ ∀ now : RunTime, s.penaltyBoxArrival i now = s := by
  simp [State.penaltyPitIn, State.penaltyPitOut, State.penaltyBoxDeparture, State.penaltyBoxArrival, h]

/-- An arrival that is not the Penalty Unit's concern (R54, R144). -/
theorem State.arriveInBox_clean (h : (s.entrant i).penalties = [] ∨ tr = .position) (now : Option RunTime) :
    s.arriveInBox tr i now = s.arriveInBox .position i now := by
  rcases h with hnone | rfl
  · have hclean : ((s.arriveInBox .position i now).entrant i).penalties = [] := by
      rw [State.arriveInBox_position]
      simpa [Entrant.inBox] using hnone
    obtain ⟨-, -, -, harrival⟩ := State.penalties_nil hclean
    rw [State.arriveInBox_eq]
    cases now with
    | none => rfl
    | some a => simp only [harrival, ite_self]
  · rfl

/-- A departure that is not the Penalty Unit's concern (R54, R144). -/
theorem State.leaveBox_clean (h : (s.entrant i).penalties = [] ∨ tr = .position)
    (hbox : (s.entrant i).pitStatus = .box) : s.leaveBox tr i = s.setPitStatus i .pitLane := by
  rcases h with hnone | rfl
  · have hclean : ((s.setPitStatus i .pitLane).entrant i).penalties = [] := by simpa using hnone
    obtain ⟨-, -, hdeparture, -⟩ := State.penalties_nil hclean
    rw [State.leaveBox_eq, if_neg (not_not.mpr hbox), hdeparture, ite_self]
  · exact State.leaveBox_position hbox

end Box

/-! ### A gate on a racing lane -/

/-- A gate on a racing lane: the pass's Line or Split gate outside the pit lane, or a Switch gate (R57, R58). -/
def Pass.onRacingLane (p : Pass) : Prop := (p.kind = .line ∧ p.lane ≠ some 6) ∨ p.kind = .split ∨ p.kind = .switch

section RacingLane

variable {s : State} {tr : Treatment} {i : Slot} {p : Pass}

theorem State.passEffects_racingLane (h : p.onRacingLane) :
    (s.passEffects tr i p).1 = (s.endPitVisit tr i).setLane i p.lane := by
  rcases h with ⟨hkind, hlane⟩ | hkind | hkind
  · simp only [State.passEffects, hkind, if_neg hlane]
    rfl
  · simp only [State.passEffects, hkind]
    rfl
  · simp only [State.passEffects, hkind]
    rfl

/-- The infraction of a car that changed lane at a racing-lane gate (R57, R58). -/
def State.laneFaults (s : State) (tr : Treatment) (i : Slot) (p : Pass) : List CallClass :=
  if tr = .full ∧ (s.entrant i).lane ≠ p.lane ∧ (∃ l ∈ (s.entrant i).lane.toList, l ≤ 5) then
    (if p.kind = .switch then
      (if s.race.yellow = true ∨ ∃ k ∈ p.sector.toList, s.localCaution k = true then [.switchUnderCaution] else [])
    else [.laneFault])
  else []

theorem State.endPitVisit_lane : ((s.endPitVisit tr i).entrant i).lane = (s.entrant i).lane := by simp

theorem State.endPitVisit_sectorCaution (sector : Option Nat) :
    (s.endPitVisit tr i).sectorCaution sector = s.sectorCaution sector := by
  simp [State.sectorCaution, State.localCaution]

theorem State.racingLanePass_faults : (s.racingLanePass tr i p).2
    = if tr = .full ∧ (s.entrant i).lane ≠ p.lane ∧ (∃ l ∈ (s.entrant i).lane.toList, l ≤ 5) then [.laneFault]
      else [] := by
  simp only [State.racingLanePass, State.endPitVisit_lane, Bool.and_eq_true, beq_iff_eq, laneChanged_iff]

theorem State.switchPass_faults : (s.switchPass tr i p).2
    = if tr = .full ∧ (s.entrant i).lane ≠ p.lane ∧ (∃ l ∈ (s.entrant i).lane.toList, l ≤ 5) then
        (if s.race.yellow = true ∨ ∃ k ∈ p.sector.toList, s.localCaution k = true then [.switchUnderCaution] else [])
      else [] := by
  simp only [State.switchPass, State.endPitVisit_lane, State.endPitVisit_sectorCaution, Bool.and_eq_true, beq_iff_eq,
    laneChanged_iff, State.sectorCaution_iff, ← ite_and]

theorem State.passEffects_laneFaults (h : p.onRacingLane) : (s.passEffects tr i p).2 = s.laneFaults tr i p := by
  rcases h with ⟨hkind, hlane⟩ | hkind | hkind
  · simp only [State.passEffects, State.laneFaults, hkind, if_neg hlane, State.racingLanePass_faults, reduceCtorEq,
      if_false]
  · simp only [State.passEffects, State.laneFaults, hkind, State.racingLanePass_faults, reduceCtorEq, if_false]
  · simp only [State.passEffects, State.laneFaults, hkind, State.switchPass_faults, if_true]

/-- A car that is on the track already keeps its pit status (R58). -/
theorem State.endPitVisit_track (h : (s.entrant i).pitStatus = .track) : s.endPitVisit tr i = s := by
  have hleave : s.leaveBox tr i = s := State.leaveBox_notInBox tr (by simp [h])
  simp only [State.endPitVisit, hleave, h, reduceCtorEq, if_false]

theorem State.endPitVisit_pit (h : (s.entrant i).pitStatus ≠ .track) :
    s.endPitVisit tr i = (s.leaveBox tr i).setPitStatus i .track := by
  have hlane : ((s.leaveBox tr i).entrant i).pitStatus = .pitLane := by
    rw [State.leaveBox_pitStatus]
    cases hst : (s.entrant i).pitStatus <;> simp_all
  simp only [State.endPitVisit, hlane, if_true]

/-- A racing-lane gate ends the pit visit with one recomputation (R58). -/
theorem State.passEffects_endsVisit (hv : (s.entrant i).state ≠ .vacant) (hpit : (s.entrant i).pitStatus ≠ .track)
    (h : p.onRacingLane) : (s.passEffects tr i p).1
      = ((s.leaveBox tr i).modEntrant i fun e => { e with lane := p.lane, pitStatus := .track }).recompute i := by
  have hw : (((s.leaveBox tr i).modEntrant i fun e => { e with pitStatus := .track }).entrant i).state ≠ .vacant := by
    simpa using hv
  rw [State.passEffects_racingLane h, State.endPitVisit_pit hpit, State.setPitStatus_eq, State.setLane,
    State.recompute_modEntrant (Entrant.aside_lane p.lane) hw, State.modEntrant_modEntrant]

end RacingLane

/-! ### The pit gates -/

section Pit

variable {s : State} {tr : Treatment} {i : Slot} {p : Pass}

theorem State.passEffects_pitIn (h : p.kind = .pitIn) : s.passEffects tr i p = (s.pitInPass tr i p, []) := by
  simp only [State.passEffects, h]

theorem State.pitInPass_eq : s.pitInPass tr i p
    = if tr = .held ∨ tr = .full then (s.pitInPass .position i p).penaltyPitIn i else s.pitInPass .position i p := by
  cases tr <;> rfl

theorem State.pitInPass_position : s.pitInPass .position i p = (s.modEntrant i fun e =>
    { e with
      lane := some 6, pitStatus := .pitLane, pitEntry := p.running, boxArrival := none, boxVisited := false
    }).recompute i := by
  show State.setPitStatus _ i _ = _
  rw [State.setPitStatus_eq, State.modEntrant_modEntrant]

theorem State.passEffects_pitLane (h : (p.kind = .line ∧ p.lane = some 6) ∨ p.kind = .box) :
    s.passEffects tr i p = (s.pitLanePass i, []) := by
  rcases h with ⟨hkind, hlane⟩ | hkind
  · simp only [State.passEffects, hkind, if_pos hlane]
  · simp only [State.passEffects, hkind]

theorem State.pitLanePass_inPit (h : (s.entrant i).pitStatus ≠ .track) : s.pitLanePass i = s.setLane i (some 6) := by
  have hkept : ((s.setLane i (some 6)).entrant i).pitStatus = (s.entrant i).pitStatus := by simp [State.setLane]
  rw [State.pitLanePass]
  exact if_neg (by rwa [hkept])

theorem State.pitLanePass_track (h : (s.entrant i).pitStatus = .track) : s.pitLanePass i = (s.modEntrant i fun e =>
    { e with lane := some 6, pitStatus := .pitLane, pitEntry := none, boxVisited := false }).recompute i := by
  have hkept : ((s.setLane i (some 6)).entrant i).pitStatus = (s.entrant i).pitStatus := by simp [State.setLane]
  rw [State.pitLanePass]
  refine (if_pos (hkept.trans h)).trans ?_
  rw [State.setPitStatus_eq, State.setLane, State.modEntrant_modEntrant, State.modEntrant_modEntrant]

/-! ### PitOut -/

/-- The count of a pit stop, saturating at 255, where the visit came to the box (R61). -/
def Entrant.stopped (e : Entrant) : Entrant :=
  { e with pitStops := if e.boxVisited = true then min 255 (e.pitStops + 1) else e.pitStops }

theorem Entrant.aside_stopped : Entrant.Aside Entrant.stopped := ⟨fun _ _ => rfl, fun _ => rfl, fun _ => rfl⟩

theorem State.countPitStop_eq : s.countPitStop i = s.modEntrant i Entrant.stopped := by
  rw [State.countPitStop]
  split
  · next h => simp [State.modEntrant, Entrant.stopped, h]
  · next h => rw [State.modEntrant_of_eq (f := Entrant.stopped) (by rw [Entrant.stopped, if_neg h])]

/-- The state of a car that has left the pit lane, its pit stop not yet counted (R61). -/
theorem State.leftPit_eq (w : State) : (w.setLane i none).setPitStatus i .track
    = (w.modEntrant i fun e => { e with lane := none, pitStatus := .track }).recompute i := by
  rw [State.setPitStatus_eq, State.setLane, State.modEntrant_modEntrant]

theorem State.leftPit_stopped {w : State} (hv : (w.entrant i).state ≠ .vacant) :
    ((w.setLane i none).setPitStatus i .track).countPitStop i = (w.modEntrant i fun e =>
      { e with
        lane := none, pitStatus := .track
        pitStops := if e.boxVisited = true then min 255 (e.pitStops + 1) else e.pitStops }).recompute i := by
  rw [State.countPitStop_eq, State.leftPit_eq, State.recompute_modEntrant Entrant.aside_stopped,
    State.modEntrant_modEntrant]
  · rfl
  · simpa using hv

theorem State.passEffects_pitOut (h : p.kind = .pitOut) : s.passEffects tr i p = s.pitOutPass tr i p := by
  simp only [State.passEffects, h]

theorem State.pitOutPass_state : (s.pitOutPass tr i p).1
    = if tr = .held ∨ tr = .full then
        ((((s.leaveBox tr i).setLane i none).setPitStatus i .track).countPitStop i).penaltyPitOut i
      else ((s.leaveBox tr i).setLane i none).setPitStatus i .track := by
  simp only [State.pitOutPass, Treatment.scored_iff]
  split
  · rfl
  · rfl

theorem State.pitOutPass_faults : (s.pitOutPass tr i p).2
    = if tr = .full ∧ s.cfg.pitMinimum ≠ 0
        ∧ (∃ a ∈ (s.entrant i).pitEntry.toList, ∃ b ∈ p.running.toList, a ≤ b ∧ b - a < s.cfg.pitMinimum)
      then [.pitSpeeding] else [] := by
  cases tr with
  | full =>
    have hfaults : (s.pitOutPass .full i p).2
        = if pitSpeeding s.cfg.pitMinimum (s.entrant i).pitEntry p.running = true then [.pitSpeeding] else [] := by
      have hscored : Treatment.full.scored = true := rfl
      simp [State.pitOutPass, hscored, State.setLane]
    simp only [hfaults, pitSpeeding_iff, true_and]
  | untouched => rfl
  | position => rfl
  | held => rfl

end Pit

/-- Settles O60: by the gate's kind, and by what the box departure before it leaves. -/
theorem passesMoveLaneAndPitStatus : Obligations.PassesMoveLaneAndPitStatus := by
  refine ⟨?track, ?pitLane, ?pitInClean, ?pitLaneGate, ?pitOutClean, ?boxClean, ?pitIn, ?pitOut, ?racingLane, ?arrival,
    ?departure⟩
  case track =>
    intro tr i p s _ htrack hgate
    refine ⟨?_, State.passEffects_laneFaults hgate⟩
    rw [State.passEffects_racingLane hgate, State.endPitVisit_track htrack]
    rfl
  case pitLane =>
    intro tr i p s hv hpit hgate
    have heq := State.passEffects_endsVisit (tr := tr) hv (by simp [hpit]) hgate
    rw [State.leaveBox_notInBox tr (by simp [hpit]), s.modEntrant_eq_withRecord,
      State.withRecord_recompute _ _ _ _ (by exact hv)] at heq
    rw [heq, State.withRecord_entrant]
    exact ⟨rfl, rfl⟩
  case pitInClean =>
    intro tr i p s _ hnone hgate
    rw [State.passEffects_pitIn hgate, State.pitInPass_eq]
    refine ⟨rfl, ?_⟩
    have hclean : ((s.pitInPass .position i p).entrant i).penalties = [] := by
      rw [State.pitInPass_position]
      simpa using hnone
    rw [(State.penalties_nil hclean).1, ite_self, State.pitInPass_position]
    rfl
  case pitLaneGate =>
    intro tr i p s _ hgate
    rw [State.passEffects_pitLane hgate]
    exact ⟨rfl, State.pitLanePass_inPit, State.pitLanePass_track⟩
  case pitOutClean =>
    intro tr i p s hv hnone hbox hgate
    rw [State.passEffects_pitOut hgate]
    refine ⟨?_, State.pitOutPass_faults⟩
    have hclean : (((s.setLane i none).setPitStatus i .track).countPitStop i |>.entrant i).penalties = [] := by
      simpa [State.setLane] using hnone
    obtain ⟨-, hkept, -⟩ := State.penalties_nil hclean
    rw [State.pitOutPass_state, State.leaveBox_notInBox tr hbox, hkept, State.leftPit_stopped hv, State.leftPit_eq]
    by_cases htr : tr = .held ∨ tr = .full
    · rw [if_pos htr]
      simp only [htr, true_and]
      rfl
    · rw [if_neg htr, if_neg fun h => htr h.1]
      rfl
  case boxClean =>
    intro tr i now s _ h
    refine ⟨?_, State.leaveBox_notInBox tr, State.leaveBox_clean tr h⟩
    rw [State.arriveInBox_clean tr h, State.arriveInBox_position]
    rfl
  case pitIn =>
    intro tr i p s _ hgate
    rw [State.passEffects_pitIn hgate, State.pitInPass_eq, State.pitInPass_position]
    exact ⟨rfl, rfl⟩
  case pitOut =>
    rintro tr i p w s hv rfl hgate
    rw [State.passEffects_pitOut hgate]
    refine ⟨?_, State.pitOutPass_faults⟩
    rw [State.pitOutPass_state, State.leftPit_stopped (by rwa [State.leaveBox_state]), State.leftPit_eq]
    rfl
  case racingLane =>
    rintro tr i p w s hv rfl hpit hgate
    exact ⟨State.passEffects_endsVisit hv hpit hgate, State.passEffects_laneFaults hgate⟩
  case arrival =>
    rintro tr i now w s _ rfl
    rw [State.arriveInBox_eq, State.arriveInBox_position]
    rfl
  case departure =>
    rintro tr i w s _ rfl
    exact s.leaveBox_eq i tr

end Sys2Proof.Machine
end

section
/-! SUPPORT. Lap arithmetic (chapter 4): launches, boundaries, and credited crossings measured against the leader. -/

namespace Sys2Proof.Machine

/-! ### Sector times and best laps -/

theorem sectorTime_eq (lastBoundary : Option RunTime) (now : RunTime) :
    sectorTime lastBoundary now = lastBoundary.bind fun b => if b < now then some (now - b) else none := by
  cases lastBoundary <;> rfl

/-- Only a lap without a mark that is strictly faster becomes the best one (R73). -/
theorem judgeBest_eq (best : Option BestLap) (ticks lap : Nat) (long caution : Bool) :
    judgeBest best ticks lap long caution =
      if long = true ∨ caution = true ∨ (∃ b ∈ best.toList, b.ticks ≤ ticks) then best
      else some { ticks := ticks, lap := lap } := by
  by_cases hmark : long = true ∨ caution = true
  · rw [if_pos (by tauto)]
    simp [judgeBest, hmark]
  · obtain ⟨hlong, hcaution⟩ := not_or.mp hmark
    cases best with
    | none => simp [judgeBest, hlong, hcaution]
    | some b =>
      by_cases hfaster : ticks < b.ticks
      · simp [judgeBest, hlong, hcaution, hfaster]
      · simp [judgeBest, hlong, hcaution, hfaster, Nat.le_of_not_lt hfaster]

/-! ### The Lead Lap Ring -/

theorem State.ringTime_eq (s : State) (m : Nat) : s.ringTime m = match s.ring[m % 16]? with
    | some (some r) => if r.lap = m then some r.time else none
    | _ => none := by
  have hm : m % 16 < 16 := Nat.mod_lt _ (by decide)
  rw [State.ringTime, Vector.getElem?_eq_getElem hm]
  cases s.ring[m % 16] <;> rfl

theorem State.leadTime_eq (s : State) (now : RunTime) : s.leadTime now
    = if s.highMark = 0 then now else max now ((s.ringTime s.highMark).getD 0) := by
  rw [State.leadTime]
  cases s.ringTime s.highMark with
  | none => simp
  | some b => rfl

/-- The state with a new lead lap in the ring and the high mark raised to it, where the lap is one (R81, R82). -/
def State.withLead (s : State) (n : Nat) (now : RunTime) : State :=
  { s with
    ring :=
      if s.highMark < n then
        s.ring.set (n % 16) (some { lap := n, time := s.leadTime now }) (Nat.mod_lt _ (by decide))
      else s.ring
    highMark := max s.highMark n }

/-- A new lead lap takes its own place in the ring and no other (R81). -/
theorem State.withLead_ring (s : State) (n : Nat) (now : RunTime) (k : Fin 16) : (s.withLead n now).ring[k]
    = if s.highMark < n ∧ k.val = n % 16 then some { lap := n, time := s.leadTime now } else s.ring[k] := by
  by_cases hlead : s.highMark < n
  · simp [State.withLead, hlead, Vector.getElem_set, eq_comm]
  · simp [State.withLead, hlead]

theorem State.withLead_ringTime {s : State} {n : Nat} (now : RunTime) (h : s.highMark < n) :
    (s.withLead n now).ringTime n = some (s.leadTime now) := by
  simp [State.ringTime, State.withLead, h]

theorem State.withLead_ringTime_other (s : State) {n m : Nat} (now : RunTime) (h : m % 16 ≠ n % 16) :
    (s.withLead n now).ringTime m = s.ringTime m := by
  have hkept := s.withLead_ring n now ⟨m % 16, Nat.mod_lt _ (by decide)⟩
  rw [if_neg fun hlead => h hlead.2] at hkept
  simp only [State.ringTime, show (s.withLead n now).ring[m % 16] = s.ring[m % 16] from hkept]

/-- A record's gap and laps down against the leader, credited with `n` laps (R83). -/
def Entrant.measured (e : Entrant) (s : State) (n : Nat) (now : RunTime) : Entrant :=
  { e with
    gap := if s.highMark < n then some 0 else (s.ringTime n).map fun lead => now - lead
    lapsDown := s.highMark - n }

/-- The measuring writes the ring and the high mark on the one hand, and the entrant's own record on the other. -/
theorem State.measure_eq (s : State) (i : Slot) (n : Nat) (now : RunTime) :
    s.measure i n now = (s.withLead n now).modEntrant i fun e => e.measured s n now := by
  by_cases hlead : s.highMark < n
  · have hbelow : s.highMark - n = 0 := Nat.sub_eq_zero_of_le hlead.le
    simp only [State.measure, State.withLead, Entrant.measured, if_pos hlead, max_eq_right hlead.le, hbelow]
  · simp only [State.measure, State.withLead, Entrant.measured, if_neg hlead, max_eq_left (Nat.le_of_not_lt hlead)]

theorem State.withRecord_measure (s : State) (i : Slot) (e : Entrant) (d : DirtyClass) (n : Nat) (now : RunTime) :
    (s.withRecord i e d).measure i n now = (s.withLead n now).withRecord i (e.measured s n now) d := by
  rw [State.measure_eq]
  exact (s.withLead n now).withRecord_modEntrant i e d _

/-! ### Launches and boundaries -/

/-- The record of a car launched (R70). -/
def Entrant.launched (e : Entrant) (s : State) (now : RunTime) : Entrant :=
  { e with
    latestCrossing := some now, reachTime := some now, currentSectors := [], sector := 0, lastBoundary := some now
    lapCaution := s.lineCaution, lapsDown := s.highMark - e.laps, gap := none }

theorem State.launch_eq {s : State} {i : Slot} (now : RunTime) (hv : (s.entrant i).state ≠ .vacant) : s.launch i now
    = (s.withStandings (placeAgain i ((s.entrant i).launched s now).key s.standings)).withRecord i
        (s.limited ((s.entrant i).launched s now))
        (DirtyClass.mark (s.entrant i).effective (s.effectiveFor ((s.entrant i).launched s now)) (s.dirtyOf i)) := by
  show ((s.modEntrant i fun e => e.launched s now).recompute i).replace i = _
  rw [s.modEntrant_eq_withRecord, State.withRecord_recompute _ _ _ _ (by exact hv), State.withRecord_replace]
  rfl

/-- The record of a car at boundary `b` (R77, R78). -/
def Entrant.atBoundary (e : Entrant) (s : State) (b : Nat) (now : RunTime) : Entrant :=
  { e with
    currentSectors := e.currentSectors ++ List.replicate (b - 1 - e.sector) none
      ++ [e.lastBoundary.bind fun l => if l < now then some (now - l) else none]
    sector := b, lastBoundary := some now
    lapCaution := e.lapCaution || (List.range (b + 1)).any fun k => decide (e.sector < k) && s.localCaution k }

theorem State.boundary_ahead {s : State} {i : Slot} {b : Nat} (now : RunTime) (h : (s.entrant i).sector < b) :
    s.boundary i b now = (s.modEntrant i fun _ => (s.entrant i).atBoundary s b now).recompute i := by
  rw [State.boundary, if_pos h]
  simp only [List.any_filter, sectorTime_eq]
  rfl

/-! ### Credited crossings -/

/-- The record of an entrant credited with a lap, with its ceiling and its gap, before the Penalty Unit is told
(R72 to R75, R83). -/
def State.lapRecord (s : State) (i : Slot) (l now : RunTime) (assigned : Bool) : Entrant :=
  (s.limited ((s.entrant i).credited s.cfg now (now - l) assigned s.lineCaution)).measured s
    (min maxLaps ((s.entrant i).laps + 1)) now

/-- The state in which a credited lap is handed to the Penalty Unit (R76). -/
def State.lapScored (s : State) (i : Slot) (l now : RunTime) (assigned : Bool) : State :=
  ((s.withLead (min maxLaps ((s.entrant i).laps + 1)) now).withStandings
      (placeAgain i (s.lapRecord i l now assigned).key s.standings)).withRecord i (s.lapRecord i l now assigned)
    (DirtyClass.mark (s.entrant i).effective (s.lapRecord i l now assigned).effective (s.dirtyOf i))

/-- A credited crossing is scored first; the Penalty Unit and the Race Sequencer then take what is left (R76). -/
theorem State.credit_eq {s : State} {i : Slot} (l now : RunTime) (assigned : Bool)
    (hv : (s.entrant i).state ≠ .vacant) : s.credit i l now assigned
      = ((s.lapScored i l now assigned).penaltyCrossing i (s.entrant i).lapCaution).judgeCrossing i now := by
  have hscored : (((s.modEntrant i fun e =>
      e.credited s.cfg now (now - l) assigned s.lineCaution).recompute i).measure i
        (min maxLaps ((s.entrant i).laps + 1)) now).replace i = s.lapScored i l now assigned := by
    rw [s.modEntrant_eq_withRecord, State.withRecord_recompute _ _ _ _ (by exact hv), State.withRecord_measure,
      State.withRecord_replace]
    rfl
  rw [← hscored, State.credit, State.entrant_modEntrant_same]
  rfl

section Scored

variable {s : State} {i : Slot} (l now : RunTime) (assigned : Bool)

theorem State.lapScored_entrant :
    (s.lapScored i l now assigned).entrant i = s.lapRecord i l now assigned := State.withRecord_entrant _ _ _ _

theorem State.lapScored_entrant_other {j : Slot} (h : j ≠ i) :
    (s.lapScored i l now assigned).entrant j = s.entrant j := State.withRecord_entrant_other _ _ _ h

theorem State.lapScored_frame : s.lapScored i l now assigned = { s with
    entrants := s.entrants.set i.val ((s.lapScored i l now assigned).entrant i)
    standings := placeAgain i { laps := min maxLaps ((s.entrant i).laps + 1), reach := some now } s.standings
    ring := (s.lapScored i l now assigned).ring, highMark := max s.highMark (min maxLaps ((s.entrant i).laps + 1))
    ceiling := { s.ceiling with
      dirty := s.ceiling.dirty.set i.val (DirtyClass.mark (s.entrant i).effective
        ((s.lapScored i l now assigned).entrant i).effective (s.dirtyOf i)) } } := by
  rw [State.lapScored_entrant]
  rfl

theorem State.lapScored_ring (k : Fin 16) : (s.lapScored i l now assigned).ring[k]
    = if s.highMark < min maxLaps ((s.entrant i).laps + 1) ∧ k.val = min maxLaps ((s.entrant i).laps + 1) % 16 then
        some { lap := min maxLaps ((s.entrant i).laps + 1), time := s.leadTime now }
      else s.ring[k] := s.withLead_ring _ now k

/-- What a credited lap leaves in the record, field by field (R72 to R75, R83). -/
theorem State.lapRecord_eq (hl : (s.entrant i).latestCrossing = some l) :
    s.lapRecord i l now assigned = { s.entrant i with
      laps := min maxLaps ((s.entrant i).laps + 1)
      prevCrossing := some l, latestCrossing := some now, reachTime := some now
      lastLap := some (min (now - l) maxLapTicks)
      lastLapMarks := {
        long := decide (s.cfg.lapCeiling < now - l), caution := (s.entrant i).lapCaution, assigned := assigned }
      bestLap := judgeBest (s.entrant i).bestLap (min (now - l) maxLapTicks) (min maxLaps ((s.entrant i).laps + 1))
        (decide (s.cfg.lapCeiling < now - l)) (s.entrant i).lapCaution
      lastSectors := (s.entrant i).currentSectors
        ++ List.replicate (s.cfg.sectorCount - 1 - (s.entrant i).sector) none
        ++ [(s.entrant i).lastBoundary.bind fun b => if b < now then some (now - b) else none]
      currentSectors := [], sector := 0, lastBoundary := some now
      lapCaution := s.race.yellow || s.localCaution 0
      lapsDown := s.highMark - min maxLaps ((s.entrant i).laps + 1)
      gap := if s.highMark < min maxLaps ((s.entrant i).laps + 1) then some 0
        else (s.ringTime (min maxLaps ((s.entrant i).laps + 1))).map fun lead => now - lead
      effective := s.effectiveFor (s.lapRecord i l now assigned) } := by
  rw [← hl, ← sectorTime_eq]
  rfl

variable {l now}

/-- Without a pit penalty and short of the lap target the credit is all there is (R117, R147). -/
theorem State.credit_plain (hv : (s.entrant i).state ≠ .vacant) (hclean : (s.entrant i).penalties = [])
    (hrace : s.race.state = .running)
    (htarget : s.cfg.lapTarget = 0 ∨ min maxLaps ((s.entrant i).laps + 1) < s.cfg.lapTarget) :
    s.credit i l now assigned = s.lapScored i l now assigned := by
  have hqueue : ((s.lapScored i l now assigned).entrant i).penalties = [] := by
    rw [State.lapScored_entrant]
    exact hclean
  have hpenalty : (s.lapScored i l now assigned).penaltyCrossing i (s.entrant i).lapCaution
      = s.lapScored i l now assigned := by
    rw [State.penaltyCrossing, hqueue]
  have hrunning : (s.lapScored i l now assigned).race.state = .running := hrace
  have hshort : ¬(s.cfg.lapTarget ≠ 0 ∧ s.cfg.lapTarget ≤ ((s.lapScored i l now assigned).entrant i).laps) := by
    rw [State.lapScored_entrant]
    show ¬(s.cfg.lapTarget ≠ 0 ∧ s.cfg.lapTarget ≤ min maxLaps ((s.entrant i).laps + 1))
    omega
  rw [State.credit_eq l now assigned hv, hpenalty, State.judgeCrossing, hrunning]
  exact if_neg hshort

/-- A crossing the lap floor or more after the latest one is credited (R69, R71). -/
theorem State.crossing_credit (hl : (s.entrant i).latestCrossing = some l) (hfloor : l + s.cfg.lapFloor ≤ now) :
    s.crossing i now = s.credit i l now false := by
  simp [State.crossing, hl, Nat.not_lt.mpr hfloor]

end Scored

/-- Settles O57: each clause by the equation of its case of a crossing. -/
theorem crossingsLaunchAndCreditLaps : Obligations.CrossingsLaunchAndCreditLaps := by
  refine ⟨?launch, ?duplicate, ?plain, ?lead, ?boundary, ?credited, ?scored, ?values⟩
  case launch =>
    intro i now s hnone hv
    have hcrossing : s.crossing i now = s.launch i now := by simp [State.crossing, hnone]
    rw [hcrossing, State.launch_eq now hv, State.withRecord_entrant]
    exact ⟨rfl, fun j hj => State.withRecord_entrant_other _ _ _ hj, rfl⟩
  case duplicate =>
    intro i now l s hl hfloor
    simp [State.crossing, hl, hfloor]
  case plain =>
    intro i now l s hl hfloor hv hclean hrace htarget
    rw [State.crossing_credit hl hfloor, State.credit_plain false hv hclean hrace htarget]
    refine ⟨?_, fun j hj => State.lapScored_entrant_other l now false hj, ?_, State.lapScored_ring l now false⟩
    · rw [State.lapScored_entrant]
      rfl
    · rw [State.lapScored_entrant, State.lapRecord_eq l now false hl, judgeBest_eq]
      simp only [decide_eq_true_eq]
      rfl
  case lead =>
    intro n i now s hlead
    rw [State.measure_eq]
    refine ⟨max_eq_right hlead.le, ?_, fun m hm => s.withLead_ringTime_other now hm⟩
    exact State.withLead_ringTime now hlead
  case boundary =>
    intro i b now s hv
    refine ⟨fun h => by rw [State.boundary, if_neg (Nat.not_lt.mpr h)], fun h => ?_⟩
    rw [State.boundary_ahead now h, s.modEntrant_eq_withRecord, State.withRecord_recompute _ _ _ _ (by exact hv),
      State.withRecord_entrant]
    rfl
  case credited =>
    intro i now l s hl hfloor
    exact State.crossing_credit hl hfloor
  case scored =>
    rintro i now l assigned n s hv hl rfl
    refine ⟨s.lapScored i l now assigned, State.credit_eq l now assigned hv, State.lapScored_frame l now assigned, ?_,
      State.lapScored_ring l now assigned⟩
    rw [State.lapScored_entrant]
    exact State.lapRecord_eq l now assigned hl
  case values =>
    intro best ticks lap long caution now s
    exact ⟨judgeBest_eq best ticks lap long caution, s.leadTime_eq now, fun m => (s.ringTime_eq m).trans rfl⟩

end Sys2Proof.Machine
end

section
/-! SUPPORT. Chapter 5, sections 5.2 and 5.4: the order of the keys, and what a re-placing and a removal do to a list of
placed slots. -/

namespace Sys2Proof.Machine

/-! ### The order of the keys -/

/-- A key ranks ahead of another or equals it where it has more laps, or the same laps and a reach time no later, an
absent one counting as later than any present one (R91, R92). -/
theorem Key.aheadOrEqual_iff (a b : Key) :
    a.aheadOrEqual b = true ↔ b.laps < a.laps ∨ a.laps = b.laps ∧ ∀ u ∈ b.reach, ∃ t ∈ a.reach, t ≤ u := by
  obtain ⟨n, x⟩ := a
  obtain ⟨m, y⟩ := b
  cases x <;> cases y <;> simp [Key.aheadOrEqual, Key.ahead, reachBefore, le_iff_lt_or_eq]
  case some.some => rw [and_or_left, or_assoc]

/-- Of any two keys one ranks ahead of the other or equals it (R91). -/
theorem Key.aheadOrEqual_total (a b : Key) : a.aheadOrEqual b = true ∨ b.aheadOrEqual a = true := by
  rw [Key.aheadOrEqual_iff, Key.aheadOrEqual_iff]
  rcases lt_trichotomy a.laps b.laps with h | h | h
  · exact .inr (.inl h)
  · cases hb : b.reach with
    | none => exact .inl (.inr ⟨h, fun u hu => absurd hu (Option.not_mem_none u)⟩)
    | some u =>
      cases ha : a.reach with
      | none => exact .inr (.inr ⟨h.symm, fun t ht => absurd ht (Option.not_mem_none t)⟩)
      | some t => simpa [h] using Nat.le_total t u
  · exact .inl (.inl h)

theorem Key.aheadOrEqual_trans {a b c : Key} (hab : a.aheadOrEqual b = true) (hbc : b.aheadOrEqual c = true) :
    a.aheadOrEqual c = true := by
  rw [Key.aheadOrEqual_iff] at *
  rcases hab with hab | ⟨hab, reachab⟩
  · exact .inl (by omega)
  · rcases hbc with hbc | ⟨hbc, reachbc⟩
    · exact .inl (by omega)
    · refine .inr ⟨by omega, fun u hu => ?_⟩
      obtain ⟨t, ht, htu⟩ := reachbc u hu
      obtain ⟨r, hr, hrt⟩ := reachab t ht
      exact ⟨r, hr, hrt.trans htu⟩

/-- The key of a slot that joins is the lowest that can occur (R91, R96). -/
theorem Key.aheadOrEqual_lowest (k : Key) : k.aheadOrEqual Key.lowest = true := by
  rw [Key.aheadOrEqual_iff]
  refine (Nat.eq_zero_or_pos k.laps).symm.imp_right fun h => ⟨h, fun u hu => ?_⟩
  cases hu

/-! ### A list in the order of its keys -/

/-- The entries stand in the order of their keys (R92). -/
def InKeyOrder (l : List Standing) : Prop := l.Pairwise fun a b => a.key.aheadOrEqual b.key = true

/-- The insertion of R92 keeps the list in order: what ranks ahead of the new key or equals it stands together at the
head. -/
theorem insertStanding_inKeyOrder (x : Standing) {l : List Standing} (h : InKeyOrder l) :
    InKeyOrder (insertStanding x l) := by
  induction l with
  | nil => exact List.pairwise_singleton _ x
  | cons y ys ih =>
    obtain ⟨hy, hys⟩ := List.pairwise_cons.mp h
    unfold insertStanding
    split
    · next hany =>
      obtain ⟨z, hz, hzx⟩ := List.any_eq_true.mp hany
      have hyx : y.key.aheadOrEqual x.key = true := by
        rcases List.mem_cons.mp hz with rfl | hz
        · exact hzx
        · exact Key.aheadOrEqual_trans (hy z hz) hzx
      refine List.pairwise_cons.mpr ⟨fun w hw => ?_, ih hys⟩
      rcases (mem_insertStanding x w ys).mp hw with rfl | hw
      · exact hyx
      · exact hy w hw
    · next hnone =>
      refine List.pairwise_cons.mpr ⟨fun w hw => ?_, h⟩
      refine (Key.aheadOrEqual_total x.key w.key).resolve_right fun hwx => hnone ?_
      exact List.any_eq_true.mpr ⟨w, hw, hwx⟩

/-! ### A removal -/

theorem mem_slots_withoutSlot (i j : Slot) (l : List Standing) :
    j ∈ (withoutSlot i l).map (·.slot) ↔ j ∈ l.map (·.slot) ∧ j ≠ i := by
  simp only [List.mem_map, mem_withoutSlot]
  constructor
  · rintro ⟨x, ⟨hx, hne⟩, rfl⟩
    exact ⟨⟨x, hx, rfl⟩, hne⟩
  · rintro ⟨⟨x, hx, rfl⟩, hne⟩
    exact ⟨x, ⟨hx, hne⟩, rfl⟩

theorem withoutSlot_nodup (i : Slot) {l : List Standing} (h : (l.map (·.slot)).Nodup) :
    ((withoutSlot i l).map (·.slot)).Nodup := h.sublist (List.filter_sublist.map _)

theorem withoutSlot_inKeyOrder (i : Slot) {l : List Standing} (h : InKeyOrder l) : InKeyOrder (withoutSlot i l) :=
  h.sublist List.filter_sublist

/-! ### A re-placing -/

/-- A re-placing adds no slot and removes none (R92, R93). -/
theorem mem_slots_placeAgain (i j : Slot) (k : Key) (l : List Standing) :
    j ∈ (placeAgain i k l).map (·.slot) ↔ j ∈ l.map (·.slot) := by
  rcases placeAgain_cases i k l with ⟨h, -⟩ | ⟨h, -⟩ | ⟨⟨x, hx, hslot, -⟩, h⟩ <;> rw [h]
  have hi : i ∈ l.map (·.slot) := List.mem_map.mpr ⟨x, hx, hslot⟩
  rw [((insertStanding_perm _ _).map _).mem_iff, List.map_cons, List.mem_cons, mem_slots_withoutSlot]
  by_cases hj : j = i
  · simp [hj, hi]
  · simp [hj]

theorem placeAgain_nodup (i : Slot) (k : Key) {l : List Standing} (h : (l.map (·.slot)).Nodup) :
    ((placeAgain i k l).map (·.slot)).Nodup := by
  rcases placeAgain_cases i k l with ⟨heq, -⟩ | ⟨heq, -⟩ | ⟨-, heq⟩ <;> rw [heq]
  · exact h
  · exact h
  · rw [((insertStanding_perm _ _).map _).nodup_iff, List.map_cons, List.nodup_cons, mem_slots_withoutSlot]
    exact ⟨fun hi => hi.2 rfl, withoutSlot_nodup i h⟩

theorem placeAgain_inKeyOrder (i : Slot) (k : Key) {l : List Standing} (h : InKeyOrder l) :
    InKeyOrder (placeAgain i k l) := by
  rcases placeAgain_cases i k l with ⟨heq, -⟩ | ⟨heq, -⟩ | ⟨-, heq⟩ <;> rw [heq]
  · exact h
  · exact h
  · exact insertStanding_inKeyOrder _ (withoutSlot_inKeyOrder i h)

/-- After a re-placing the entry of the slot has the new key, and every other entry is an old one (R92). -/
theorem mem_placeAgain {i : Slot} {k : Key} {l : List Standing} (h : (l.map (·.slot)).Nodup) {x : Standing}
    (hx : x ∈ placeAgain i k l) : (x.slot = i ∧ x.key = k) ∨ (x.slot ≠ i ∧ x ∈ l) := by
  rcases placeAgain_cases i k l with ⟨heq, habsent⟩ | ⟨heq, y, hy, hyi, hyk⟩ | ⟨-, heq⟩ <;> rw [heq] at hx
  · exact .inr ⟨habsent x hx, hx⟩
  · by_cases hxi : x.slot = i
    · obtain rfl : x = y := List.inj_on_of_nodup_map h hx hy (hxi.trans hyi.symm)
      exact .inl ⟨hyi, hyk⟩
    · exact .inr ⟨hxi, hx⟩
  · rcases (mem_insertStanding _ x _).mp hx with rfl | hx
    · exact .inl ⟨rfl, rfl⟩
    · exact .inr ((mem_withoutSlot i x l).mp hx).symm

end Sys2Proof.Machine
end

section
/-! SUPPORT. Chapter 5, sections 5.1, 5.3 and 5.4: what keeps the Standing Order in the order of its keys, by how an
operation changes the list and the records. -/

namespace Sys2Proof.Machine

/-! ### The list and every key as they were -/

/-- `t` has the Standing Order of `s` and the same keys, and nobody has come to stand in it or ceased to, or become
Staged. -/
structure State.SameOrder (s t : State) : Prop where
  standings : t.standings = s.standings
  keys : ∀ j : Slot, (t.entrant j).key = (s.entrant j).key
  stands : ∀ j : Slot, (t.entrant j).state.stands = (s.entrant j).state.stands
  staged : ∀ j : Slot, (t.entrant j).state = .staged → (s.entrant j).state = .staged

theorem State.SameOrder.refl (s : State) : s.SameOrder s := ⟨rfl, fun _ => rfl, fun _ => rfl, fun _ h => h⟩

theorem State.SameOrder.trans {s t u : State} (hst : s.SameOrder t) (htu : t.SameOrder u) : s.SameOrder u where
  standings := htu.standings.trans hst.standings
  keys j := (htu.keys j).trans (hst.keys j)
  stands j := (htu.stands j).trans (hst.stands j)
  staged j h := hst.staged j (htu.staged j h)

/-- An operation that leaves the list, and every record's state, laps and reach time. -/
theorem State.SameOrder.of_fields {s t : State} (h : t.standings = s.standings ∧ ∀ j : Slot,
    (t.entrant j).state = (s.entrant j).state ∧ (t.entrant j).laps = (s.entrant j).laps
      ∧ (t.entrant j).reachTime = (s.entrant j).reachTime) : s.SameOrder t where
  standings := h.1
  keys j := by
    obtain ⟨-, hlaps, hreach⟩ := h.2 j
    rw [Entrant.key, Entrant.key, hlaps, hreach]
  stands j := by rw [(h.2 j).1]
  staged j := by rw [(h.2 j).1]; exact id

/-- An operation that leaves the list and the table of records. -/
theorem State.SameOrder.of_entrants {s t : State} (hlist : t.standings = s.standings)
    (hentrants : t.entrants = s.entrants) : s.SameOrder t :=
  .of_fields ⟨hlist, fun j => by rw [State.entrant_congr hentrants]; exact ⟨rfl, rfl, rfl⟩⟩

/-- A write to one record that leaves its key, and by which its entrant neither joins nor leaves nor becomes Staged. -/
theorem State.modEntrant_sameOrder {s : State} {i : Slot} {f : Entrant → Entrant}
    (hkey : (f (s.entrant i)).key = (s.entrant i).key)
    (hstands : (f (s.entrant i)).state.stands = (s.entrant i).state.stands)
    (hstaged : (f (s.entrant i)).state = .staged → (s.entrant i).state = .staged) : s.SameOrder (s.modEntrant i f) where
  standings := rfl
  keys j := by
    rw [State.entrant_modEntrant]
    split
    · next hj => rw [hj, hkey]
    · rfl
  stands j := by
    rw [State.entrant_modEntrant]
    split
    · next hj => rw [hj, hstands]
    · rfl
  staged j h := by
    rw [State.entrant_modEntrant] at h
    split at h
    · next hj => rw [hj]; exact hstaged h
    · exact h

/-- A write to fields of a record that the Standing Order does not look at (R91, R97). -/
theorem State.modEntrant_sameOrder_of_fields (s : State) (i : Slot) {f : Entrant → Entrant}
    (h : ∀ e : Entrant, (f e).state = e.state ∧ (f e).key = e.key) : s.SameOrder (s.modEntrant i f) := by
  obtain ⟨hstate, hkey⟩ := h (s.entrant i)
  exact State.modEntrant_sameOrder hkey (by rw [hstate]) (by rw [hstate]; exact id)

/-- An operation that comes only where a condition holds leaves the order if it does so where it comes. -/
theorem State.SameOrder.ite {s u : State} {p : Prop} [Decidable p] (h : s.SameOrder u) :
    s.SameOrder (if p then u else s) := by
  split
  · exact h
  · exact .refl s

/-- What is done slot by slot is done to all of them. -/
theorem State.SameOrder.forSlots {f : State → Slot → State} (h : ∀ (s : State) (i : Slot), s.SameOrder (f s i))
    (s : State) : s.SameOrder (s.forSlots f) :=
  State.forSlots_induction s.SameOrder f (fun u i hu => hu.trans (h u i)) s (.refl s)

/-- The Standing Order is kept where the list and the keys are. -/
theorem State.SameOrder.standingsKept {s t : State} (h : s.SameOrder t) (hs : s.standingsKept) : t.standingsKept := by
  obtain ⟨hnodup, hmem, horder, hkeys, hreach⟩ := hs
  rw [State.standingsKept, h.standings]
  refine ⟨hnodup, fun i => by rw [hmem, h.stands], horder, fun x hx => by rw [hkeys x hx, h.keys], fun i hi => ?_⟩
  exact (congrArg Key.reach (h.keys i)).trans (hreach i (h.staged i hi))

/-! ### One entrant moves, leaves or joins -/

/-- `u` has the Standing Order of `s`, and the states and keys of every slot but `i`. -/
structure State.SameButAt (s : State) (i : Slot) (u : State) : Prop where
  standings : u.standings = s.standings
  others : ∀ j : Slot, j ≠ i → (u.entrant j).state = (s.entrant j).state ∧ (u.entrant j).key = (s.entrant j).key

theorem State.modEntrant_sameButAt (s : State) (i : Slot) (f : Entrant → Entrant) :
    s.SameButAt i (s.modEntrant i f) :=
  ⟨rfl, fun j hj => by rw [State.entrant_modEntrant_other _ _ hj]; exact ⟨rfl, rfl⟩⟩

theorem State.SameButAt.of_records {s t u : State} {i : Slot} (h : s.SameButAt i t)
    (hu : u.standings = t.standings ∧ ∀ j : Slot, (u.entrant j).state = (t.entrant j).state
      ∧ (u.entrant j).laps = (t.entrant j).laps ∧ (u.entrant j).reachTime = (t.entrant j).reachTime) :
    s.SameButAt i u := by
  refine ⟨hu.1.trans h.standings, fun j hj => ?_⟩
  obtain ⟨hstate, hlaps, hreach⟩ := hu.2 j
  obtain ⟨hstate', hkey'⟩ := h.others j hj
  exact ⟨hstate.trans hstate', by rw [← hkey', Entrant.key, Entrant.key, hlaps, hreach]⟩

/-- Where the state and the key of that slot have stayed too, nothing of the order has changed. -/
theorem State.SameButAt.sameOrder {s u : State} {i : Slot} (h : s.SameButAt i u)
    (hstate : (u.entrant i).state = (s.entrant i).state) (hkey : (u.entrant i).key = (s.entrant i).key) :
    s.SameOrder u := by
  have hall (j : Slot) : (u.entrant j).state = (s.entrant j).state ∧ (u.entrant j).key = (s.entrant j).key := by
    by_cases hj : j = i
    · subst hj; exact ⟨hstate, hkey⟩
    · exact h.others j hj
  exact ⟨h.standings, fun j => (hall j).2, fun j => by rw [(hall j).1], fun j => by rw [(hall j).1]; exact id⟩

/-- An entrant whose key has changed is placed again by its present one (R92, R93). -/
theorem State.SameButAt.replace_standingsKept {s u : State} {i : Slot} (h : s.SameButAt i u) (hs : s.standingsKept)
    (hstate : (u.entrant i).state = (s.entrant i).state)
    (hstaged : (s.entrant i).state = .staged → (u.entrant i).reachTime = none) : (u.replace i).standingsKept := by
  obtain ⟨hnodup, hmem, horder, hkeys, hreach⟩ := hs
  have hstates (j : Slot) : (u.entrant j).state = (s.entrant j).state := by
    by_cases hj : j = i
    · rw [hj, hstate]
    · exact (h.others j hj).1
  rw [State.standingsKept, State.replace_standings, h.standings]
  refine ⟨placeAgain_nodup i _ hnodup, fun j => ?_, placeAgain_inKeyOrder i _ horder, fun x hx => ?_, fun j hj => ?_⟩
  · rw [mem_slots_placeAgain, hmem, State.replace_entrant, hstates]
  · rw [State.replace_entrant]
    rcases mem_placeAgain hnodup hx with ⟨rfl, hkey⟩ | ⟨hne, hold⟩
    · exact hkey
    · rw [(h.others _ hne).2, hkeys x hold]
  · rw [State.replace_entrant] at hj ⊢
    rw [hstates] at hj
    by_cases hji : j = i
    · subst hji
      exact hstaged hj
    · exact (congrArg Key.reach (h.others j hji).2).trans (hreach j hj)

/-- The same for a write to the record alone. -/
theorem State.modEntrant_replace_standingsKept {s : State} {i : Slot} {f : Entrant → Entrant} (hs : s.standingsKept)
    (hstate : (f (s.entrant i)).state = (s.entrant i).state)
    (hstaged : (s.entrant i).state = .staged → (f (s.entrant i)).reachTime = none) :
    ((s.modEntrant i f).replace i).standingsKept := by
  refine (s.modEntrant_sameButAt i f).replace_standingsKept hs ?_ ?_ <;> rwa [State.entrant_modEntrant_same]

/-- A Staged entrant of a list that is kept has no reach time (R91). -/
theorem State.standingsKept.reachTime {s : State} (hs : s.standingsKept) {i : Slot}
    (h : (s.entrant i).state = .staged) : (s.entrant i).reachTime = none := by
  obtain ⟨-, -, -, -, hreach⟩ := hs
  exact hreach i h

/-- An entrant that has ceased to stand leaves the list (R96). -/
theorem State.SameButAt.leaveStandings_standingsKept {s u : State} {i : Slot} (h : s.SameButAt i u)
    (hs : s.standingsKept) (hstands : (u.entrant i).state.stands = false) : (u.leaveStandings i).standingsKept := by
  obtain ⟨hnodup, hmem, horder, hkeys, hreach⟩ := hs
  rw [State.standingsKept, State.leaveStandings_standings, h.standings]
  refine ⟨withoutSlot_nodup i hnodup, fun j => ?_, withoutSlot_inKeyOrder i horder, fun x hx => ?_, fun j hj => ?_⟩
  · rw [mem_slots_withoutSlot, State.leaveStandings_entrant]
    by_cases hj : j = i
    · simp [hj, hstands]
    · simp [hj, hmem, (h.others j hj).1]
  · obtain ⟨hold, hne⟩ := (mem_withoutSlot i x _).mp hx
    rw [State.leaveStandings_entrant, (h.others _ hne).2, hkeys x hold]
  · rw [State.leaveStandings_entrant] at hj ⊢
    have hji : j ≠ i := by
      rintro rfl
      rw [hj] at hstands
      cases hstands
    obtain ⟨hstate, hkey⟩ := h.others j hji
    exact (congrArg Key.reach hkey).trans (hreach j (hstate ▸ hj))

/-- An entrant that has come to stand joins at the tail with the lowest key (R96). -/
theorem State.SameButAt.joinStandings_standingsKept {s u : State} {i : Slot} (h : s.SameButAt i u)
    (hs : s.standingsKept) (hout : (s.entrant i).state.stands = false) (hstands : (u.entrant i).state.stands = true)
    (hkey : (u.entrant i).key = Key.lowest) : (u.joinStandings i).standingsKept := by
  obtain ⟨hnodup, hmem, horder, hkeys, hreach⟩ := hs
  have habsent : i ∉ s.standings.map (·.slot) := by rw [hmem, hout]; exact Bool.false_ne_true
  have hothers : ∀ j : Slot, j ∈ s.standings.map (·.slot) → j ≠ i := fun j hj hji => habsent (hji ▸ hj)
  rw [State.standingsKept, State.joinStandings_standings, h.standings, List.map_append, List.map_singleton]
  refine ⟨?_, fun j => ?_, ?_, fun x hx => ?_, fun j hj => ?_⟩
  · rw [← List.concat_eq_append]
    exact hnodup.concat habsent
  · rw [List.mem_append, List.mem_singleton, hmem, State.joinStandings_entrant]
    by_cases hj : j = i
    · simp [hj, hstands]
    · simp [hj, (h.others j hj).1]
  · exact List.pairwise_append.mpr ⟨horder, List.pairwise_singleton _ _, fun x _ y hy => by
      rw [List.mem_singleton.mp hy]; exact Key.aheadOrEqual_lowest _⟩
  · rw [State.joinStandings_entrant]
    rcases List.mem_append.mp hx with hx | hx
    · rw [(h.others _ (hothers _ (List.mem_map_of_mem hx))).2, hkeys x hx]
    · rw [List.mem_singleton.mp hx, hkey]
  · rw [State.joinStandings_entrant] at hj ⊢
    by_cases hji : j = i
    · rw [hji]
      exact congrArg Key.reach hkey
    · obtain ⟨hstate, hkey⟩ := h.others j hji
      exact (congrArg Key.reach hkey).trans (hreach j (hstate ▸ hj))

/-! ### The list made anew -/

/-- The rebuilt list is in order where every entrant is Staged with the lowest key (R98). -/
theorem State.rebuildStandings_standingsKept {s : State}
    (h : ∀ j : Slot, (s.entrant j).state = .vacant ∨ (s.entrant j).state = .staged ∧ (s.entrant j).key = Key.lowest) :
    s.rebuildStandings.standingsKept := by
  have hslots : s.rebuildStandings.standings.map (·.slot) = s.slotsWith (·.state == .staged) := by
    simp [State.rebuildStandings, Function.comp_def]
  have hlowest : ∀ j : Slot, (s.entrant j).state = .staged → (s.entrant j).key = Key.lowest := fun j hj => by
    rcases h j with hv | ⟨-, hkey⟩
    · rw [hv] at hj; cases hj
    · exact hkey
  have hkey : ∀ x ∈ s.rebuildStandings.standings, x.key = Key.lowest ∧ (s.entrant x.slot).state = .staged := by
    intro x hx
    obtain ⟨j, hj, rfl⟩ := List.mem_map.mp hx
    exact ⟨rfl, by simpa using (List.mem_filter.mp hj).2⟩
  rw [State.standingsKept, hslots]
  refine ⟨List.Nodup.filter _ (by decide), fun j => ?_, ?_, fun x hx => ?_, fun j hj => ?_⟩
  · have hmem : j ∈ s.slotsWith (·.state == .staged) ↔ (s.entrant j).state = .staged := by
      simp [State.slotsWith, mem_allSlots]
    rw [hmem]
    show _ ↔ (s.entrant j).state.stands = true
    rcases h j with hj | ⟨hj, -⟩ <;> simp [hj, EntrantState.stands]
  · exact List.pairwise_of_forall_mem_list fun x _ y hy => (hkey y hy).1 ▸ Key.aheadOrEqual_lowest _
  · obtain ⟨hx, hstaged⟩ := hkey x hx
    exact hx.trans (hlowest _ hstaged).symm
  · exact congrArg Key.reach (hlowest j hj)

/-- An empty list is in order where every record is Vacant (R98). -/
theorem State.standingsKept_of_vacant {s : State} (hlist : s.standings = [])
    (h : ∀ j : Slot, s.entrant j = Entrant.vacant) : s.standingsKept := by
  rw [State.standingsKept, hlist]
  refine ⟨.nil, fun j => ?_, .nil, fun x hx => absurd hx List.not_mem_nil, fun j _ => ?_⟩ <;> rw [h j]
  · exact iff_of_false List.not_mem_nil (by decide)
  · rfl

end Sys2Proof.Machine
end

section
/-! SUPPORT. Chapter 5, section 5.3: the operations that change laps or reach times keep the Standing Order. -/

namespace Sys2Proof.Machine

/-! ### What the Standing Order is not told of -/

theorem State.recompute_sameOrder (s : State) (i : Slot) : s.SameOrder (s.recompute i) := .of_fields (by simp)

theorem State.recomputeAll_sameOrder (s : State) : s.SameOrder s.recomputeAll := .of_fields (by simp)

theorem State.release_sameOrder (s : State) (i : Slot) : s.SameOrder (s.release i) := .of_fields (by simp)

theorem State.markActivity_sameOrder (s : State) (i : Slot) : s.SameOrder (s.markActivity i) := .of_fields (by simp)

theorem State.setPenalties_sameOrder (s : State) (i : Slot) (q : List PitPenalty) :
    s.SameOrder (s.setPenalties i q) := .of_fields (by simp)

theorem State.clearDeadline_sameOrder (s : State) (i : Slot) :
    s.SameOrder (s.modEntrant i fun e => { e with deadline := none }) :=
  s.modEntrant_sameOrder_of_fields i fun _ => ⟨rfl, rfl⟩

theorem State.clearJumpStart_sameOrder (s : State) (i : Slot) :
    s.SameOrder (s.modEntrant i fun e => { e with jumpStart := false }) :=
  s.modEntrant_sameOrder_of_fields i fun _ => ⟨rfl, rfl⟩

/-! ### Laps taken away -/

theorem State.deductLaps_standingsKept {s : State} (i : Slot) (k : Nat) (hs : s.standingsKept) :
    (s.deductLaps i k).standingsKept :=
  State.modEntrant_replace_standingsKept hs rfl hs.reachTime

/-- A finish conversion that takes laps places the entrant again, once, and another leaves its key (R93, R154). -/
theorem State.convertPenalties_standingsKept {s : State} (i : Slot) (hs : s.standingsKept) :
    (s.convertPenalties i).standingsKept := by
  unfold State.convertPenalties
  extract_lets e sum s1 s2
  have hbut : s.SameButAt i s2 := by
    refine (s.modEntrant_sameButAt i _).of_records (t := s1) ?_
    simp only [s2]
    split <;> simp
  have hstate : (s2.entrant i).state = e.state := by simp only [s2]; split <;> simp [s1, e]
  have hreach : (s2.entrant i).reachTime = e.reachTime := by simp only [s2]; split <;> simp [s1, e]
  split
  · next hlaps =>
    have hkey : (s2.entrant i).key = e.key := by rw [Entrant.key, hlaps, hreach]; rfl
    exact (hbut.sameOrder hstate hkey).standingsKept hs
  · exact hbut.replace_standingsKept hs hstate fun h => hreach.trans (hs.reachTime h)

/-! ### Calls -/

/-- Of the rulings a LapDeduction alone changes a key (R93, R151). -/
theorem State.carryRuling_standingsKept {s : State} (c : Call) (hs : s.standingsKept) :
    (s.carryRuling c).standingsKept := by
  unfold State.carryRuling
  split
  case h_4 => exact State.deductLaps_standingsKept _ _ hs
  all_goals exact State.SameOrder.standingsKept (.of_fields (by simp)) hs

theorem State.makeCall_standingsKept {s : State} (i : Slot) (c : CallClass) (r : Ruling) (hs : s.standingsKept) :
    (s.makeCall i c r).standingsKept :=
  (State.markActivity_sameOrder _ i).standingsKept (State.carryRuling_standingsKept _ hs)

theorem State.report_standingsKept {s : State} (i : Slot) (c : CallClass) (hs : s.standingsKept) :
    (s.report i c).standingsKept := by
  rcases s.report_cases i c with ⟨r, -, -, h⟩ | ⟨-, h⟩ <;> rw [h]
  · exact State.makeCall_standingsKept i c r hs
  · exact hs

theorem State.reportAll_standingsKept {s : State} (i : Slot) (cs : List CallClass) (hs : s.standingsKept) :
    (s.reportAll i cs).standingsKept :=
  foldl_induction (fun u : State => u.standingsKept) (fun u c => u.report i c)
    (fun _ c hu => State.report_standingsKept i c hu) cs s hs

theorem State.countPress_standingsKept {s : State} (n : StationNo) (hs : s.standingsKept) :
    (s.countPress n).standingsKept := by
  unfold State.countPress
  split
  · exact hs
  next i _ =>
    have counted := (s.modEntrant_sameOrder_of_fields i (f := fun x => { x with callsUsed := min 15 (x.callsUsed + 1) })
      fun _ => ⟨rfl, rfl⟩).standingsKept hs
    dsimp only
    split
    · split
      · exact State.report_standingsKept i .callLimit counted
      · exact counted
    · exact hs

theorem State.missHead_standingsKept {s : State} (i : Slot) (k : PenaltyKind) (hs : s.standingsKept) :
    (s.missHead i k).standingsKept := by
  have dropped : s.SameOrder ((s.dropHead i).markActivity i) := .of_fields (by simp)
  have judged (u : State) : u.SameOrder (u.judgeHead i) := .of_fields (by simp)
  exact (judged _).standingsKept (State.report_standingsKept i _ (dropped.standingsKept hs))

theorem State.penaltyCrossing_standingsKept {s : State} (i : Slot) (c : Bool) (hs : s.standingsKept) :
    (s.penaltyCrossing i c).standingsKept := by
  have written (q : List PitPenalty) := (s.setPenalties_sameOrder i q).standingsKept hs
  unfold State.penaltyCrossing
  split
  · exact hs
  dsimp only
  split
  · split
    · split
      · exact State.missHead_standingsKept i _ (written _)
      · exact written _
    · exact written _
  · exact written _

/-! ### Finishes -/

/-- An entrant that stands in the list finishes where it stands, and moves only by its conversion (R97, R154). -/
theorem State.finishEntrant_standingsKept {s : State} {i : Slot} (st : FinishStatus) (t : RunTime)
    (h : (s.entrant i).state = .racing) (hs : s.standingsKept) : (s.finishEntrant i st t).standingsKept := by
  have finished : s.SameOrder
      (s.modEntrant i fun e => { e with state := .finished, finishStatus := some st, finishTime := some t }) :=
    State.modEntrant_sameOrder rfl (by rw [h]; rfl) (fun h => by cases h)
  unfold State.finishEntrant
  refine (State.recompute_sameOrder _ i).standingsKept (State.convertPenalties_standingsKept i ?_)
  refine (State.release_sameOrder _ i).standingsKept ((State.clearDeadline_sameOrder _ i).standingsKept ?_)
  exact (State.recompute_sameOrder _ i).standingsKept (finished.standingsKept hs)

theorem State.finishAll_standingsKept {s : State} (t : RunTime) (hs : s.standingsKept) :
    (s.finishAll t).standingsKept := by
  refine State.forSlots_induction (fun u => u.standingsKept) _ (fun u i hu => ?_) s hs
  split
  · next h => exact State.finishEntrant_standingsKept _ t h hu
  · exact hu

theorem State.endRace_standingsKept {s : State} (t : RunTime) (hs : s.standingsKept) :
    (s.endRace t).standingsKept :=
  State.SameOrder.standingsKept (.of_fields (by simp [State.endRace])) (State.finishAll_standingsKept t hs)

theorem State.judgeCrossing_standingsKept {s : State} {i : Slot} (t : RunTime) (h : (s.entrant i).state = .racing)
    (hs : s.standingsKept) : (s.judgeCrossing i t).standingsKept := by
  have finish := State.finishEntrant_standingsKept .flagged t h hs
  unfold State.judgeCrossing
  split
  · split
    · exact State.SameOrder.standingsKept (.of_fields (by simp)) finish
    · exact hs
  · exact State.SameOrder.standingsKept (.of_fields (by simp)) finish
  all_goals exact hs

/-! ### Green -/

theorem State.zeroLaps_standingsKept {s : State} (i : Slot) (hs : s.standingsKept) : (s.zeroLaps i).standingsKept := by
  unfold State.zeroLaps
  split
  · exact hs
  · exact State.modEntrant_replace_standingsKept hs rfl hs.reachTime

theorem State.reportJumpStart_standingsKept {s : State} (i : Slot) (marked : Bool) (hs : s.standingsKept) :
    (s.reportJumpStart i marked).standingsKept := by
  unfold State.reportJumpStart
  split
  · exact (State.clearJumpStart_sameOrder _ i).standingsKept (State.report_standingsKept i .jumpStart hs)
  · exact hs

/-- A Staged entrant takes green where it stands, at the tail if it had laps; its reach time was absent before (R52,
R95). -/
theorem State.greenEntrant_standingsKept {s : State} {i : Slot} (h : (s.entrant i).state = .staged)
    (hs : s.standingsKept) : (s.greenEntrant i).standingsKept := by
  have racing : s.SameOrder (s.modEntrant i fun e => { e with state := .racing }) :=
    State.modEntrant_sameOrder rfl (by rw [h]; rfl) (fun h => by cases h)
  have seen (u : State) : u.SameOrder (u.firstDeadline i) := .of_fields (by simp)
  unfold State.greenEntrant
  extract_lets s1 s2
  have zeroed : (s1.zeroLaps i).standingsKept :=
    State.zeroLaps_standingsKept i ((racing.trans (State.recompute_sameOrder _ i)).standingsKept hs)
  have absent : ((s1.zeroLaps i).entrant i).reachTime = none := by simp [s1, hs.reachTime h]
  have cleared : (s1.zeroLaps i).SameOrder s2 :=
    State.modEntrant_sameOrder (by rw [Entrant.key, Entrant.key, absent]) rfl id
  exact State.reportJumpStart_standingsKept i _ ((cleared.trans (seen _)).standingsKept zeroed)

theorem State.greenEntrants_standingsKept {s : State} (hs : s.standingsKept) : s.greenEntrants.standingsKept := by
  refine State.forSlots_induction (fun u => u.standingsKept) _ (fun u i hu => ?_) s hs
  split
  · next h => exact State.greenEntrant_standingsKept h hu
  · exact hu

theorem State.green_standingsKept {s : State} (hs : s.standingsKept) : s.green.standingsKept := by
  unfold State.green
  exact (State.recomputeAll_sameOrder _).standingsKept (State.greenEntrants_standingsKept hs)

theorem State.stepCountdown_standingsKept {s : State} (c : Countdown) (hs : s.standingsKept) :
    (s.stepCountdown c).standingsKept := by
  unfold State.stepCountdown
  split
  · exact State.green_standingsKept hs
  · split
    · exact hs
    · split
      · exact State.green_standingsKept hs
      · exact hs

/-! ### Crossings -/

section Racing

variable {s : State} {i : Slot} (h : (s.entrant i).state = .racing) (hs : s.standingsKept)

include h hs

/-- A launch gives a Racing entrant its first reach time (R70, R93). -/
theorem State.launch_standingsKept (t : RunTime) : (s.launch i t).standingsKept := by
  unfold State.launch
  extract_lets s1
  have hbut : s.SameButAt i (s1.recompute i) := (s.modEntrant_sameButAt i _).of_records (t := s1) (by simp)
  exact hbut.replace_standingsKept hs (by simp [s1]) (by simp [h])

/-- A credited crossing places the entrant again before its penalties and its finish are judged (R76, R93, R97). -/
theorem State.credit_standingsKept (l t : RunTime) (assigned : Bool) : (s.credit i l t assigned).standingsKept := by
  unfold State.credit
  extract_lets cautionLap s1 s2
  have hbut : s.SameButAt i s2 := (s.modEntrant_sameButAt i _).of_records (t := s1) (by simp [s2])
  have hstate : (s2.entrant i).state = (s.entrant i).state := by simp [s1, s2, Entrant.credited]
  have placed : (s2.replace i).standingsKept := hbut.replace_standingsKept hs hstate (by simp [h])
  refine State.judgeCrossing_standingsKept t ?_ (State.penaltyCrossing_standingsKept i cautionLap placed)
  simp [hstate, h]

theorem State.split_standingsKept (p l a : RunTime) : (s.split i p l a).standingsKept :=
  State.modEntrant_replace_standingsKept hs rfl (by simp [h])

theorem State.lateLap_standingsKept (a : RunTime) (o : LateOutcome) : (s.lateLap i a o).standingsKept := by
  cases o with
  | launch => exact State.launch_standingsKept h hs a
  | credit l => exact State.credit_standingsKept h hs l a true
  | split p l => exact State.split_standingsKept h hs p l a
  | duplicate | tooOld => exact hs

theorem State.lapStep_standingsKept (p : Pass) : (s.lapStep i p).standingsKept := by
  unfold State.lapStep
  split
  · next t _ _ =>
    rcases s.crossing_cases i t with ⟨-, hc⟩ | ⟨l, -, -, hc⟩ | ⟨l, -, -, hc⟩ <;> rw [hc]
    · exact State.launch_standingsKept h hs t
    · exact hs
    · exact State.credit_standingsKept h hs l t false
  · exact State.SameOrder.standingsKept (.of_fields (by simp)) hs
  · exact hs

end Racing

/-! ### Passes -/

theorem State.scoredPass_standingsKept {s : State} (tr : Treatment) (i : Slot) (p : Pass) (hs : s.standingsKept) :
    (s.scoredPass tr i p).standingsKept := by
  unfold State.scoredPass
  dsimp only
  refine State.reportAll_standingsKept i _ (State.SameOrder.standingsKept (.of_fields ?_) hs)
  simp

/-- Only a Racing entrant's pass comes to the Lap Unit (R54). -/
theorem State.deliver_standingsKept {s : State} (i : Slot) (p : Pass) (hs : s.standingsKept) :
    (s.deliver i p).standingsKept := by
  rcases s.deliver_cases i p with ⟨-, h⟩ | ⟨-, h⟩ | ⟨-, h⟩ | ⟨htr, h⟩ <;> rw [h]
  · exact hs
  · exact State.SameOrder.standingsKept (.of_fields (by simp)) hs
  · exact State.scoredPass_standingsKept _ i p hs
  · obtain ⟨hracing, -⟩ := (treatment_full_iff _ _).mp htr
    exact State.lapStep_standingsKept (by simpa using hracing) (State.scoredPass_standingsKept _ i p hs) p

theorem State.deliverLate_standingsKept {s : State} {i : Slot} (p : Pass) (a : RunTime) (o : LateOutcome)
    (h : (s.entrant i).state = .racing) (hs : s.standingsKept) : (s.deliverLate i p a o).standingsKept := by
  rw [State.deliverLate_eq]
  split
  · exact State.lateLap_standingsKept h hs a o
  · exact State.lateLap_standingsKept (by simpa using h) (State.scoredPass_standingsKept _ i p hs) a o

theorem State.route_standingsKept {s : State} (p : Pass) (hs : s.standingsKept) : (s.route p).standingsKept := by
  unfold State.route
  split
  · exact hs
  · split
    · exact State.deliver_standingsKept _ p hs
    · exact hs

theorem State.takeTally_standingsKept {s : State} (g : GateNo) (b : Tally) (hs : s.standingsKept) :
    (s.takeTally g b).standingsKept :=
  foldl_induction (fun u : State => u.standingsKept) State.route (fun _ p hu => State.route_standingsKept p hu) _ s hs

theorem State.closeBurst_standingsKept {s : State} (g : GateNo) (b : Tally) (hs : s.standingsKept) :
    (s.closeBurst g b).standingsKept := by
  unfold State.closeBurst
  dsimp only
  split
  · split <;> exact hs
  · refine State.takeTally_standingsKept g b (State.SameOrder.standingsKept (.of_fields ?_) hs)
    split <;> simp

theorem State.closeOpen_standingsKept {s : State} (g : GateNo) (hs : s.standingsKept) :
    (s.closeOpen g).standingsKept := by
  unfold State.closeOpen
  split
  · exact State.closeBurst_standingsKept g _ hs
  · exact hs

end Sys2Proof.Machine
end

section
/-! SUPPORT. Chapter 5, sections 5.1, 5.4 and 5.5: the requests and resets by which entrants join and leave the Standing
Order, and AMEND. -/

namespace Sys2Proof.Machine

/-! ### Joining -/

/-- A new entrant stands at the tail of a list from which its Vacant slot was absent (R96). -/
theorem State.enterCar_standingsKept {s : State} {i : Slot} (n : Nat) (st : Option StationNo)
    (h : (s.entrant i).state = .vacant) (hs : s.standingsKept) : (s.enterCar i n st).standingsKept := by
  have hout : (s.entrant i).state.stands = false := by rw [h]; rfl
  refine (State.recompute_sameOrder _ i).standingsKept ?_
  refine (s.modEntrant_sameButAt i _).joinStandings_standingsKept hs hout ?_ ?_ <;> rw [State.entrant_modEntrant_same]
  · rfl
  · rfl

theorem State.enterRequest_standingsKept {s : State} (code station : Byte) (hs : s.standingsKept) :
    (s.enterRequest code station).1.standingsKept := by
  unfold State.enterRequest
  split
  · exact hs
  split
  · split
    · exact hs
    refine iteInduction (motive := fun r : State × Answer => r.1.standingsKept) (fun _ => hs) fun _ => ?_
    split
    · exact hs
    · next i hi => exact State.enterCar_standingsKept _ _ (by simpa using List.find?_some hi) hs
  · exact hs

/-! ### AMEND -/

theorem State.amendLaps_standingsKept {s : State} (i : Slot) (d : Int) (hs : s.standingsKept) :
    (s.amendLaps i d).standingsKept := by
  unfold State.amendLaps
  dsimp only
  split
  · exact hs
  · exact State.modEntrant_replace_standingsKept hs rfl hs.reachTime

/-- Of the items of an AMEND the laps delta alone changes a key (R48, R93). -/
theorem State.amendItems_standingsKept {s : State} (i : Slot) (items : Byte) (d : Int) (v : Option Nat)
    (st : Option StationNo) (hs : s.standingsKept) : (s.amendItems i items d v st).standingsKept := by
  have written (u : State) : u.SameOrder (u.modEntrant i fun e => { e with override := v }) :=
    u.modEntrant_sameOrder_of_fields i fun _ => ⟨rfl, rfl⟩
  have override (u : State) : u.SameOrder (u.amendOverride i v) := (written u).trans (State.recompute_sameOrder _ i)
  have station (u : State) : u.SameOrder (u.amendStation i st) :=
    u.modEntrant_sameOrder_of_fields i fun _ => ⟨rfl, rfl⟩
  have flag (u : State) : u.SameOrder (u.amendBlackFlag i) := by
    unfold State.amendBlackFlag
    split
    · exact .of_fields (by simp)
    · exact .refl u
  have calls (u : State) : u.SameOrder (u.resetCalls i) := u.modEntrant_sameOrder_of_fields i fun _ => ⟨rfl, rfl⟩
  unfold State.amendItems
  refine (State.SameOrder.ite (calls _)).standingsKept ((State.SameOrder.ite (flag _)).standingsKept ?_)
  refine (State.SameOrder.ite (station _)).standingsKept ((State.SameOrder.ite (override _)).standingsKept ?_)
  split
  · exact State.amendLaps_standingsKept i d hs
  · exact hs

theorem State.amendRequest_standingsKept {s : State} (code items : Byte) (delta : Word16) (override station : Byte)
    (hs : s.standingsKept) : (s.amendRequest code items delta override station).1.standingsKept := by
  unfold State.amendRequest
  split
  · exact hs
  split
  · exact hs
  split
  · exact hs
  split
  · exact hs
  apply iteInduction (motive := fun r : State × Answer => r.1.standingsKept)
  · exact fun _ => hs
  · intro _
    rw [State.accept_fst]
    exact State.amendItems_standingsKept _ _ _ _ _ hs

/-! ### Leaving -/

/-- A vacated record's slot leaves the list, if it stood there (R49, R96). -/
theorem State.vacate_standingsKept {s : State} (i : Slot) (hs : s.standingsKept) : (s.vacate i).standingsKept := by
  have hleft : ((s.modEntrant i fun _ => Entrant.vacant).leaveStandings i).standingsKept :=
    (s.modEntrant_sameButAt i _).leaveStandings_standingsKept hs (by rw [State.entrant_modEntrant_same]; rfl)
  exact hleft

/-- An entrant that stands in the list retires where it stands (R50, R97). -/
theorem State.retireEntrant_standingsKept {s : State} {i : Slot} (h : (s.entrant i).state.stands = true)
    (hs : s.standingsKept) : (s.retireEntrant i).standingsKept := by
  have retired : s.SameOrder (s.modEntrant i fun e => { e with state := .retired }) :=
    State.modEntrant_sameOrder rfl h.symm (fun h => by cases h)
  have judged (u : State) : u.SameOrder (((u.clearPenalties i).recompute i).checkFinished) := .of_fields (by simp)
  unfold State.retireEntrant
  refine (judged _).standingsKept ((State.clearJumpStart_sameOrder _ i).standingsKept ?_)
  refine (State.release_sameOrder _ i).standingsKept ((State.clearDeadline_sameOrder _ i).standingsKept ?_)
  exact (State.recompute_sameOrder _ i).standingsKept (retired.standingsKept hs)

theorem State.retireRequest_standingsKept {s : State} (code : Byte) (hs : s.standingsKept) :
    (s.retireRequest code).1.standingsKept := by
  unfold State.retireRequest
  split
  · exact hs
  next i hi =>
    split
    · rw [State.accept_fst]; exact State.vacate_standingsKept i hs
    · split
      · exact hs
      · next hstate =>
        have hvacant := State.named_not_vacant hi
        rw [State.accept_fst]
        refine State.retireEntrant_standingsKept ?_ hs
        cases h : (s.entrant i).state <;> simp_all [EntrantState.stands]

/-- An Excluded entrant's slot leaves the list (R51, R96). -/
theorem State.excludeEntrant_standingsKept {s : State} (i : Slot) (hs : s.standingsKept) :
    (s.excludeEntrant i).standingsKept := by
  have excluded : s.SameButAt i (s.modEntrant i fun e => { e with state := .excluded }) :=
    s.modEntrant_sameButAt i _
  have cleared (u : State) : u.SameOrder ((u.clearPenalties i).setBlackFlag i false) := .of_fields (by simp)
  have detached (u : State) : u.SameOrder (u.modEntrant i fun e => { e with station := none }) :=
    u.modEntrant_sameOrder_of_fields i fun _ => ⟨rfl, rfl⟩
  have judged (u : State) : u.SameOrder (u.recompute i).checkFinished := .of_fields (by simp)
  unfold State.excludeEntrant
  refine (judged _).standingsKept ((detached _).standingsKept ((cleared _).standingsKept ?_))
  refine (State.clearJumpStart_sameOrder _ i).standingsKept ((State.release_sameOrder _ i).standingsKept ?_)
  refine (State.clearDeadline_sameOrder _ i).standingsKept ?_
  exact (excluded.of_records (by simp)).leaveStandings_standingsKept hs (by simp [EntrantState.stands])

theorem State.excludeRequest_standingsKept {s : State} (code : Byte) (hs : s.standingsKept) :
    (s.excludeRequest code).1.standingsKept := by
  unfold State.excludeRequest
  split
  · exact hs
  · split
    · exact hs
    · rw [State.accept_fst]; exact State.excludeEntrant_standingsKept _ hs

/-! ### Resets -/

/-- A race reset leaves a record Vacant, or Staged with the lowest key (R66, R98). -/
theorem Entrant.raceReset_cases (e : Entrant) :
    e.raceReset.state = .vacant ∨ e.raceReset.state = .staged ∧ e.raceReset.key = Key.lowest := by
  unfold Entrant.raceReset
  split
  · next h => exact .inl h
  · exact .inr ⟨rfl, rfl⟩

theorem State.raceReset_standingsKept (s : State) : s.raceReset.standingsKept := by
  unfold State.raceReset
  refine (State.recomputeAll_sameOrder _).standingsKept (State.rebuildStandings_standingsKept fun j => ?_)
  simpa [State.entrant_mk] using (s.entrant j).raceReset_cases

theorem State.powerOnReset_standingsKept (s : State) (results : Vector TestResult 24) (straps : BitVec 5)
    (pins : PinLevels) : (s.powerOnReset results straps pins).standingsKept :=
  State.standingsKept_of_vacant rfl fun j => by simp [State.entrant, State.powerOnReset, State.powerOn]

/-! ### CALL, ASSIGN and END -/

theorem State.callRequest_standingsKept {s : State} (code kind hold deadline conversion level duration laps : Byte)
    (hs : s.standingsKept) :
    (s.callRequest code kind hold deadline conversion level duration laps).1.standingsKept := by
  unfold State.callRequest
  split
  · exact hs
  split
  · exact hs
  split
  · exact hs
  · exact hs
  split
  · exact hs
  · exact hs
  split
  · rw [State.accept_fst]; exact State.makeCall_standingsKept _ _ _ hs
  · exact hs

/-- A pass that goes to late assignment goes to a Racing entrant (R54, R84). -/
theorem State.assignRequest_standingsKept {s : State} (tag code : Byte) (hs : s.standingsKept) :
    (s.assignRequest tag code).1.standingsKept := by
  have settled {u : State} (hu : u.standingsKept) : (u.settleEntry tag).accept.1.standingsKept := hu
  unfold State.assignRequest
  split
  · exact hs
  split
  · exact hs
  split
  · exact hs
  split
  · exact hs
  split
  · next hlate =>
    obtain ⟨-, htr⟩ := of_decide_eq_true hlate
    obtain ⟨hracing, -⟩ := (treatment_full_iff _ _).mp htr
    unfold State.assignLate
    split
    · exact hs
    · exact hs
    all_goals exact settled (State.deliverLate_standingsKept _ _ _ hracing hs)
  · exact settled (State.deliver_standingsKept _ _ hs)

theorem State.endRequest_standingsKept {s : State} (hs : s.standingsKept) : s.endRequest.1.standingsKept := by
  unfold State.endRequest
  split
  · rw [State.accept_fst]; exact State.endRace_standingsKept _ hs
  · exact hs

end Sys2Proof.Machine
end

section
/-! SUPPORT. Chapter 5, section 5.1: which commands change the Standing Order or a key, and that none spoils the
order. -/

namespace Sys2Proof.Machine

/-! ### What leaves the order -/

theorem State.startTest_sameOrder (s : State) : s.SameOrder s.startTest := by
  have begun (u : State) (g : GateNo) : u.SameOrder (u.beginTest g) := by
    unfold State.beginTest
    split <;> exact .of_fields (by simp)
  have watched (u : State) : u.SameOrder u.testFromNow.watchBlind := .of_entrants rfl rfl
  rw [State.startTest_eq]
  exact .trans (State.SameOrder.forSlots begun s) (watched _)

theorem State.readActivityRequest_sameOrder (s : State) : s.SameOrder s.readActivityRequest.1 := by
  have cleared (u : State) (i : Slot) : u.SameOrder (u.modEntrant i fun e => { e with activity := false }) :=
    u.modEntrant_sameOrder_of_fields i fun _ => ⟨rfl, rfl⟩
  unfold State.readActivityRequest
  exact State.SameOrder.forSlots cleared s

theorem State.refresh_sameOrder (s : State) : s.SameOrder s.refresh := by
  have marked (u : State) (i : Slot) : u.SameOrder (u.setDirty i .raised) := .of_entrants (by simp) (by simp)
  have timed (u : State) (c : CeilingUnit) : u.SameOrder { u with ceiling := c } := .of_entrants rfl rfl
  unfold State.refresh
  exact (State.SameOrder.forSlots (fun u i => .ite (marked u i)) s).trans (timed _ _)

theorem State.suspensionCause_sameOrder (s : State) (why : Reason) : s.SameOrder (s.suspensionCause why) :=
  .of_fields (by simp)

theorem State.callAction_sameOrder (s : State) : s.SameOrder s.callAction := by
  unfold State.callAction
  split
  · exact .refl s
  all_goals exact .of_fields (by simp)

/-! ### Which commands touch the order -/

/-- The commands that may change the list, a key, or who stands in the list. -/
def touchesOrder : Instr → Bool
  | .enter .. | .amend .. | .retire _ | .exclude _ | .call .. | .assign .. | .endRace | .resetRace => true
  | .commandFrame _ | .resetPartReboot .. | .resetPin .. | .powerUp .. => true
  | .gateBlind _ | .burstGapExpiry _ | .burstDwellExpiry _ => true
  | .countdownStep | .finishWindowExpiry | .runningClockCap | .stationPress _ => true
  | _ => false

/-- A command that ends in `u` leaves the order as it is in `u`. -/
theorem done_sameOrder {s u : State} (h : s.SameOrder u) : ∃ t, u.done = .next t ∧ s.SameOrder t :=
  ⟨_, rfl, h.trans (.of_entrants rfl rfl)⟩

/-- The same for an event that comes only where its condition holds. -/
theorem ite_done_sameOrder {s u : State} {p : Prop} [Decidable p] (h : s.SameOrder u) :
    ∃ t, (if p then u.done else s.done) = .next t ∧ s.SameOrder t := by
  split
  · exact done_sameOrder h
  · exact done_sameOrder (.refl s)

theorem answered_sameOrder {s : State} {r : State × Answer} (h : s.SameOrder r.1) :
    ∃ t, answered r = .next t ∧ s.SameOrder t := ⟨_, rfl, h.trans (.of_entrants rfl rfl)⟩

/-- Every other command leaves the list, the keys, and who stands in it. -/
theorem exec_sameOrder {c : Instr} (s : State) (h : touchesOrder c = false) :
    ∃ t, exec c s = .next t ∧ s.SameOrder t := by
  cases c
  case status | resetPart | setMask | ackStations => exact answered_sameOrder (.of_entrants rfl rfl)
  case lookup | lookupSlot | standings | readAttention | readPasses | discard =>
    refine answered_sameOrder ?_
    simp only [State.lookupRequest, State.lookupSlotRequest, State.standingsRequest, State.readAttentionRequest,
      State.readPassesRequest, State.discardRequest]
    (repeat' split) <;> exact .of_entrants rfl rfl
  case configGate | configCall | configRace | power =>
    refine answered_sameOrder ?_
    simp only [State.configGateRequest, State.configCallRequest, State.configRaceRequest, State.powerRequest]
    (repeat' split) <;> exact .of_fields (by simp [State.entrant_mk, State.entrants_getElem])
  case selfTest =>
    refine answered_sameOrder ?_
    simp only [State.selfTestRequest]
    split
    · exact .refl s
    · exact s.startTest_sameOrder
  case waive =>
    refine answered_sameOrder ?_
    simp only [State.waiveRequest]
    (repeat' split) <;> exact .of_fields (by simp)
  case stage | start | yellow | zone | suspend | resume =>
    refine answered_sameOrder ?_
    simp only [State.stageRequest, State.startRequest, State.startCountdown, State.yellowRequest, State.zoneRequest,
      State.suspendRequest, State.resumeRequest]
    (repeat' split) <;> exact .of_fields (by simp [State.entrant_mk, State.entrants_getElem])
  case readPenaltyActivity => exact answered_sameOrder s.readActivityRequest_sameOrder
  case rxGapTimeout | rxByteError | commandByte | gateUnblind | blindedSummaryEdge =>
    exact ite_done_sameOrder (.of_entrants rfl rfl)
  case beaconFrame | selfTestEnd | sightingDeadlineExpiry | stopGoHoldExpiry | powerHoldExpiry
      | timeTargetReached =>
    exact ite_done_sameOrder (.of_fields (by simp))
  case linkHoldExpiry =>
    refine ite_done_sameOrder (.trans ?_ (State.suspensionCause_sameOrder _ _))
    exact .of_entrants rfl rfl
  case ceilingRefresh => exact ite_done_sameOrder s.refresh_sameOrder
  case pauseByte | resumingByte => exact done_sameOrder (.of_entrants (by simp) (by simp))
  case returnByteError => exact done_sameOrder (.refl s)
  case responseStart | responseEnd | ceilingFrameEnd =>
    simp only [exec, execResponseStart, execResponseEnd, execCeilingFrameEnd]
    split
    · exact ite_done_sameOrder (.of_entrants rfl rfl)
    all_goals exact done_sameOrder (.refl s)
  case gateCell | ceilingFrameStart =>
    simp only [exec, execGateCell, execCeilingFrameStart]
    split <;> exact done_sameOrder (.of_entrants (by simp) (by simp))
  case claimWaitExpiry =>
    simp only [exec, execClaimWaitExpiry]
    split
    · exact ite_done_sameOrder (.of_entrants rfl rfl)
    · exact done_sameOrder (.refl s)
  case stationRelease | redRelease | powerSenseRestore =>
    simp only [exec, execStationRelease, execRedRelease, execPowerSenseRestore]
    split <;> exact done_sameOrder (.of_entrants rfl rfl)
  case redPress | powerSenseLoss =>
    simp only [exec, execRedPress, execPowerSenseLoss]
    split
    · exact done_sameOrder (.of_entrants rfl rfl)
    · refine done_sameOrder (.trans ?_ (State.suspensionCause_sameOrder _ _))
      exact .of_entrants rfl rfl
  all_goals cases h

/-! ### The commands that touch it -/

/-- A command that ends in a state whose Standing Order is kept keeps it. -/
theorem done_standingsKept {u : State} (h : u.standingsKept) : ∃ t, u.done = .next t ∧ t.standingsKept := ⟨_, rfl, h⟩

/-- The same for an event that comes only where its condition holds. -/
theorem ite_done_standingsKept {s u : State} {p : Prop} [Decidable p] (hs : s.standingsKept) (hu : u.standingsKept) :
    ∃ t, (if p then u.done else s.done) = .next t ∧ t.standingsKept := by
  split
  · exact done_standingsKept hu
  · exact done_standingsKept hs

theorem answered_standingsKept {r : State × Answer} (h : r.1.standingsKept) :
    ∃ t, answered r = .next t ∧ t.standingsKept := ⟨_, rfl, h⟩

/-- The events that close a burst hand its passes on (R14, R15, R16). -/
theorem exec_burstEvents_standingsKept {s : State} (hs : s.standingsKept) (g : GateNo) (feed : Feed) :
    (∃ t, execBurstGapExpiry g s = .next t ∧ t.standingsKept)
      ∧ (∃ t, execBurstDwellExpiry g s = .next t ∧ t.standingsKept)
      ∧ ∃ t, execGateBlind feed s = .next t ∧ t.standingsKept := by
  refine ⟨ite_done_standingsKept hs (State.closeOpen_standingsKept g hs), ?dwell,
    ite_done_standingsKept hs (State.closeOpen_standingsKept feed.gate ?blinded)⟩
  case dwell =>
    unfold execBurstDwellExpiry
    split
    · exact done_standingsKept (State.closeBurst_standingsKept g _ hs)
    · exact done_standingsKept hs
  case blinded => exact hs

/-- A counted press may be called, and the call may take laps (R133, R170). -/
theorem execStationPress_standingsKept {s : State} (hs : s.standingsKept) (n : StationNo) :
    ∃ t, execStationPress n s = .next t ∧ t.standingsKept := by
  unfold execStationPress
  split
  · exact done_standingsKept hs
  dsimp only
  split
  · exact done_standingsKept (State.countPress_standingsKept n ((State.callAction_sameOrder _).standingsKept hs))
  · exact done_standingsKept hs

/-- Every command but the check byte of a frame keeps the Standing Order. -/
theorem exec_standingsKept {c : Instr} {s : State} (hc : ∀ b, c ≠ .commandFrame b) (hs : s.standingsKept) :
    ∃ t, exec c s = .next t ∧ t.standingsKept := by
  by_cases htouch : touchesOrder c = false
  · obtain ⟨t, hexec, hsame⟩ := exec_sameOrder s htouch
    exact ⟨t, hexec, hsame.standingsKept hs⟩
  cases c
  case enter code station => exact answered_standingsKept (State.enterRequest_standingsKept code station hs)
  case amend => exact answered_standingsKept (State.amendRequest_standingsKept _ _ _ _ _ hs)
  case retire code => exact answered_standingsKept (State.retireRequest_standingsKept code hs)
  case exclude code => exact answered_standingsKept (State.excludeRequest_standingsKept code hs)
  case call => exact answered_standingsKept (State.callRequest_standingsKept _ _ _ _ _ _ _ _ hs)
  case assign tag code => exact answered_standingsKept (State.assignRequest_standingsKept tag code hs)
  case endRace => exact answered_standingsKept (State.endRequest_standingsKept hs)
  case resetRace =>
    refine answered_standingsKept ?_
    rw [State.resetRaceRequest, State.accept_fst]
    exact s.raceReset_standingsKept
  case commandFrame b => exact absurd rfl (hc b)
  case powerUp | resetPin => exact done_standingsKept (s.powerOnReset_standingsKept _ _ _)
  case resetPartReboot => exact ite_done_standingsKept hs (s.powerOnReset_standingsKept _ _ _)
  case gateBlind feed => exact (exec_burstEvents_standingsKept hs feed.gate feed).2.2
  case burstGapExpiry g => exact (exec_burstEvents_standingsKept hs g ⟨g, .line⟩).1
  case burstDwellExpiry g => exact (exec_burstEvents_standingsKept hs g ⟨g, .line⟩).2.1
  case countdownStep =>
    simp only [exec, execCountdownStep]
    split
    · exact done_standingsKept (State.stepCountdown_standingsKept _ hs)
    · exact done_standingsKept hs
  case finishWindowExpiry =>
    simp only [exec, execFinishWindowExpiry]
    split
    · exact done_standingsKept (State.endRace_standingsKept _ hs)
    · exact done_standingsKept hs
  case runningClockCap => exact ite_done_standingsKept hs (State.endRace_standingsKept _ hs)
  case stationPress n => exact execStationPress_standingsKept hs n
  all_goals exact absurd rfl htouch

/-- Settles O9: an entrant whose key changes is placed again, one that joins or leaves is appended or removed, and no
other command, and no tick, touches the list or a key. -/
theorem standingOrderKept : Obligations.StandingOrderKept := by
  refine step_keeps (P := fun s => s.standingsKept) (fun _ _ h => h) (fun c s hs => ?_) (fun _ h => h)
  by_cases hc : ∃ b, c = .commandFrame b
  · obtain ⟨b, rfl⟩ := hc
    refine execCommandFrame_keeps (fun _ _ _ h => h) (fun c s hc h => exec_standingsKept ?_ h) b hs
    rintro b rfl
    cases hc
  · exact exec_standingsKept (fun b h => hc ⟨b, h⟩) hs

end Sys2Proof.Machine
end

section
/-! SUPPORT. Chapter 5, section 5.6: STANDINGS, and the places of its entries (section 11.6). -/

namespace Sys2Proof.Machine

/-! ### The bytes of the entries -/

/-- A standings entry is sent as 4 bytes of its place, 6 of its key, 6 of its gap, and one of its marks (R100, section
11.6). -/
theorem Entrant.standingBytes_places (e : Entrant) (position : Nat) (slot : Slot) (rest : List Byte) :
    bodyAt (e.standingBytes position slot ++ rest) 0 4
        = [byteOf position, byteOf slot.val, optByte e.code, byteOf e.state.number]
      ∧ bodyAt (e.standingBytes position slot ++ rest) 4 6 = word16 e.laps ++ optWord32 e.reachTime
      ∧ bodyAt (e.standingBytes position slot ++ rest) 10 6 = optWord32 e.gap ++ word16 e.lapsDown
      ∧ bodyAt (e.standingBytes position slot ++ rest) 16 1
        = [byteOf (finishNumber e.finishStatus + flagBit 2 e.blackFlag + flagBit 3 e.overdue)] :=
  ⟨rfl, rfl, rfl, rfl⟩

/-- The bytes of an entry of the list at its position, counted from the head (R100). -/
def State.entryBytes (s : State) (x : Standing × Nat) : List Byte :=
  (s.entrant x.1.slot).standingBytes x.2 x.1.slot

theorem State.entryBytes_length (s : State) (x : Standing × Nat) : (s.entryBytes x).length = 17 := rfl

theorem State.standingEntries_eq (s : State) (position : Nat) (l : List Standing) :
    s.standingEntries position l = (l.zipIdx position).flatMap s.entryBytes := by
  induction l generalizing position with
  | nil => rfl
  | cons x l ih => rw [State.standingEntries, ih]; rfl

/-- The bytes of a STANDINGS answer that lie in the entry `k` places after the first one. -/
theorem State.bodyAt_standingEntries (s : State) {l : List Standing} {k : Nat} {x : Standing} (hx : l[k]? = some x)
    (number : Byte) (first : Nat) : ∃ rest : List Byte, ∀ j n : Nat,
      bodyAt (number :: s.standingEntries first l) (1 + j + 17 * k) n
        = bodyAt ((s.entrant x.slot).standingBytes (first + k) x.slot ++ rest) j n := by
  have hentry : (l.zipIdx first)[k]? = some (x, first + k) := by simp [hx]
  refine ⟨((l.zipIdx first).drop (k + 1)).flatMap s.entryBytes, fun j n => ?_⟩
  have hj : 1 + j + 17 * k = 17 * k + j + 1 := by omega
  rw [bodyAt, bodyAt, hj, List.drop_succ_cons, ← List.drop_drop, State.standingEntries_eq,
    drop_flatMap_of_length s.entryBytes_length hentry]
  rfl

/-! ### The request -/

/-- The entries a STANDINGS request asks for, as many of them as the list holds (R99). -/
def State.standingsPage (s : State) (first count : Byte) : List Standing :=
  (s.standings.drop (first.toNat - 1)).take count.toNat

theorem exec_standings_inRange {first count : Byte} (s : State) (hfirst : 1 ≤ first.toNat ∧ first.toNat ≤ 24)
    (hcount : 1 ≤ count.toNat ∧ count.toNat ≤ 6) :
    exec (.standings first count) s = answered (s, Answer.okWith (byteOf s.standings.length
      :: s.standingEntries first.toNat (s.standingsPage first count))) := by
  have hrange : (inRange 1 24 first.toNat && inRange 1 6 count.toNat) = true := by
    simpa [inRange] using ⟨hfirst, hcount⟩
  exact congrArg answered (if_pos hrange)

theorem exec_standings_outOfRange {first count : Byte} (s : State)
    (h : first.toNat < 1 ∨ 24 < first.toNat ∨ count.toNat < 1 ∨ 6 < count.toNat) :
    exec (.standings first count) s = answered (s.refuse .badValue) := by
  have hrange : ¬(inRange 1 24 first.toNat && inRange 1 6 count.toNat) = true := by
    simp only [inRange, Bool.and_eq_true, decide_eq_true_eq]
    omega
  exact congrArg answered (if_neg hrange)

theorem State.standingsPage_getElem? {s : State} {first count : Byte} {k : Nat} (hk : k < count.toNat) :
    (s.standingsPage first count)[k]? = s.standings[first.toNat - 1 + k]? := by
  rw [State.standingsPage, List.getElem?_take_of_lt hk, List.getElem?_drop]

/-- Settles O26: by the ranges of `first` and `count`; each entry of the page is 17 bytes, each field at its place. -/
theorem standingsAnswersPage : Obligations.StandingsAnswersPage := by
  refine ⟨?page, fun first count s h => State.refuses_of_answered (exec_standings_outOfRange s h)⟩
  intro first count s hfirst hcount
  refine ⟨_, exec_standings_inRange s hfirst hcount, _, rfl, rfl, rfl, rfl, ?length, rfl, fun k hk x hx => ?_⟩
  case length =>
    simp [Answer.okWith, State.standingEntries_eq, List.length_flatMap, State.entryBytes_length,
      State.standingsPage]
    omega
  have hpage : (s.standingsPage first count)[k.val]? = some x :=
    (State.standingsPage_getElem? hk).trans (Option.mem_toList.mp hx)
  obtain ⟨rest, hplace⟩ := s.bodyAt_standingEntries hpage (byteOf s.standings.length) first.toNat
  obtain ⟨hwho, hkey, hgap, hmarks⟩ :=
    (s.entrant x.slot).standingBytes_places (first.toNat + k.val) x.slot rest
  exact ⟨(hplace 0 4).trans hwho, (hplace 4 6).trans hkey, (hplace 10 6).trans hgap, (hplace 16 1).trans hmarks⟩

end Sys2Proof.Machine
end

section
/-! SUPPORT. Chapter 6, sections 6.1 and 6.2: a race that goes on, or towards its finish, while passes, calls and
requests change what they change. -/

namespace Sys2Proof.Machine

/-! ### What the lock of R104 holds, and the clocks -/

/-- The configuration of `t` is that of `s`, and `t` has no self-test that `s` had not (R104). -/
structure State.SameConfig (s t : State) : Prop where
  cfg : t.cfg = s.cfg
  callTable : t.callTable = s.callTable
  entry : ∀ g : GateNo, (t.gate g).entry = (s.gate g).entry
  power : t.race.powerSetting = s.race.powerSetting
  test : s.testStart = none → t.testStart = none

theorem State.SameConfig.refl (s : State) : s.SameConfig s := ⟨rfl, rfl, fun _ => rfl, rfl, id⟩

theorem State.SameConfig.trans {s t u : State} (hst : s.SameConfig t) (htu : t.SameConfig u) : s.SameConfig u where
  cfg := htu.cfg.trans hst.cfg
  callTable := htu.callTable.trans hst.callTable
  entry g := (htu.entry g).trans (hst.entry g)
  power := htu.power.trans hst.power
  test := htu.test ∘ hst.test

/-- The race clock, the green time, the suspended time and the running clock are as they were (R101, R102). -/
structure Sequencer.SameTimes (q r : Sequencer) : Prop where
  clock : r.raceClock = q.raceClock
  green : r.green = q.green
  suspTotal : r.suspTotal = q.suspTotal
  running : r.runningClock = q.runningClock

theorem Sequencer.SameTimes.refl (q : Sequencer) : q.SameTimes q := ⟨rfl, rfl, rfl, rfl⟩

theorem Sequencer.SameTimes.trans {p q r : Sequencer} (hpq : p.SameTimes q) (hqr : q.SameTimes r) : p.SameTimes r where
  clock := hqr.clock.trans hpq.clock
  green := hqr.green.trans hpq.green
  suspTotal := hqr.suspTotal.trans hpq.suspTotal
  running := hqr.running.trans hpq.running

/-! ### A race that goes on -/

/-- The changes of race state that passes and withdrawals bring (R117, R119). -/
def RaceState.towardsFinish : RaceState → RaceState → Bool
  | .running, .finishing | .running, .complete | .finishing, .complete => true
  | _, _ => false

theorem RaceState.towardsFinish_trans {a b c : RaceState} (hab : a.towardsFinish b = true)
    (hbc : b.towardsFinish c = true) : a.towardsFinish c = true := by
  revert hab hbc
  cases a <;> cases b <;> cases c <;> decide

/-- From `s` to `t` the race goes on as it is, or nearer to its finish and RACE is raised; its times, the configuration
and the waiting commands are kept. -/
structure State.RacesOn (s t : State) : Prop where
  pending : t.pending = s.pending
  config : s.SameConfig t
  times : s.race.SameTimes t.race
  race : t.race.state = s.race.state ∧ t.race.suspStart = s.race.suspStart
    ∨ s.race.state.towardsFinish t.race.state = true ∧ t.attention.race = true
  raised : s.attention.race = true → t.attention.race = true

theorem State.RacesOn.refl (s : State) : s.RacesOn s := ⟨rfl, .refl s, .refl _, .inl ⟨rfl, rfl⟩, id⟩

theorem State.RacesOn.trans {s t u : State} (hst : s.RacesOn t) (htu : t.RacesOn u) : s.RacesOn u where
  pending := htu.pending.trans hst.pending
  config := hst.config.trans htu.config
  times := hst.times.trans htu.times
  raised := htu.raised ∘ hst.raised
  race := by
    rcases hst.race with ⟨hstate, hsusp⟩ | ⟨hmove, hrace⟩
    · rw [← hstate, ← hsusp]
      exact htu.race
    · rcases htu.race with ⟨hstate, -⟩ | ⟨hmove', hrace'⟩
      · exact .inr ⟨hstate ▸ hmove, htu.raised hrace⟩
      · exact .inr ⟨RaceState.towardsFinish_trans hmove hmove', hrace'⟩

/-- An operation that leaves the Race Sequencer and the configuration alone. -/
theorem State.RacesOn.of_fields {s t : State}
    (h : t.pending = s.pending ∧ t.cfg = s.cfg ∧ t.callTable = s.callTable ∧ t.testStart = s.testStart
      ∧ t.attention.race = s.attention.race ∧ t.race.powerSetting = s.race.powerSetting
      ∧ t.race.raceClock = s.race.raceClock ∧ t.race.green = s.race.green ∧ t.race.suspTotal = s.race.suspTotal
      ∧ t.race.runningClock = s.race.runningClock ∧ t.race.state = s.race.state
      ∧ t.race.suspStart = s.race.suspStart ∧ ∀ g : GateNo, (t.gate g).entry = (s.gate g).entry) : s.RacesOn t := by
  obtain ⟨hpending, hcfg, hcalls, htest, hrace, hpower, hclock, hgreen, htotal, hrunning, hstate, hsusp, hentry⟩ := h
  exact ⟨hpending, ⟨hcfg, hcalls, hentry, hpower, htest.trans⟩, ⟨hclock, hgreen, htotal, hrunning⟩,
    .inl ⟨hstate, hsusp⟩, hrace.trans⟩

theorem State.RacesOn.ite {s t u : State} {p : Prop} [Decidable p] (ht : s.RacesOn t) (hu : s.RacesOn u) :
    s.RacesOn (if p then t else u) := by
  split
  · exact ht
  · exact hu

/-- Work that leaves the race going on at each slot leaves it so for all. -/
theorem State.RacesOn.forSlots {f : State → Slot → State} (h : ∀ (s : State) (i : Slot), s.RacesOn (f s i)) (s : State) :
    s.RacesOn (s.forSlots f) := State.forSlots_induction s.RacesOn f (fun u i hu => hu.trans (h u i)) s (.refl s)

/-! ### The finish -/

/-- A Running or Finishing race that is ended goes to Complete (R119, R120). -/
theorem State.complete_racesOn {s : State} (h : s.race.state.towardsFinish .complete = true) : s.RacesOn s.complete where
  pending := by simp
  config := ⟨by simp, by simp, by simp, by simp, by simp⟩
  times := ⟨by simp, by simp, by simp, by simp⟩
  race := .inr ⟨by simpa using h, by simp⟩
  raised := by simp

theorem State.checkFinished_racesOn (s : State) : s.RacesOn s.checkFinished := by
  rcases s.checkFinished_cases with ⟨hrace, -, h⟩ | ⟨-, h⟩ <;> rw [h]
  · exact State.complete_racesOn (by rw [hrace]; rfl)
  · exact .refl s

theorem State.enterFinishing_racesOn {s : State} (h : s.race.state = .running) : s.RacesOn s.enterFinishing := by
  refine .trans ?_ (State.checkFinished_racesOn _)
  refine ⟨by simp, ⟨by simp, by simp, by simp [State.gate], by simp, by simp⟩, ⟨by simp, by simp, by simp, by simp⟩,
    .inr ⟨by simp [h, RaceState.towardsFinish], by simp⟩, by simp⟩

theorem State.finishEntrant_racesOn (s : State) (i : Slot) (st : FinishStatus) (t : RunTime) :
    s.RacesOn (s.finishEntrant i st t) := .of_fields (by simp)

theorem State.judgeCrossing_racesOn (s : State) (i : Slot) (t : RunTime) : s.RacesOn (s.judgeCrossing i t) := by
  unfold State.judgeCrossing
  split
  · next hrace =>
    refine .ite (.trans (s.finishEntrant_racesOn i _ t) (State.enterFinishing_racesOn ?_)) (.refl s)
    simpa using hrace
  · exact (s.finishEntrant_racesOn i _ t).trans (State.checkFinished_racesOn _)
  all_goals exact .refl s

/-! ### Laps and passes -/

theorem State.credit_racesOn (s : State) (i : Slot) (l t : RunTime) (a : Bool) : s.RacesOn (s.credit i l t a) := by
  refine .trans (.of_fields ?_) (State.judgeCrossing_racesOn _ i t)
  simp

theorem State.lateLap_racesOn (s : State) (i : Slot) (a : RunTime) (o : LateOutcome) : s.RacesOn (s.lateLap i a o) := by
  cases o with
  | launch => exact .of_fields (by simp [State.lateLap])
  | credit l => exact s.credit_racesOn i l a true
  | split p l => exact .of_fields (by simp [State.lateLap])
  | duplicate => exact .refl s
  | tooOld => exact .refl s

theorem State.lapStep_racesOn (s : State) (i : Slot) (p : Pass) : s.RacesOn (s.lapStep i p) := by
  unfold State.lapStep
  split
  · next t _ _ =>
    rcases s.crossing_cases i t with ⟨-, h⟩ | ⟨_, -, -, h⟩ | ⟨_, -, -, h⟩ <;> rw [h]
    · exact .of_fields (by simp)
    · exact .refl s
    · exact s.credit_racesOn i _ t false
  · exact .of_fields (by simp)
  · exact .refl s

theorem State.deliver_racesOn (s : State) (i : Slot) (p : Pass) : s.RacesOn (s.deliver i p) := by
  rcases s.deliver_cases i p with ⟨-, h⟩ | ⟨-, h⟩ | ⟨-, h⟩ | ⟨-, h⟩ <;> rw [h]
  · exact .refl s
  · exact .of_fields (by simp)
  · exact .of_fields (by simp)
  · exact .trans (.of_fields (by simp)) (State.lapStep_racesOn _ i p)

theorem State.deliverLate_racesOn (s : State) (i : Slot) (p : Pass) (a : RunTime) (o : LateOutcome) :
    s.RacesOn (s.deliverLate i p a o) := by
  rw [State.deliverLate_eq]
  exact .ite (s.lateLap_racesOn i a o) (.trans (.of_fields (by simp)) (State.lateLap_racesOn _ i a o))

theorem State.route_racesOn (s : State) (p : Pass) : s.RacesOn (s.route p) := by
  unfold State.route
  split
  · exact .of_fields (by simp)
  · split
    · exact s.deliver_racesOn _ p
    · exact .of_fields (by simp)

theorem State.takeTally_racesOn (s : State) (g : GateNo) (b : Tally) : s.RacesOn (s.takeTally g b) :=
  foldl_induction s.RacesOn State.route (fun u p hu => hu.trans (u.route_racesOn p)) _ s (.refl s)

/-! ### Gates -/

/-- A gate's decoder and its part of the self-test may change; its entry stays. -/
theorem State.modGate_racesOn (s : State) (g : GateNo) {f : Gate → Gate} (hf : (f (s.gate g)).entry = (s.gate g).entry) :
    s.RacesOn (s.modGate g f) := by
  refine .of_fields ?_
  simp only [State.modGate_pending, State.modGate_cfg, State.modGate_callTable, State.modGate_testStart,
    State.modGate_attention, State.modGate_race, true_and]
  intro k
  rw [State.gate_modGate]
  split
  · next h => rw [hf, h]
  · rfl

theorem State.modDecoder_racesOn (s : State) (g : GateNo) (f : Decoder → Decoder) : s.RacesOn (s.modDecoder g f) :=
  s.modGate_racesOn g rfl

theorem State.departures_racesOn (s : State) (g : GateNo) (b : Tally) : s.RacesOn (s.departures g b) :=
  .of_fields (by simp)

theorem State.frameEvent_racesOn (s : State) (g : GateNo) (frame : Option Nat) : s.RacesOn (s.frameEvent g frame) := by
  have reported (u : State) (code : Nat) (t : RawTime) : u.RacesOn (u.reportBox true g code t) := .of_fields (by simp)
  unfold State.frameEvent
  dsimp only
  split
  · exact .ite (.trans (s.modDecoder_racesOn g _) (reported _ _ _)) (s.modDecoder_racesOn g _)
  · exact s.modDecoder_racesOn g _

theorem State.closeBurst_racesOn (s : State) (g : GateNo) (b : Tally) : s.RacesOn (s.closeBurst g b) := by
  have emptied := s.modDecoder_racesOn g fun d => { d with burst := none }
  unfold State.closeBurst
  dsimp only
  split
  · exact .ite (emptied.trans (State.modGate_racesOn _ g rfl)) emptied
  · exact .trans (.ite (emptied.trans (State.departures_racesOn _ g b)) emptied) (State.takeTally_racesOn _ g b)

theorem State.closeOpen_racesOn (s : State) (g : GateNo) : s.RacesOn (s.closeOpen g) := by
  unfold State.closeOpen
  split
  · exact s.closeBurst_racesOn g _
  · exact .refl s

theorem State.watchBlind_racesOn (s : State) : s.RacesOn s.watchBlind := .of_fields (by simp)

theorem State.endTest_racesOn (s : State) : s.RacesOn s.endTest where
  pending := by simp
  config := ⟨by simp, by simp, fun g => by rw [State.endTest_gate]; split <;> rfl, by simp, fun _ => rfl⟩
  times := ⟨by simp, by simp, by simp, by simp⟩
  race := .inl (by simp)
  raised := by simp

/-! ### Entrants -/

theorem State.retireEntrant_racesOn (s : State) (i : Slot) : s.RacesOn (s.retireEntrant i) := by
  refine .trans (.of_fields ?_) (State.checkFinished_racesOn _)
  simp

theorem State.leaveStandings_gate (s : State) (i : Slot) (g : GateNo) : (s.leaveStandings i).gate g = s.gate g := rfl

theorem State.excludeEntrant_racesOn (s : State) (i : Slot) : s.RacesOn (s.excludeEntrant i) := by
  refine .trans (.of_fields ?_) (State.checkFinished_racesOn _)
  simp [State.leaveStandings_gate]

theorem State.amendItems_racesOn (s : State) (i : Slot) (items : Byte) (d : Int) (v : Option Nat)
    (st : Option StationNo) : s.RacesOn (s.amendItems i items d v st) := by
  have laps (u : State) : u.RacesOn (u.amendLaps i d) := by
    unfold State.amendLaps
    exact .ite (.refl u) (.of_fields (by simp))
  have override (u : State) : u.RacesOn (u.amendOverride i v) := .of_fields (by simp [State.amendOverride])
  have station (u : State) : u.RacesOn (u.amendStation i st) := .of_fields (by simp [State.amendStation])
  have flag (u : State) : u.RacesOn (u.amendBlackFlag i) := .ite (.of_fields (by simp)) (.refl u)
  have calls (u : State) : u.RacesOn (u.resetCalls i) := .of_fields (by simp [State.resetCalls])
  have given (u t : State) (h : u.RacesOn t) (b : Bool) : u.RacesOn (if b then t else u) := .ite h (.refl u)
  unfold State.amendItems
  exact (given _ _ (laps _) _).trans <| (given _ _ (override _) _).trans <| (given _ _ (station _) _).trans <|
    (given _ _ (flag _) _).trans (given _ _ (calls _) _)

theorem State.readActivityRequest_racesOn (s : State) : s.RacesOn s.readActivityRequest.1 := by
  have cleared (u : State) (i : Slot) : u.RacesOn (u.modEntrant i fun e => { e with activity := false }) :=
    .of_fields (by simp)
  unfold State.readActivityRequest
  exact State.RacesOn.forSlots cleared s

theorem State.refresh_racesOn (s : State) : s.RacesOn s.refresh := by
  have marked (u : State) (i : Slot) : u.RacesOn (u.setDirty i .raised) := .of_fields (by simp [State.gate])
  have timed (u : State) (t : RawTime) : u.RacesOn { u with ceiling := { u.ceiling with nextRefresh := t } } :=
    .of_fields ⟨rfl, rfl, rfl, rfl, rfl, rfl, rfl, rfl, rfl, rfl, rfl, rfl, fun _ => rfl⟩
  unfold State.refresh
  exact (State.RacesOn.forSlots (fun u i => .ite (marked u i) (.refl u)) s).trans (timed _ _)

end Sys2Proof.Machine
end

section
/-! SUPPORT. Chapter 6, section 6.1: what a command other than a power-on reset makes of the race and of its clocks. -/

namespace Sys2Proof.Machine

/-! ### The rows of the table of section 6.1 -/

/-- What the race `r` is after a command in the race `q`: as it was, or moved along a row of the table of section 6.1,
with what the row does to the times (R102, R108 to R112, R120, R121). -/
inductive Sequencer.Move (q r : Sequencer) : Prop
  /-- The race state stays. -/
  | kept (hstate : r.state = q.state) (hsusp : r.suspStart = q.suspStart) (htimes : q.SameTimes r)
  /-- Setup to Staging, Staging to Countdown, and back to Staging. -/
  | beforeGreen (hq : q.state.afterGreen = false) (hr : r.state.afterGreen = false)
      (hrow : raceMove q.state r.state = true) (htimes : q.SameTimes r)
  /-- Countdown to Running: the clocks begin (R108). -/
  | green (hq : q.state = .countdown) (hr : r.state = .running) (hgreen : r.green = some q.raceClock)
      (hrunning : r.runningClock = 0) (htotal : r.suspTotal = 0)
  /-- Running or Finishing to Suspended, from now (R109). -/
  | suspend (hq : q.state.clockRuns = true) (hr : r.state = .suspended) (hsusp : r.suspStart = some q.raceClock)
      (htimes : q.SameTimes r)
  /-- Suspended to Running or Finishing, or on to Complete, the interval added to S (R111). -/
  | resume (hq : q.state = .suspended) (hr : r.state.clockRuns = true ∨ r.state = .complete)
      (hgreen : r.green = q.green) (hrunning : r.runningClock = q.runningClock)
      (htotal : ∀ b ∈ q.suspStart, r.suspTotal = q.suspTotal + (q.raceClock - b))
  /-- To Finishing or Complete (R117, R119, R120). -/
  | finish (hrow : raceMove q.state r.state = true)
      (hr : r.state = .complete ∨ q.state.clockRuns = true ∧ r.state = .finishing) (htimes : q.SameTimes r)
  /-- A race reset (R121). -/
  | reset (hr : r.state = .setup) (hgreen : r.green = none) (hrunning : r.runningClock = 0)

/-- A change of race state is a row of the table, Finishing and Complete taken together where they follow at once. -/
theorem Sequencer.Move.row {q r : Sequencer} (h : q.Move r) (hne : r.state ≠ q.state) :
    raceMove q.state r.state = true := by
  cases h with
  | kept hstate => exact absurd hstate hne
  | beforeGreen _ _ hrow => exact hrow
  | green hq hr => rw [hq, hr]; rfl
  | suspend hq hr => rcases (RaceState.clockRuns_iff _).mp hq with hq | hq <;> rw [hq, hr] <;> rfl
  | resume hq hr =>
    rw [RaceState.clockRuns_iff] at hr
    rcases hr with (hr | hr) | hr <;> rw [hq, hr] <;> rfl
  | finish hrow => exact hrow
  | reset hr => rw [hr]; cases q.state <;> rfl

theorem RaceState.towardsFinish_raceMove {a b : RaceState} (h : a.towardsFinish b = true) :
    raceMove a b = true ∧ (b = .complete ∨ a.clockRuns = true ∧ b = .finishing) := by
  revert h
  cases a <;> cases b <;> decide

/-! ### What a command does to the race -/

/-- `t` comes of `s` by a command other than a power-on reset, as far as the waiting commands, the race clock and the
race are concerned; RACE is raised where the race state changes (R171). -/
structure State.Moves (s t : State) : Prop where
  pending : t.pending = s.pending
  clock : t.race.raceClock = s.race.raceClock
  move : s.race.Move t.race
  raised : t.race.state ≠ s.race.state → t.attention.race = true

/-- A change of race state with RACE raised. -/
theorem State.Moves.raising {s t : State} (hpending : t.pending = s.pending) (hclock : t.race.raceClock = s.race.raceClock)
    (hmove : s.race.Move t.race) (hraised : t.attention.race = true) : s.Moves t :=
  ⟨hpending, hclock, hmove, fun _ => hraised⟩

theorem State.RacesOn.moves {s t : State} (h : s.RacesOn t) : s.Moves t where
  pending := h.pending
  clock := h.times.clock
  move := by
    rcases h.race with ⟨hstate, hsusp⟩ | ⟨hmove, -⟩
    · exact .kept hstate hsusp h.times
    · obtain ⟨hrow, hr⟩ := RaceState.towardsFinish_raceMove hmove
      exact .finish hrow hr h.times
  raised hne := by
    rcases h.race with ⟨hstate, -⟩ | ⟨-, hrace⟩
    · exact absurd hstate hne
    · exact hrace

/-- A race that goes on after a move has moved the same way, if it is in the state the move brought it to. -/
theorem State.Moves.congr {s t u : State} (h : s.Moves t) (hpending : u.pending = t.pending) (hrace : u.race = t.race)
    (hraised : u.attention.race = t.attention.race) : s.Moves u := by
  obtain ⟨hp, hc, hm, hr⟩ := h
  exact ⟨hpending.trans hp, hrace ▸ hc, hrace ▸ hm, by rw [hrace, hraised]; exact hr⟩

theorem State.Moves.refl (s : State) : s.Moves s := (State.RacesOn.refl s).moves

/-! ### The start -/

theorem State.beforeGreen_moves {s t : State} {r : RaceState} (hq : s.race.state.afterGreen = false)
    (hr : r.afterGreen = false) (hrow : raceMove s.race.state r = true) (hpending : t.pending = s.pending)
    (hstate : t.race.state = r) (htimes : s.race.SameTimes t.race) (hraised : t.attention.race = true) : s.Moves t :=
  .raising hpending htimes.clock (.beforeGreen hq (hstate ▸ hr) (hstate ▸ hrow) htimes) hraised

theorem State.stageRequest_moves (s : State) : s.Moves s.stageRequest.1 := by
  unfold State.stageRequest
  split
  · exact .refl s
  · next h =>
    split
    · have hsetup : s.race.state = .setup := by simpa using (not_or.mp h).1
      exact State.beforeGreen_moves (r := .staging) (by rw [hsetup]; rfl) rfl (by rw [hsetup]; rfl) (by simp) (by simp)
        ⟨by simp, by simp, by simp, by simp⟩ (by simp)
    · exact .refl s

theorem State.startRequest_moves (s : State) (delay : Word16) : s.Moves (s.startRequest delay).1 := by
  unfold State.startRequest
  split
  · exact .refl s
  · next h =>
    have hstaging : s.race.state = .staging := by simpa using h
    have started : s.Moves (s.startCountdown delay.toNat) :=
      State.beforeGreen_moves (r := .countdown) (by rw [hstaging]; rfl) rfl (by rw [hstaging]; rfl)
        (by simp [State.startCountdown]) (by simp [State.startCountdown])
        ⟨by simp [State.startCountdown], by simp [State.startCountdown], by simp [State.startCountdown],
          by simp [State.startCountdown]⟩ (by simp [State.startCountdown])
    split
    · exact .refl s
    · split
      · exact .refl s
      · rw [State.accept_fst]; exact started

@[simp] theorem State.green_attention (s : State) : s.green.attention.race = true := by simp [State.green]

theorem State.green_moves {s : State} (h : s.race.state = .countdown) : s.Moves s.green := by
  obtain ⟨hgreen, hrunning, htotal, -⟩ := s.green_times
  exact .raising (by simp) (by simp) (.green h (by simp) hgreen hrunning htotal) (by simp)

theorem State.stepCountdown_moves {s : State} (c : Countdown) (h : s.race.state = .countdown) :
    s.Moves (s.stepCountdown c) := by
  unfold State.stepCountdown
  split
  · exact State.green_moves h
  · split
    · exact ⟨rfl, rfl, .kept rfl rfl ⟨rfl, rfl, rfl, rfl⟩, fun hne => absurd rfl hne⟩
    · split
      · exact State.green_moves h
      · exact ⟨rfl, rfl, .kept rfl rfl ⟨rfl, rfl, rfl, rfl⟩, fun hne => absurd rfl hne⟩

/-! ### Suspension and resumption -/

theorem State.suspendFrom_moves {s : State} (back : ResumeTo) (why : Reason) (h : s.race.state.clockRuns = true) :
    s.Moves (s.suspendFrom back why) :=
  .raising (by simp) (by simp)
    (.suspend h (by simp) (by simp [State.suspendFrom]) ⟨by simp, by simp, by simp, by simp⟩) (by simp [State.suspendFrom])

theorem State.suspensionCause_moves (s : State) (why : Reason) : s.Moves (s.suspensionCause why) := by
  rcases s.suspensionCause_cases why with ⟨hrace, h⟩ | ⟨hrace, h⟩ | ⟨hrace, h⟩ | ⟨-, h⟩ <;> rw [h]
  · exact State.suspendFrom_moves _ why (by rw [hrace]; rfl)
  · exact State.suspendFrom_moves _ why (by rw [hrace]; rfl)
  · exact State.beforeGreen_moves (r := .staging) (by rw [hrace]; rfl) rfl (by rw [hrace]; rfl) (by simp) (by simp)
      ⟨by simp, by simp, by simp, by simp⟩ (by simp [State.abortStart])
  · exact .refl s

/-- The race state an accepted RESUME comes to (R111, R119). -/
theorem State.resumeRace_state (s : State) (on : Bool) :
    (s.resumeRace on).race.state.clockRuns = true ∨ (s.resumeRace on).race.state = .complete := by
  unfold State.resumeRace
  dsimp only
  generalize hu : State.recomputeAll _ = u
  have hstate : u.race.state.clockRuns = true := by
    rw [← hu]
    cases s.race.resume.getD .running <;> simp [ResumeTo.race, RaceState.clockRuns]
  rcases u.checkFinished_cases with ⟨-, -, h⟩ | ⟨-, h⟩ <;> rw [h]
  · exact .inr (by simp)
  · exact .inl hstate

/-- What an accepted RESUME adds to S, and that it raises RACE (R111, R171). -/
theorem State.resumeRace_total (s : State) (on : Bool) :
    (∀ b ∈ s.race.suspStart, (s.resumeRace on).race.suspTotal = s.race.suspTotal + (s.race.raceClock - b))
      ∧ (s.resumeRace on).attention.race = true := by
  unfold State.resumeRace
  dsimp only
  constructor
  · intro b hb
    rw [Option.mem_def.mp hb]
    simp
  · generalize hu : State.recomputeAll _ = u
    have hraised : u.attention.race = true := by rw [← hu]; simp
    exact u.checkFinished_racesOn.raised hraised

theorem State.resumeRace_moves {s : State} (on : Bool) (h : s.race.state = .suspended) : s.Moves (s.resumeRace on) := by
  obtain ⟨htotal, hraised⟩ := s.resumeRace_total on
  exact .raising (by simp) (by simp) (.resume h (s.resumeRace_state on) (by simp) (by simp) htotal) hraised

theorem State.resumeRequest_moves (s : State) (value : Byte) : s.Moves (s.resumeRequest value).1 := by
  unfold State.resumeRequest
  split
  · exact .refl s
  · next h =>
    split
    · exact .refl s
    · split
      · exact .refl s
      · rw [State.accept_fst]; exact State.resumeRace_moves _ (by simpa using h)

/-! ### The end, and a race reset -/

theorem State.endRace_moves {s : State} (t : RunTime) (h : raceMove s.race.state .complete = true) :
    s.Moves (s.endRace t) :=
  .raising (by simp) (by simp)
    (.finish (by simpa using h) (.inl (by simp)) ⟨by simp, by simp, by simp, by simp⟩) (by simp [State.endRace])

theorem State.endRequest_moves (s : State) : s.Moves s.endRequest.1 := by
  unfold State.endRequest
  split
  · next h =>
    rw [State.accept_fst]
    exact State.endRace_moves _ (by rcases h with h | h | h <;> rw [h] <;> rfl)
  · exact .refl s

theorem Gate.reconnect_entry (g : Gate) (r : TestResult) : (g.reconnect r).entry = g.entry := by
  unfold Gate.reconnect
  split <;> rfl

theorem State.abortTest_entry (s : State) (g : GateNo) : (s.abortTest.gate g).entry = (s.gate g).entry := by
  unfold State.abortTest
  split
  · rw [State.watchBlind_gate]
    simpa [State.gate] using Gate.reconnect_entry _ _
  · rfl

theorem State.abortTest_testStart (s : State) : s.abortTest.testStart = none := by
  unfold State.abortTest
  split
  · rfl
  · next h => simpa using h

theorem State.raceReset_moves (s : State) : s.Moves s.raceReset :=
  .raising (by simp [State.raceReset]) (by simp [State.raceReset, Sequencer.raceReset])
    (.reset (by simp [State.raceReset, Sequencer.raceReset, Sequencer.atReset])
      (by simp [State.raceReset, Sequencer.raceReset, Sequencer.atReset])
      (by simp [State.raceReset, Sequencer.raceReset, Sequencer.atReset])) (by simp [State.raceReset])

end Sys2Proof.Machine
end

section
/-! SUPPORT. Chapter 6: what every command makes of the race, of its clocks and of the configuration (R101, R104, section
6.1). -/

namespace Sys2Proof.Machine

/-- `t` comes of `s` by a command other than a power-on reset, as far as the race and the configuration are concerned:
outside Setup the configuration stays (R104). -/
structure State.Goes (s t : State) : Prop where
  moves : s.Moves t
  config : s.race.state ≠ .setup → s.SameConfig t

theorem State.RacesOn.goes {s t : State} (h : s.RacesOn t) : s.Goes t := ⟨h.moves, fun _ => h.config⟩

theorem State.Goes.refl (s : State) : s.Goes s := (State.RacesOn.refl s).goes

/-- What the link and the outputs come to does not matter. -/
theorem State.Goes.linked {s t : State} (h : s.Goes t) (l : CommandLink) (p : Pins) :
    s.Goes { t with link := l, pins := p } :=
  ⟨h.moves.congr rfl rfl rfl, fun hs => (h.config hs).trans ⟨rfl, rfl, fun _ => rfl, rfl, id⟩⟩

/-- Work after a move that leaves the race and the configuration alone. -/
theorem State.Goes.then_fields {s t u : State} (h : s.Goes t)
    (hu : u.pending = t.pending ∧ u.race = t.race ∧ u.attention.race = t.attention.race ∧ u.cfg = t.cfg
      ∧ u.callTable = t.callTable ∧ u.testStart = t.testStart ∧ u.gates = t.gates) : s.Goes u := by
  obtain ⟨hpending, hrace, hraised, hcfg, hcalls, htest, hgates⟩ := hu
  refine ⟨h.moves.congr hpending hrace hraised, fun hs => (h.config hs).trans ⟨hcfg, hcalls, ?_, ?_, ?_⟩⟩
  · intro g; simp [State.gate, hgates]
  · rw [hrace]
  · exact htest.trans

/-- A state that goes on from another with the same race and configuration. -/
theorem State.Goes.of_fields {r s t : State} (h : r.Goes t)
    (hs : r.pending = s.pending ∧ r.race = s.race ∧ r.cfg = s.cfg ∧ r.callTable = s.callTable
      ∧ r.testStart = s.testStart ∧ r.gates = s.gates) : s.Goes t := by
  obtain ⟨hpending, hrace, hcfg, hcalls, htest, hgates⟩ := hs
  obtain ⟨⟨hp, hc, hm, hr⟩, hconfig⟩ := h
  rw [hrace] at hc hm hr hconfig
  refine ⟨⟨hp.trans hpending, hc, hm, hr⟩, fun h => .trans ⟨hcfg, hcalls, ?_, by rw [hrace], ?_⟩ (hconfig h)⟩
  · intro g; simp [State.gate, hgates]
  · exact htest.trans

/-- An operation on what is neither the race, the gates nor the configuration. -/
theorem State.RacesOn.still {s t : State}
    (h : t.pending = s.pending ∧ t.race = s.race ∧ t.attention.race = s.attention.race ∧ t.cfg = s.cfg
      ∧ t.callTable = s.callTable ∧ t.testStart = s.testStart ∧ t.gates = s.gates) : s.RacesOn t := by
  obtain ⟨hpending, hrace, hraised, hcfg, hcalls, htest, hgates⟩ := h
  exact .of_fields (by simp [State.gate, hpending, hrace, hraised, hcfg, hcalls, htest, hgates])

theorem State.Goes.still {s t : State}
    (h : t.pending = s.pending ∧ t.race = s.race ∧ t.attention.race = s.attention.race ∧ t.cfg = s.cfg
      ∧ t.callTable = s.callTable ∧ t.testStart = s.testStart ∧ t.gates = s.gates) : s.Goes t :=
  (State.RacesOn.still h).goes

/-! ### The requests -/

theorem State.sameConfig_of_fields {s t : State}
    (h : t.cfg = s.cfg ∧ t.callTable = s.callTable ∧ t.gates = s.gates ∧ t.race.powerSetting = s.race.powerSetting
      ∧ t.testStart = s.testStart) : s.SameConfig t := by
  obtain ⟨hcfg, hcalls, hgates, hpower, htest⟩ := h
  exact ⟨hcfg, hcalls, fun g => by simp [State.gate, hgates], hpower, htest.trans⟩

theorem State.raceReset_sameConfig (s : State) : s.SameConfig s.raceReset where
  cfg := by simp [State.raceReset]
  callTable := by simp [State.raceReset]
  entry g := by simpa [State.raceReset, State.gate] using s.abortTest_entry g
  power := by simp [State.raceReset, Sequencer.raceReset]
  test _ := by simp [State.raceReset, s.abortTest_testStart]

/-- A change that leaves the race and its clocks alone. -/
theorem State.Moves.of_fields {s t : State}
    (h : t.pending = s.pending ∧ t.race.state = s.race.state ∧ t.race.suspStart = s.race.suspStart
      ∧ t.race.raceClock = s.race.raceClock ∧ t.race.green = s.race.green ∧ t.race.suspTotal = s.race.suspTotal
      ∧ t.race.runningClock = s.race.runningClock) : s.Moves t := by
  obtain ⟨hpending, hstate, hsusp, hclock, hgreen, htotal, hrunning⟩ := h
  exact ⟨hpending, hclock, .kept hstate hsusp ⟨hclock, hgreen, htotal, hrunning⟩, fun h => absurd hstate h⟩

/-- A configuring request changes the configuration in Setup alone, and never the race (R104). -/
theorem State.locked_goes {s : State} {r : State × Answer} (hlocked : s.race.state ≠ .setup → r = s.refuse .wrongState)
    (hmoves : s.Moves r.1) : s.Goes r.1 :=
  ⟨hmoves, fun h => by rw [hlocked h]; exact .refl s⟩



theorem State.configCallRequest_locked {s : State} (cls kind hold deadline conversion level duration laps : Byte)
    (h : s.race.state ≠ .setup) :
    s.configCallRequest cls kind hold deadline conversion level duration laps = s.refuse .wrongState := by
  simp [State.configCallRequest, h]

theorem State.configRaceRequest_locked {s : State} (w : RaceWords) (h : s.race.state ≠ .setup) :
    s.configRaceRequest w = s.refuse .wrongState := by
  simp [State.configRaceRequest, h]

theorem State.powerRequest_locked {s : State} (value : Byte) (h : s.race.state ≠ .setup) :
    s.powerRequest value = s.refuse .wrongState := by
  simp [State.powerRequest, h]

theorem State.selfTestRequest_locked {s : State} (h : s.race.state ≠ .setup) :
    s.selfTestRequest = s.refuse .wrongState := by
  simp [State.selfTestRequest, h]

theorem State.configGateRequest_goes (s : State) (gate kind lane boundary sector : Byte) (offset : Word16) :
    s.Goes (s.configGateRequest gate kind lane boundary sector offset).1 := by
  refine State.locked_goes (fun h => s.configGateRequest_locked gate kind lane boundary sector offset (.inl h)) ?_
  unfold State.configGateRequest
  (repeat' split) <;> exact .of_fields (by simp)

theorem State.configCallRequest_goes (s : State) (cls kind hold deadline conversion level duration laps : Byte) :
    s.Goes (s.configCallRequest cls kind hold deadline conversion level duration laps).1 := by
  refine State.locked_goes (s.configCallRequest_locked cls kind hold deadline conversion level duration laps) ?_
  unfold State.configCallRequest
  (repeat' split) <;> exact .of_fields (by simp)

theorem State.configRaceRequest_goes (s : State) (w : RaceWords) : s.Goes (s.configRaceRequest w).1 := by
  refine State.locked_goes (s.configRaceRequest_locked w) ?_
  unfold State.configRaceRequest
  (repeat' split) <;> exact .of_fields (by simp)

theorem State.powerRequest_goes (s : State) (value : Byte) : s.Goes (s.powerRequest value).1 := by
  refine State.locked_goes (s.powerRequest_locked value) ?_
  unfold State.powerRequest
  (repeat' split) <;> exact .of_fields (by simp)

theorem State.discardBurst_racesOn (s : State) (g : GateNo) : s.RacesOn (s.discardBurst g) := by
  unfold State.discardBurst
  split
  · dsimp only
    exact .ite (.trans (s.modDecoder_racesOn g _) (State.departures_racesOn _ g _)) (s.modDecoder_racesOn g _)
  · exact .refl s

theorem Gate.startTest_entry (g : Gate) : g.startTest.entry = g.entry := by
  unfold Gate.startTest
  split <;> rfl

theorem State.startTest_moves (s : State) : s.Moves s.startTest := by
  have begun (u : State) (g : GateNo) : u.RacesOn (u.beginTest g) := by
    unfold State.beginTest
    exact .trans (.ite (.refl u) (u.discardBurst_racesOn g)) (State.modGate_racesOn _ g (Gate.startTest_entry _))
  rw [State.startTest_eq]
  exact (State.RacesOn.forSlots begun s).moves.congr (by simp [State.testFromNow]; rfl) (by simp [State.testFromNow]; rfl)
    (by simp [State.testFromNow]; rfl)

theorem State.selfTestRequest_goes (s : State) : s.Goes s.selfTestRequest.1 := by
  refine State.locked_goes s.selfTestRequest_locked ?_
  unfold State.selfTestRequest
  split
  · exact .refl s
  · rw [State.accept_fst]; exact s.startTest_moves

theorem State.stageRequest_goes (s : State) : s.Goes s.stageRequest.1 := by
  refine ⟨s.stageRequest_moves, fun _ => ?_⟩
  unfold State.stageRequest
  (repeat' split) <;> exact State.sameConfig_of_fields (by simp)

theorem State.startRequest_goes (s : State) (delay : Word16) : s.Goes (s.startRequest delay).1 := by
  refine ⟨s.startRequest_moves delay, fun _ => ?_⟩
  unfold State.startRequest
  (repeat' split) <;> exact State.sameConfig_of_fields (by simp [State.startCountdown])

theorem State.suspensionCause_goes (s : State) (why : Reason) : s.Goes (s.suspensionCause why) :=
  ⟨s.suspensionCause_moves why, fun _ => ⟨by simp, by simp, by simp, by simp, by simp⟩⟩

theorem State.suspendRequest_goes (s : State) : s.Goes s.suspendRequest.1 := by
  unfold State.suspendRequest
  split
  · rw [State.accept_fst]; exact s.suspensionCause_goes .host
  · exact .refl s

theorem State.resumeRequest_goes (s : State) (value : Byte) : s.Goes (s.resumeRequest value).1 := by
  refine ⟨s.resumeRequest_moves value, fun _ => ?_⟩
  have resumed (on : Bool) : s.SameConfig (s.resumeRace on) := ⟨by simp, by simp, by simp, by simp, by simp⟩
  unfold State.resumeRequest
  split
  · exact .refl s
  · split
    · exact .refl s
    · split
      · exact .refl s
      · rw [State.accept_fst]; exact resumed _

theorem State.endRace_sameConfig (s : State) (t : RunTime) : s.SameConfig (s.endRace t) :=
  ⟨by simp, by simp, by simp, by simp, by simp⟩

theorem State.endRequest_goes (s : State) : s.Goes s.endRequest.1 := by
  refine ⟨s.endRequest_moves, fun _ => ?_⟩
  unfold State.endRequest
  split
  · rw [State.accept_fst]; exact s.endRace_sameConfig _
  · exact .refl s

theorem State.vacate_racesOn (s : State) (i : Slot) : s.RacesOn (s.vacate i) := by
  refine .of_fields ?_
  simp [State.vacate, State.gate]

theorem State.retireRequest_racesOn (s : State) (code : Byte) : s.RacesOn (s.retireRequest code).1 := by
  unfold State.retireRequest
  split
  · exact .refl s
  · split
    · rw [State.accept_fst]; exact s.vacate_racesOn _
    · split
      · exact .refl s
      · rw [State.accept_fst]; exact s.retireEntrant_racesOn _

theorem State.excludeRequest_racesOn (s : State) (code : Byte) : s.RacesOn (s.excludeRequest code).1 := by
  unfold State.excludeRequest
  split
  · exact .refl s
  · split
    · exact .refl s
    · rw [State.accept_fst]; exact s.excludeEntrant_racesOn _

/-- AMEND leaves the state as it is, or carries its items out for one entrant (R47, R48). -/
theorem State.amendRequest_cases (s : State) (code items : Byte) (delta : Word16) (override station : Byte) :
    (s.amendRequest code items delta override station).1 = s
      ∨ ∃ i st, (s.amendRequest code items delta override station).1
        = s.amendItems i items delta.toInt (overrideOf override) st := by
  unfold State.amendRequest
  split
  · exact .inl rfl
  split
  · exact .inl rfl
  split
  · exact .inl rfl
  split
  · exact .inl rfl
  next st _ =>
    cases st with
    | none => exact .inr ⟨_, _, rfl⟩
    | some n =>
      dsimp only
      split
      · exact .inl rfl
      · exact .inr ⟨_, _, rfl⟩

theorem State.amendRequest_racesOn (s : State) (code items : Byte) (delta : Word16) (override station : Byte) :
    s.RacesOn (s.amendRequest code items delta override station).1 := by
  rcases s.amendRequest_cases code items delta override station with h | ⟨i, st, h⟩
  · rw [h]
    exact .refl s
  · rw [h]
    exact s.amendItems_racesOn ..

theorem State.assignRequest_racesOn (s : State) (tag code : Byte) : s.RacesOn (s.assignRequest tag code).1 := by
  have settled (u : State) : u.RacesOn (u.settleEntry tag) := .of_fields (by simp [State.settleEntry, State.gate])
  unfold State.assignRequest
  split
  · exact .refl s
  split
  · exact .refl s
  next i hi =>
    have late (p : Pass) (a : RunTime) (o : LateOutcome) :
        s.RacesOn ((s.deliverLate i p a o).settleEntry tag).accept.1 := (s.deliverLate_racesOn i p a o).trans (settled _)
    split
    · exact .refl s
    split
    · exact .refl s
    split
    · unfold State.assignLate
      split
      · exact .refl s
      · exact .refl s
      all_goals exact late _ _ _
    · exact (s.deliver_racesOn i _).trans (settled _)

theorem State.resetRaceRequest_goes (s : State) : s.Goes s.resetRaceRequest.1 := by
  rw [State.resetRaceRequest, State.accept_fst]
  exact ⟨s.raceReset_moves, fun _ => s.raceReset_sameConfig⟩

/-- READ_ATTENTION clears causes and nothing else (R173). -/
theorem State.readAttentionRequest_goes (s : State) : s.Goes s.readAttentionRequest.1 := by
  unfold State.readAttentionRequest
  split
  · exact .refl s
  · exact ⟨.of_fields ⟨rfl, rfl, rfl, rfl, rfl, rfl, rfl⟩, fun _ => State.sameConfig_of_fields ⟨rfl, rfl, rfl, rfl, rfl⟩⟩

theorem State.joinStandings_gate (s : State) (i : Slot) (g : GateNo) : (s.joinStandings i).gate g = s.gate g := rfl

/-! ### Events -/

theorem Gate.ordinaryCell_entry (g : Gate) (lvl : Level) : (g.ordinaryCell lvl).entry = g.entry := by
  have counted : (g.countCell lvl).entry = g.entry := rfl
  unfold Gate.ordinaryCell
  dsimp only
  split
  · split <;> exact counted
  · exact counted
  · exact counted

theorem State.timeTargetDue_running {s : State} (h : s.timeTargetDue = true) : s.race.state = .running := by
  simp only [State.timeTargetDue, Bool.and_eq_true, beq_iff_eq] at h
  exact h.1.2

theorem State.windowDue_iff {s : State} {d : RunTime} :
    s.windowDue = some d ↔ s.race.state = .finishing ∧ s.race.finishDeadline = some d ∧ d ≤ s.race.runningClock := by
  unfold State.windowDue
  split
  · next hrace hdue => simp [hrace, hdue]; grind
  · next h => simp; grind

theorem State.windowDue_raceMove {s : State} {d : RunTime} (h : s.windowDue = some d) :
    raceMove s.race.state .complete = true := by
  obtain ⟨hrace, -⟩ := State.windowDue_iff.mp h
  rw [hrace]; rfl

theorem State.capDue_raceMove {s : State} (h : s.capDue = true) : raceMove s.race.state .complete = true := by
  simp only [State.capDue, Bool.and_eq_true] at h
  rcases (RaceState.clockRuns_iff _).mp h.1 with hrace | hrace <;> rw [hrace] <;> rfl

theorem State.endRace_goes {s : State} (t : RunTime) (h : raceMove s.race.state .complete = true) :
    s.Goes (s.endRace t) := ⟨State.endRace_moves t h, fun _ => s.endRace_sameConfig t⟩

theorem State.stepCountdown_goes {s : State} {c : Countdown} (h : s.stepDue = some c) : s.Goes (s.stepCountdown c) := by
  have hrace : s.race.state = .countdown := by
    unfold State.stepDue at h
    split at h
    · assumption
    · cases h
  refine ⟨State.stepCountdown_moves c hrace, fun _ => ?_⟩
  unfold State.stepCountdown
  (repeat' split) <;> exact ⟨by simp, by simp, fun g => by simp [State.gate], by simp, by simp⟩

theorem State.callAction_goes (s : State) : s.Goes s.callAction := by
  unfold State.callAction
  split
  · exact .refl s
  · exact (State.RacesOn.of_fields (by simp)).goes
  · exact s.suspensionCause_goes _

theorem State.countPress_goes {s t : State} (h : s.Goes t) (n : StationNo) : s.Goes (t.countPress n) := by
  refine h.then_fields ?_
  unfold State.countPress
  dsimp only
  (repeat' split) <;> simp

end Sys2Proof.Machine
end

section
/-! SUPPORT. Chapter 6: every command ends with its outputs driven, and moves the race as section 6.1 has it. -/

namespace Sys2Proof.Machine

/-- Every command but the check byte of a frame ends with the outputs driven; if it is no power-on reset, the race moves
along the table, and outside Setup the configuration stays. -/
theorem exec_goes {c : Instr} (s : State) (hc : ∀ b, c ≠ .commandFrame b) (hpower : powersOn c = false) :
    ∃ u, exec c s = u.done ∧ s.Goes u := by
  have done {u : State} (h : s.Goes u) : ∃ t, u.done = t.done ∧ s.Goes t := ⟨u, rfl, h⟩
  have ite_done {u : State} {p : Prop} [Decidable p] (h : s.Goes u) :
      ∃ t, (if p then u.done else s.done) = t.done ∧ s.Goes t := by
    split
    · exact done h
    · exact done (.refl s)
  have answered {r : State × Answer} (h : s.Goes r.1) : ∃ t, answered r = t.done ∧ s.Goes t :=
    ⟨respond r, rfl, h.linked _ r.1.pins⟩
  cases c
  case powerUp | resetPin | resetPartReboot => cases hpower
  case commandFrame b => exact absurd rfl (hc b)
  case status | resetPart => exact answered (.refl s)
  case setMask | ackStations => exact answered (.still ⟨rfl, rfl, rfl, rfl, rfl, rfl, rfl⟩)
  case lookup | lookupSlot | standings =>
    refine answered ?_
    simp only [State.lookupRequest, State.lookupSlotRequest, State.standingsRequest]
    (repeat' split) <;> exact .refl s
  case readAttention => exact answered s.readAttentionRequest_goes
  case configGate => exact answered (s.configGateRequest_goes ..)
  case configCall => exact answered (s.configCallRequest_goes ..)
  case configRace w => exact answered (s.configRaceRequest_goes w)
  case power value => exact answered (s.powerRequest_goes value)
  case selfTest => exact answered s.selfTestRequest_goes
  case enter =>
    refine answered (State.RacesOn.goes ?_)
    unfold State.enterRequest
    (repeat' split) <;> exact .of_fields (by simp [State.enterCar, State.joinStandings_gate])
  case amend => exact answered (s.amendRequest_racesOn ..).goes
  case retire code => exact answered (s.retireRequest_racesOn code).goes
  case exclude code => exact answered (s.excludeRequest_racesOn code).goes
  case call | waive =>
    refine answered (State.RacesOn.goes ?_)
    simp only [State.callRequest, State.waiveRequest]
    (repeat' split) <;> exact .of_fields (by simp)
  case readPasses | discard =>
    refine answered (State.RacesOn.goes ?_)
    simp only [State.readPassesRequest, State.discardRequest]
    (repeat' split) <;> exact .still ⟨rfl, rfl, rfl, rfl, rfl, rfl, rfl⟩
  case assign tag code => exact answered (s.assignRequest_racesOn tag code).goes
  case stage => exact answered s.stageRequest_goes
  case start delay => exact answered (s.startRequest_goes delay)
  case yellow | zone =>
    refine answered (State.RacesOn.goes ?_)
    simp only [State.yellowRequest, State.zoneRequest]
    (repeat' split) <;> exact .of_fields (by simp)
  case suspend => exact answered s.suspendRequest_goes
  case resume value => exact answered (s.resumeRequest_goes value)
  case endRace => exact answered s.endRequest_goes
  case resetRace => exact answered s.resetRaceRequest_goes
  case readPenaltyActivity => exact answered s.readActivityRequest_racesOn.goes
  case rxGapTimeout | rxByteError | commandByte =>
    exact ite_done (.still ⟨rfl, rfl, rfl, rfl, rfl, rfl, rfl⟩)
  case gateUnblind feed =>
    exact ite_done ((s.modGate_racesOn _ rfl).trans (State.watchBlind_racesOn _)).goes
  case blindedSummaryEdge => exact ite_done (.still ⟨rfl, rfl, rfl, rfl, rfl, rfl, rfl⟩)
  case beaconFrame feed lvl =>
    exact ite_done ((s.modGate_racesOn _ rfl).trans (State.frameEvent_racesOn _ _ _)).goes
  case selfTestEnd => exact ite_done s.endTest_racesOn.goes
  case sightingDeadlineExpiry | stopGoHoldExpiry | powerHoldExpiry =>
    exact ite_done (State.RacesOn.of_fields (by simp)).goes
  case timeTargetReached =>
    simp only [exec, execTimeTargetReached]
    split
    · next h => exact done (State.enterFinishing_racesOn (State.timeTargetDue_running h)).goes
    · exact done (.refl s)
  case linkHoldExpiry =>
    refine ite_done (State.Goes.of_fields (State.suspensionCause_goes _ _) ?_)
    exact ⟨rfl, rfl, rfl, rfl, rfl, rfl⟩
  case runningClockCap =>
    simp only [exec, execRunningClockCap]
    split
    · next h => exact done (State.endRace_goes _ (State.capDue_raceMove h))
    · exact done (.refl s)
  case ceilingRefresh => exact ite_done s.refresh_racesOn.goes
  case burstGapExpiry g => exact ite_done (s.closeOpen_racesOn g).goes
  case pauseByte | resumingByte => exact done (State.RacesOn.of_fields (by simp)).goes
  case returnByteError => exact done (.refl s)
  case gateBlind feed =>
    exact ite_done ((s.modGate_racesOn _ rfl).trans ((State.watchBlind_racesOn _).trans
      (State.closeOpen_racesOn _ feed.gate))).goes
  case responseStart | responseEnd | ceilingFrameEnd =>
    simp only [exec, execResponseStart, execResponseEnd, execCeilingFrameEnd]
    split
    · exact ite_done (.still ⟨rfl, rfl, rfl, rfl, rfl, rfl, rfl⟩)
    all_goals exact done (.refl s)
  case gateCell =>
    simp only [exec, execGateCell]
    split
    · exact done (s.modGate_racesOn _ (Gate.ordinaryCell_entry _ _)).goes
    · exact done (s.modGate_racesOn _ rfl).goes
    all_goals exact done (.refl s)
  case ceilingFrameStart =>
    simp only [exec, execCeilingFrameStart]
    split
    · exact done (State.RacesOn.of_fields (by simp)).goes
    · exact done (.refl s)
  case countdownStep =>
    simp only [exec, execCountdownStep]
    split
    · next h => exact done (State.stepCountdown_goes h)
    · exact done (.refl s)
  case finishWindowExpiry =>
    simp only [exec, execFinishWindowExpiry]
    split
    · next h => exact done (State.endRace_goes _ (State.windowDue_raceMove h))
    · exact done (.refl s)
  case burstDwellExpiry g =>
    simp only [exec, execBurstDwellExpiry]
    split
    · exact done (s.closeBurst_racesOn g _).goes
    · exact done (.refl s)
  case claimWaitExpiry =>
    simp only [exec, execClaimWaitExpiry]
    split
    · exact ite_done (.still ⟨rfl, rfl, rfl, rfl, rfl, rfl, rfl⟩)
    · exact done (.refl s)
  case stationRelease | redRelease | powerSenseRestore =>
    simp only [exec, execStationRelease, execRedRelease, execPowerSenseRestore]
    split <;> exact done (.still ⟨rfl, rfl, rfl, rfl, rfl, rfl, rfl⟩)
  case redPress | powerSenseLoss =>
    simp only [exec, execRedPress, execPowerSenseLoss]
    split
    · exact done (.still ⟨rfl, rfl, rfl, rfl, rfl, rfl, rfl⟩)
    · exact done (State.Goes.of_fields (State.suspensionCause_goes _ _) ⟨rfl, rfl, rfl, rfl, rfl, rfl⟩)
  case stationPress =>
    simp only [exec, execStationPress]
    split
    · exact done (.still ⟨rfl, rfl, rfl, rfl, rfl, rfl, rfl⟩)
    · split
      · refine done (State.countPress_goes (State.Goes.of_fields (State.callAction_goes _) ?_) _)
        exact ⟨rfl, rfl, rfl, rfl, rfl, rfl⟩
      · exact done (.still ⟨rfl, rfl, rfl, rfl, rfl, rfl, rfl⟩)

end Sys2Proof.Machine
end

section
/-! SUPPORT. Chapter 6: the check byte of a frame, and with it every command, moves the race as section 6.1 has it. -/

namespace Sys2Proof.Machine

/-- Without its answer a request goes as it does with it. -/
theorem State.Goes.of_respond {s : State} {r : State × Answer} (h : s.Goes (respond r).settle) : s.Goes r.1 :=
  h.linked r.1.link r.1.pins

/-- No request is a power-on reset. -/
theorem powersOn_of_request {c : Instr} (hc : (requestBytes c).isSome = true) : powersOn c = false := by
  cases c
  case powerUp | resetPin | resetPartReboot => cases hc
  all_goals rfl

/-- A request that a frame carries goes as the request does by itself (R178, R179). -/
theorem State.carryOut_goes (s : State) (code : Byte) (body : List Byte) : s.Goes (s.carryOut code body).1 := by
  rcases s.carryOut_command code body with ⟨c, hc, hexec⟩ | h
  · obtain ⟨u, hu, hgoes⟩ := exec_goes (c := c) s (by rintro b rfl; cases hc)
      (powersOn_of_request hc)
    have hfields : (respond (s.carryOut code body)).settle = u.settle := Host.Outcome.next.inj (hexec.symm.trans hu)
    exact .of_respond (hfields ▸ hgoes.linked u.link u.pinsNow)
  · rw [h]; exact .refl s

theorem State.judgeCommand_goes (s : State) (addr len code : Byte) (body : List Byte) (b : Byte) :
    s.Goes (s.judgeCommand addr len code body b) := by
  have carried : s.Goes ((s.setRx .hunt).carryOut code body).1 :=
    ((s.setRx .hunt).carryOut_goes code body).of_fields ⟨rfl, rfl, rfl, rfl, rfl, rfl⟩
  rcases s.judgeCommand_cases addr len code body b with h | h | h <;> rw [h]
  · exact .still ⟨rfl, rfl, rfl, rfl, rfl, rfl, rfl⟩
  · exact carried.linked _ _
  · exact carried

/-- Every command but a power-on reset ends with the outputs driven; the race moves along the table, and outside Setup
the configuration stays. -/
theorem exec_goes_all {c : Instr} (s : State) (hpower : powersOn c = false) : ∃ u : State, exec c s = u.done ∧ s.Goes u := by
  by_cases hc : ∃ b, c = .commandFrame b
  · obtain ⟨b, rfl⟩ := hc
    simp only [exec, execCommandFrame]
    split
    · exact ⟨_, rfl, s.judgeCommand_goes ..⟩
    · exact ⟨s, rfl, .refl s⟩
  · exact exec_goes s (fun b h => hc ⟨b, h⟩) hpower

theorem exec_moves {c : Instr} (s : State) (hpower : powersOn c = false) :
    ∃ t, exec c s = .next t ∧ s.Moves t ∧ (s.race.state ≠ .setup → s.SameConfig t) := by
  obtain ⟨u, hexec, hgoes⟩ := exec_goes_all s hpower
  have hsettled : s.Goes u.settle := hgoes.linked u.link _
  exact ⟨u.settle, hexec, hsettled.moves, hsettled.config⟩

/-- A power-on reset ends with the outputs driven and keeps the waiting commands; the race is that of a part just
powered on (R183). -/
theorem exec_powersOn {c : Instr} (s : State) (hpower : powersOn c = true) :
    ∃ u : State, exec c s = u.done ∧ u.pending = s.pending
      ∧ (u.race = s.race ∨ u.race.state = .setup ∧ u.race.runningClock = 0 ∧ u.race.green = none) := by
  have reset (results : Vector TestResult 24) (straps : BitVec 5) (pins : PinLevels) :
      ∃ u : State, (s.powerOnReset results straps pins).done = u.done ∧ u.pending = s.pending
        ∧ (u.race = s.race ∨ u.race.state = .setup ∧ u.race.runningClock = 0 ∧ u.race.green = none) :=
    ⟨_, rfl, rfl, .inr ⟨rfl, rfl, rfl⟩⟩
  cases c
  case powerUp | resetPin => exact reset _ _ _
  case resetPartReboot =>
    simp only [exec, execResetPartReboot]
    split
    · exact reset _ _ _
    · exact ⟨s, rfl, rfl, .inl rfl⟩
  all_goals cases hpower

/-- Every command ends with the outputs driven. -/
theorem exec_done (c : Instr) (s : State) : ∃ u : State, exec c s = u.done ∧ u.pending = s.pending := by
  by_cases hpower : powersOn c = true
  · obtain ⟨u, hexec, hpending, -⟩ := exec_powersOn s hpower
    exact ⟨u, hexec, hpending⟩
  · obtain ⟨u, hexec, hgoes⟩ := exec_goes_all s (Bool.eq_false_iff.mpr hpower)
    exact ⟨u, hexec, hgoes.moves.pending⟩

/-! ### The obligations -/

/-- Settles O3: the requests and events each come to their end, none touches the queue, and only a power-on reset writes
the race clock. -/
theorem commandsCompleteAndKeepQueue : Obligations.CommandsCompleteAndKeepQueue := by
  intro c s
  obtain ⟨u, hexec, hpending⟩ := exec_done c s
  refine ⟨u.settle, hexec, hpending, fun hpower => ?_⟩
  obtain ⟨t, ht, hmoves, -⟩ := exec_moves s hpower
  rw [hexec, State.done, Host.Outcome.next.injEq] at ht
  rw [ht]
  exact hmoves.clock

/-- A configuring request is refused outside Setup, whatever it carries (R104). -/
theorem exec_configures_locked {c : Instr} {s : State} (hrace : s.race.state ≠ .setup) (hc : configures c = true) :
    exec c s = answered (s.refuse .wrongState) := by
  cases c
  case configGate => exact congrArg answered (s.configGateRequest_locked _ _ _ _ _ _ (.inl hrace))
  case configCall => exact congrArg answered (State.configCallRequest_locked _ _ _ _ _ _ _ _ hrace)
  case configRace => exact congrArg answered (State.configRaceRequest_locked _ hrace)
  case power => exact congrArg answered (State.powerRequest_locked _ hrace)
  case selfTest => exact congrArg answered (State.selfTestRequest_locked hrace)
  all_goals cases hc

/-- Settles O4: the requests that write the configuration are refused outside Setup, and no other command writes it. -/
theorem configurationLockedOutsideSetup : Obligations.ConfigurationLockedOutsideSetup := by
  refine ⟨fun c s hrace hpower => ?_, fun c s hrace hc => State.refuses_of_answered (exec_configures_locked hrace hc)⟩
  obtain ⟨t, hexec, -, hconfig⟩ := exec_moves s hpower
  obtain ⟨hcfg, hcalls, hentry, hsetting, htest⟩ := hconfig hrace
  exact ⟨t, hexec, hcfg, hcalls, hentry, hsetting, htest⟩

/-- Settles O5: each way a command moves the race is a row of the table. -/
theorem raceStateMovesByTable : Obligations.RaceStateMovesByTable := by
  intro c s hpower
  obtain ⟨t, hexec, hmoves, -⟩ := exec_moves s hpower
  exact ⟨t, hexec, fun hne => ⟨hmoves.move.row hne, hmoves.raised hne⟩⟩

/-! ### The clocks -/



/-- A move of the race keeps the running clock in agreement: it begins at green, stands still while the race is
suspended, and the suspended time joins S on the way back (R102, R108, R111, R112). -/
theorem State.Moves.clocksAgree {s t : State} (h : s.Moves t) (hs : s.clocksAgree) : t.clocksAgree := by
  obtain ⟨-, hclock, hmove, -⟩ := h
  obtain ⟨hcap, hbefore, hruns, hsuspended⟩ := hs
  cases hmove with
  | kept hstate hsusp htimes =>
    obtain ⟨-, hgreen, htotal, hrunning⟩ := htimes
    simp only [State.clocksAgree, hstate, hsusp, hclock, hgreen, htotal, hrunning]
    exact ⟨hcap, hbefore, hruns, hsuspended⟩
  | beforeGreen hq hr _ htimes =>
    obtain ⟨-, hgreen, -, hrunning⟩ := htimes
    refine ⟨hrunning ▸ hcap, fun _ => ?_, fun h => ?_, fun h => ?_⟩
    · rw [hrunning, hgreen]; exact hbefore hq
    · rcases (RaceState.clockRuns_iff _).mp h with h | h <;> rw [h] at hr <;> cases hr
    · rw [h] at hr; cases hr
  | green hq hr hgreen hrunning htotal =>
    refine ⟨by simp [hrunning], fun h => ?_, fun _ => ?_, fun h => ?_⟩
    · rw [hr] at h; cases h
    · simp [hgreen, hrunning, htotal, hclock]
    · rw [hr] at h; cases h
  | suspend hq hr hsusp htimes =>
    obtain ⟨-, hgreen, htotal, hrunning⟩ := htimes
    refine ⟨hrunning ▸ hcap, fun h => ?_, fun h => ?_, fun _ => ?_⟩
    · rw [hr] at h; cases h
    · rw [hr] at h; cases h
    · rw [hgreen, hsusp, htotal, hrunning, ← hruns hq, Option.map_eq_bind]; rfl
  | resume hq hr hgreen hrunning htotal =>
    rw [RaceState.clockRuns_iff] at hr
    refine ⟨hrunning ▸ hcap, fun h => ?_, fun _ => ?_, fun h => ?_⟩
    · rcases hr with (hr | hr) | hr <;> rw [hr] at h <;> cases h
    · obtain ⟨g, hg, b, hb, hagree⟩ : ∃ g, s.race.green = some g ∧ ∃ b, s.race.suspStart = some b
          ∧ b - g - s.race.suspTotal = BitVec.ofNat 32 s.race.runningClock := by
        simpa [Option.bind_eq_some_iff] using hsuspended hq
      rw [hgreen, hrunning, hg, Option.map_some, htotal b hb, hclock, ← hagree]
      congr 1
      bv_omega
    · rcases hr with (hr | hr) | hr <;> rw [hr] at h <;> cases h
  | finish _ hr htimes =>
    obtain ⟨-, hgreen, htotal, hrunning⟩ := htimes
    refine ⟨hrunning ▸ hcap, fun h => ?_, fun h => ?_, fun h => ?_⟩
    · rcases hr with hr | ⟨-, hr⟩ <;> rw [hr] at h <;> cases h
    · rcases hr with hr | ⟨hq, -⟩
      · rw [hr] at h; cases h
      · rw [hgreen, htotal, hrunning, hclock]; exact hruns hq
    · rcases hr with hr | ⟨-, hr⟩ <;> rw [hr] at h <;> cases h
  | reset hr hgreen hrunning =>
    refine ⟨by simp [hrunning], fun _ => ⟨hrunning, hgreen⟩, fun h => ?_, fun h => ?_⟩ <;> rw [hr] at h <;> cases h

theorem exec_clocksAgree (c : Instr) {s : State} (hs : s.clocksAgree) : ∃ t, exec c s = .next t ∧ t.clocksAgree := by
  by_cases hpower : powersOn c = true
  · obtain ⟨u, hexec, -, hrace | ⟨hstate, hrunning, hgreen⟩⟩ := exec_powersOn s hpower
    · refine ⟨u.settle, hexec, ?_⟩
      have hagree : u.clocksAgree := by rw [State.clocksAgree, hrace]; exact hs
      exact hagree
    · refine ⟨u.settle, hexec, ?_⟩
      have hagree : u.clocksAgree := by
        simp [State.clocksAgree, hstate, hrunning, hgreen, RaceState.clockRuns]
      exact hagree
  · obtain ⟨t, hexec, hmoves, -⟩ := exec_moves s (Bool.eq_false_iff.mpr hpower)
    exact ⟨t, hexec, hmoves.clocksAgree hs⟩

/-- A part that has nothing due is below the cap of its running clock (R102, R120). -/
theorem State.below_cap {s : State} (h : s.dueEvents = []) (hruns : s.race.state.clockRuns = true) :
    s.race.runningClock < runningCap := by
  have hcap : s.capDue ≠ true := fun hcap => by
    have hmem : Instr.runningClockCap ∈ s.dueEvents := by
      simp only [State.dueEvents, List.mem_append, dueIf, hcap, if_true, List.mem_singleton, or_true, true_or]
    rw [h] at hmem
    cases hmem
  simpa [State.capDue, hruns] using hcap

/-- A tick advances both clocks, or the race clock alone while the running clock stands (R101, R102). -/
theorem State.tick_clocksAgree {s : State} (h : s.dueEvents = []) (hs : s.clocksAgree) : s.tick.clocksAgree := by
  obtain ⟨hcap, hbefore, hruns, hsuspended⟩ := hs
  by_cases hrace : s.race.state.clockRuns = true
  · have hbelow := State.below_cap h hrace
    have hafter : s.race.state.afterGreen = true ∧ s.race.state ≠ .suspended := by
      rcases (RaceState.clockRuns_iff _).mp hrace with hrace | hrace <;> rw [hrace] <;> decide
    obtain ⟨g, hg, hagree⟩ : ∃ g, s.race.green = some g
        ∧ s.race.raceClock - g - s.race.suspTotal = BitVec.ofNat 32 s.race.runningClock := by
      simpa [Option.map_eq_some_iff] using hruns hrace
    have hnext : s.race.raceClock + 1 - g - s.race.suspTotal = BitVec.ofNat 32 (s.race.runningClock + 1) := by
      rw [BitVec.ofNat_add, ← hagree]
      bv_omega
    simpa [State.clocksAgree, State.tick, hrace, hbelow, hafter, hg] using hnext
  · simpa [State.clocksAgree, State.tick, hrace] using ⟨hcap, hbefore, hsuspended⟩

/-- Settles O8: commands move the race and its times together, and a tick comes only below the cap. -/
theorem clocksAgreeKept : Obligations.ClocksAgreeKept := by
  intro s hs
  cases hp : s.pending with
  | cons c rest =>
    have hstep : step s = exec c { s with pending := rest } := by simp [step, hp]
    rw [hstep]
    exact exec_clocksAgree c hs
  | nil =>
    rw [step_of_empty s hp]
    rcases s.idle_cases with ⟨e, l, -, hidle⟩ | ⟨hdue, hidle⟩ <;> rw [hidle]
    · exact exec_clocksAgree e hs
    · exact ⟨_, rfl, State.tick_clocksAgree hdue hs⟩

/-- Settles O2: the part that idles takes the first due event, or ticks. -/
theorem idleStepIsTickOrDueEvent : Obligations.IdleStepIsTickOrDueEvent := by
  refine ⟨fun s hp hdue => ?ticks, fun e l s hp hdue => ?takes⟩
  case ticks =>
    have hstep : step s = .next s.tick.settle := by simp [step, hp, State.idle, hdue, State.done]
    refine ⟨_, hstep, ?_⟩
    have hadvances : (s.race.state.clockRuns && decide (s.race.runningClock < runningCap)) = true
        ↔ (s.race.state = .running ∨ s.race.state = .finishing) ∧ s.race.runningClock < 3600000000 := by
      rw [Bool.and_eq_true, RaceState.clockRuns_iff, decide_eq_true_iff, runningCap]
    simp only [State.settle, State.tick, hadvances]
    rfl
  case takes => simp [step, hp, State.idle, hdue]

end Sys2Proof.Machine
end

section
/-! SUPPORT. Chapter 6, sections 6.5 and 6.6: the outputs follow the state after every step (R122, R123, R172, R176). -/

namespace Sys2Proof.Machine

/-- Every step ends with the outputs driven. -/
theorem step_settled (s : State) : ∃ u : State, step s = .next u.settle := by
  have settled (c : Instr) (s : State) : ∃ u : State, exec c s = .next u.settle := by
    obtain ⟨u, hexec, -⟩ := exec_done c s
    exact ⟨u, hexec⟩
  cases hp : s.pending with
  | cons c rest =>
    have hstep : step s = exec c { s with pending := rest } := by simp [step, hp]
    rw [hstep]
    exact settled c _
  | nil =>
    rw [step_of_empty s hp]
    rcases s.idle_cases with ⟨e, l, -, hidle⟩ | ⟨-, hidle⟩ <;> rw [hidle]
    · exact settled e s
    · exact ⟨_, rfl⟩

/-- The lamps in their order are lit up to as many as are to be lit (R123). -/
theorem State.pinsNow_reds (s : State) :
    [s.pinsNow.red1, s.pinsNow.red2, s.pinsNow.red3, s.pinsNow.red4, s.pinsNow.red5]
      = (List.range 5).map fun k => decide (k < s.redsLit) := rfl

theorem State.pinsNow_green (s : State) :
    s.pinsNow.green = true ↔ s.race.state = .running ∨ s.race.state = .finishing := by
  show s.race.state.greenLit = true ↔ _
  cases s.race.state <;> decide

theorem State.pinsNow_yellow (s : State) :
    s.pinsNow.yellow = true ↔
      s.race.yellow = true ∨ ∃ k : Fin 4, s.race.caution[k].hostFlag = true ∨ s.race.caution[k].holders ≠ [] := by
  show s.yellowCondition = true ↔ _
  rw [State.yellowCondition, Bool.or_eq_true, List.any_eq_true]
  refine or_congr_right ⟨fun ⟨z, hz, hforce⟩ => ?_, fun ⟨k, hforce⟩ => ⟨s.race.caution[k], by simp, (SectorCaution.inForce_iff _).mpr hforce⟩⟩
  obtain ⟨k, hk, rfl⟩ := Vector.mem_iff_getElem.mp (by simpa using hz)
  exact ⟨⟨k, hk⟩, (SectorCaution.inForce_iff _).mp hforce⟩

theorem State.pinsNow_masterPower (s : State) :
    s.pinsNow.masterPower = if s.race.state = .setup then s.race.powerSetting else s.race.state != .suspended := by
  show s.powerOut = _
  unfold State.powerOut
  cases s.race.state <;> rfl

theorem State.pinsNow_atn (s : State) :
    s.pinsNow.atn = true
      ↔ ∃ c ∈ allCauses, s.raised c = true ∧ s.attention.mask.getLsbD (c.priority - 1) = true := by
  show (!s.calling.isEmpty) = true ↔ _
  simp [State.calling, Attention.enabled]

/-- Settles O7: a step ends with the outputs brought to what its state gives. -/
theorem outputsFollowState : Obligations.OutputsFollowState := by
  intro s
  obtain ⟨u, hstep⟩ := step_settled s
  refine ⟨u.settle, hstep, ?reds, u.pinsNow_green, u.pinsNow_yellow, u.pinsNow_masterPower, u.pinsNow_atn, rfl⟩
  case reds =>
    refine u.pinsNow_reds.trans ?_
    dsimp only [State.settle]
    unfold State.redsLit
    cases u.race.state
    case countdown => cases u.race.countdown <;> rfl
    all_goals rfl

end Sys2Proof.Machine
end

section
/-! SUPPORT. Chapter 3, section 3.5, and chapter 6, section 6.5: the Overdue entrants and the holders of local caution
through the shared operations (R52, R64, R65, R114). -/

namespace Sys2Proof.Machine

/-! ### The invariant -/

/-- The race states in which an entrant may be Racing (R52, R157). -/
def RaceState.underWay : RaceState → Bool
  | .running | .suspended | .finishing => true
  | .setup | .staging | .countdown | .complete => false

theorem RaceState.underWay_iff {r : RaceState} :
    r.underWay = true ↔ r ∈ [RaceState.running, .suspended, .finishing] := by
  cases r <;> decide

/-- The holders of local caution are distinct and Overdue, an Overdue entrant is Racing without a deadline, and one is
Racing only in a race under way. An entrant in `leaving` is between the end of its race and its release (R53, R65). -/
structure State.CautionKept (leaving : Slot → Prop) (s : State) : Prop where
  nodup : s.allHolders.Nodup
  held : ∀ i ∈ s.allHolders, (s.entrant i).overdue = true
  lost : ∀ i : Slot, (s.entrant i).overdue = true →
    leaving i ∨ (s.entrant i).state = .racing ∧ (s.entrant i).deadline = none
  racing : ∀ i : Slot, (s.entrant i).state = .racing → s.race.state.underWay = true

/-- No entrant is between the end of its race and its release. -/
def noneLeaving : Slot → Prop := fun _ => False

theorem State.cautionKept_iff (s : State) : s.CautionKept noneLeaving ↔ s.holdersKept ∧ s.racingKept := by
  constructor
  · intro ⟨hnodup, hheld, hlost, hracing⟩
    exact ⟨⟨hnodup, hheld, fun i hi => (hlost i hi).resolve_left id⟩,
      fun i hi => RaceState.underWay_iff.mp (hracing i hi)⟩
  · intro ⟨⟨hnodup, hheld, hlost⟩, hracing⟩
    exact ⟨hnodup, hheld, fun i hi => .inr (hlost i hi), fun i hi => RaceState.underWay_iff.mpr (hracing i hi)⟩

theorem State.allHolders_eq (s : State) :
    s.allHolders = s.race.caution[(0 : Fin 4)].holders ++ (s.race.caution[(1 : Fin 4)].holders
      ++ (s.race.caution[(2 : Fin 4)].holders ++ s.race.caution[(3 : Fin 4)].holders)) := by
  have hlist : s.race.caution.toList
      = [s.race.caution[(0 : Fin 4)], s.race.caution[(1 : Fin 4)], s.race.caution[(2 : Fin 4)],
          s.race.caution[(3 : Fin 4)]] := by
    refine List.ext_getElem (by simp) fun j hj _ => ?_
    have hlt : j < 4 := by simpa using hj
    obtain rfl | rfl | rfl | rfl : j = 0 ∨ j = 1 ∨ j = 2 ∨ j = 3 := by omega
    all_goals simp
  simp [State.allHolders, hlist]

/-! ### Operations that leave the holders and their entrants -/

/-- From `s` to `t` the holders stay, the records are as they were in state, Overdue mark and deadline, and a race under
way stays so. -/
structure State.SameCaution (s t : State) : Prop where
  holders : ∀ k : Fin 4, t.race.caution[k].holders = s.race.caution[k].holders
  underWay : s.race.state.underWay = true → t.race.state.underWay = true
  records : ∀ j : Slot, (t.entrant j).state = (s.entrant j).state ∧ (t.entrant j).overdue = (s.entrant j).overdue
    ∧ (t.entrant j).deadline = (s.entrant j).deadline

theorem State.SameCaution.refl (s : State) : s.SameCaution s := ⟨fun _ => rfl, id, fun _ => ⟨rfl, rfl, rfl⟩⟩

theorem State.SameCaution.trans {s t u : State} (hst : s.SameCaution t) (htu : t.SameCaution u) : s.SameCaution u where
  holders k := (htu.holders k).trans (hst.holders k)
  underWay := htu.underWay ∘ hst.underWay
  records j := by
    obtain ⟨hstate, hoverdue, hdeadline⟩ := hst.records j
    obtain ⟨hstate', hoverdue', hdeadline'⟩ := htu.records j
    exact ⟨hstate'.trans hstate, hoverdue'.trans hoverdue, hdeadline'.trans hdeadline⟩

/-- An operation that leaves the Caution Map and the race state alone, and of the records what the invariant reads. -/
theorem State.SameCaution.of_fields {s t : State}
    (h : t.race.caution = s.race.caution ∧ t.race.state = s.race.state
      ∧ ∀ j : Slot, (t.entrant j).state = (s.entrant j).state ∧ (t.entrant j).overdue = (s.entrant j).overdue
        ∧ (t.entrant j).deadline = (s.entrant j).deadline) : s.SameCaution t :=
  ⟨fun k => by rw [h.1], fun hs => by rw [h.2.1]; exact hs, h.2.2⟩

/-- An operation on neither the race nor the records. -/
theorem State.SameCaution.still {s t : State} (h : t.race = s.race ∧ t.entrants = s.entrants) : s.SameCaution t := by
  obtain ⟨hrace, hentrants⟩ := h
  exact .of_fields ⟨by rw [hrace], by rw [hrace], fun j => by rw [State.entrant_congr hentrants j]; exact ⟨rfl, rfl, rfl⟩⟩

/-- A change of race state that leaves a race under way so. -/
theorem State.SameCaution.enters {s t : State} (hcaution : t.race.caution = s.race.caution)
    (hunder : s.race.state.underWay = true → t.race.state.underWay = true) (hentrants : t.entrants = s.entrants) :
    s.SameCaution t :=
  ⟨fun k => by rw [hcaution], hunder, fun j => by rw [State.entrant_congr hentrants j]; exact ⟨rfl, rfl, rfl⟩⟩

theorem State.SameCaution.ite {s t u : State} {p : Prop} [Decidable p] (ht : s.SameCaution t) (hu : s.SameCaution u) :
    s.SameCaution (if p then t else u) := by
  split
  · exact ht
  · exact hu

theorem State.SameCaution.forSlots {f : State → Slot → State} (h : ∀ (s : State) (i : Slot), s.SameCaution (f s i))
    (s : State) : s.SameCaution (s.forSlots f) :=
  State.forSlots_induction s.SameCaution f (fun u i hu => hu.trans (h u i)) s (.refl s)

theorem State.allHolders_congr {s t : State} (h : ∀ k : Fin 4, t.race.caution[k].holders = s.race.caution[k].holders) :
    t.allHolders = s.allHolders := by
  simp only [State.allHolders_eq, h]

theorem State.SameCaution.keeps {s t : State} {leaving : Slot → Prop} (h : s.SameCaution t)
    (hs : s.CautionKept leaving) : t.CautionKept leaving := by
  obtain ⟨hnodup, hheld, hlost, hracing⟩ := hs
  have hholders := State.allHolders_congr h.holders
  refine ⟨hholders ▸ hnodup, fun i hi => ?_, fun i hi => ?_, fun i hi => ?_⟩
  · rw [hholders] at hi
    rw [(h.records i).2.1]; exact hheld i hi
  · obtain ⟨hstate, hoverdue, hdeadline⟩ := h.records i
    rw [hoverdue] at hi
    rw [hstate, hdeadline]; exact hlost i hi
  · rw [(h.records i).1] at hi
    exact h.underWay (hracing i hi)

theorem State.CautionKept.still {s t : State} {leaving : Slot → Prop} (hs : s.CautionKept leaving)
    (h : t.race = s.race ∧ t.entrants = s.entrants) : t.CautionKept leaving := (State.SameCaution.still h).keeps hs

/-! ### One entrant -/

/-- A record that is Overdue neither before nor after may change, if it is Racing in a race under way alone. -/
theorem State.CautionKept.modEntrant {s : State} {leaving : Slot → Prop} (hs : s.CautionKept leaving) {i : Slot}
    {f : Entrant → Entrant} (hbefore : (s.entrant i).overdue = false) (hafter : (f (s.entrant i)).overdue = false)
    (hracing : (f (s.entrant i)).state = .racing → s.race.state.underWay = true) :
    (s.modEntrant i f).CautionKept leaving := by
  have hholders : (s.modEntrant i f).allHolders = s.allHolders := State.allHolders_congr fun _ => rfl
  have hother {j : Slot} (hj : j ≠ i) : (s.modEntrant i f).entrant j = s.entrant j := by
    rw [State.entrant_modEntrant, if_neg hj]
  have hsame : (s.modEntrant i f).entrant i = f (s.entrant i) := by rw [State.entrant_modEntrant, if_pos rfl]
  refine ⟨hholders ▸ hs.nodup, fun j hj => ?_, fun j hj => ?_, fun j hj => ?_⟩
  · rw [hholders] at hj
    have hne : j ≠ i := by
      rintro rfl
      exact absurd (hs.held j hj) (by simp [hbefore])
    rw [hother hne]; exact hs.held j hj
  · by_cases hji : j = i
    · subst hji
      rw [hsame, hafter] at hj
      cases hj
    · rw [hother hji] at hj ⊢
      exact hs.lost j hj
  · by_cases hji : j = i
    · subst hji
      rw [hsame] at hj
      exact hracing hj
    · rw [hother hji] at hj
      exact hs.racing j hj

/-- An entrant leaves the race: its Overdue mark stands until it is released. -/
theorem State.CautionKept.leave {s : State} {i : Slot} (hs : s.CautionKept (· = i))
    {f : Entrant → Entrant} (hoverdue : (f (s.entrant i)).overdue = (s.entrant i).overdue)
    (hracing : (f (s.entrant i)).state = .racing → (s.entrant i).state = .racing) :
    (s.modEntrant i f).CautionKept (· = i) := by
  have hholders : (s.modEntrant i f).allHolders = s.allHolders := State.allHolders_congr fun _ => rfl
  have hmark (j : Slot) : ((s.modEntrant i f).entrant j).overdue = (s.entrant j).overdue := by
    rw [State.entrant_modEntrant]
    split
    · next hji => rw [hoverdue, hji]
    · rfl
  refine ⟨hholders ▸ hs.nodup, fun j hj => ?_, fun j hj => ?_, fun j hj => ?_⟩
  · rw [hmark]; exact hs.held j (hholders ▸ hj)
  · by_cases hji : j = i
    · exact .inl hji
    · rw [hmark] at hj
      rw [State.entrant_modEntrant, if_neg hji]; exact hs.lost j hj
  · rw [State.entrant_modEntrant] at hj
    split at hj
    · exact hs.racing i (hracing hj)
    · exact hs.racing j hj

theorem State.CautionKept.leaving {s : State} (hs : s.CautionKept noneLeaving) (i : Slot) : s.CautionKept (· = i) :=
  ⟨hs.nodup, hs.held, fun j hj => .inr ((hs.lost j hj).resolve_left id), hs.racing⟩

/-- The entrants that are not Overdue after a release are the others, and the one released (R65). -/
theorem State.release_overdue (s : State) (i j : Slot) :
    ((s.release i).entrant j).overdue = (decide (j ≠ i) && (s.entrant j).overdue) := by
  by_cases h : (s.entrant i).overdue = true
  · have hdropped : (s.release i) = (s.modEntrant i fun e => { e with overdue := false }).dropHolder i := if_pos h
    rw [hdropped]
    by_cases hji : j = i
    · subst hji; simp
    · simp [hji]
  · rw [s.release_not_overdue i (by simpa using h)]
    by_cases hji : j = i
    · subst hji; simpa using h
    · simp [hji]

/-- A release makes up for the end of an entrant's race: it is neither Overdue nor a holder any more (R65). -/
theorem State.CautionKept.release {s : State} {i : Slot} (hs : s.CautionKept (· = i)) :
    (s.release i).CautionKept noneLeaving := by
  have hlost (j : Slot) (hj : ((s.release i).entrant j).overdue = true) :
      noneLeaving j ∨ ((s.release i).entrant j).state = .racing ∧ ((s.release i).entrant j).deadline = none := by
    rw [State.release_overdue] at hj
    simp only [ne_eq, Bool.and_eq_true, decide_eq_true_eq] at hj
    obtain ⟨hji, hj⟩ := hj
    simpa using .inr ((hs.lost j hj).resolve_left hji)
  have hracing (j : Slot) (hj : ((s.release i).entrant j).state = .racing) :
      (s.release i).race.state.underWay = true := by
    simpa using hs.racing j (by simpa using hj)
  by_cases h : (s.entrant i).overdue = true
  · have hholders : (s.release i).allHolders = s.allHolders.filter (· != i) := by
      simp only [State.allHolders_eq, State.release_caution, if_pos h, SectorCaution.without, List.filter_append]
    refine ⟨hholders ▸ hs.nodup.filter _, fun j hj => ?_, hlost, hracing⟩
    rw [hholders, List.mem_filter] at hj
    rw [State.release_overdue]
    simpa using ⟨by simpa using hj.2, hs.held j hj.1⟩
  · have hsame := s.release_not_overdue i (by simpa using h)
    rw [hsame] at hlost hracing ⊢
    exact ⟨hs.nodup, hs.held, hlost, hracing⟩

end Sys2Proof.Machine
end

section
/-! SUPPORT. Chapters 3 and 6: what keeps the holders of local caution distinct, Overdue and Racing. -/

namespace Sys2Proof.Machine

/-- Every holder is an Overdue entrant that races, and no entrant is between the end of its race and its release. -/
abbrev State.CautionSound (s : State) : Prop := s.CautionKept noneLeaving

/-! ### The Caution Map -/

theorem State.changeSector_caution (s : State) (k : Nat) (f : SectorCaution → SectorCaution) :
    (s.changeSector k f).race.caution = (s.modSector k f).race.caution := by
  unfold State.changeSector
  dsimp only
  split
  · rfl
  · rw [State.recomputeAll_race]
    split
    · rw [State.notice_race]
    · rfl

theorem State.modSector_beyond {s : State} {k : Nat} (h : 4 ≤ k) (f : SectorCaution → SectorCaution) :
    s.modSector k f = s := by
  have hnone : s.race.caution[k]? = none := by simp [h]
  rw [State.modSector, hnone]

/-- A sector of the map after a change of one; there is no sector above 3. -/
theorem State.changeSector_sector (s : State) (k : Nat) (f : SectorCaution → SectorCaution) (j : Fin 4) :
    (s.changeSector k f).race.caution[j] = if j.val = k then f s.race.caution[j] else s.race.caution[j] := by
  rw [State.changeSector_caution]
  by_cases hk : k < 4
  · have hmod := s.modSector_caution ⟨k, hk⟩ j f
    rw [hmod]
    by_cases hj : j = ⟨k, hk⟩
    · subst hj; simp
    · rw [if_neg hj, if_neg fun h => hj (Fin.ext h)]
  · rw [State.modSector_beyond (by omega), if_neg (by omega)]

theorem State.setHostFlag_sameCaution (s : State) (k : Nat) (on : Bool) : s.SameCaution (s.setHostFlag k on) := by
  refine ⟨fun j => ?_, by simp, fun j => by simp⟩
  rw [State.setHostFlag, State.changeSector_sector]
  split <;> rfl

/-! ### The expiry of a sighting deadline -/



/-- A holder joins the lists of the map. -/
theorem State.addHolder_allHolders (s : State) (k : Nat) (i : Slot) :
    (s.addHolder k i).allHolders.Perm (i :: s.allHolders) ∨ (s.addHolder k i).allHolders = s.allHolders := by
  by_cases hk : k < 4
  · left
    rw [List.perm_iff_count]
    intro x
    simp only [State.allHolders_eq, State.addHolder, State.changeSector_sector, List.count_append, List.count_cons]
    obtain rfl | rfl | rfl | rfl : k = 0 ∨ k = 1 ∨ k = 2 ∨ k = 3 := by omega
    all_goals
      simp [List.count_singleton]
      omega
  · right
    refine State.allHolders_congr fun j => ?_
    rw [State.addHolder, State.changeSector_sector, if_neg (by omega)]

/-- An entrant whose deadline has come is not Overdue yet, so it is no holder (R64). -/
theorem State.expireSighting_cautionSound {s : State} {i : Slot} (h : s.sightingDue i = true) (hs : s.CautionSound) :
    (s.expireSighting i).CautionSound := by
  have hdue : (s.entrant i).state = .racing ∧ (s.entrant i).deadline ≠ none := by
    simp only [State.sightingDue, Bool.and_eq_true, beq_iff_eq] at h
    refine ⟨h.1.2, fun hnone => ?_⟩
    rw [hnone] at h
    cases h.2
  have hnot : (s.entrant i).overdue = false := by
    rw [← Bool.not_eq_true]
    exact fun hover => hdue.2 ((hs.lost i hover).resolve_left id).2
  have hfree : i ∉ s.allHolders := fun hi => by
    rw [hs.held i hi] at hnot
    cases hnot
  have holders : (s.expireSighting i).allHolders.Perm (i :: s.allHolders)
      ∨ (s.expireSighting i).allHolders = s.allHolders := by
    cases hauto : s.cfg.autoLocalCaution with
    | true =>
      rw [State.expireSighting_on i hauto]
      exact State.addHolder_allHolders (s.modEntrant i Entrant.lost) _ i
    | false =>
      rw [State.expireSighting_off i hauto]
      exact .inr rfl
  have hrecord (j : Slot) : ((s.expireSighting i).entrant j).state = (s.entrant j).state
      ∧ ((s.expireSighting i).entrant j).overdue = (decide (j = i) || (s.entrant j).overdue)
      ∧ ((s.expireSighting i).entrant j).deadline = if j = i then none else (s.entrant j).deadline := by
    cases hauto : s.cfg.autoLocalCaution with
    | true =>
      rw [State.expireSighting_on i hauto]
      by_cases hji : j = i <;> simp [hji, Entrant.lost]
    | false =>
      rw [State.expireSighting_off i hauto]
      by_cases hji : j = i <;> simp [hji, Entrant.lost]
  refine ⟨?_, fun j hj => ?_, fun j hj => .inr ?_, fun j hj => ?_⟩
  · rcases holders with hperm | hsame
    · exact hperm.nodup_iff.mpr (List.nodup_cons.mpr ⟨hfree, hs.nodup⟩)
    · rw [hsame]; exact hs.nodup
  · rw [(hrecord j).2.1]
    have hj : j = i ∨ j ∈ s.allHolders := by
      rcases holders with hperm | hsame
      · simpa using hperm.mem_iff.mp hj
      · exact .inr (hsame ▸ hj)
    rcases hj with hj | hj
    · simp [hj]
    · simp [hs.held j hj]
  · obtain ⟨hstate, hover, hdeadline⟩ := hrecord j
    rw [hstate, hdeadline]
    by_cases hji : j = i
    · subst hji; simp [hdue.1]
    · rw [if_neg hji]
      rw [hover] at hj
      exact (hs.lost j (by simpa [hji] using hj)).resolve_left id
  · rw [(hrecord j).1] at hj
    simpa using hs.racing j hj

/-! ### Finishes and withdrawals -/

theorem State.modEntrant_sameCaution (s : State) (i : Slot) {f : Entrant → Entrant}
    (hf : ∀ e, (f e).state = e.state ∧ (f e).overdue = e.overdue ∧ (f e).deadline = e.deadline) :
    s.SameCaution (s.modEntrant i f) := by
  refine .of_fields ⟨rfl, rfl, fun j => ?_⟩
  rw [State.entrant_modEntrant]
  split
  · next hji => rw [hji]; exact hf _
  · exact ⟨rfl, rfl, rfl⟩

theorem State.recompute_sameCaution (s : State) (i : Slot) : s.SameCaution (s.recompute i) := .of_fields (by simp)

theorem State.recomputeAll_sameCaution (s : State) : s.SameCaution s.recomputeAll := .of_fields (by simp)

/-- An entrant that leaves the race is marked so, loses its deadline and is released (R50, R51, R53). -/
theorem State.CautionKept.leaves {s t : State} {i : Slot} {f : Entrant → Entrant} (hs : s.CautionSound)
    (ht : (s.modEntrant i f).SameCaution t) (hoverdue : ∀ e, (f e).overdue = e.overdue)
    (hracing : ∀ e, (f e).state ≠ .racing) :
    ((t.modEntrant i fun e => { e with deadline := none }).release i).CautionSound := by
  have left : (s.modEntrant i f).CautionKept (· = i) :=
    State.CautionKept.leave (hs.leaving i) (hoverdue _) fun h => absurd h (hracing _)
  exact State.CautionKept.release (State.CautionKept.leave (ht.keeps left) rfl id)

theorem State.finishEntrant_cautionSound {s : State} (i : Slot) (st : FinishStatus) (t : RunTime)
    (hs : s.CautionSound) : (s.finishEntrant i st t).CautionSound := by
  have converted (u : State) : u.SameCaution ((u.convertPenalties i).recompute i) := .of_fields (by simp)
  unfold State.finishEntrant
  exact (converted _).keeps (hs.leaves (State.recompute_sameCaution _ i) (fun _ => rfl) fun _ h => nomatch h)

/-- A race with no Racing entrant has no Overdue one, and may go to any state. -/
theorem State.CautionKept.over {s t : State} (hs : s.CautionSound)
    (hracing : ∀ j : Slot, (s.entrant j).state ≠ .racing)
    (hcaution : t.race.caution = s.race.caution)
    (hrecords : ∀ j : Slot, (t.entrant j).state = (s.entrant j).state ∧ (t.entrant j).overdue = (s.entrant j).overdue) :
    t.CautionSound := by
  have hnot (j : Slot) : (t.entrant j).overdue = true → False := fun hj => by
    rw [(hrecords j).2] at hj
    exact hracing j ((hs.lost j hj).resolve_left id).1
  have hsame : t.allHolders = s.allHolders := State.allHolders_congr fun k => by rw [hcaution]
  refine ⟨hsame ▸ hs.nodup, fun j hj => ?_, fun j hj => (hnot j hj).elim, fun j hj => ?_⟩
  · rw [(hrecords j).2]; exact hs.held j (hsame ▸ hj)
  · rw [(hrecords j).1] at hj
    exact absurd hj (hracing j)

theorem State.complete_cautionSound {s : State} (hracing : ∀ j : Slot, (s.entrant j).state ≠ .racing)
    (hs : s.CautionSound) : s.complete.CautionSound :=
  hs.over hracing (by simp) (by simp)

theorem State.checkFinished_cautionSound {s : State} (hs : s.CautionSound) : s.checkFinished.CautionSound := by
  rcases s.checkFinished_cases with ⟨-, hleft, h⟩ | ⟨-, h⟩ <;> rw [h]
  · refine State.complete_cautionSound (fun j hj => ?_) hs
    rw [s.racingLeft_iff.mpr ⟨j, hj⟩] at hleft
    cases hleft
  · exact hs

theorem State.enterFinishing_cautionSound {s : State} (hs : s.CautionSound) : s.enterFinishing.CautionSound := by
  refine State.checkFinished_cautionSound ((State.recomputeAll_sameCaution _).keeps (State.SameCaution.keeps ?_ hs))
  exact .enters rfl (fun _ => rfl) rfl

theorem State.judgeCrossing_cautionSound {s : State} (i : Slot) (t : RunTime) (hs : s.CautionSound) :
    (s.judgeCrossing i t).CautionSound := by
  have finish := State.finishEntrant_cautionSound i .flagged t hs
  unfold State.judgeCrossing
  split
  · split
    · exact State.enterFinishing_cautionSound finish
    · exact hs
  · exact State.checkFinished_cautionSound finish
  all_goals exact hs

/-- Work done at every slot brings each slot to what the work at it brings it to and the work at the others keeps. -/
theorem State.forSlots_reaches {P : Slot → State → Prop} {f : State → Slot → State}
    (hkeeps : ∀ (s : State) (i j : Slot), P j s → P j (f s i)) (hreaches : ∀ (s : State) (i : Slot), P i (f s i))
    (s : State) (j : Slot) : P j (s.forSlots f) := by
  have reached (l : List Slot) (u : State) (hj : j ∈ l) : P j (l.foldl f u) := by
    induction l generalizing u with
    | nil => cases hj
    | cons i l ih =>
      by_cases hmem : j ∈ l
      · exact ih _ hmem
      · obtain rfl : j = i := (List.mem_cons.mp hj).resolve_right hmem
        exact foldl_induction (P j) f (fun u i hu => hkeeps u i j hu) l _ (hreaches u j)
  exact reached allSlots s (mem_allSlots j)

theorem State.finishEntrant_state (s : State) (i : Slot) (st : FinishStatus) (t : RunTime) (j : Slot) :
    ((s.finishEntrant i st t).entrant j).state = if j = i then .finished else (s.entrant j).state := by
  unfold State.finishEntrant
  by_cases hji : j = i <;> simp [hji]

/-- The end of the race leaves nobody Racing (R119, R120). -/
theorem State.finishAll_not_racing (s : State) (t : RunTime) (j : Slot) :
    ((s.finishAll t).entrant j).state ≠ .racing := by
  refine State.forSlots_reaches (P := fun j u => (u.entrant j).state ≠ .racing) (fun u i j hj => ?_) (fun u i => ?_) s j
  · split
    · rw [State.finishEntrant_state]
      split
      · exact fun h => nomatch h
      · exact hj
    · exact hj
  · split
    · rw [State.finishEntrant_state, if_pos rfl]
      exact fun h => nomatch h
    · assumption

theorem State.endRace_cautionSound {s : State} (t : RunTime) (hs : s.CautionSound) : (s.endRace t).CautionSound := by
  refine State.complete_cautionSound (s.finishAll_not_racing t) ?_
  refine State.forSlots_induction State.CautionSound _ (fun u i hu => ?_) s hs
  split
  · exact State.finishEntrant_cautionSound i _ t hu
  · exact hu

theorem State.retireEntrant_cautionSound {s : State} (i : Slot) (hs : s.CautionSound) :
    (s.retireEntrant i).CautionSound := by
  have unmarked (u : State) : u.SameCaution (u.modEntrant i fun e => { e with jumpStart := false }) :=
    u.modEntrant_sameCaution i fun _ => ⟨rfl, rfl, rfl⟩
  have cleared (u : State) : u.SameCaution ((u.clearPenalties i).recompute i) := .of_fields (by simp)
  unfold State.retireEntrant
  refine State.checkFinished_cautionSound ((cleared _).keeps ((unmarked _).keeps ?_))
  exact hs.leaves (State.recompute_sameCaution _ i) (fun _ => rfl) fun _ h => nomatch h

theorem State.excludeEntrant_cautionSound {s : State} (i : Slot) (hs : s.CautionSound) :
    (s.excludeEntrant i).CautionSound := by
  have removed (u : State) : u.SameCaution ((u.recompute i).leaveStandings i) :=
    (u.recompute_sameCaution i).trans (.still ⟨rfl, rfl⟩)
  have unmarked (u : State) : u.SameCaution (u.modEntrant i fun e => { e with jumpStart := false }) :=
    u.modEntrant_sameCaution i fun _ => ⟨rfl, rfl, rfl⟩
  have cleared (u : State) : u.SameCaution ((u.clearPenalties i).setBlackFlag i false) := .of_fields (by simp)
  have detached (u : State) : u.SameCaution (u.modEntrant i fun e => { e with station := none }) :=
    u.modEntrant_sameCaution i fun _ => ⟨rfl, rfl, rfl⟩
  unfold State.excludeEntrant
  refine State.checkFinished_cautionSound ((State.recompute_sameCaution _ i).keeps ((detached _).keeps ?_))
  refine (cleared _).keeps ((unmarked _).keeps ?_)
  exact hs.leaves (removed _) (fun _ => rfl) fun _ h => nomatch h

end Sys2Proof.Machine
end

section
/-! SUPPORT. Chapters 3, 4 and 6: passes, box reports and green, and the holders of local caution. -/

namespace Sys2Proof.Machine

/-! ### Laps -/

theorem State.credit_cautionSound {s : State} (i : Slot) (l t : RunTime) (a : Bool) (hs : s.CautionSound) :
    (s.credit i l t a).CautionSound := by
  have credited : s.SameCaution (s.modEntrant i fun e => e.credited s.cfg t (t - l) a s.lineCaution) :=
    s.modEntrant_sameCaution i fun _ => ⟨rfl, rfl, rfl⟩
  have measured (u : State) (n : Nat) (c : Bool) :
      u.SameCaution ((((u.recompute i).measure i n t).replace i).penaltyCrossing i c) := .of_fields (by simp)
  exact State.judgeCrossing_cautionSound i t ((measured _ _ _).keeps (credited.keeps hs))

theorem State.lateLap_cautionSound {s : State} (i : Slot) (a : RunTime) (o : LateOutcome) (hs : s.CautionSound) :
    (s.lateLap i a o).CautionSound := by
  have launched : s.SameCaution (s.launch i a) := .of_fields (by simp)
  have cut (p l : RunTime) : s.SameCaution (s.split i p l a) := .of_fields (by simp)
  cases o with
  | launch => exact launched.keeps hs
  | credit l => exact State.credit_cautionSound i l a true hs
  | split p l => exact (cut p l).keeps hs
  | duplicate => exact hs
  | tooOld => exact hs

theorem State.lapStep_cautionSound {s : State} (i : Slot) (p : Pass) (hs : s.CautionSound) :
    (s.lapStep i p).CautionSound := by
  have launched (t : RunTime) : s.SameCaution (s.launch i t) := .of_fields (by simp)
  have entered (b : Nat) (t : RunTime) : s.SameCaution (s.boundary i b t) := .of_fields (by simp)
  unfold State.lapStep
  split
  · next t _ _ =>
    rcases s.crossing_cases i t with ⟨-, h⟩ | ⟨_, -, -, h⟩ | ⟨_, -, -, h⟩ <;> rw [h]
    · exact (launched t).keeps hs
    · exact hs
    · exact State.credit_cautionSound i _ t false hs
  · exact (entered _ _).keeps hs
  · exact hs

/-! ### Passes -/

theorem State.release_cautionSound {s : State} (i : Slot) (hs : s.CautionSound) : (s.release i).CautionSound :=
  State.CautionKept.release (hs.leaving i)

/-- A deadline moves on for an entrant that is not Overdue (R63, R65). -/
theorem State.moveDeadline_cautionSound {s : State} (i : Slot) (t : Option RunTime)
    (hnot : (s.entrant i).overdue = false) (hs : s.CautionSound) : (s.moveDeadline i t).CautionSound := by
  have moved (d : Entrant → Option RunTime) : (s.modEntrant i fun e => { e with deadline := d e }).CautionSound :=
    State.CautionKept.modEntrant hs hnot hnot (hs.racing i)
  unfold State.moveDeadline
  split
  · exact moved fun _ => none
  · split
    · split
      · exact hs
      · exact moved _
    · exact hs

theorem State.scoredPass_cautionSound {s : State} (tr : Treatment) (i : Slot) (p : Pass) (hs : s.CautionSound) :
    (s.scoredPass tr i p).CautionSound := by
  have effects (u : State) : u.SameCaution ((u.noteSeen i p.running).passEffects tr i p).1 := .of_fields (by simp)
  have reported (u : State) (cs : List CallClass) : u.SameCaution (u.reportAll i cs) := .of_fields (by simp)
  unfold State.scoredPass
  refine (reported _ _).keeps (State.moveDeadline_cautionSound i p.running ?_ ?_)
  · rw [((effects (s.release i)).records i).2.1, State.release_overdue]
    simp
  · exact (effects _).keeps (State.release_cautionSound i hs)

theorem State.deliver_cautionSound {s : State} (i : Slot) (p : Pass) (hs : s.CautionSound) :
    (s.deliver i p).CautionSound := by
  have placed : s.SameCaution (s.positionPass i p) := .of_fields (by simp)
  rcases s.deliver_cases i p with ⟨-, h⟩ | ⟨-, h⟩ | ⟨-, h⟩ | ⟨-, h⟩ <;> rw [h]
  · exact hs
  · exact placed.keeps hs
  · exact State.scoredPass_cautionSound _ i p hs
  · exact State.lapStep_cautionSound i p (State.scoredPass_cautionSound _ i p hs)

theorem State.deliverLate_cautionSound {s : State} (i : Slot) (p : Pass) (a : RunTime) (o : LateOutcome)
    (hs : s.CautionSound) : (s.deliverLate i p a o).CautionSound := by
  rw [State.deliverLate_eq]
  split
  · exact State.lateLap_cautionSound i a o hs
  · exact State.lateLap_cautionSound i a o (State.scoredPass_cautionSound _ i p hs)

theorem State.route_cautionSound {s : State} (p : Pass) (hs : s.CautionSound) : (s.route p).CautionSound := by
  have queued (q : Pass) : s.SameCaution (s.enqueuePass q) := .of_fields (by simp)
  unfold State.route
  split
  · exact (queued _).keeps hs
  · split
    · exact State.deliver_cautionSound _ p hs
    · exact (queued _).keeps hs

theorem State.takeTally_cautionSound {s : State} (g : GateNo) (b : Tally) (hs : s.CautionSound) :
    (s.takeTally g b).CautionSound :=
  foldl_induction State.CautionSound State.route (fun _ p hu => State.route_cautionSound p hu) _ s hs

/-! ### Box reports and bursts -/

theorem State.deliverBox_cautionSound {s : State} (ar : Bool) (i : Slot) (t : Option RunTime) (hs : s.CautionSound) :
    (s.deliverBox ar i t).CautionSound := by
  have arrived (u : State) (tr : Treatment) : u.SameCaution (u.arriveInBox tr i t) := .of_fields (by simp)
  have left (u : State) (tr : Treatment) : u.SameCaution (u.leaveBox tr i) := .of_fields (by simp)
  have seen (u : State) : u.SameCaution (u.noteSeen i t) := .of_fields (by simp)
  have act (u : State) (tr : Treatment) : u.SameCaution (if ar then u.arriveInBox tr i t else u.leaveBox tr i) :=
    .ite (arrived u tr) (left u tr)
  have scored (tr : Treatment) : (((fun u => if ar then State.arriveInBox u tr i t else State.leaveBox u tr i)
      ((s.release i).noteSeen i t)).moveDeadline i t).CautionSound := by
    have acted := (seen (s.release i)).trans (act _ tr)
    refine State.moveDeadline_cautionSound i t ?_ (acted.keeps (State.release_cautionSound i hs))
    rw [(acted.records i).2.1, State.release_overdue]
    simp
  unfold State.deliverBox
  dsimp only
  split
  · exact hs
  · exact (act s _).keeps hs
  · exact scored _
  · exact scored _

theorem State.reportBox_cautionSound {s : State} (ar : Bool) (g : GateNo) (code : Nat) (t : RawTime)
    (hs : s.CautionSound) : (s.reportBox ar g code t).CautionSound := by
  unfold State.reportBox State.boxReport
  split
  · exact hs
  · split
    · exact State.deliverBox_cautionSound ar _ _ hs
    · exact hs

theorem State.departures_cautionSound {s : State} (g : GateNo) (b : Tally) (hs : s.CautionSound) :
    (s.departures g b).CautionSound :=
  foldl_induction State.CautionSound _ (fun _ e hu => State.reportBox_cautionSound false g e.code b.last hu) _ s hs

theorem State.modGate_sameCaution (s : State) (g : GateNo) (f : Gate → Gate) : s.SameCaution (s.modGate g f) :=
  .still ⟨rfl, rfl⟩

theorem State.frameEvent_cautionSound {s : State} (g : GateNo) (frame : Option Nat) (hs : s.CautionSound) :
    (s.frameEvent g frame).CautionSound := by
  unfold State.frameEvent
  dsimp only
  split
  · split
    · exact State.reportBox_cautionSound true g _ _ ((State.modGate_sameCaution _ g _).keeps hs)
    · exact (State.modGate_sameCaution _ g _).keeps hs
  · exact (State.modGate_sameCaution _ g _).keeps hs

theorem State.closeBurst_cautionSound {s : State} (g : GateNo) (b : Tally) (hs : s.CautionSound) :
    (s.closeBurst g b).CautionSound := by
  have emptied : (s.modDecoder g fun d => { d with burst := none }).CautionSound :=
    (State.modGate_sameCaution _ g _).keeps hs
  unfold State.closeBurst
  dsimp only
  split
  · split
    · exact (State.modGate_sameCaution _ g _).keeps emptied
    · exact emptied
  · refine State.takeTally_cautionSound g b ?_
    split
    · exact State.departures_cautionSound g b emptied
    · exact emptied

theorem State.closeOpen_cautionSound {s : State} (g : GateNo) (hs : s.CautionSound) : (s.closeOpen g).CautionSound := by
  unfold State.closeOpen
  split
  · exact State.closeBurst_cautionSound g _ hs
  · exact hs

theorem State.discardBurst_cautionSound {s : State} (g : GateNo) (hs : s.CautionSound) :
    (s.discardBurst g).CautionSound := by
  have emptied : (s.modDecoder g fun d => { d with burst := none }).CautionSound :=
    (State.modGate_sameCaution _ g _).keeps hs
  unfold State.discardBurst
  split
  · dsimp only
    split
    · exact State.departures_cautionSound g _ emptied
    · exact emptied
  · exact hs

theorem State.startTest_cautionSound {s : State} (hs : s.CautionSound) : s.startTest.CautionSound := by
  have begun (u : State) (g : GateNo) (hu : u.CautionSound) : (u.beginTest g).CautionSound := by
    unfold State.beginTest
    refine (State.modGate_sameCaution _ g _).keeps ?_
    split
    · exact hu
    · exact State.discardBurst_cautionSound g hu
  have watched (u : State) : u.SameCaution u.testFromNow.watchBlind := .still ⟨rfl, rfl⟩
  rw [State.startTest_eq]
  exact (watched _).keeps (State.forSlots_induction State.CautionSound State.beginTest begun s hs)

/-! ### Green -/

theorem State.firstDeadline_cautionSound {s : State} (i : Slot) (hnot : (s.entrant i).overdue = false)
    (hs : s.CautionSound) : (s.firstDeadline i).CautionSound := by
  unfold State.firstDeadline
  split
  · exact State.CautionKept.modEntrant hs hnot hnot (hs.racing i)
  · exact hs

/-- A Staged entrant, which is not Overdue, takes green (R52). -/
theorem State.greenEntrant_cautionSound {s : State} {i : Slot} (hstaged : (s.entrant i).state = .staged)
    (hunder : s.race.state.underWay = true) (hs : s.CautionSound) : (s.greenEntrant i).CautionSound := by
  have hnot : (s.entrant i).overdue = false := by
    rw [← Bool.not_eq_true]
    intro hover
    have hracing := ((hs.lost i hover).resolve_left id).1
    rw [hstaged] at hracing
    cases hracing
  have racing : (s.modEntrant i fun e => { e with state := .racing }).CautionSound :=
    State.CautionKept.modEntrant hs hnot hnot fun _ => hunder
  have zeroed (u : State) : u.SameCaution ((u.recompute i).zeroLaps i) := .of_fields (by simp)
  have cleared (u : State) : u.SameCaution
      (u.modEntrant i fun e => { e with latestCrossing := none, prevCrossing := none, reachTime := none }) :=
    u.modEntrant_sameCaution i fun _ => ⟨rfl, rfl, rfl⟩
  have reported (u : State) (marked : Bool) : u.SameCaution (u.reportJumpStart i marked) := .of_fields (by simp)
  have hready := (zeroed (s.modEntrant i fun e => { e with state := .racing })).trans (cleared _)
  have hover : ((s.modEntrant i fun e => { e with state := .racing }).entrant i).overdue = false := by
    rw [State.entrant_modEntrant_same]
    exact hnot
  unfold State.greenEntrant
  refine (reported _ _).keeps (State.firstDeadline_cautionSound i ?_ (hready.keeps racing))
  exact (hready.records i).2.1.trans hover

theorem State.greenEntrants_cautionSound {s : State} (hunder : s.race.state.underWay = true) (hs : s.CautionSound) :
    s.greenEntrants.CautionSound := by
  have both : s.greenEntrants.CautionSound ∧ s.greenEntrants.race.state.underWay = true := by
    unfold State.greenEntrants
    refine State.forSlots_induction (fun u => u.CautionSound ∧ u.race.state.underWay = true) _ (fun u i hu => ?_) s
      ⟨hs, hunder⟩
    split
    · next h => exact ⟨State.greenEntrant_cautionSound h hu.2 hu.1, by simpa using hu.2⟩
    · exact hu
  exact both.1

theorem State.green_cautionSound {s : State} (hs : s.CautionSound) : s.green.CautionSound := by
  unfold State.green
  refine (State.recomputeAll_sameCaution _).keeps (State.greenEntrants_cautionSound rfl (State.SameCaution.keeps ?_ hs))
  exact .enters rfl (fun _ => rfl) rfl

theorem State.stepCountdown_cautionSound {s : State} (c : Countdown) (hs : s.CautionSound) :
    (s.stepCountdown c).CautionSound := by
  have stepped (d : Option Countdown) : s.SameCaution { s with race := { s.race with countdown := d } } :=
    .enters rfl id rfl
  unfold State.stepCountdown
  split
  · exact State.green_cautionSound hs
  · split
    · exact (stepped _).keeps hs
    · split
      · exact State.green_cautionSound hs
      · exact (stepped _).keeps hs

end Sys2Proof.Machine
end

section
/-! SUPPORT. Chapters 3, 6 and 9: no command, and no tick, spoils the holders of local caution. -/

namespace Sys2Proof.Machine

/-! ### Suspension, resumption and reset -/

theorem State.suspensionCause_sameCaution (s : State) (why : Reason) : s.SameCaution (s.suspensionCause why) := by
  have told (u : State) : u.SameCaution u.recomputeAll := u.recomputeAll_sameCaution
  rcases s.suspensionCause_cases why with ⟨-, h⟩ | ⟨-, h⟩ | ⟨hrace, h⟩ | ⟨-, h⟩ <;> rw [h]
  · refine .trans ?_ (told _)
    exact .enters rfl (fun _ => rfl) rfl
  · refine .trans ?_ (told _)
    exact .enters rfl (fun _ => rfl) rfl
  · have dropped (u : State) : u.SameCaution u.dropJumpStarts := .of_fields (by simp)
    refine .trans ?_ ((dropped _).trans (told _))
    refine .enters rfl (fun hu => ?_) rfl
    rw [hrace] at hu
    cases hu
  · exact .refl s

theorem State.setYellow_sameCaution (s : State) (on : Bool) : s.SameCaution (s.setYellow on) := .of_fields (by simp)

theorem State.resumeRace_cautionSound {s : State} (on : Bool) (hs : s.CautionSound) : (s.resumeRace on).CautionSound := by
  unfold State.resumeRace
  refine State.checkFinished_cautionSound ((State.recomputeAll_sameCaution _).keeps ?_)
  refine (State.setYellow_sameCaution _ on).keeps (State.SameCaution.keeps ?_ hs)
  exact .enters rfl (fun _ => by cases h : s.race.resume.getD .running <;> rfl) rfl

/-- A state with no holder and no Overdue or Racing entrant. -/
theorem State.cautionSound_of_clear {s : State} (hholders : ∀ k : Fin 4, s.race.caution[k].holders = [])
    (hrecords : ∀ j : Slot, (s.entrant j).overdue = false ∧ (s.entrant j).state ≠ .racing) : s.CautionSound := by
  have hnone : s.allHolders = [] := by simp only [State.allHolders_eq, hholders, List.append_nil]
  refine ⟨by simp [hnone], by simp [hnone], fun j hj => ?_, fun j hj => absurd hj (hrecords j).2⟩
  rw [(hrecords j).1] at hj
  cases hj

theorem State.powerOnReset_cautionSound (s : State) (results : Vector TestResult 24) (straps : BitVec 5)
    (pins : PinLevels) : (s.powerOnReset results straps pins).CautionSound := by
  refine State.cautionSound_of_clear (fun k => ?_) fun j => ?_
  · simp [State.powerOnReset, State.powerOn, Sequencer.atReset, SectorCaution.clear]
  · simp [State.powerOnReset, State.powerOn, State.entrant, Entrant.vacant]

theorem Entrant.raceReset_not_racing {e : Entrant} (h : e.overdue = true → e.state = .racing) :
    e.raceReset.overdue = false ∧ e.raceReset.state ≠ .racing := by
  unfold Entrant.raceReset
  split
  · next hvacant =>
    refine ⟨?_, fun hracing => nomatch hvacant.symm.trans hracing⟩
    rw [← Bool.not_eq_true]
    exact fun hover => nomatch hvacant.symm.trans (h hover)
  · exact ⟨rfl, fun h => nomatch h⟩

theorem State.raceReset_cautionSound {s : State} (hs : s.CautionSound) : s.raceReset.CautionSound := by
  have rebuilt (u : State) : u.SameCaution u.rebuildStandings.recomputeAll := by
    refine .trans ?_ (State.recomputeAll_sameCaution _)
    exact .still ⟨rfl, rfl⟩
  have cleared (j : Slot) : (s.entrant j).raceReset.overdue = false ∧ (s.entrant j).raceReset.state ≠ .racing :=
    Entrant.raceReset_not_racing fun hover => ((hs.lost j hover).resolve_left id).1
  unfold State.raceReset
  refine (rebuilt _).keeps (State.cautionSound_of_clear (fun k => ?_) fun j => ?_)
  · simp [Sequencer.raceReset, Sequencer.atReset, SectorCaution.clear]
  · simpa [State.entrant_mk] using cleared j

/-! ### The requests -/

theorem State.enterRequest_cautionSound {s : State} (code station : Byte) (hs : s.CautionSound) :
    (s.enterRequest code station).1.CautionSound := by
  have entered {i : Slot} (n : Nat) (st : Option StationNo) (hi : s.vacantSlot = some i) :
      (s.enterCar i n st).CautionSound := by
    have hvacant : (s.entrant i).state = .vacant := by simpa using List.find?_some hi
    have hnot : (s.entrant i).overdue = false := by
      rw [← Bool.not_eq_true]
      intro hover
      have hracing := ((hs.lost i hover).resolve_left id).1
      rw [hvacant] at hracing
      cases hracing
    have joined (u : State) : u.SameCaution ((u.joinStandings i).recompute i) := by
      refine .trans ?_ (State.recompute_sameCaution _ i)
      exact .still ⟨rfl, rfl⟩
    exact (joined _).keeps (State.CautionKept.modEntrant hs hnot rfl fun h => nomatch h)
  unfold State.enterRequest
  split
  · exact hs
  split
  case h_2 => exact hs
  split
  · exact hs
  next st _ _ _ =>
    cases st with
    | none =>
      dsimp only
      rw [if_neg Bool.false_ne_true]
      split
      · exact hs
      · next hi => exact entered _ _ hi
    | some n =>
      dsimp only
      split
      · exact hs
      split
      · exact hs
      · next hi => exact entered _ _ hi

theorem State.vacate_cautionSound {s : State} (i : Slot) (h : s.race.state = .setup ∨ s.race.state = .staging)
    (hs : s.CautionSound) : (s.vacate i).CautionSound := by
  have hnot : (s.entrant i).overdue = false := by
    rw [← Bool.not_eq_true]
    intro hover
    have hunder := hs.racing i ((hs.lost i hover).resolve_left id).1
    rcases h with h | h <;> rw [h] at hunder <;> cases hunder
  have left : (s.leaveStandings i).CautionSound := hs.still ⟨rfl, rfl⟩
  have cleaned (u : State) : u.SameCaution (u.setDirty i .clean) := .still ⟨rfl, rfl⟩
  exact (cleaned _).keeps (State.CautionKept.modEntrant left hnot rfl fun h => nomatch h)

theorem State.retireRequest_cautionSound {s : State} (code : Byte) (hs : s.CautionSound) :
    (s.retireRequest code).1.CautionSound := by
  unfold State.retireRequest
  split
  · exact hs
  split
  · next h => rw [State.accept_fst]; exact State.vacate_cautionSound _ h hs
  split
  · exact hs
  · rw [State.accept_fst]; exact State.retireEntrant_cautionSound _ hs

theorem State.excludeRequest_cautionSound {s : State} (code : Byte) (hs : s.CautionSound) :
    (s.excludeRequest code).1.CautionSound := by
  unfold State.excludeRequest
  split
  · exact hs
  split
  · exact hs
  · rw [State.accept_fst]; exact State.excludeEntrant_cautionSound _ hs

theorem State.amendItems_sameCaution (s : State) (i : Slot) (items : Byte) (d : Int) (v : Option Nat)
    (st : Option StationNo) : s.SameCaution (s.amendItems i items d v st) := by
  have written (u : State) {f : Entrant → Entrant}
      (hf : ∀ e, (f e).state = e.state ∧ (f e).overdue = e.overdue ∧ (f e).deadline = e.deadline) :
      u.SameCaution (u.modEntrant i f) := u.modEntrant_sameCaution i hf
  have laps (u : State) : u.SameCaution (u.amendLaps i d) := by
    unfold State.amendLaps
    refine .ite (.refl u) (.trans (t := u.modEntrant i fun e => { e with laps := lapsPlus (u.entrant i).laps d }) ?_ ?_)
    · exact written u fun _ => ⟨rfl, rfl, rfl⟩
    · exact .of_fields (by simp)
  have override (u : State) : u.SameCaution (u.amendOverride i v) := by
    refine .trans ?_ (State.recompute_sameCaution _ i)
    exact written u fun _ => ⟨rfl, rfl, rfl⟩
  have station (u : State) : u.SameCaution (u.amendStation i st) := written u fun _ => ⟨rfl, rfl, rfl⟩
  have flag (u : State) : u.SameCaution (u.amendBlackFlag i) := .ite (.of_fields (by simp)) (.refl u)
  have calls (u : State) : u.SameCaution (u.resetCalls i) := written u fun _ => ⟨rfl, rfl, rfl⟩
  have given (u t : State) (h : u.SameCaution t) (b : Bool) : u.SameCaution (if b then t else u) := .ite h (.refl u)
  unfold State.amendItems
  exact (given _ _ (laps _) _).trans <| (given _ _ (override _) _).trans <| (given _ _ (station _) _).trans <|
    (given _ _ (flag _) _).trans (given _ _ (calls _) _)

theorem State.amendRequest_sameCaution (s : State) (code items : Byte) (delta : Word16) (override station : Byte) :
    s.SameCaution (s.amendRequest code items delta override station).1 := by
  rcases s.amendRequest_cases code items delta override station with h | ⟨i, st, h⟩
  · rw [h]
    exact .refl s
  · rw [h]
    exact s.amendItems_sameCaution ..

theorem State.assignRequest_cautionSound {s : State} (tag code : Byte) (hs : s.CautionSound) :
    (s.assignRequest tag code).1.CautionSound := by
  have settled (u : State) : u.SameCaution (u.settleEntry tag) := .still ⟨rfl, rfl⟩
  unfold State.assignRequest
  split
  · exact hs
  split
  · exact hs
  next i hi =>
    have late (p : Pass) (a : RunTime) (o : LateOutcome) :
        ((s.deliverLate i p a o).settleEntry tag).accept.1.CautionSound :=
      (settled _).keeps (State.deliverLate_cautionSound i p a o hs)
    split
    · exact hs
    split
    · exact hs
    split
    · unfold State.assignLate
      split
      · exact hs
      · exact hs
      all_goals exact late _ _ _
    · rw [State.accept_fst]; exact (settled _).keeps (State.deliver_cautionSound i _ hs)

theorem State.readActivityRequest_sameCaution (s : State) : s.SameCaution s.readActivityRequest.1 := by
  have cleared (u : State) (i : Slot) : u.SameCaution (u.modEntrant i fun e => { e with activity := false }) :=
    u.modEntrant_sameCaution i fun _ => ⟨rfl, rfl, rfl⟩
  unfold State.readActivityRequest
  exact State.SameCaution.forSlots cleared s

theorem State.resumeRequest_cautionSound {s : State} (value : Byte) (hs : s.CautionSound) :
    (s.resumeRequest value).1.CautionSound := by
  unfold State.resumeRequest
  split
  · exact hs
  split
  · exact hs
  split
  · exact hs
  · rw [State.accept_fst]; exact State.resumeRace_cautionSound _ hs

/-- A request that changes no record and leaves a race under way so. -/
theorem State.stageRequest_sameCaution (s : State) : s.SameCaution s.stageRequest.1 := by
  have staged (h : s.race.state = .setup) : s.SameCaution (s.enterRace .staging).recomputeAll := by
    refine .trans ?_ (State.recomputeAll_sameCaution _)
    exact .enters rfl (fun hu => by rw [h] at hu; cases hu) rfl
  unfold State.stageRequest
  split
  · exact .refl s
  · next h =>
    split
    · rw [State.accept_fst]; exact staged (by simpa using (not_or.mp h).1)
    · exact .refl s

theorem State.startRequest_sameCaution (s : State) (delay : Word16) : s.SameCaution (s.startRequest delay).1 := by
  unfold State.startRequest
  split
  · exact .refl s
  · next h =>
    have hstaging : s.race.state = .staging := by simpa using h
    have started : s.SameCaution (s.startCountdown delay.toNat) := by
      refine .trans ?_ (State.recomputeAll_sameCaution _)
      exact .enters rfl (fun hu => by rw [hstaging] at hu; cases hu) rfl
    split
    · exact .refl s
    split
    · exact .refl s
    · rw [State.accept_fst]; exact started

theorem State.yellowRequest_sameCaution (s : State) (value : Byte) : s.SameCaution (s.yellowRequest value).1 := by
  unfold State.yellowRequest
  split
  · exact .refl s
  split
  · exact .refl s
  · rw [State.accept_fst]; exact s.setYellow_sameCaution _

theorem State.zoneRequest_sameCaution (s : State) (sector value : Byte) : s.SameCaution (s.zoneRequest sector value).1 := by
  unfold State.zoneRequest
  split
  · exact .refl s
  split
  · exact .refl s
  split
  · exact .refl s
  · rw [State.accept_fst]; exact s.setHostFlag_sameCaution _ _

theorem State.suspendRequest_sameCaution (s : State) : s.SameCaution s.suspendRequest.1 := by
  unfold State.suspendRequest
  split
  · rw [State.accept_fst]; exact s.suspensionCause_sameCaution .host
  · exact .refl s

theorem State.endRequest_cautionSound {s : State} (hs : s.CautionSound) : s.endRequest.1.CautionSound := by
  unfold State.endRequest
  split
  · rw [State.accept_fst]; exact State.endRace_cautionSound _ hs
  · exact hs

theorem State.configGateRequest_cautionSound {s : State} (gate kind lane boundary sector : Byte) (offset : Word16)
    (hs : s.CautionSound) : (s.configGateRequest gate kind lane boundary sector offset).1.CautionSound := by
  have placed (g : GateNo) (e : GateEntry) :
      ((s.discardBurst g).modGate g (·.configured e)).watchBlind.CautionSound :=
    (State.discardBurst_cautionSound g hs).still ⟨rfl, rfl⟩
  unfold State.configGateRequest
  split
  · exact hs
  split
  · split
    · exact hs
    split
    · exact hs
    · rw [State.accept_fst]; exact placed _ _
  · exact hs

theorem State.configRaceRequest_sameCaution (s : State) (w : RaceWords) : s.SameCaution (s.configRaceRequest w).1 := by
  unfold State.configRaceRequest
  split
  · exact .refl s
  split
  · exact .refl s
  · rw [State.accept_fst]
    refine .trans ?_ (State.recomputeAll_sameCaution _)
    exact .enters rfl id rfl

theorem State.selfTestRequest_cautionSound {s : State} (hs : s.CautionSound) : s.selfTestRequest.1.CautionSound := by
  unfold State.selfTestRequest
  split
  · exact hs
  · rw [State.accept_fst]; exact State.startTest_cautionSound hs

/-! ### Events -/

theorem State.callAction_sameCaution (s : State) : s.SameCaution s.callAction := by
  unfold State.callAction
  split
  · exact .refl s
  · exact s.setYellow_sameCaution true
  · exact s.suspensionCause_sameCaution _

theorem State.refresh_sameCaution (s : State) : s.SameCaution s.refresh := by
  have marked (u : State) (i : Slot) : u.SameCaution (u.setDirty i .raised) := .still ⟨rfl, rfl⟩
  have timed (u : State) (t : RawTime) : u.SameCaution { u with ceiling := { u.ceiling with nextRefresh := t } } :=
    .still ⟨rfl, rfl⟩
  unfold State.refresh
  exact (State.SameCaution.forSlots (fun u i => .ite (marked u i) (.refl u)) s).trans (timed _ _)

/-- Every command but the check byte of a frame keeps the holders sound. -/
theorem exec_cautionSound {c : Instr} {s : State} (hc : ∀ b, c ≠ .commandFrame b) (hs : s.CautionSound) :
    ∃ t, exec c s = .next t ∧ t.CautionSound := by
  have done {u : State} (h : u.CautionSound) : ∃ t, u.done = .next t ∧ t.CautionSound :=
    ⟨_, rfl, h.still ⟨rfl, rfl⟩⟩
  have quiet {u : State} (h : s.SameCaution u) : ∃ t, u.done = .next t ∧ t.CautionSound := done (h.keeps hs)
  have ite_done {u : State} {p : Prop} [Decidable p] (h : u.CautionSound) :
      ∃ t, (if p then u.done else s.done) = .next t ∧ t.CautionSound := by
    split
    · exact done h
    · exact done hs
  have ite_quiet {u : State} {p : Prop} [Decidable p] (h : s.SameCaution u) :
      ∃ t, (if p then u.done else s.done) = .next t ∧ t.CautionSound := ite_done (h.keeps hs)
  have answers {r : State × Answer} (h : r.1.CautionSound) : ∃ t, answered r = .next t ∧ t.CautionSound :=
    ⟨_, rfl, h.still ⟨rfl, rfl⟩⟩
  have replies {r : State × Answer} (h : s.SameCaution r.1) : ∃ t, answered r = .next t ∧ t.CautionSound :=
    answers (h.keeps hs)
  cases c
  case commandFrame b => exact absurd rfl (hc b)
  case status | resetPart => exact answers hs
  case setMask | ackStations => exact replies (.still ⟨rfl, rfl⟩)
  case lookup | lookupSlot | standings | readAttention =>
    refine replies ?_
    simp only [State.lookupRequest, State.lookupSlotRequest, State.standingsRequest, State.readAttentionRequest]
    (repeat' split) <;> exact .still ⟨rfl, rfl⟩
  case configGate => exact answers (State.configGateRequest_cautionSound _ _ _ _ _ _ hs)
  case configRace w => exact replies (s.configRaceRequest_sameCaution w)
  case configCall | power =>
    refine replies ?_
    simp only [State.configCallRequest, State.powerRequest]
    (repeat' split) <;> exact .enters rfl id rfl
  case selfTest => exact answers (State.selfTestRequest_cautionSound hs)
  case enter => exact answers (State.enterRequest_cautionSound _ _ hs)
  case amend => exact replies (s.amendRequest_sameCaution ..)
  case retire code => exact answers (State.retireRequest_cautionSound code hs)
  case exclude code => exact answers (State.excludeRequest_cautionSound code hs)
  case call | waive =>
    refine replies ?_
    simp only [State.callRequest, State.waiveRequest]
    (repeat' split) <;> exact .of_fields (by simp)
  case readPasses | discard =>
    refine replies ?_
    simp only [State.readPassesRequest, State.discardRequest]
    (repeat' split) <;> exact .still ⟨rfl, rfl⟩
  case assign tag code => exact answers (State.assignRequest_cautionSound tag code hs)
  case stage => exact replies s.stageRequest_sameCaution
  case start delay => exact replies (s.startRequest_sameCaution delay)
  case yellow value => exact replies (s.yellowRequest_sameCaution value)
  case zone sector value => exact replies (s.zoneRequest_sameCaution sector value)
  case suspend => exact replies s.suspendRequest_sameCaution
  case resume value => exact answers (State.resumeRequest_cautionSound value hs)
  case endRace => exact answers (State.endRequest_cautionSound hs)
  case resetRace =>
    refine answers ?_
    rw [State.resetRaceRequest, State.accept_fst]
    exact State.raceReset_cautionSound hs
  case readPenaltyActivity => exact replies s.readActivityRequest_sameCaution
  case rxGapTimeout | rxByteError | commandByte | gateUnblind | blindedSummaryEdge =>
    exact ite_quiet (.still ⟨rfl, rfl⟩)
  case beaconFrame feed lvl =>
    exact ite_done (State.frameEvent_cautionSound _ _ ((State.modGate_sameCaution _ _ _).keeps hs))
  case selfTestEnd => exact ite_quiet (.of_fields (by simp))
  case sightingDeadlineExpiry i =>
    simp only [exec, execSightingDeadlineExpiry]
    split
    · next h => exact done (State.expireSighting_cautionSound h hs)
    · exact done hs
  case stopGoHoldExpiry | powerHoldExpiry => exact ite_quiet (.of_fields (by simp))
  case timeTargetReached => exact ite_done (State.enterFinishing_cautionSound hs)
  case linkHoldExpiry =>
    refine ite_quiet (.trans ?_ (State.suspensionCause_sameCaution _ _))
    exact .still ⟨rfl, rfl⟩
  case runningClockCap => exact ite_done (State.endRace_cautionSound _ hs)
  case ceilingRefresh => exact ite_quiet s.refresh_sameCaution
  case burstGapExpiry g => exact ite_done (State.closeOpen_cautionSound g hs)
  case pauseByte | resumingByte => exact quiet (.of_fields (by simp))
  case returnByteError => exact done hs
  case powerUp | resetPin => exact done (s.powerOnReset_cautionSound _ _ _)
  case resetPartReboot => exact ite_done (s.powerOnReset_cautionSound _ _ _)
  case gateBlind feed =>
    exact ite_done (State.closeOpen_cautionSound feed.gate (hs.still ⟨rfl, rfl⟩))
  case responseStart | responseEnd | ceilingFrameEnd =>
    simp only [exec, execResponseStart, execResponseEnd, execCeilingFrameEnd]
    split
    · exact ite_quiet (.still ⟨rfl, rfl⟩)
    all_goals exact done hs
  case gateCell =>
    simp only [exec, execGateCell]
    split <;> exact quiet (.still ⟨rfl, rfl⟩)
  case ceilingFrameStart =>
    simp only [exec, execCeilingFrameStart]
    split
    · exact quiet (.of_fields (by simp))
    · exact done hs
  case countdownStep =>
    simp only [exec, execCountdownStep]
    split
    · exact done (State.stepCountdown_cautionSound _ hs)
    · exact done hs
  case finishWindowExpiry =>
    simp only [exec, execFinishWindowExpiry]
    split
    · exact done (State.endRace_cautionSound _ hs)
    · exact done hs
  case burstDwellExpiry g =>
    simp only [exec, execBurstDwellExpiry]
    split
    · exact done (State.closeBurst_cautionSound g _ hs)
    · exact done hs
  case claimWaitExpiry =>
    simp only [exec, execClaimWaitExpiry]
    split
    · exact ite_quiet (.still ⟨rfl, rfl⟩)
    · exact done hs
  case stationRelease | redRelease | powerSenseRestore =>
    simp only [exec, execStationRelease, execRedRelease, execPowerSenseRestore]
    split <;> exact quiet (.still ⟨rfl, rfl⟩)
  case redPress | powerSenseLoss =>
    simp only [exec, execRedPress, execPowerSenseLoss]
    split
    · exact quiet (.still ⟨rfl, rfl⟩)
    · refine quiet (.trans ?_ (State.suspensionCause_sameCaution _ _))
      exact .still ⟨rfl, rfl⟩
  case stationPress =>
    simp only [exec, execStationPress]
    split
    · exact quiet (.still ⟨rfl, rfl⟩)
    · have counted (u : State) (n : StationNo) : u.SameCaution (u.countPress n) := .of_fields (by simp)
      split
      · refine quiet (.trans ?_ (counted _ _))
        refine .trans ?_ (State.callAction_sameCaution _)
        exact .still ⟨rfl, rfl⟩
      · exact quiet (.still ⟨rfl, rfl⟩)

/-- Settles O14: an entrant joins the holders as it becomes Overdue and leaves them as it is released, and no other
command, and no tick, touches a holder. -/
theorem cautionHoldersKept : Obligations.CautionHoldersKept := by
  have hstep : ∀ s : State, s.CautionSound → ∃ t, step s = .next t ∧ t.CautionSound := by
    have ticked (s : State) : s.SameCaution s.tick.settle := .enters rfl id rfl
    refine step_keeps (fun s l hs => hs.still ⟨rfl, rfl⟩) (fun c s hs => ?_) fun s hs => (ticked s).keeps hs
    by_cases hc : ∃ b, c = .commandFrame b
    · obtain ⟨b, rfl⟩ := hc
      refine execCommandFrame_keeps (fun s l p hs => hs.still ⟨rfl, rfl⟩)
        (fun c s hc h => exec_cautionSound ?_ h) b hs
      rintro b rfl
      cases hc
    · exact exec_cautionSound (fun b h => hc ⟨b, h⟩) hs
  intro s hholders hracing
  obtain ⟨t, ht, hkept⟩ := hstep s (s.cautionKept_iff.mpr ⟨hholders, hracing⟩)
  exact ⟨t, ht, t.cautionKept_iff.mp hkept⟩

end Sys2Proof.Machine
end

section
/-! SUPPORT. Chapter 6: a race command that ends with every ceiling recomputed (R159). -/

namespace Sys2Proof.Machine

/-! ### Every ceiling recomputed -/

/-- A recomputation of every ceiling changes the records and the dirty classes alone. -/
theorem State.recomputeAll_frame_eq (u : State) :
    u.recomputeAll
      = { u with
          entrants := u.recomputeAll.entrants
          ceiling := { u.ceiling with dirty := u.recomputeAll.ceiling.dirty } } := by
  have hframe := u.recomputeAll_withCars
  rwa [State.withCars, u.recomputeAll_race] at hframe

/-- The state `r` is `u` with every ceiling recomputed (R159). -/
structure State.Recomputed (u r : State) : Prop where
  frame : r = { u with entrants := r.entrants, ceiling := { u.ceiling with dirty := r.ceiling.dirty } }
  records : ∀ i : Slot, r.entrant i = (u.entrant i).recomputedIn r
  marked : r.markedFrom u

theorem State.recomputeAll_recomputed (u : State) : u.Recomputed u.recomputeAll where
  frame := u.recomputeAll_frame_eq
  records i := by
    rw [u.recomputeAll_recomputedIn]
    refine (Entrant.recomputedIn_congr _ (by simp) (by simp) (by simp) fun k => ?_).symm
    rw [State.localCaution, State.localCaution, State.recomputeAll_race]
  marked := u.recomputeAll_markedFrom

/-- The state `t` is `u` with every ceiling recomputed, its link apart, and the outputs driven. -/
structure State.Told (u t : State) : Prop where
  frame : t = { u with
    entrants := t.entrants, ceiling := { u.ceiling with dirty := t.ceiling.dirty }, link := t.link, pins := t.pinsNow }
  records : ∀ i : Slot, t.entrant i = (u.entrant i).recomputedIn t
  marked : t.markedFrom u

theorem State.Told.race {u t : State} (h : u.Told t) : t.race = u.race := by rw [h.frame]

theorem State.Told.pins {u t : State} (h : u.Told t) : t.pins = t.pinsNow := congrArg State.pins h.frame

theorem State.Recomputed.told {u r : State} (h : u.Recomputed r) (l : CommandLink) :
    u.Told ({ r with link := l } : State).settle where
  frame := State.settle_of_eq (congrArg (fun r : State => { r with link := l }) h.frame)
  records := h.records
  marked := h.marked

/-- The same from a state `v` whose records alone were written before, their ceilings apart. -/
theorem State.Told.rebase {v u t : State} (h : u.Told t) (hu : u = { v with entrants := u.entrants })
    (heffective : ∀ j : Slot, (u.entrant j).effective = (v.entrant j).effective) :
    t = { v with
      entrants := t.entrants, ceiling := { v.ceiling with dirty := t.ceiling.dirty }, link := t.link
      pins := t.pinsNow }
    ∧ t.markedFrom v := by
  refine ⟨?_, fun j => ?_⟩
  · have hframe := h.frame
    rw [hu] at hframe
    exact hframe
  · have hdirty : u.dirtyOf j = v.dirtyOf j := by rw [hu]; rfl
    rw [h.marked j, hdirty, heffective]

/-- A second recomputation of every ceiling changes nothing. -/
theorem State.recomputeAll_recomputeAll (u : State) : u.recomputeAll.recomputeAll = u.recomputeAll := by
  have hrecord (j : Slot) : u.recomputeAll.recomputeAll.entrant j = u.recomputeAll.entrant j := by
    rw [u.recomputeAll.recomputeAll_recomputedIn, u.recomputeAll_recomputed.records, Entrant.recomputedIn_recomputedIn]
  have hdirty (j : Slot) : u.recomputeAll.recomputeAll.dirtyOf j = u.recomputeAll.dirtyOf j := by
    rw [u.recomputeAll.recomputeAll_markedFrom j, hrecord, DirtyClass.mark_same]
  have hentrants : u.recomputeAll.recomputeAll.entrants = u.recomputeAll.entrants :=
    Vector.ext fun j hj => hrecord ⟨j, hj⟩
  have hmarks : u.recomputeAll.recomputeAll.ceiling.dirty = u.recomputeAll.ceiling.dirty :=
    Vector.ext fun j hj => hdirty ⟨j, hj⟩
  rw [State.recomputeAll_frame_eq u.recomputeAll, hentrants, hmarks]

/-- A request that ends with every ceiling recomputed. -/
theorem State.Recomputed.accepted {c : Instr} {s u r : State} (hr : u.Recomputed r)
    (h : exec c s = answered r.accept) (hlink : u.link = s.link) (hclock : u.race.raceClock = s.race.raceClock) :
    ∃ t, exec c s = .next t ∧ u.Told t ∧ t.link = s.replied .okay := by
  have hlink' : r.link = s.link := by rw [hr.frame]; exact hlink
  have hclock' : r.race.raceClock = s.race.raceClock := by rw [hr.frame]; exact hclock
  exact ⟨_, State.next_of_accept h hlink' hclock', hr.told _, rfl⟩

/-- An event that ends with every ceiling recomputed. -/
theorem State.Recomputed.done {c : Instr} {s u r : State} (hr : u.Recomputed r) (h : exec c s = r.done)
    (hlink : u.link = s.link) : ∃ t, exec c s = .next t ∧ u.Told t ∧ t.link = s.link := by
  have hlink' : r.link = s.link := by rw [hr.frame]; exact hlink
  exact ⟨_, h, hr.told r.link, hlink'⟩

/-- The frame with the link written in. -/
theorem State.Told.frame_link {u t : State} {l : CommandLink} (h : u.Told t) (hl : t.link = l) :
    t = { u with
      entrants := t.entrants, ceiling := { u.ceiling with dirty := t.ceiling.dirty }, link := l, pins := t.pinsNow } :=
  hl ▸ h.frame

/-! ### STAGE and START -/

theorem State.tablePasses_iff (s : State) :
    s.tablePasses = true ↔ (∃ g : GateNo, (s.gate g).entry.kind = .line)
      ∧ ∀ g : GateNo, (s.gate g).entry.kind = .split → (s.gate g).entry.boundary.getD 0 < s.cfg.sectorCount := by
  have hall {p : Gate → Prop} : (∀ x ∈ s.gates.toList, p x) ↔ ∀ g : GateNo, p (s.gate g) := by
    simp only [Vector.mem_toList_iff, Vector.mem_iff_getElem]
    exact ⟨fun h g => h _ ⟨g.val, g.isLt, rfl⟩, fun h x ⟨k, hk, hx⟩ => hx ▸ h ⟨k, hk⟩⟩
  have hany {p : Gate → Prop} : (∃ x ∈ s.gates.toList, p x) ↔ ∃ g : GateNo, p (s.gate g) := by
    have := not_congr (hall (p := fun x => ¬p x))
    simpa using this
  rw [State.tablePasses, Bool.and_eq_true, List.any_eq_true, List.all_eq_true, hany, hall]
  simp [or_iff_not_imp_left]

/-- Settles O38: STAGE and START change the race state and have every ceiling recomputed. -/
theorem stageAndStart : Obligations.StageAndStart := by
  refine ⟨?stage, ?badTable, ?notSetup, ?start, ?notStaging, ?badDelay, ?barred⟩
  case stage =>
    intro s hrace htest hline hsplit
    have hpass : s.tablePasses = true := s.tablePasses_iff.mpr ⟨hline, hsplit⟩
    have hexec : exec .stage s = answered (s.enterRace .staging).recomputeAll.accept :=
      congrArg answered (by simp [State.stageRequest, hrace, htest, hpass])
    obtain ⟨t, hnext, htold, hlink⟩ := (State.recomputeAll_recomputed _).accepted hexec rfl rfl
    refine ⟨t, hnext, htold.frame_link hlink, htold.records, htold.marked, ?_⟩
    rw [htold.pins, State.pinsNow_masterPower, htold.race]
    rfl
  case badTable =>
    intro s hrace htest hbad
    have hfail : ¬s.tablePasses = true := by
      rw [s.tablePasses_iff]
      rintro ⟨⟨g, hg⟩, hsplit⟩
      rcases hbad with hnone | ⟨k, hk, hover⟩
      · exact hnone g hg
      · exact absurd (hsplit k hk) (by omega)
    exact State.refuses_of_answered (congrArg answered (by simp [State.stageRequest, hrace, htest, hfail]))
  case notSetup =>
    intro s h
    exact State.refuses_of_answered (congrArg answered (if_pos h))
  case start =>
    intro delay s hrace hdelay hred hpower
    have hfree : s.inputBars = false := by simp [State.inputBars, hred, hpower]
    have hexec : exec (.start delay) s = answered (s.startCountdown delay.toNat).accept :=
      congrArg answered (by simp [State.startRequest, hrace, hdelay, hfree])
    obtain ⟨t, hnext, htold, hlink⟩ := (State.recomputeAll_recomputed _).accepted hexec rfl rfl
    refine ⟨t, hnext, ?_, htold.records, htold.marked, ?_, ?_⟩
    · have hframe := htold.frame_link hlink
      simp only [State.enterRace_race, rawPlus, State.lightTicks, ticksPerMs, Nat.mul_comm _ 10] at hframe
      have hhold : s.holdStartOn .countdown = if s.ceiling.paused then some s.race.raceClock else none := by
        simp [State.holdStartOn, hrace, RaceState.heldCounts]
      rw [← hhold]
      exact hframe
    · rw [htold.pins, State.pinsNow, State.redsLit, htold.race]
      rfl
    · rw [htold.pins, State.pinsNow, State.redsLit, htold.race]
      rfl
  case notStaging =>
    intro delay s hrace
    exact State.refuses_of_answered (congrArg answered (if_pos hrace))
  case badDelay =>
    intro delay s hrace hdelay
    exact State.refuses_of_answered (congrArg answered (by simp [State.startRequest, hrace, hdelay]))
  case barred =>
    intro delay s hrace hdelay hinput
    have hbars : s.inputBars = true := by simpa [State.inputBars] using hinput
    have hlow : ¬5000 < delay.toNat := by omega
    exact State.refuses_of_answered (congrArg answered (by simp [State.startRequest, hrace, hlow, hbars]))

end Sys2Proof.Machine
end

section
/-! SUPPORT. Chapter 6, section 6.3: the causes that suspend a race and abort a start (R109, R110, R167, R169). -/

namespace Sys2Proof.Machine

/-! ### A race suspended -/

theorem stateCeiling_suspended (c : Ceilings) (yellow : Bool) (st : EntrantState) :
    stateCeiling c yellow st .suspended = 0 := by
  cases st <;> rfl

/-- Every ceiling is 0 in a suspended race (R157, R158). -/
theorem State.effectiveFor_suspended {s : State} (h : s.race.state = .suspended) (e : Entrant) : s.effectiveFor e = 0 := by
  have hle := (foldl_min_le (s.limits e) (stateCeiling s.cfg.ceilings s.race.yellow e.state s.race.state)).1
  rw [h, stateCeiling_suspended] at hle
  rw [State.effectiveFor, h, stateCeiling_suspended]
  exact Nat.le_zero.mp hle

/-- The state with what its inputs and the hold of its link have come to, before the race is told. -/
def State.shown (s : State) (x : InputLatch) (h : Option RawTime) : State :=
  { s with inputs := x, ceiling := { s.ceiling with holdStart := h } }

/-- A suspended race before the Ceiling Unit is told (R109). -/
def State.halted (s : State) (back : ResumeTo) (why : Reason) : State :=
  { s with
    race := { s.race with state := .suspended, resume := some back, suspStart := some s.race.raceClock }
    ceiling := { s.ceiling with holdStart := none }
    attention := { s.attention with suspended := some why, race := true } }

theorem State.suspendFrom_halted (s : State) (back : ResumeTo) (why : Reason) :
    s.suspendFrom back why = (s.halted back why).recomputeAll := rfl

theorem State.suspensionCause_halted {s : State} {back : ResumeTo} (h : s.race.state = back.race) (why : Reason) :
    s.suspensionCause why = (s.halted back why).recomputeAll := by
  rw [← State.suspendFrom_halted]
  unfold State.suspensionCause
  cases back <;> rw [h] <;> rfl

theorem State.Told.suspendedFrom {s t : State} {x : InputLatch} {h : Option RawTime} {back : ResumeTo} {why : Reason}
    (ht : ((s.shown x h).halted back why).Told t) : t.suspendedFrom s back why ∧ t.inputs = x := by
  have hinputs : t.inputs = x := by rw [ht.frame]; rfl
  have hrace : t.race.state = .suspended := by rw [ht.race]; rfl
  refine ⟨⟨?frame, fun i => ?_, ht.marked, ?_, ?_, ?_, ?_, ?_, ?_, ?_⟩, hinputs⟩
  case frame =>
    have hframe := ht.frame
    rw [hinputs]
    exact hframe
  · rw [ht.records i, Entrant.recomputedIn, State.effectiveFor_suspended hrace]
    rfl
  all_goals
    rw [ht.pins, State.pinsNow]
    simp [State.powerOut, State.redsLit, RaceState.greenLit, hrace]

/-! ### A start aborted -/

/-- An aborted start before the jump-start marks are cleared and the Ceiling Unit is told (R110). -/
def State.aborted (s : State) (why : Reason) : State :=
  { s with
    race := { s.race with state := .staging, countdown := none }
    ceiling := { s.ceiling with holdStart := none }
    attention := { s.attention with suspended := some why, race := true } }

theorem State.suspensionCause_aborted {s : State} (h : s.race.state = .countdown) (why : Reason) :
    s.suspensionCause why = (s.aborted why).dropJumpStarts.recomputeAll := by
  unfold State.suspensionCause
  rw [h]
  rfl

/-- The marks are cleared, and nothing else (R110). -/
theorem State.dropJumpStarts_entrant (s : State) (j : Slot) :
    s.dropJumpStarts.entrant j = { s.entrant j with jumpStart := false } := by
  have hrest : ({ s.dropJumpStarts.entrant j with jumpStart := false } : Entrant)
      = { s.entrant j with jumpStart := false } := by
    refine State.forSlots_keeps (fun u => ({ u.entrant j with jumpStart := false } : Entrant)) _ (fun u i => ?_) s
    simp only [State.entrant_modEntrant]
    split
    · next hji => rw [hji]
    · rfl
  have hclear : (s.dropJumpStarts.entrant j).jumpStart = false := by
    refine State.forSlots_reaches (P := fun j u => (u.entrant j).jumpStart = false) (fun u i j hj => ?_) (fun u i => ?_) s j
    · rw [State.entrant_modEntrant]
      split
      · rfl
      · exact hj
    · rw [State.entrant_modEntrant_same]
  rw [← hrest, ← hclear]

theorem State.dropJumpStarts_frame_eq (s : State) :
    s.dropJumpStarts = { s with entrants := s.dropJumpStarts.entrants } := by
  refine State.forSlots_induction (fun u => u = { s with entrants := u.entrants }) _ (fun u i hu => ?_) s rfl
  rw [hu]
  rfl

theorem State.aborted_recomputed (s : State) (why : Reason) (t : State)
    (ht : (s.aborted why).dropJumpStarts.Told t) :
    t = { s.aborted why with
      entrants := t.entrants, ceiling := { (s.aborted why).ceiling with dirty := t.ceiling.dirty }
      link := t.link, pins := t.pinsNow }
    ∧ (∀ i : Slot, t.entrant i = ({ s.entrant i with jumpStart := false } : Entrant).recomputedIn t)
    ∧ t.markedFrom s := by
  have heffective (j : Slot) : ((s.aborted why).dropJumpStarts.entrant j).effective = ((s.aborted why).entrant j).effective := by
    rw [State.dropJumpStarts_entrant]
  obtain ⟨hframe, hmarked⟩ := ht.rebase (State.dropJumpStarts_frame_eq _) heffective
  refine ⟨hframe, fun i => ?_, hmarked⟩
  rw [ht.records i, State.dropJumpStarts_entrant]
  rfl

theorem State.Told.abortedFrom {s t : State} {x : InputLatch} {h : Option RawTime} {why : Reason}
    (ht : ((s.shown x h).aborted why).dropJumpStarts.Told t) : t.abortedFrom s why ∧ t.inputs = x := by
  obtain ⟨hframe, hrecords, hmarked⟩ := State.aborted_recomputed _ why t ht
  have hinputs : t.inputs = x := by rw [hframe]; rfl
  have hrace : t.race.state = .staging := by rw [hframe]; rfl
  refine ⟨⟨?frame, hrecords, hmarked, ?_, ?_, ?_, ?_, ?_, ?_⟩, hinputs⟩
  case frame =>
    rw [hinputs]
    exact hframe
  all_goals
    rw [ht.pins, State.pinsNow]
    simp [State.powerOut, State.redsLit, hrace]

/-! ### The causes -/

/-- An event that is a suspension cause. -/
theorem State.cause_of_done {c : Instr} {s : State} {x : InputLatch} {h : Option RawTime} {why : Reason}
    (hexec : exec c s = ((s.shown x h).suspensionCause why).done) :
    (∀ back : ResumeTo, s.race.state = back.race →
        ∃ t, exec c s = .next t ∧ t.suspendedFrom s back why ∧ t.inputs = x ∧ t.link = s.link)
      ∧ (s.race.state = .countdown →
        ∃ t, exec c s = .next t ∧ t.abortedFrom s why ∧ t.inputs = x ∧ t.link = s.link) := by
  refine ⟨fun back hrace => ?_, fun hrace => ?_⟩
  · rw [State.suspensionCause_halted (s := s.shown x h) hrace] at hexec
    obtain ⟨t, hnext, htold, hlink⟩ := (State.recomputeAll_recomputed _).done hexec rfl
    exact ⟨t, hnext, htold.suspendedFrom.1, htold.suspendedFrom.2, hlink⟩
  · rw [State.suspensionCause_aborted (s := s.shown x h) hrace] at hexec
    obtain ⟨t, hnext, htold, hlink⟩ := (State.recomputeAll_recomputed _).done hexec (by simp; rfl)
    exact ⟨t, hnext, htold.abortedFrom.1, htold.abortedFrom.2, hlink⟩

theorem State.suspensionCause_still {s : State} (h : s.race.state ∈ [RaceState.setup, .staging, .suspended, .complete])
    (why : Reason) : s.suspensionCause why = s := by
  unfold State.suspensionCause
  simp only [List.mem_cons, List.not_mem_nil, or_false] at h
  rcases h with h | h | h | h <;> rw [h]

theorem State.suspensionCause_shown {s : State} {x : InputLatch} {d : Option RawTime}
    (h : s.race.state ∈ [RaceState.setup, .staging, .suspended, .complete]) (why : Reason) :
    (s.shown x d).suspensionCause why = s.shown x d := State.suspensionCause_still (s := s.shown x d) h why

end Sys2Proof.Machine
end

section
/-! SUPPORT. Chapter 6, section 6.3, and chapter 10, section 10.1: SUSPEND, the red and power inputs, and the link's hold
(R109, R110, R165, R167, R169). -/

namespace Sys2Proof.Machine

/-- SUSPEND as a suspension cause. -/
theorem State.cause_of_accept {s : State} (hexec : exec .suspend s = answered (s.suspensionCause .host).accept) :
    (∀ back : ResumeTo, s.race.state = back.race →
        ∃ t, exec .suspend s = .next t ∧ t.suspendedFrom s back .host ∧ t.inputs = s.inputs ∧ t.link = s.replied .okay)
      ∧ (s.race.state = .countdown →
        ∃ t, exec .suspend s = .next t ∧ t.abortedFrom s .host ∧ t.inputs = s.inputs ∧ t.link = s.replied .okay) := by
  have hshown : s = s.shown s.inputs s.ceiling.holdStart := rfl
  refine ⟨fun back hrace => ?_, fun hrace => ?_⟩
  · rw [State.suspensionCause_halted hrace] at hexec
    obtain ⟨t, hnext, htold, hlink⟩ := (State.recomputeAll_recomputed _).accepted hexec rfl rfl
    rw [hshown] at htold
    exact ⟨t, hnext, htold.suspendedFrom.1, htold.suspendedFrom.2, hlink⟩
  · rw [State.suspensionCause_aborted hrace] at hexec
    obtain ⟨t, hnext, htold, hlink⟩ := (State.recomputeAll_recomputed _).accepted hexec (by simp; rfl) (by simp; rfl)
    rw [hshown] at htold
    exact ⟨t, hnext, htold.abortedFrom.1, htold.abortedFrom.2, hlink⟩

theorem exec_suspend_held {s : State} (h : s.race.state.heldCounts = true) :
    exec .suspend s = answered (s.suspensionCause .host).accept := congrArg answered (if_pos h)

theorem ResumeTo.race_heldCounts (back : ResumeTo) : back.race.heldCounts = true := by cases back <;> rfl

/-! ### Debounced inputs -/

theorem InputLatch.edge_redSince (l : InputLatch) (live : InputLevels) (d : Option RawTime) :
    ({ l with redSince := d } : InputLatch).edge live = { l.edge live with redSince := d } := by
  unfold InputLatch.edge
  cases l.latch
  · dsimp only
    split <;> rfl
  · rfl

theorem InputLatch.edge_powerSince (l : InputLatch) (live : InputLevels) (d : Option RawTime) :
    ({ l with powerSince := d } : InputLatch).edge live = { l.edge live with powerSince := d } := by
  unfold InputLatch.edge
  cases l.latch
  · dsimp only
    split <;> rfl
  · rfl

/-- How an input that shows a level is debounced (R167). -/
theorem State.debounce_spec (s : State) (live shows : Bool) (d : Option RawTime) (r : RawTime) :
    s.debounce live live d = .keeps none
      ∧ (shows ≠ live → s.debounce live shows none = .keeps (some s.race.raceClock))
      ∧ (shows ≠ live → s.since r < 200 → s.debounce live shows (some r) = .keeps (some r))
      ∧ (shows ≠ live → 200 ≤ s.since r → s.debounce live shows (some r) = .edge) := by
  refine ⟨if_pos rfl, fun h => ?_, fun h hshort => ?_, fun h hlong => ?_⟩
  · rw [State.debounce, if_neg h]
    rfl
  · have hover : s.departureOver (some r) = false := decide_eq_false (by omega)
    rw [State.debounce, if_neg h, hover]
    rfl
  · have hover : s.departureOver (some r) = true := decide_eq_true hlong
    rw [State.debounce, if_neg h, hover]
    rfl

/-- The red press, debounced, is a suspension cause (R169). -/
theorem exec_redPress_edge {s : State} {r : RawTime} (hlive : s.inputs.live.redHeld = false)
    (hr : s.inputs.redSince = some r) (hlong : 200 ≤ s.since r) :
    exec .redPress s
      = ((s.shown { s.inputs.edge { s.inputs.live with redHeld := true } with redSince := none }
          s.ceiling.holdStart).suspensionCause .red).done := by
  have hedge : s.debounce s.inputs.live.redHeld true s.inputs.redSince = .edge := by
    rw [hlive, hr]
    exact (s.debounce_spec false true none r).2.2.2 (by decide) hlong
  show execRedPress s = _
  rw [execRedPress, hedge, ← InputLatch.edge_redSince]
  rfl

/-- The loss of power, debounced, is a suspension cause (R169). -/
theorem exec_powerSenseLoss_edge {s : State} {r : RawTime} (hlive : s.inputs.live.powerAbsent = false)
    (hr : s.inputs.powerSince = some r) (hlong : 200 ≤ s.since r) :
    exec .powerSenseLoss s
      = ((s.shown { s.inputs.edge { s.inputs.live with powerAbsent := true } with powerSince := none }
          s.ceiling.holdStart).suspensionCause .powerLost).done := by
  have hedge : s.debounce s.inputs.live.powerAbsent true s.inputs.powerSince = .edge := by
    rw [hlive, hr]
    exact (s.debounce_spec false true none r).2.2.2 (by decide) hlong
  show execPowerSenseLoss s = _
  rw [execPowerSenseLoss, hedge, ← InputLatch.edge_powerSince]
  rfl

theorem exec_redInput_keeps {s : State} {shows : Bool} {d : Option RawTime}
    (h : s.debounce s.inputs.live.redHeld shows s.inputs.redSince = .keeps d) :
    exec (if shows then .redPress else .redRelease) s = (s.setRedSince d).done := by
  cases shows
  · show execRedRelease s = _
    rw [execRedRelease, h]
  · show execRedPress s = _
    rw [execRedPress, h]

theorem exec_powerInput_keeps {s : State} {shows : Bool} {d : Option RawTime}
    (h : s.debounce s.inputs.live.powerAbsent shows s.inputs.powerSince = .keeps d) :
    exec (if shows then .powerSenseLoss else .powerSenseRestore) s = (s.setPowerSince d).done := by
  cases shows
  · show execPowerSenseRestore s = _
    rw [execPowerSenseRestore, h]
  · show execPowerSenseLoss s = _
    rw [execPowerSenseLoss, h]

/-! ### The hold of a paused link -/

theorem State.holdDue_of {s : State} {h : RawTime} (hstart : s.ceiling.holdStart = some h)
    (hover : 10 * s.cfg.holdLimit ≤ s.since h) : s.holdDue = true := by
  rw [State.holdDue, hstart]
  exact decide_eq_true (by rw [ticksPerMs]; omega)

theorem exec_linkHoldExpiry_due {s : State} {h : RawTime} (hstart : s.ceiling.holdStart = some h)
    (hover : 10 * s.cfg.holdLimit ≤ s.since h) :
    exec .linkHoldExpiry s = ((s.shown s.inputs none).suspensionCause .linkHeld).done :=
  if_pos (State.holdDue_of hstart hover)

theorem exec_linkHoldExpiry_notDue {s : State} (h : ∀ b ∈ s.ceiling.holdStart.toList, s.since b < 10 * s.cfg.holdLimit) :
    exec .linkHoldExpiry s = s.done := by
  refine if_neg fun hdue => ?_
  unfold State.holdDue at hdue
  split at hdue
  · next b hb =>
    have hshort := h b (by simp [hb])
    have hover := of_decide_eq_true hdue
    rw [ticksPerMs] at hover
    omega
  · cases hdue

/-- Settles O41: each of the four is the suspension cause of its reason, once its input is debounced or its hold has run. -/
theorem suspensionCauses : Obligations.SuspensionCauses := by
  refine ⟨?suspendRuns, ?redRuns, ?powerRuns, ?linkRuns, ?suspendStarts, ?redStarts, ?powerStarts, ?linkStarts,
    ?suspendRefused, ?redElse, ?powerElse, ?linkNotDue, ?debounced, ?redKeeps, ?powerKeeps⟩
  case suspendRuns =>
    intro back s hrace
    exact (State.cause_of_accept (exec_suspend_held (by rw [hrace]; exact back.race_heldCounts))).1 back hrace
  case redRuns =>
    intro back r s hrace hlive hr hlong
    obtain ⟨t, hnext, hfrom, hinputs, hlink⟩ := (State.cause_of_done (exec_redPress_edge hlive hr hlong)).1 back hrace
    exact ⟨t, hnext, hfrom, hlink, hinputs⟩
  case powerRuns =>
    intro back r s hrace hlive hr hlong
    obtain ⟨t, hnext, hfrom, hinputs, hlink⟩ :=
      (State.cause_of_done (exec_powerSenseLoss_edge hlive hr hlong)).1 back hrace
    exact ⟨t, hnext, hfrom, hlink, hinputs⟩
  case linkRuns =>
    intro back h s hrace hstart hover
    exact (State.cause_of_done (exec_linkHoldExpiry_due hstart hover)).1 back hrace
  case suspendStarts =>
    intro s hrace
    exact (State.cause_of_accept (exec_suspend_held (by rw [hrace]; rfl))).2 hrace
  case redStarts =>
    intro r s hrace hlive hr hlong
    obtain ⟨t, hnext, hfrom, hinputs, hlink⟩ := (State.cause_of_done (exec_redPress_edge hlive hr hlong)).2 hrace
    exact ⟨t, hnext, hfrom, hlink, hinputs⟩
  case powerStarts =>
    intro r s hrace hlive hr hlong
    obtain ⟨t, hnext, hfrom, hinputs, hlink⟩ := (State.cause_of_done (exec_powerSenseLoss_edge hlive hr hlong)).2 hrace
    exact ⟨t, hnext, hfrom, hlink, hinputs⟩
  case linkStarts =>
    intro h s hrace hstart hover
    exact (State.cause_of_done (exec_linkHoldExpiry_due hstart hover)).2 hrace
  case suspendRefused =>
    intro s h
    have hnot : ¬s.race.state.heldCounts = true := by
      simp only [List.mem_cons, List.not_mem_nil, or_false] at h
      rcases h with h | h | h | h <;> rw [h] <;> decide
    exact State.refuses_of_answered (congrArg answered (if_neg hnot))
  case redElse =>
    intro r s h hlive hr hlong
    have hexec := exec_redPress_edge hlive hr hlong
    rw [State.suspensionCause_shown h] at hexec
    exact State.next_of_done hexec
  case powerElse =>
    intro r s h hlive hr hlong
    have hexec := exec_powerSenseLoss_edge hlive hr hlong
    rw [State.suspensionCause_shown h] at hexec
    exact State.next_of_done hexec
  case linkNotDue => exact fun s h => State.unmovedBy_of_done (exec_linkHoldExpiry_notDue h)
  case debounced => exact fun live shows d r s => s.debounce_spec live shows d r
  case redKeeps => exact fun shows d s h => State.next_of_done (exec_redInput_keeps h)
  case powerKeeps => exact fun shows d s h => State.next_of_done (exec_powerInput_keeps h)

end Sys2Proof.Machine
end

section
/-! SUPPORT. Chapter 6, section 6.5: the yellow flag, the host flags and the caution notices (R113 to R116). -/

namespace Sys2Proof.Machine

/-! ### Operands -/

theorem onOff_flag (on : Bool) : onOff (if on then 1#8 else 0#8) = some on := by cases on <;> rfl

theorem onOff_none {b : Byte} (h : 1 < b.toNat) : onOff b = none := by
  have hzero : b ≠ 0 := by rintro rfl; simp at h
  have hone : b ≠ 1 := by rintro rfl; simp at h
  rw [onOff, if_neg hzero, if_neg hone]

/-! ### The notice -/

/-- The caution notice, sent as a caution begins (R116). -/
def State.noticeIf (s : State) (on : Bool) (concerns : Entrant → Bool) : State := if on then s.notice concerns else s

/-- The record that carries the notice, if it was sent and concerns it. -/
def Entrant.noticeIf (e : Entrant) (on : Bool) (concerns : Entrant → Bool) : Entrant :=
  { e with lapCaution := e.lapCaution || (on && e.state == .racing && concerns e) }

theorem State.notice_frame_eq (s : State) (concerns : Entrant → Bool) :
    s.notice concerns = { s with entrants := (s.notice concerns).entrants } := by
  refine State.forSlots_induction (fun u => u = { s with entrants := u.entrants }) _ (fun u i hu => ?_) s rfl
  split
  · rw [hu]; rfl
  · exact hu

theorem State.noticeIf_frame_eq (s : State) (on : Bool) (concerns : Entrant → Bool) :
    s.noticeIf on concerns = { s with entrants := (s.noticeIf on concerns).entrants } := by
  cases on
  · rfl
  · exact s.notice_frame_eq concerns

theorem State.noticeIf_entrant (s : State) (on : Bool) (concerns : Entrant → Bool) (j : Slot) :
    (s.noticeIf on concerns).entrant j = (s.entrant j).noticeIf on concerns := by
  cases on with
  | false => simp [State.noticeIf, Entrant.noticeIf]
  | true =>
    rw [State.noticeIf, if_pos rfl, State.notice_entrant, Entrant.noticeIf]
    by_cases h : (s.entrant j).state = .racing ∧ concerns (s.entrant j) = true
    · simp [h]
    · have hfalse : (true && (s.entrant j).state == .racing && concerns (s.entrant j)) = false := by
        simpa using h
      rw [if_neg h, hfalse, Bool.or_false]

/-- Every ceiling recomputed after a notice. -/
theorem State.Told.noticed {v t : State} {on : Bool} {concerns : Entrant → Bool}
    (h : (v.noticeIf on concerns).Told t) :
    t = { v with
      entrants := t.entrants, ceiling := { v.ceiling with dirty := t.ceiling.dirty }, link := t.link
      pins := t.pinsNow }
    ∧ (∀ i : Slot, t.entrant i = ((v.entrant i).noticeIf on concerns).recomputedIn t)
    ∧ t.markedFrom v := by
  have heffective (j : Slot) : ((v.noticeIf on concerns).entrant j).effective = (v.entrant j).effective := by
    rw [State.noticeIf_entrant]
    rfl
  obtain ⟨hframe, hmarked⟩ := h.rebase (State.noticeIf_frame_eq _ _ _) heffective
  refine ⟨hframe, fun i => ?_, hmarked⟩
  rw [h.records i, State.noticeIf_entrant]

theorem State.noticed_accepted {c : Instr} {s v : State} {on : Bool} {concerns : Entrant → Bool}
    (hexec : exec c s = answered (v.noticeIf on concerns).recomputeAll.accept) (hlink : v.link = s.link)
    (hclock : v.race.raceClock = s.race.raceClock) :
    ∃ t, exec c s = .next t
      ∧ t = { v with
        entrants := t.entrants, ceiling := { v.ceiling with dirty := t.ceiling.dirty }, link := s.replied .okay
        pins := t.pinsNow }
      ∧ (∀ i : Slot, t.entrant i = ((v.entrant i).noticeIf on concerns).recomputedIn t)
      ∧ t.markedFrom v := by
  have hnotice := v.noticeIf_frame_eq on concerns
  have hlink' : (v.noticeIf on concerns).link = s.link := by rw [hnotice]; exact hlink
  have hclock' : (v.noticeIf on concerns).race.raceClock = s.race.raceClock := by rw [hnotice]; exact hclock
  obtain ⟨t, hnext, htold, hreply⟩ := (State.recomputeAll_recomputed _).accepted hexec hlink' hclock'
  obtain ⟨hframe, hrecords, hmarked⟩ := htold.noticed
  rw [hreply] at hframe
  exact ⟨t, hnext, hframe, hrecords, hmarked⟩

/-! ### YELLOW -/

/-- The state with the yellow flag at a value, before anyone is told. -/
def State.withYellow (s : State) (on : Bool) : State := { s with race := { s.race with yellow := on } }

theorem State.setYellow_change {s : State} {on : Bool} (h : s.race.yellow ≠ on) :
    s.setYellow on = ((s.withYellow on).noticeIf on fun _ => true).recomputeAll := if_neg h

theorem exec_yellow {s : State} (on : Bool) (h : s.race.state = .running ∨ s.race.state = .finishing) :
    exec (.yellow (if on then 1#8 else 0#8)) s = answered (s.setYellow on).accept := by
  have hruns : s.race.state.clockRuns = true := (RaceState.clockRuns_iff _).mpr h
  exact congrArg answered (by simp [State.yellowRequest, hruns, onOff_flag])

/-- A request that replaces only what no ceiling depends on, and answers OK. -/
theorem State.told_nobody {c : Instr} {s u : State} (hexec : exec c s = answered u.accept) (hlink : u.link = s.link)
    (hclock : u.race.raceClock = s.race.raceClock) (hentrants : u.entrants = s.entrants)
    (hdirty : u.ceiling.dirty = s.ceiling.dirty) :
    ∃ t, exec c s = .next t ∧ t = { u with link := s.replied .okay, pins := t.pinsNow } ∧ t.entrants = s.entrants
      ∧ t.markedFrom s := by
  refine ⟨_, State.next_of_accept hexec hlink hclock, rfl, hentrants, fun j => ?_⟩
  have hrecord : u.entrant j = s.entrant j := State.entrant_congr hentrants j
  have hmark : u.dirtyOf j = s.dirtyOf j := by rw [State.dirtyOf, State.dirtyOf, hdirty]
  show u.dirtyOf j = DirtyClass.mark _ (u.entrant j).effective _
  rw [hrecord, hmark, DirtyClass.mark_same]

/-! ### ZONE -/

/-- A sector with its host flag at a value. -/
def SectorCaution.withHostFlag (z : SectorCaution) (on : Bool) : SectorCaution := { z with hostFlag := on }

theorem SectorCaution.withHostFlag_inForce (z : SectorCaution) (on : Bool) :
    (z.withHostFlag on).inForce = (on || !z.holders.isEmpty) := rfl

theorem exec_zone {s : State} (k : Fin 4) (on : Bool)
    (h : s.race.state = .running ∨ s.race.state = .finishing ∨ s.race.state = .suspended) (hk : k.val < s.cfg.sectorCount) :
    exec (.zone (BitVec.ofNat 8 k.val) (if on then 1#8 else 0#8)) s
      = answered (s.changeSector k.val (·.withHostFlag on)).accept := by
  have hsector : (BitVec.ofNat 8 k.val).toNat = k.val := by
    rw [BitVec.toNat_ofNat]
    exact Nat.mod_eq_of_lt (by omega)
  have hrace : ¬(s.race.state ≠ .running ∧ s.race.state ≠ .finishing ∧ s.race.state ≠ .suspended) := by tauto
  have hin : ¬(3 < k.val ∨ s.cfg.sectorCount ≤ k.val) := by omega
  refine congrArg answered ?_
  rw [State.zoneRequest, if_neg hrace, hsector, if_neg hin, onOff_flag]
  rfl

/-- A host flag that turns while the sector has no holder brings the sector under local caution or out of it. -/
theorem State.changeSector_turned {s : State} {k : Fin 4} {on : Bool} (hflag : s.race.caution[k].hostFlag ≠ on)
    (hholders : s.race.caution[k].holders = []) :
    s.changeSector k.val (·.withHostFlag on)
      = ((s.modSector k.val (·.withHostFlag on)).noticeIf on fun e => e.sector == k.val).recomputeAll := by
  have hbefore : s.localCaution k.val = !on := by
    rw [State.localCaution_sector, SectorCaution.inForce, hholders, List.isEmpty_nil, Bool.not_true, Bool.or_false]
    exact Bool.eq_not_of_ne hflag
  have hafter : (s.race.caution[k].withHostFlag on).inForce = on := by
    rw [SectorCaution.withHostFlag_inForce, hholders, List.isEmpty_nil, Bool.not_true, Bool.or_false]
  cases on with
  | true => exact State.changeSector_entered (f := (·.withHostFlag true)) hbefore hafter
  | false => exact State.changeSector_left (f := (·.withHostFlag false)) hbefore hafter

/-- A host flag that stays, or turns while the sector has a holder, changes no caution. -/
theorem State.changeSector_steady {s : State} {k : Fin 4} {on : Bool}
    (h : s.race.caution[k].hostFlag = on ∨ s.race.caution[k].holders ≠ []) :
    s.changeSector k.val (·.withHostFlag on) = s.modSector k.val (·.withHostFlag on) := by
  refine State.changeSector_kept (f := (·.withHostFlag on)) ?_
  rw [State.localCaution_sector, SectorCaution.withHostFlag_inForce, SectorCaution.inForce]
  rcases h with h | h
  · rw [h]
  · rw [List.isEmpty_eq_false_iff.mpr h, Bool.not_false, Bool.or_true, Bool.or_true]

/-- Settles O40: a flag that brings a caution, or ends one, has the notice sent and every ceiling recomputed; one that
changes no caution tells nobody. -/
theorem yellowFlagAndZones : Obligations.YellowFlagAndZones := by
  refine ⟨?yellow, ?yellowElse, ?yellowBad, ?zone, ?zoneElse, ?zoneBad, fun k s => ?_⟩
  case yellow =>
    intro on s hrace
    have hexec := exec_yellow on hrace
    by_cases hsame : s.race.yellow = on
    · subst hsame
      rw [State.setYellow_same] at hexec
      obtain ⟨t, hnext, hframe, hentrants, hmarked⟩ := State.told_nobody hexec rfl rfl rfl rfl
      refine ⟨t, hnext, ?_, fun _ => hentrants, fun h => absurd rfl h, hmarked⟩
      have hdirty : t.ceiling.dirty = s.ceiling.dirty := by rw [hframe]
      rw [hentrants, hdirty]
      exact hframe
    · rw [State.setYellow_change hsame] at hexec
      obtain ⟨t, hnext, hframe, hrecords, hmarked⟩ := State.noticed_accepted hexec rfl rfl
      refine ⟨t, hnext, hframe, fun h => absurd h hsame, fun _ i => ?_, hmarked⟩
      rw [hrecords i, Entrant.noticeIf, Bool.and_true]
      rfl
  case yellowElse =>
    intro value s hrun hfin
    have hruns : s.race.state.clockRuns = false := by
      rw [← Bool.not_eq_true, RaceState.clockRuns_iff]
      tauto
    exact State.refuses_of_answered (congrArg answered (if_pos hruns))
  case yellowBad =>
    intro value s hrace hvalue
    have hruns : s.race.state.clockRuns = true := (RaceState.clockRuns_iff _).mpr hrace
    exact State.refuses_of_answered (congrArg answered (by simp [State.yellowRequest, hruns, onOff_none hvalue]))
  case zone =>
    intro k on s hrace hk
    have hexec := exec_zone k on hrace hk
    by_cases hsteady : s.race.caution[k].hostFlag = on ∨ s.race.caution[k].holders ≠ []
    · rw [State.changeSector_steady hsteady, State.modSector_eq] at hexec
      obtain ⟨t, hnext, hframe, hentrants, hmarked⟩ := State.told_nobody hexec rfl rfl rfl rfl
      refine ⟨t, hnext, ?_, fun _ => hentrants, fun h => absurd hsteady (by tauto), hmarked⟩
      have hdirty : t.ceiling.dirty = s.ceiling.dirty := by rw [hframe]
      rw [hentrants, hdirty]
      exact hframe
    · obtain ⟨hflag, hholders⟩ := not_or.mp hsteady
      rw [State.changeSector_turned hflag (not_not.mp hholders), State.modSector_eq] at hexec
      obtain ⟨t, hnext, hframe, hrecords, hmarked⟩ := State.noticed_accepted hexec rfl rfl
      exact ⟨t, hnext, hframe, fun h => absurd h hsteady, fun _ i => hrecords i, hmarked⟩
  case zoneElse =>
    intro sector value s hrun hfin hsusp
    exact State.refuses_of_answered (congrArg answered (if_pos ⟨hrun, hfin, hsusp⟩))
  case zoneBad =>
    intro sector value s hrace hbad
    have hin : ¬(s.race.state ≠ .running ∧ s.race.state ≠ .finishing ∧ s.race.state ≠ .suspended) := by tauto
    refine State.refuses_of_answered (congrArg answered ?_)
    rw [State.zoneRequest, if_neg hin]
    by_cases hsector : 3 < sector.toNat ∨ s.cfg.sectorCount ≤ sector.toNat
    · exact if_pos hsector
    · rw [if_neg hsector, onOff_none (by omega)]
  · rw [State.localCaution_sector, SectorCaution.inForce_iff]

end Sys2Proof.Machine
end

section
/-! SUPPORT. Chapter 6, section 6.4: RESUME (R111, R112, R119). -/

namespace Sys2Proof.Machine

/-- A suspended race taken back to a state, the interval since `b` added to S, before anyone is told (R111). -/
def State.resumed (s : State) (back : ResumeTo) (b : RawTime) : State :=
  { s with
    race := { s.race with
      state := back.race, suspTotal := s.race.suspTotal + (s.race.raceClock - b), suspStart := none, resume := none }
    ceiling := { s.ceiling with holdStart := if s.ceiling.paused then some s.race.raceClock else none }
    attention := { s.attention with race := true } }

theorem State.resumeRace_resumed {s : State} {back : ResumeTo} {b : RawTime} (on : Bool)
    (hrace : s.race.state = .suspended) (hback : s.race.resume = some back) (hb : s.race.suspStart = some b) :
    s.resumeRace on = (((s.resumed back b).setYellow on).recomputeAll).checkFinished := by
  have hhold : s.holdStartOn back.race = if s.ceiling.paused then some s.race.raceClock else none := by
    rw [State.holdStartOn, if_pos back.race_heldCounts, hrace]
    rfl
  unfold State.resumeRace State.enterRace State.resumed
  rw [hback, hb, Option.getD_some, hhold]

/-- The yellow flag taken, and every ceiling recomputed whether it changed or not. -/
theorem State.setYellow_recomputeAll (v : State) (on : Bool) :
    (v.setYellow on).recomputeAll
      = ((v.withYellow on).noticeIf (on && !v.race.yellow) fun _ => true).recomputeAll := by
  by_cases hsame : v.race.yellow = on
  · subst hsame
    rw [State.setYellow_same, Bool.and_not_self]
    rfl
  · have hturn : (on && !v.race.yellow) = on := by
      rw [Bool.eq_not_of_ne hsame, Bool.not_not, Bool.and_self]
    rw [State.setYellow_change hsame, State.recomputeAll_recomputeAll, hturn]

theorem exec_resume {s : State} (on : Bool) (hrace : s.race.state = .suspended) (hred : s.inputs.live.redHeld = false)
    (hpower : s.inputs.live.powerAbsent = false) :
    exec (.resume (if on then 1#8 else 0#8)) s = answered (s.resumeRace on).accept := by
  have hfree : s.inputBars = false := by simp [State.inputBars, hred, hpower]
  exact congrArg answered (by simp [State.resumeRequest, hrace, onOff_flag, hfree])

/-- The race as RESUME has taken it back, and before it is looked at whether it is finished. -/
theorem State.resumed_entrant_state (v : State) (on : Bool) (j : Slot) :
    ((v.setYellow on).recomputeAll.entrant j).state = (v.entrant j).state := by simp

/-- The state `u` is `v` with its records and dirty classes apart. -/
def State.FrameOf (u v : State) : Prop :=
  u = { v with entrants := u.entrants, ceiling := { v.ceiling with dirty := u.ceiling.dirty } }

theorem State.noticeIf_frameOf (v : State) (on : Bool) (concerns : Entrant → Bool) : (v.noticeIf on concerns).FrameOf v := by
  have hframe := v.noticeIf_frame_eq on concerns
  rw [State.FrameOf, hframe]

theorem State.Recomputed.frameOf {u v r : State} (hr : u.Recomputed r) (h : u.FrameOf v) : r.FrameOf v := by
  have hframe := hr.frame
  rw [h] at hframe
  exact hframe

theorem State.FrameOf.raceOver {u v : State} (h : u.FrameOf v) : u.raceOver.FrameOf v.raceOver := by
  rw [State.FrameOf, h]
  rfl

/-- A request that ends with the race made Complete, its records recomputed before that too. -/
theorem State.completed_accepted {c : Instr} {s v u r : State} (hv : u.FrameOf v) (hr : u.Recomputed r)
    (hexec : exec c s = answered r.complete.accept) (hlink : v.link = s.link)
    (hclock : v.race.raceClock = s.race.raceClock) :
    ∃ t, exec c s = .next t
      ∧ t = { v.raceOver with
        entrants := t.entrants, ceiling := { v.raceOver.ceiling with dirty := t.ceiling.dirty }
        link := s.replied .okay, pins := t.pinsNow }
      ∧ ∀ i : Slot, t.entrant i = (u.entrant i).recomputedIn t := by
  have hover := (hr.frameOf hv).raceOver
  rw [State.complete_eq] at hexec
  obtain ⟨t, hnext, htold, hreply⟩ := (State.recomputeAll_recomputed _).accepted hexec
    (by rw [hover]; exact hlink) (by rw [hover]; exact hclock)
  have hframe := htold.frame_link hreply
  rw [hover] at hframe
  refine ⟨t, hnext, hframe, fun i => ?_⟩
  have hrecord : r.raceOver.entrant i = (u.entrant i).recomputedIn r := hr.records i
  rw [htold.records i, hrecord, Entrant.recomputedIn_recomputedIn]

/-- Settles O42: a race taken back has the flag it is given, and every ceiling recomputed; one taken back to Finishing
with nobody Racing is over at once. -/
theorem resumeRestartsRace : Obligations.ResumeRestartsRace := by
  refine ⟨?resumes, ?completes, fun value s hrace => ?_, fun value s hrace hvalue => ?_,
    fun value s hrace hvalue hinput => ?_⟩
  case resumes =>
    intro on back b s hrace hback hb hred hpower hleft
    have hgoes : ((s.resumed back b).setYellow on).recomputeAll.checkFinished
        = ((s.resumed back b).setYellow on).recomputeAll := by
      refine State.checkFinished_running fun hfin => ?_
      have hback' : back = .finishing := by
        cases back
        · simp [State.resumed, ResumeTo.race] at hfin
        · rfl
      obtain ⟨j, hj⟩ := hleft.resolve_left (by rw [hback']; exact fun h => nomatch h)
      exact ⟨j, (State.resumed_entrant_state _ on j).trans hj⟩
    have hexec := exec_resume on hrace hred hpower
    rw [State.resumeRace_resumed on hrace hback hb, hgoes, State.setYellow_recomputeAll] at hexec
    obtain ⟨t, hnext, hframe, hrecords, hmarked⟩ := State.noticed_accepted hexec rfl rfl
    have hstate : t.race.state = back.race := by rw [hframe]; rfl
    have hpins : t.pins = t.pinsNow := congrArg State.pins hframe
    refine ⟨t, hnext, hframe, fun i => ?_, hmarked, ?_, ?_, ?_⟩
    · rw [hrecords i, Entrant.noticeIf, Bool.and_true]
      rfl
    all_goals
      rw [hpins, State.pinsNow]
      cases back <;> simp [State.powerOut, State.redsLit, RaceState.greenLit, hstate, ResumeTo.race]
  case completes =>
    intro on b s hrace hback hb hred hpower hnone
    have hdone : ((s.resumed .finishing b).setYellow on).recomputeAll.checkFinished
        = ((s.resumed .finishing b).setYellow on).recomputeAll.complete :=
      State.checkFinished_last (by simp [State.resumed, ResumeTo.race]) fun j hj => by
        rw [State.resumed_entrant_state] at hj
        exact hnone j hj
    have hexec := exec_resume on hrace hred hpower
    rw [State.resumeRace_resumed on hrace hback hb, hdone, State.setYellow_recomputeAll] at hexec
    obtain ⟨t, hnext, hframe, hrecords⟩ :=
      State.completed_accepted (State.noticeIf_frameOf _ _ _) (State.recomputeAll_recomputed _) hexec rfl rfl
    refine ⟨t, hnext, hframe, fun i => ?_⟩
    have hunnoticed : (s.entrant i).noticeIf (on && !s.race.yellow) (fun _ => true) = s.entrant i := by
      have hfalse : ((s.entrant i).state == .racing) = false := by simpa using hnone i
      rw [Entrant.noticeIf, hfalse, Bool.and_false, Bool.false_and, Bool.or_false]
    rw [hrecords i, State.noticeIf_entrant]
    exact congrArg (Entrant.recomputedIn t) hunnoticed
  · exact State.refuses_of_answered (congrArg answered (if_pos hrace))
  · exact State.refuses_of_answered (congrArg answered (by simp [State.resumeRequest, hrace, onOff_none hvalue]))
  · have hbars : s.inputBars = true := by simpa [State.inputBars] using hinput
    have hflag : onOff value = some (decide (value = 1)) := by
      have : value = 0 ∨ value = 1 := by bv_omega
      rcases this with rfl | rfl <;> rfl
    exact State.refuses_of_answered (congrArg answered (by simp [State.resumeRequest, hrace, hflag, hbars]))

end Sys2Proof.Machine
end

section
/-! SUPPORT. Chapter 6, section 6.8: the race reset (R121) and RESET_PART (R183). -/

namespace Sys2Proof.Machine

/-! ### The self-test aborted -/

/-- An abort changes the gates, the running test and the watch on the blinded summary (R22). -/
theorem State.abortTest_frame_eq (s : State) :
    s.abortTest = { s with
      gates := s.abortTest.gates, testStart := none
      inputs := { s.inputs with blindSince := s.abortTest.inputs.blindSince } } := by
  unfold State.abortTest
  split
  · generalize (Vector.ofFn fun g : Fin 24 => (s.gate g).reconnect .aborted) = tested
    rfl
  · next h =>
    have hnone : s.testStart = none := by simpa using h
    rw [← hnone]

theorem State.abortTest_idle {s : State} (h : s.testStart = none) : s.abortTest = s := by
  unfold State.abortTest
  rw [h]
  rfl

/-- A gate after an abort: a tested one is reconnected to its line and keeps no burst (R22). -/
theorem State.abortTest_gate (s : State) (g : GateNo) :
    s.abortTest.gate g = if s.testStart.isSome = true ∧ (s.gate g).fed.isSome = true then { s.gate g with
        decoder := { state := .hunt, run := none, frame := [], burst := none, waiting := true }
        fed := none, result := .aborted, counted := 0 }
      else s.gate g := by
  by_cases htest : s.testStart.isSome = true
  · have hgate : s.abortTest.gate g = (s.gate g).reconnect .aborted := by
      simp [State.abortTest, htest, State.gate]
    rw [hgate, Gate.reconnect, Gate.underTest]
    simp only [htest, true_and]
    rfl
  · rw [if_neg fun h => htest h.1, State.abortTest, if_neg htest]

/-! ### The reset -/

/-- The state a race reset leaves before the Ceiling Unit is told (R121). -/
def State.raceCleared (s : State) : State :=
  { s.abortTest with
    race := s.race.raceReset
    resolver := Resolver.atReset
    entrants := Vector.ofFn fun i => (s.entrant i).raceReset
    standings := (s.slotsWith (·.state != .vacant)).map fun i => { slot := i, key := Key.lowest }
    ring := Vector.replicate 16 none
    highMark := 0
    ceiling := { s.ceiling with holdStart := none }
    attention := { s.attention with suspended := none, race := true } }

theorem State.raceCleared_entrant (s : State) (i : Slot) : s.raceCleared.entrant i = (s.entrant i).raceReset := by
  simp [State.raceCleared, State.entrant_mk]

theorem Entrant.raceReset_staged_iff (e : Entrant) : e.raceReset.state = .staged ↔ e.state ≠ .vacant := by
  unfold Entrant.raceReset
  by_cases h : e.state = .vacant <;> simp [h]

/-- The Standing Order is the Staged slots in slot order, which are those that had an entrant (R98). -/
theorem State.raceReset_recomputed (s : State) : s.raceReset = s.raceCleared.recomputeAll := by
  have hstaged : ∀ i : Slot, ((s.raceCleared.entrant i).state == .staged) = ((s.entrant i).state != .vacant) := by
    intro i
    rw [Bool.eq_iff_iff, beq_iff_eq, bne_iff_ne, s.raceCleared_entrant, Entrant.raceReset_staged_iff]
  have hlist : s.raceCleared.slotsWith (·.state == .staged) = s.slotsWith (·.state != .vacant) :=
    congrArg (List.filter · allSlots) (funext hstaged)
  have hstandings : s.raceCleared.rebuildStandings = s.raceCleared := by
    rw [State.rebuildStandings, hlist]
    rfl
  rw [← hstandings]
  unfold State.raceReset State.raceCleared
  rw [s.abortTest_frame_eq]
  rfl

theorem State.raceCleared_frame (s : State) :
    s.raceCleared = { s with
      gates := s.abortTest.gates, testStart := none
      resolver := { queue := [], nextTag := 0, waitLatch := false, overrun := false }
      entrants := s.raceCleared.entrants, standings := s.raceCleared.standings, ring := s.raceCleared.ring, highMark := 0
      race := { s.race with
        state := .setup, resume := none, suspStart := none, suspTotal := 0, green := none, runningClock := 0
        countdown := none, finishDeadline := none, yellow := false, caution := s.raceCleared.race.caution }
      ceiling := { s.ceiling with holdStart := none }
      inputs := { s.inputs with blindSince := s.abortTest.inputs.blindSince }
      attention := { s.attention with suspended := none, race := true } } := by
  rw [State.raceCleared, s.abortTest_frame_eq]
  rfl

theorem State.raceCleared_ring (s : State) (k : Fin 16) : s.raceCleared.ring[k] = none :=
  Vector.getElem_replicate k.isLt

theorem State.raceCleared_caution (s : State) (k : Fin 4) : s.raceCleared.race.caution[k] = SectorCaution.clear :=
  Vector.getElem_replicate k.isLt

/-- Settles O44: a race reset clears the race and every record but its entry, and has every ceiling recomputed;
RESET_PART only asks for the reset that follows its response. -/
theorem raceResetAndResetPart : Obligations.RaceResetAndResetPart := by
  refine ⟨fun s => ?_, fun s => ⟨_, rfl, rfl⟩⟩
  have hexec : exec .resetRace s = answered s.raceCleared.recomputeAll.accept := by
    rw [← s.raceReset_recomputed]
    rfl
  have hclear := s.raceCleared_frame
  obtain ⟨t, hnext, htold, hlink⟩ := (State.recomputeAll_recomputed _).accepted hexec
    (by rw [hclear]) (by rw [hclear])
  have hframe := htold.frame_link hlink
  have hgates : t.gates = s.abortTest.gates := by rw [hframe, hclear]
  have hrace : t.race = s.raceCleared.race := htold.race
  have hstandings : t.standings = s.raceCleared.standings := by rw [hframe]
  have hring : t.ring = s.raceCleared.ring := by rw [hframe]
  have hinputs : t.inputs = { s.inputs with blindSince := s.abortTest.inputs.blindSince } := by rw [hframe, hclear]
  have hrecord (i : Slot) : t.entrant i = (s.entrant i).raceReset.recomputedIn t := by
    rw [htold.records i, s.raceCleared_entrant]
  refine ⟨t, hnext, ?frame, fun i => ?record, hstandings, fun k => ?_, fun k => ?_, fun g => ?gate, fun hidle => ?_,
    fun i hi => ?mark⟩
  case frame =>
    rw [hgates, hstandings, hring, hrace, hinputs]
    rw [hclear] at hframe
    exact hframe
  case record =>
    by_cases hv : (s.entrant i).state = .vacant
    · have hkept : (s.entrant i).raceReset = s.entrant i := if_pos hv
      rw [hrecord i, if_pos hv, hkept, Entrant.recomputedIn, if_pos hv]
    · have hreset : (s.entrant i).raceReset = { Entrant.vacant with
          code := (s.entrant i).code, state := .staged, station := (s.entrant i).station
          override := (s.entrant i).override } := if_neg hv
      have heffective : (t.entrant i).effective = t.effectiveFor (t.entrant i) := by
        rw [hrecord i, Entrant.recomputedIn, if_neg (by rw [hreset]; exact fun h => nomatch h)]
        rfl
      rw [if_neg hv, ← heffective]
      conv_lhs => rw [hrecord i, hreset]
      rw [hrecord i, hreset]
      rfl
  · exact (congrArg (fun r : Vector (Option RingEntry) 16 => r[k]) hring).trans (s.raceCleared_ring k)
  · rw [hrace, s.raceCleared_caution k]
    exact ⟨rfl, rfl⟩
  case gate =>
    rw [← s.abortTest_gate g]
    exact congrArg (fun v : Vector Gate 24 => v[g.val]) hgates
  · rw [hinputs, State.abortTest_idle hidle]
  case mark =>
    have hold : (s.raceCleared.entrant i).effective = 0 := by
      rw [s.raceCleared_entrant, Entrant.raceReset, if_neg hi]
      rfl
    have hdirty : s.raceCleared.dirtyOf i = s.dirtyOf i := by
      rw [hclear]
      rfl
    rw [htold.marked i, hold, hdirty]

end Sys2Proof.Machine
end

section
/-! SUPPORT. Chapter 6, section 6.2: the countdown and green (R107, R108). -/

namespace Sys2Proof.Machine

/-! ### Work done slot by slot -/

/-- Work that leaves what is seen of the other slots does to each slot what it does to that slot once, from a state in
which the slot looks as it did. -/
theorem State.forSlots_each {β : Type} (look : State → Slot → β) {I : State → Prop} {f : State → Slot → State}
    (hI : ∀ u i, I u → I (f u i)) (hkeep : ∀ u i j, j ≠ i → I u → look (f u i) j = look u j) {s : State} (hs : I s)
    (j : Slot) : ∃ u, I u ∧ look u j = look s j ∧ look (s.forSlots f) j = look (f u j) j := by
  have kept (l : List Slot) (u : State) (hu : I u) (hj : j ∉ l) : look (l.foldl f u) j = look u j := by
    induction l generalizing u with
    | nil => rfl
    | cons i l ih =>
      obtain ⟨hji, hjl⟩ := not_or.mp (mt List.mem_cons.mpr hj)
      exact (ih _ (hI u i hu) hjl).trans (hkeep u i j hji hu)
  have reached (l : List Slot) (hl : l.Nodup) (hj : j ∈ l) (u : State) (hu : I u) (hlook : look u j = look s j) :
      ∃ v, I v ∧ look v j = look s j ∧ look (l.foldl f u) j = look (f v j) j := by
    induction l generalizing u with
    | nil => cases hj
    | cons i l ih =>
      obtain ⟨hil, hl⟩ := List.nodup_cons.mp hl
      by_cases hji : j = i
      · subst hji
        exact ⟨u, hu, hlook, kept l _ (hI u j hu) hil⟩
      · exact ih hl ((List.mem_cons.mp hj).resolve_left hji) _ (hI u i hu) ((hkeep u i j hji hu).trans hlook)
  exact reached allSlots (by decide) (mem_allSlots j) s hs rfl

/-! ### One entrant at green -/

/-- The record of an entrant that takes green, a jump-start mark apart (R52). -/
def State.greened (s : State) (e : Entrant) : Entrant :=
  { e with
    state := .racing, laps := 0, latestCrossing := none, prevCrossing := none, reachTime := none
    deadline := if s.cfg.sightingWindow ≠ 0 ∧ e.pitStatus ≠ .box then some (s.cfg.sightingWindow * 10000) else e.deadline }

theorem State.withRecord_zeroLaps (s : State) (i : Slot) (e : Entrant) (d : DirtyClass) :
    (s.withRecord i e d).zeroLaps i
      = (s.withStandings (if e.laps = 0 then s.standings
          else placeAgain i { e with laps := 0 }.key s.standings)).withRecord i { e with laps := 0 } d := by
  unfold State.zeroLaps
  rw [State.withRecord_entrant]
  by_cases h : e.laps = 0
  · rw [if_pos h, if_pos h, ← h]
    rfl
  · rw [if_neg h, if_neg h, State.withRecord_modEntrant, State.withRecord_replace]

theorem State.withRecord_firstDeadline (s : State) (i : Slot) (e : Entrant) (d : DirtyClass) :
    (s.withRecord i e d).firstDeadline i = s.withRecord i { e with
      deadline := if s.cfg.sightingWindow ≠ 0 ∧ e.pitStatus ≠ .box then some (s.cfg.sightingWindow * 10000)
        else e.deadline } d := by
  have hcfg : (s.withRecord i e d).cfg = s.cfg := rfl
  unfold State.firstDeadline
  rw [State.withRecord_entrant, hcfg, State.withRecord_modEntrant]
  split <;> rfl

/-- The Standing Order after an entrant has taken green (R52, R93). -/
def State.greenOrder (s : State) (i : Slot) : List Standing :=
  if (s.entrant i).laps = 0 then s.standings else placeAgain i { s.entrant i with laps := 0 }.key s.standings

/-- An entrant takes green: its record is replaced and marked once, and a jump-start mark is then reported (R52). -/
theorem State.greenEntrant_eq (s : State) (i : Slot) :
    s.greenEntrant i = ((s.withStandings (s.greenOrder i)).withRecord i (s.limited (s.greened (s.entrant i)))
      (DirtyClass.mark (s.entrant i).effective (s.effectiveFor (s.greened (s.entrant i))) (s.dirtyOf i))).reportJumpStart
        i (s.entrant i).jumpStart := by
  unfold State.greenEntrant
  dsimp only
  rw [s.modEntrant_eq_withRecord, State.withRecord_recompute _ _ _ _ (by exact fun h => nomatch h),
    State.withRecord_zeroLaps, State.withRecord_modEntrant, State.withRecord_firstDeadline]
  rfl

theorem State.greenEntrant_unmarked {s : State} {i : Slot} (h : (s.entrant i).jumpStart = false) :
    s.greenEntrant i = (s.withStandings (s.greenOrder i)).withRecord i (s.limited (s.greened (s.entrant i)))
      (DirtyClass.mark (s.entrant i).effective (s.effectiveFor (s.greened (s.entrant i))) (s.dirtyOf i)) := by
  rw [s.greenEntrant_eq, h]
  rfl

/-! ### Every entrant at green -/

/-- The race at green, before the entrants and the Ceiling Unit are told (R108). -/
def State.underGreen (s : State) : State :=
  { s with
    race := { s.race with
      state := .running, green := some s.race.raceClock, suspTotal := 0, runningClock := 0, countdown := none }
    attention := { s.attention with race := true } }

theorem State.green_underGreen {s : State} (h : s.race.state = .countdown) :
    s.green = s.underGreen.greenEntrants.recomputeAll := by
  have hhold : s.holdStartOn .running = s.ceiling.holdStart := by
    simp [State.holdStartOn, h, RaceState.heldCounts]
  unfold State.green State.enterRace State.underGreen
  rw [hhold]

/-- The state `u` is `v` but for its records, its dirty classes and its Standing Order. -/
def State.FieldOf (u v : State) : Prop := u.FrameOf (v.withStandings u.standings)

theorem State.FieldOf.limited {u v : State} (h : u.FieldOf v) : u.limited = v.limited := by
  rw [h]
  rfl

theorem State.FieldOf.greened {u v : State} (h : u.FieldOf v) : u.greened = v.greened := by
  rw [h]
  rfl

theorem State.FieldOf.withRecord {u v : State} (h : u.FieldOf v) (l : List Standing) (i : Slot) (e : Entrant)
    (d : DirtyClass) : ((u.withStandings l).withRecord i e d).FieldOf v := by
  rw [State.FieldOf, State.FrameOf, h]
  rfl

/-- No jump-start mark is left to report. -/
def State.Unmarked (s : State) : Prop := ∀ i : Slot, (s.entrant i).state = .staged → (s.entrant i).jumpStart = false

theorem State.Unmarked.green {u : State} (hu : u.Unmarked) {i : Slot} (hi : (u.entrant i).state = .staged) :
    (u.greenEntrant i).Unmarked := by
  intro j hj
  rw [State.greenEntrant_unmarked (hu i hi)] at hj ⊢
  by_cases hji : j = i
  · subst hji
    rw [State.withRecord_entrant] at hj
    cases hj
  · rw [State.withRecord_entrant_other _ _ _ hji] at hj ⊢
    exact hu j hj

/-- What a race without jump-start marks has become as its entrants take green one by one. -/
def State.GreenFrom (b u : State) : Prop := u.FieldOf b ∧ u.Unmarked

theorem State.GreenFrom.step {b u : State} (h : b.GreenFrom u) (i : Slot) :
    b.GreenFrom (if (u.entrant i).state = .staged then u.greenEntrant i else u) := by
  split
  · next hi =>
    refine ⟨?_, h.2.green hi⟩
    rw [State.greenEntrant_unmarked (h.2 i hi)]
    exact h.1.withRecord _ _ _ _
  · exact h

theorem State.Unmarked.greenFrom {b : State} (h : b.Unmarked) : b.GreenFrom b.greenEntrants :=
  State.forSlots_induction b.GreenFrom _ (fun _ i hu => hu.step i) b ⟨rfl, h⟩

/-- Each Staged entrant of a race without jump-start marks takes green once, and is marked once (R52, R160). -/
theorem State.Unmarked.greenEntrants_record {b : State} (h : b.Unmarked) (j : Slot) :
    b.greenEntrants.entrant j
        = (if (b.entrant j).state = .staged then b.limited (b.greened (b.entrant j)) else b.entrant j)
      ∧ b.greenEntrants.dirtyOf j
        = DirtyClass.mark (b.entrant j).effective (b.greenEntrants.entrant j).effective (b.dirtyOf j) := by
  obtain ⟨u, ⟨hfield, hun⟩, hbefore, hafter⟩ := State.forSlots_each
    (look := fun u j => ((u.entrant j, u.dirtyOf j) : Entrant × DirtyClass)) (I := b.GreenFrom)
    (fun _ i hu => hu.step i) (fun u i j hji hu => by
      split
      · next hi =>
        rw [State.greenEntrant_unmarked (hu.2 i hi), State.withRecord_entrant_other _ _ _ hji,
          State.withRecord_dirtyOf_other _ _ _ hji]
        rfl
      · rfl) (⟨rfl, h⟩ : b.GreenFrom b) j
  obtain ⟨hentrant, hdirty⟩ := Prod.mk.inj hbefore
  obtain ⟨hrecord, hmark⟩ := Prod.mk.inj hafter
  have heffective (e : Entrant) : u.effectiveFor e = b.effectiveFor e :=
    congrArg Entrant.effective (congrFun hfield.limited e)
  rw [State.greenEntrants, hrecord, hmark]
  rw [hentrant]
  by_cases hstaged : (b.entrant j).state = .staged
  · rw [if_pos hstaged, if_pos hstaged, State.greenEntrant_unmarked (hun j (by rwa [hentrant])),
      State.withRecord_entrant, State.withRecord_dirtyOf, hentrant, hdirty, hfield.limited, hfield.greened, heffective]
    exact ⟨rfl, rfl⟩
  · rw [if_neg hstaged, if_neg hstaged, hentrant, hdirty, DirtyClass.mark_same]
    exact ⟨rfl, rfl⟩

/-- Entrants without laps keep their places at green (R52). -/
theorem State.Unmarked.greenEntrants_standings {b : State} (h : b.Unmarked)
    (hlaps : ∀ i : Slot, (b.entrant i).state = .staged → (b.entrant i).laps = 0) :
    b.greenEntrants.standings = b.standings := by
  have both : (∀ i : Slot, (b.greenEntrants.entrant i).state = .staged → (b.greenEntrants.entrant i).laps = 0)
      ∧ b.greenEntrants.standings = b.standings ∧ b.greenEntrants.Unmarked := by
    refine State.forSlots_induction
      (fun u => (∀ i : Slot, (u.entrant i).state = .staged → (u.entrant i).laps = 0) ∧ u.standings = b.standings
        ∧ u.Unmarked) _ (fun u i ⟨hzero, hsame, hun⟩ => ?_) b ⟨hlaps, rfl, h⟩
    split
    · next hi =>
      refine ⟨fun j hj => ?_, ?_, hun.green hi⟩
      · rw [State.greenEntrant_unmarked (hun i hi)] at hj ⊢
        by_cases hji : j = i
        · subst hji
          rw [State.withRecord_entrant]
          rfl
        · rw [State.withRecord_entrant_other _ _ _ hji] at hj ⊢
          exact hzero j hj
      · rw [State.greenEntrant_unmarked (hun i hi)]
        exact (if_pos (hzero i hi)).trans hsame
    · exact ⟨hzero, hsame, hun⟩
  exact both.2.1

end Sys2Proof.Machine
end

section
/-! SUPPORT. Chapter 6, section 6.2: the countdown's steps (R107), and jump starts ruled with a power hold (R52, R149). -/

namespace Sys2Proof.Machine

/-! ### Green, once everyone is told -/

theorem State.FieldOf.effectiveFor {u v : State} (h : u.FieldOf v) (e : Entrant) : u.effectiveFor e = v.effectiveFor e :=
  congrArg Entrant.effective (congrFun h.limited e)

/-- A state driven from one that is `v` but for records, classes and standings is so too, its pins and link apart. -/
theorem State.Told.effectiveFor {u t v : State} (h : u.Told t) (hu : u.FieldOf v) (e : Entrant) :
    t.effectiveFor e = v.effectiveFor e := by
  have hsame : t.effectiveFor e = u.effectiveFor e := by rw [h.frame]; rfl
  rw [hsame, hu.effectiveFor]

/-- The frame of such a state. -/
theorem State.FieldOf.told {u t v : State} (hu : u.FieldOf v) (h : u.Told t) :
    t = { v with
      entrants := t.entrants, standings := t.standings, ceiling := { v.ceiling with dirty := t.ceiling.dirty }
      link := t.link, pins := t.pinsNow } := by
  have hstandings : t.standings = u.standings := by rw [h.frame]
  have hframe := h.frame
  rw [hu] at hframe
  rw [hstandings]
  exact hframe

/-- Green without jump-start marks marks every entrant once (R108, R160). -/
theorem State.Unmarked.green_told {b t : State} (h : b.Unmarked) (ht : b.greenEntrants.Told t) :
    t = { b with
      entrants := t.entrants, standings := t.standings, ceiling := { b.ceiling with dirty := t.ceiling.dirty }
      link := t.link, pins := t.pinsNow }
    ∧ (∀ i : Slot, t.entrant i =
        (if (b.entrant i).state = .staged then b.greened (b.entrant i) else b.entrant i).recomputedIn t)
    ∧ t.markedFrom b
    ∧ ((∀ i : Slot, (b.entrant i).state = .staged → (b.entrant i).laps = 0) → t.standings = b.standings) := by
  have hfield := h.greenFrom.1
  have hstandings : t.standings = b.greenEntrants.standings := by rw [ht.frame]
  have hrecords (i : Slot) : t.entrant i =
      (if (b.entrant i).state = .staged then b.greened (b.entrant i) else b.entrant i).recomputedIn t := by
    rw [ht.records i, (h.greenEntrants_record i).1]
    split <;> rfl
  refine ⟨hfield.told ht, hrecords, fun j => ?_, fun hlaps => hstandings.trans (h.greenEntrants_standings hlaps)⟩
  obtain ⟨hrecord, hmark⟩ := h.greenEntrants_record j
  rw [ht.marked j, hmark]
  by_cases hstaged : (b.entrant j).state = .staged
  · have hsettled : (t.entrant j).effective = (b.greenEntrants.entrant j).effective := by
      rw [hrecords j, hrecord, if_pos hstaged, if_pos hstaged, Entrant.recomputedIn]
      exact ht.effectiveFor hfield _
    rw [hsettled, DirtyClass.mark_same]
  · rw [hrecord, if_neg hstaged, DirtyClass.mark_same]

/-! ### Jump starts ruled with a power hold -/

/-- The Call Table rules a jump start with a power hold. -/
def State.jumpHolds (s : State) (l d : Nat) : Prop := s.callTable[0] = some (.powerHold l d)

/-- The record of an entrant given a power hold for a jump start (R52, R130, R149). -/
def State.jumped (s : State) (l d : Nat) (e : Entrant) : Entrant :=
  { s.limited { e with powerHold := some (mergeHold s.race.runningClock l d e.powerHold) } with
    activity := true, jumpStart := false }

theorem State.jumpHolds.report {s : State} {l d : Nat} (h : s.jumpHolds l d) (i : Slot) {e : Entrant} (c : DirtyClass)
    (he : e.state = .racing) :
    (s.withRecord i e c).reportJumpStart i true
      = s.withRecord i (s.jumped l d e)
          (DirtyClass.mark e.effective (s.jumped l d e).effective c) := by
  have hrule : (s.withRecord i e c).rulingFor .jumpStart = some (.powerHold l d) := h
  rw [State.reportJumpStart, if_pos rfl, State.report, State.withRecord_entrant, if_pos he, hrule]
  simp only [State.makeCall, State.carryRuling, State.setPowerHold, State.markActivity, State.withRecord_modEntrant,
    State.withRecord_entrant]
  rw [State.withRecord_recompute _ _ _ _ (by rw [he]; exact fun h => nomatch h), State.withRecord_modEntrant,
    State.withRecord_modEntrant]
  rfl

/-- Such a jump start is ruled on in the entrant's own record (R52). -/
theorem State.jumpHolds.greenEntrant {s : State} {l d : Nat} (h : s.jumpHolds l d) (i : Slot) :
    ∃ e c, s.greenEntrant i = (s.withStandings (s.greenOrder i)).withRecord i e c
      ∧ ((s.entrant i).jumpStart = true → e = s.jumped l d (s.limited (s.greened (s.entrant i)))) := by
  rw [s.greenEntrant_eq]
  cases (s.entrant i).jumpStart with
  | false => exact ⟨_, _, rfl, fun h => nomatch h⟩
  | true =>
    have hhold : (s.withStandings (s.greenOrder i)).jumpHolds l d := h
    exact ⟨_, _, hhold.report i (e := s.limited (s.greened (s.entrant i))) _ rfl, fun _ => rfl⟩

/-- An entrant marked for a jump start comes out of green with its power hold (R52). -/
theorem State.jumpHolds.greenEntrants {b : State} {l d : Nat} (h : b.jumpHolds l d) {j : Slot}
    (hstaged : (b.entrant j).state = .staged) (hjump : (b.entrant j).jumpStart = true) :
    ∃ u : State, u.race = b.race
      ∧ b.greenEntrants.entrant j = u.jumped l d (u.limited (u.greened (b.entrant j))) := by
  obtain ⟨u, ⟨hrace, hhold⟩, hbefore, hafter⟩ := State.forSlots_each (look := State.entrant)
    (I := fun u => u.race = b.race ∧ u.jumpHolds l d)
    (f := fun s i => if (s.entrant i).state = .staged then s.greenEntrant i else s)
    (fun u i ⟨hrace, hhold⟩ => by
      split
      · obtain ⟨e, c, heq, -⟩ := hhold.greenEntrant i
        rw [heq]
        exact ⟨hrace, hhold⟩
      · exact ⟨hrace, hhold⟩)
    (fun u i k hki ⟨_, hhold⟩ => by
      split
      · obtain ⟨e, c, heq, -⟩ := hhold.greenEntrant i
        rw [heq, State.withRecord_entrant_other _ _ _ hki]
        rfl
      · rfl) (s := b) ⟨rfl, h⟩ j
  refine ⟨u, hrace, ?_⟩
  obtain ⟨e, c, heq, hjumped⟩ := hhold.greenEntrant j
  rw [State.greenEntrants, hafter, hbefore, if_pos hstaged, heq, State.withRecord_entrant,
    hjumped ((congrArg Entrant.jumpStart hbefore).trans hjump), hbefore]

/-- A power hold is a limit of the effective ceiling (R158). -/
theorem State.effectiveFor_le_level (s : State) {e : Entrant} {p : PowerHold} (h : e.powerHold = some p) :
    s.effectiveFor e ≤ p.level :=
  (foldl_min_le (s.limits e) _).2 p.level (by simp [State.limits, h])

/-! ### The steps -/

theorem State.stepDue_some {s : State} {c : Countdown} (hrace : s.race.state = .countdown)
    (hc : s.race.countdown = some c) (hdue : 0 ≤ (s.race.raceClock - c.next).toInt) : s.stepDue = some c := by
  simp only [State.stepDue, hrace, hc, State.reached, decide_eq_true hdue, if_true]

theorem State.stepDue_none {s : State} (h : s.race.state ≠ .countdown
    ∨ ∃ c ∈ s.race.countdown.toList, (s.race.raceClock - c.next).toInt < 0) : s.stepDue = none := by
  unfold State.stepDue
  split
  · next c hrace hc =>
    obtain ⟨c', hmem, hlate⟩ := h.resolve_left (not_not.mpr hrace)
    obtain rfl : c' = c := by simpa [hc, eq_comm] using hmem
    rw [if_neg]
    simpa [State.reached] using hlate
  · rfl

theorem exec_countdownStep {s : State} {c : Countdown} (h : s.stepDue = some c) :
    exec .countdownStep s = (s.stepCountdown c).done := by
  show execCountdownStep s = _
  rw [execCountdownStep, h]

theorem State.stepCountdown_light {s : State} {c : Countdown} (hphase : c.phase = .lights) (hreds : c.reds < 5) :
    s.stepCountdown c = { s with race := { s.race with countdown := some { c with
      reds := c.reds + 1, next := c.next + BitVec.ofNat 32 (10 * s.cfg.lightInterval) } } } := by
  rw [State.stepCountdown, hphase, Nat.mul_comm 10]
  exact if_pos hreds

theorem State.stepCountdown_wait {s : State} {c : Countdown} (hphase : c.phase = .lights) (hreds : 5 ≤ c.reds)
    (hdelay : c.delay ≠ 0) : s.stepCountdown c = { s with race := { s.race with
      countdown := some { c with phase := .delay, next := c.next + BitVec.ofNat 32 c.delay } } } := by
  rw [State.stepCountdown, hphase]
  exact (if_neg (by omega)).trans (if_neg hdelay)

theorem State.stepCountdown_green {s : State} {c : Countdown} (h : c.phase = .delay ∨ (5 ≤ c.reds ∧ c.delay = 0)) :
    s.stepCountdown c = s.green := by
  unfold State.stepCountdown
  cases hphase : c.phase with
  | delay => rfl
  | lights =>
    obtain ⟨hreds, hdelay⟩ := h.resolve_left (by rw [hphase]; exact fun h => nomatch h)
    rw [if_neg (by omega), if_pos hdelay]

/-- Settles O39: the steps are those of the countdown's phase, and at green every Staged entrant takes green once. -/
theorem countdownStepsToGreen : Obligations.CountdownStepsToGreen := by
  refine ⟨?light, ?wait, ?green, ?jump, fun s h => State.unmovedBy_of_done ?late⟩
  case light =>
    intro c s hrace hc hdue hphase hreds
    have hexec := exec_countdownStep (State.stepDue_some hrace hc hdue)
    rw [State.stepCountdown_light hphase hreds] at hexec
    exact State.next_of_done hexec
  case wait =>
    intro c s hrace hc hdue hphase hreds hdelay
    have hexec := exec_countdownStep (State.stepDue_some hrace hc hdue)
    rw [State.stepCountdown_wait hphase hreds hdelay] at hexec
    exact State.next_of_done hexec
  case green =>
    intro c s hrace hc hdue hphase hun
    have hexec := exec_countdownStep (State.stepDue_some hrace hc hdue)
    rw [State.stepCountdown_green hphase, State.green_underGreen hrace] at hexec
    have hunmarked : s.underGreen.Unmarked := hun
    obtain ⟨t, hnext, htold, hlink⟩ := (State.recomputeAll_recomputed _).done hexec (by simp; rfl)
    obtain ⟨hframe, hrecords, hmarked, hstandings⟩ := hunmarked.green_told htold
    have hrun : t.race.state = .running := by rw [hframe]; rfl
    rw [hlink] at hframe
    refine ⟨t, hnext, hframe, hrecords, hmarked, hstandings, ?_, ?_⟩
    all_goals
      rw [htold.pins, State.pinsNow]
      simp [State.redsLit, RaceState.greenLit, hrun]
  case jump =>
    intro c i l d s hrace hc hdue hphase hstaged hjump hrule hnone
    have hexec := exec_countdownStep (State.stepDue_some hrace hc hdue)
    rw [State.stepCountdown_green (.inl hphase), State.green_underGreen hrace] at hexec
    have hholds : s.underGreen.jumpHolds l d := hrule
    obtain ⟨u, hclock, hrecord⟩ := hholds.greenEntrants (j := i) hstaged hjump
    obtain ⟨t, hnext, htold, -⟩ := (State.recomputeAll_recomputed _).done hexec (by simp; rfl)
    have hrunning : u.race.runningClock = 0 := by rw [hclock]; rfl
    have hentrant := htold.records i
    rw [hrecord] at hentrant
    have hpower : (t.entrant i).powerHold = some { level := l, expiry := d * 10000 } := by
      have hmerge : (t.entrant i).powerHold = some (mergeHold u.race.runningClock l d (s.entrant i).powerHold) := by
        rw [hentrant]
        rfl
      rw [hmerge, hnone, hrunning, mergeHold, Nat.zero_add]
      rfl
    have heffective : (t.entrant i).effective = t.effectiveFor (t.entrant i) := by
      rw [hentrant]
      rfl
    refine ⟨t, hnext, by rw [hentrant]; rfl, by rw [hentrant]; rfl, by rw [hentrant]; rfl, hpower, ?_⟩
    rw [heffective]
    exact t.effectiveFor_le_level hpower
  case late =>
    show execCountdownStep s = _
    rw [execCountdownStep, State.stepDue_none h]

end Sys2Proof.Machine
end

section
/-! SUPPORT. Chapter 6, section 6.6: one entrant finished, released and cleared of its penalties (R53, R65, R154). -/

namespace Sys2Proof.Machine

/-! ### Records, their ceilings apart -/

/-- The record with nothing of the ceiling a recomputation gives it. -/
def Entrant.bare (e : Entrant) : Entrant := { e with effective := if e.state = .vacant then e.effective else 0 }

theorem Entrant.recomputedIn_bare (e : Entrant) (t : State) : (e.recomputedIn t).bare = e.bare := by
  unfold Entrant.recomputedIn Entrant.bare
  dsimp only
  split <;> rfl

theorem Entrant.bare_recomputedIn (e : Entrant) (t : State) : e.bare.recomputedIn t = e.recomputedIn t := by
  unfold Entrant.recomputedIn Entrant.bare
  dsimp only
  split <;> rfl

/-- Records that differ in their ceilings at most are the same once recomputed. -/
theorem Entrant.recomputedIn_eq_of_bare {e f : Entrant} (h : e.bare = f.bare) (t : State) :
    e.recomputedIn t = f.recomputedIn t := by
  rw [← e.bare_recomputedIn, h, f.bare_recomputedIn]

theorem Entrant.bare_state {e f : Entrant} (h : e.bare = f.bare) : e.state = f.state := by
  show e.bare.state = f.bare.state
  rw [h]

theorem Entrant.bare_overdue {e f : Entrant} (h : e.bare = f.bare) : e.overdue = f.overdue := by
  show e.bare.overdue = f.bare.overdue
  rw [h]

/-- Equal bare records finish alike. -/
theorem Entrant.finishedAs_bare {e f : Entrant} (h : e.bare = f.bare) (st : FinishStatus) (time : RunTime) :
    (e.finishedAs st time).bare = (f.finishedAs st time).bare := by
  have hsame : ∀ e : Entrant, (e.finishedAs st time).bare = { e.bare.finishedAs st time with effective := 0 } :=
    fun _ => rfl
  rw [hsame, hsame, h]

/-! ### Finish conversion -/

/-- The record after finish conversion (R154). -/
def Entrant.converted (e : Entrant) : Entrant :=
  { e with
    laps := e.laps - (e.penalties.map (·.conversion)).sum
    penalties := [], holdTimer := none, powerHold := none
    activity := e.activity || !(e.penalties.isEmpty && e.powerHold.isNone) }

/-- The Standing Order once an entrant has its laps converted (R93, R154). -/
def State.convertedOrder (s : State) (i : Slot) (e : Entrant) : List Standing :=
  if e.converted.laps = e.laps then s.standings else placeAgain i e.converted.key s.standings

/-- The record of a conversion, before the Standing Order is told. -/
theorem State.withRecord_charged (s : State) (i : Slot) (e : Entrant) (d : DirtyClass) (hv : e.state ≠ .vacant) :
    ∃ x d', (if e.penalties.isEmpty && e.powerHold.isNone then
        s.withRecord i { e.converted with activity := e.activity } d
      else ((s.withRecord i { e.converted with activity := e.activity } d).markActivity i).recompute i)
      = s.withRecord i { e.converted with effective := x } d' := by
  cases hclean : e.penalties.isEmpty && e.powerHold.isNone with
  | true =>
    refine ⟨e.effective, d, ?_⟩
    simp [Entrant.converted, hclean]
  | false =>
    refine ⟨s.effectiveFor e.converted, DirtyClass.mark e.effective (s.effectiveFor e.converted) d, ?_⟩
    rw [if_neg Bool.false_ne_true, State.markActivity, State.withRecord_modEntrant, State.withRecord_recompute _ _ _ _ (by exact hv)]
    simp only [State.limited, Entrant.converted, hclean, Bool.not_false, Bool.or_true]

/-- A conversion ends with the record converted and recomputed, and the entrant placed again if it lost laps. -/
theorem State.withRecord_converted (s : State) (i : Slot) (e : Entrant) (d : DirtyClass) (hv : e.state ≠ .vacant) :
    ∃ d', ((s.withRecord i e d).convertPenalties i).recompute i
      = (s.withStandings (s.convertedOrder i e)).withRecord i (s.limited e.converted) d' := by
  obtain ⟨x, c, hcharged⟩ := s.withRecord_charged i e d hv
  have hplaced : (s.withRecord i e d).convertPenalties i
      = (s.withStandings (s.convertedOrder i e)).withRecord i { e.converted with effective := x } c := by
    unfold State.convertPenalties
    dsimp only
    rw [State.withRecord_entrant, State.withRecord_modEntrant]
    refine (congrArg (fun u : State => if (u.entrant i).laps = e.laps then u else u.replace i) hcharged).trans ?_
    dsimp only
    rw [State.withRecord_entrant, State.withRecord_replace, State.convertedOrder]
    split <;> rfl
  refine ⟨DirtyClass.mark x (s.effectiveFor e.converted) c, ?_⟩
  rw [hplaced, State.withRecord_recompute _ _ _ _ (by exact hv)]
  rfl

/-! ### One entrant finished -/

/-- The record as it is when its entrant is released at a finish (R53). -/
def Entrant.flagged (e : Entrant) (st : FinishStatus) (time : RunTime) : Entrant :=
  { e with state := .finished, finishStatus := some st, finishTime := some time, deadline := none }

/-- `w` is `s` with one entrant finished and released, and cleared of its penalties (R53, R65, R154). -/
structure State.Finished (s : State) (i : Slot) (st : FinishStatus) (time : RunTime) (w : State) : Prop where
  frame : w = (s.withStandings w.standings).withCars w
  self : w.entrant i = ((s.entrant i).finishedAs st time).recomputedIn w
  other : ∀ j : Slot, j ≠ i → w.entrant j = s.entrant j ∨ w.entrant j = (s.entrant j).recomputedIn w
  caution : ∀ k : Fin 4, w.race.caution[k]
    = if (s.entrant i).overdue then s.race.caution[k].without i else s.race.caution[k]
  standings : w.standings =
    if (s.entrant i).laps - ((s.entrant i).penalties.map (·.conversion)).sum = (s.entrant i).laps then s.standings
    else placeAgain i (w.entrant i).key s.standings

/-- `r` is `s` with the record of one entrant about to finish in its slot, and the entrant released. -/
structure State.Released (s : State) (i : Slot) (e : Entrant) (r : State) : Prop where
  frame : r = s.withCars r
  self : (r.entrant i).bare = e.seen.bare
  other : ∀ j : Slot, j ≠ i → r.entrant j = s.entrant j ∨ r.entrant j = (s.entrant j).recomputedIn r
  caution : ∀ k : Fin 4, r.race.caution[k] = if e.overdue then s.race.caution[k].without i else s.race.caution[k]

theorem State.Relieved.bare {u w : State} (h : u.Relieved w) (j : Slot) : (w.entrant j).bare = (u.entrant j).bare := by
  rcases h.records with ⟨-, hentrants, -⟩ | ⟨-, hrecomputed⟩
  · rw [State.entrant_congr hentrants j]
  · rw [hrecomputed j, Entrant.recomputedIn_bare]

theorem State.release_released (s : State) (i : Slot) (e : Entrant) (d : DirtyClass) :
    s.Released i e ((s.withRecord i e d).release i) := by
  have hrel : (s.withRecord i e.seen d).Relieved ((s.withRecord i e d).release i) := by
    have h := (s.withRecord i e d).release_relieved i
    rwa [State.withRecord_modEntrant] at h
  refine ⟨State.withCars_trans (s.withRecord_withCars i e.seen d) hrel.frame, ?_, fun j hj => ?_, fun k => ?_⟩
  · rw [hrel.bare i, State.withRecord_entrant]
  · have hkept : (s.withRecord i e.seen d).entrant j = s.entrant j := State.withRecord_entrant_other _ _ _ hj
    rcases hrel.records with ⟨-, hentrants, -⟩ | ⟨-, hrecomputed⟩
    · exact .inl ((State.entrant_congr hentrants j).trans hkept)
    · exact .inr (by rw [hrecomputed j, hkept])
  · have h := (s.withRecord i e d).release_caution i k
    rwa [State.withRecord_entrant] at h

/-- A released entrant that finishes has its record converted, and recomputed last of all. -/
theorem State.Released.finished {s r : State} {i : Slot} {st : FinishStatus} {time : RunTime} {x : Nat}
    (h : s.Released i { (s.entrant i).flagged st time with effective := x } r) :
    s.Finished i st time ((r.convertPenalties i).recompute i) := by
  have hself : (r.entrant i).bare = { (s.entrant i).flagged st time with overdue := false, effective := 0 } := h.self
  have hlaps : (r.entrant i).laps = (s.entrant i).laps := by
    show (r.entrant i).bare.laps = _
    rw [hself]
    rfl
  have hstate : (r.entrant i).state = .finished := by
    show (r.entrant i).bare.state = _
    rw [hself]
    rfl
  have hsum : (r.entrant i).converted.laps = (s.entrant i).laps - ((s.entrant i).penalties.map (·.conversion)).sum := by
    show (r.entrant i).bare.converted.laps = _
    rw [hself]
    rfl
  have hrecord : r.limited (r.entrant i).converted = ((s.entrant i).finishedAs st time).recomputedIn r := by
    have hlimited : r.limited (r.entrant i).converted = r.limited (r.entrant i).bare.converted := rfl
    rw [hlimited, hself]
    rfl
  obtain ⟨d, hconverted⟩ := r.withRecord_converted i (r.entrant i) (r.dirtyOf i)
    (by rw [hstate]; exact fun h => nomatch h)
  rw [State.withRecord_self] at hconverted
  rw [hconverted]
  have hstandings : r.standings = s.standings := by rw [h.frame]; rfl
  refine ⟨?_, ?_, fun j hj => ?_, h.caution, ?_⟩
  · have hframe := h.frame
    generalize r.convertedOrder i (r.entrant i) = l
    generalize r.limited (r.entrant i).converted = e
    rw [hframe]
    rfl
  · rw [State.withRecord_entrant, hrecord]
    rfl
  · rw [State.withRecord_entrant_other _ _ _ hj]
    exact h.other j hj
  · rw [State.withRecord_entrant, ← hsum, ← hlaps, ← hstandings]
    rfl

theorem State.finishEntrant_finished (s : State) (i : Slot) (st : FinishStatus) (time : RunTime) :
    s.Finished i st time (s.finishEntrant i st time) := by
  have heq : s.finishEntrant i st time = (((s.withRecord i { (s.entrant i).flagged st time with
        effective := s.effectiveFor ((s.entrant i).flagged st time) }
      (DirtyClass.mark (s.entrant i).effective (s.effectiveFor ((s.entrant i).flagged st time))
        (s.dirtyOf i))).release i).convertPenalties i).recompute i := by
    unfold State.finishEntrant
    dsimp only
    rw [s.modEntrant_eq_withRecord, State.withRecord_recompute _ _ _ _ (by exact fun h => nomatch h),
      State.withRecord_modEntrant]
    rfl
  rw [heq]
  exact (s.release_released i _ _).finished

/-- A finish leaves every other record as it is, its ceiling apart. -/
theorem State.Finished.bare_other {s w : State} {i j : Slot} {st : FinishStatus} {time : RunTime}
    (h : s.Finished i st time w) (hj : j ≠ i) : (w.entrant j).bare = (s.entrant j).bare := by
  rcases h.other j hj with hsame | hsame
  · rw [hsame]
  · rw [hsame, Entrant.recomputedIn_bare]

theorem State.Finished.bare_self {s w : State} {i : Slot} {st : FinishStatus} {time : RunTime}
    (h : s.Finished i st time w) : (w.entrant i).bare = ((s.entrant i).finishedAs st time).bare := by
  rw [h.self, Entrant.recomputedIn_bare]

end Sys2Proof.Machine
end

section
/-! SUPPORT. Chapter 6, section 6.6: the end of a race, with every Racing entrant finished (R119, R120). -/

namespace Sys2Proof.Machine

/-! ### Entrant by entrant -/

/-- The entrant is Racing and Overdue, and so may hold a sector under local caution. -/
def Entrant.lostOnTrack (e : Entrant) : Bool := e.state == .racing && e.overdue

/-- What a race has become while its Racing entrants are finished one by one: a Racing one is as it was, its ceiling
apart, and the holders that have left the Caution Map are the Overdue ones that have finished. -/
structure State.FinishingFrom (b u : State) : Prop where
  frame : u = (b.withStandings u.standings).withCars u
  racing : ∀ j : Slot, (u.entrant j).state = .racing → (u.entrant j).bare = (b.entrant j).bare
  caution : ∀ k : Fin 4, u.race.caution[k] = { b.race.caution[k] with
    holders := b.race.caution[k].holders.filter fun j =>
      !((b.entrant j).lostOnTrack && (u.entrant j).state != .racing) }

theorem State.FinishingFrom.refl (b : State) : b.FinishingFrom b := by
  refine ⟨rfl, fun _ _ => rfl, fun k => ?_⟩
  have hall : b.race.caution[k].holders.filter (fun j =>
      !((b.entrant j).lostOnTrack && (b.entrant j).state != .racing)) = b.race.caution[k].holders :=
    List.filter_eq_self.mpr fun j _ => by
      cases h : (b.entrant j).state <;> simp [Entrant.lostOnTrack, h]
  rw [hall]

theorem State.Finished.state {s w : State} {i : Slot} {st : FinishStatus} {time : RunTime} (h : s.Finished i st time w)
    (j : Slot) : (w.entrant j).state = if j = i then .finished else (s.entrant j).state := by
  by_cases hj : j = i
  · subst hj
    rw [if_pos rfl, h.self]
    rfl
  · rw [if_neg hj, Entrant.bare_state (h.bare_other hj)]

theorem State.FinishingFrom.step {b u w : State} {i : Slot} {time : RunTime} (h : b.FinishingFrom u)
    (hi : (u.entrant i).state = .racing) (hw : u.Finished i .unflagged time w) : b.FinishingFrom w where
  frame := by
    have hframe := hw.frame
    rw [h.frame] at hframe
    exact hframe
  racing j hj := by
    rw [hw.state] at hj
    by_cases hji : j = i
    · rw [if_pos hji] at hj
      cases hj
    · rw [if_neg hji] at hj
      rw [hw.bare_other hji, h.racing j hj]
  caution k := by
    have hlost : (b.entrant i).lostOnTrack = (u.entrant i).overdue := by
      rw [Entrant.lostOnTrack, ← Entrant.bare_state (h.racing i hi), hi, Entrant.bare_overdue (h.racing i hi)]
      rfl
    rw [hw.caution k, h.caution k]
    cases hover : (u.entrant i).overdue with
    | true =>
      rw [if_pos rfl, SectorCaution.without, List.filter_filter]
      refine congrArg (fun l => ({ b.race.caution[k] with holders := l } : SectorCaution))
        (List.filter_congr fun j _ => ?_)
      rw [hw.state]
      by_cases hji : j = i
      · subst hji
        simp [hlost, hover]
      · simp [hji]
    | false =>
      rw [if_neg Bool.false_ne_true]
      refine congrArg (fun l => ({ b.race.caution[k] with holders := l } : SectorCaution))
        (List.filter_congr fun j _ => ?_)
      rw [hw.state]
      by_cases hji : j = i
      · subst hji
        simp [hlost, hover]
      · simp [hji]

theorem State.FinishingFrom.slot {b u : State} (time : RunTime) (h : b.FinishingFrom u) (i : Slot) :
    b.FinishingFrom (if (u.entrant i).state = .racing then u.finishEntrant i .unflagged time else u) := by
  split
  · next hi => exact h.step hi (u.finishEntrant_finished i .unflagged time)
  · exact h

theorem State.finishAll_finishingFrom (b : State) (time : RunTime) : b.FinishingFrom (b.finishAll time) :=
  State.forSlots_induction b.FinishingFrom _ (fun _ i hu => hu.slot time i) b (.refl b)

/-- Every Racing entrant finishes once, and every other record stays, the ceilings apart (R53). -/
theorem State.finishAll_bare (b : State) (time : RunTime) (j : Slot) : ((b.finishAll time).entrant j).bare
    = (if (b.entrant j).state = .racing then (b.entrant j).finishedAs .unflagged time else b.entrant j).bare := by
  obtain ⟨u, -, hbefore, hafter⟩ := State.forSlots_each (look := fun u j => (u.entrant j).bare) (I := b.FinishingFrom)
    (fun _ i hu => hu.slot time i) (fun u i j hji _ => by
      split
      · exact (u.finishEntrant_finished i .unflagged time).bare_other hji
      · rfl) (.refl b) j
  rw [State.finishAll, hafter, Entrant.bare_state hbefore]
  by_cases hj : (b.entrant j).state = .racing
  · rw [if_pos hj, if_pos hj, (u.finishEntrant_finished j .unflagged time).bare_self, Entrant.finishedAs_bare hbefore]
  · rw [if_neg hj, if_neg hj, hbefore]

/-- The entrant loses no lap to finish conversion (R154). -/
def Entrant.keepsLaps (e : Entrant) : Prop := e.laps - (e.penalties.map (·.conversion)).sum = e.laps

theorem Entrant.keepsLaps_of_bare {e f : Entrant} (h : e.bare = f.bare) (hf : f.keepsLaps) : e.keepsLaps := by
  show e.bare.keepsLaps
  rw [h]
  exact hf

/-- Where nobody loses a lap to finish conversion, the Standing Order stays (R93, R154). -/
theorem State.finishAll_standings {b : State} (time : RunTime)
    (h : ∀ i : Slot, (b.entrant i).state = .racing → (b.entrant i).keepsLaps) :
    (b.finishAll time).standings = b.standings := by
  have both : b.FinishingFrom (b.finishAll time) ∧ (b.finishAll time).standings = b.standings := by
    refine State.forSlots_induction (fun u => b.FinishingFrom u ∧ u.standings = b.standings) _
      (fun u i ⟨hu, hsame⟩ => ⟨hu.slot time i, ?_⟩) b ⟨.refl b, rfl⟩
    split
    · next hi =>
      have hbare := hu.racing i hi
      have hkeeps : (u.entrant i).keepsLaps :=
        Entrant.keepsLaps_of_bare hbare (h i (by rw [← Entrant.bare_state hbare, hi]))
      rw [(u.finishEntrant_finished i .unflagged time).standings]
      exact (if_pos hkeeps).trans hsame
    · exact hsame
  exact both.2

/-! ### The race ended -/

/-- `g` is `s` with nobody left Racing: all that was so has finished Unflagged (R119, R120). -/
structure State.AllFinished (s : State) (time : RunTime) (g : State) : Prop where
  frame : g.raceOver = ((s.withStandings g.standings).withCars g).raceOver
  bare : ∀ j : Slot, (g.entrant j).bare
    = (if (s.entrant j).state = .racing then (s.entrant j).finishedAs .unflagged time else s.entrant j).bare
  caution : ∀ k : Fin 4, g.race.caution[k] = { s.race.caution[k] with
    holders := s.race.caution[k].holders.filter fun j => !(s.entrant j).lostOnTrack }

theorem State.finishAll_allFinished (s : State) (time : RunTime) : s.AllFinished time (s.finishAll time) where
  frame := by
    have hframe := (s.finishAll_finishingFrom time).frame
    generalize s.finishAll time = g at *
    exact congrArg State.raceOver hframe
  bare := s.finishAll_bare time
  caution k := by
    have hnobody (j : Slot) : ((s.finishAll time).entrant j).state != .racing := by
      simpa using s.finishAll_not_racing time j
    rw [(s.finishAll_finishingFrom time).caution k]
    simp only [hnobody, Bool.and_true]

theorem State.AllFinished.ended {s g t : State} {time : RunTime} (h : s.AllFinished time g) (ht : g.raceOver.Told t) :
    t.endedFrom s time ∧ t.standings = g.standings := by
  have hcaution : t.race.caution = g.race.caution := by rw [ht.race]; rfl
  have hstandings : t.standings = g.standings := by rw [ht.frame]; rfl
  have hrace : t.race.state = .complete := by rw [ht.race]; rfl
  refine ⟨⟨?_, fun i => ?_, fun k => ?_, ?_, ?_, ?_⟩, hstandings⟩
  · have hframe := ht.frame
    rw [h.frame] at hframe
    rw [hcaution, hstandings]
    exact hframe
  · rw [ht.records i]
    exact Entrant.recomputedIn_eq_of_bare (h.bare i) t
  · rw [hcaution]
    exact h.caution k
  all_goals
    rw [ht.pins, State.pinsNow]
    simp [State.powerOut, State.redsLit, RaceState.greenLit, hrace]

/-- An event that ends the race. -/
theorem State.AllFinished.done {c : Instr} {s g : State} {time : RunTime} (h : s.AllFinished time g)
    (hexec : exec c s = g.complete.done) :
    ∃ t, exec c s = .next t ∧ t.endedFrom s time ∧ t.link = s.link ∧ t.standings = g.standings := by
  rw [State.complete_eq] at hexec
  obtain ⟨t, hnext, htold, hlink⟩ := (State.recomputeAll_recomputed _).done hexec (by rw [h.frame]; rfl)
  exact ⟨t, hnext, (h.ended htold).1, hlink, (h.ended htold).2⟩

/-- A request that ends the race. -/
theorem State.AllFinished.accepted {c : Instr} {s g : State} {time : RunTime} (h : s.AllFinished time g)
    (hexec : exec c s = answered g.complete.accept) :
    ∃ t, exec c s = .next t ∧ t.endedFrom s time ∧ t.link = s.replied .okay ∧ t.standings = g.standings := by
  rw [State.complete_eq] at hexec
  obtain ⟨t, hnext, htold, hlink⟩ := (State.recomputeAll_recomputed _).accepted hexec (by rw [h.frame]; rfl)
    (by rw [h.frame]; rfl)
  exact ⟨t, hnext, (h.ended htold).1, hlink, (h.ended htold).2⟩

/-! ### A race that enters Finishing -/

/-- The race in Finishing, with its window from now, before the Ceiling Unit is told (R119). -/
def State.lastLap (s : State) : State :=
  { s with
    race := { s.race with
      state := .finishing, finishDeadline := some (s.race.runningClock + s.cfg.finishWindow * 10000) }
    attention := { s.attention with race := true } }

theorem State.enterFinishing_eq {s : State} (h : s.race.state = .running) :
    s.enterFinishing = s.lastLap.recomputeAll.checkFinished := by
  have hhold : s.holdStartOn .finishing = s.ceiling.holdStart := by
    simp [State.holdStartOn, h, RaceState.heldCounts]
  unfold State.enterFinishing State.enterRace State.lastLap
  rw [hhold]
  rfl

theorem State.lastLap_state (s : State) (j : Slot) : (s.lastLap.recomputeAll.entrant j).state = (s.entrant j).state := by
  rw [(State.recomputeAll_recomputed s.lastLap).records j]
  rfl

theorem State.enterFinishing_others {s : State} (h : s.race.state = .running)
    (hleft : ∃ j : Slot, (s.entrant j).state = .racing) : s.enterFinishing = s.lastLap.recomputeAll := by
  obtain ⟨j, hj⟩ := hleft
  rw [State.enterFinishing_eq h]
  exact State.checkFinished_running fun _ => ⟨j, (s.lastLap_state j).trans hj⟩

theorem State.enterFinishing_last {s : State} (h : s.race.state = .running)
    (hnone : ∀ j : Slot, (s.entrant j).state ≠ .racing) : s.enterFinishing = s.lastLap.recomputeAll.complete := by
  rw [State.enterFinishing_eq h]
  refine State.checkFinished_last (by rw [State.recomputeAll_race]; rfl) fun j => ?_
  rw [s.lastLap_state]
  exact hnone j

/-- A race with nobody Racing has nobody to finish. -/
theorem State.lastLap_allFinished {s : State} (time : RunTime) (hnone : ∀ j : Slot, (s.entrant j).state ≠ .racing) :
    s.AllFinished time s.lastLap.recomputeAll := by
  have hrec := State.recomputeAll_recomputed s.lastLap
  have hframe := hrec.frame
  generalize s.lastLap.recomputeAll = r at *
  refine ⟨?_, fun j => ?_, fun k => ?_⟩
  · rw [hframe]
    rfl
  · rw [if_neg (hnone j), hrec.records j, Entrant.recomputedIn_bare]
    rfl
  · have hnobody (j : Slot) : (s.entrant j).lostOnTrack = false := by
      simp [Entrant.lostOnTrack, hnone j]
    have hcaution : r.race.caution = s.race.caution := by rw [hframe]; rfl
    simp [hcaution, hnobody]

end Sys2Proof.Machine
end

section
/-! SUPPORT. Chapter 6, section 6.6: a credited crossing is scored without regard to the race's end, and then judged by
it (R76, R117, R151). -/

namespace Sys2Proof.Machine

/-! ### A race without a lap target -/

/-- The same race as if it were Running without a lap target. -/
def State.untargeted (s : State) : State :=
  { s with cfg := { s.cfg with lapTarget := 0 }, race := { s.race with state := .running } }

/-- The race is Running or Finishing, the states whose ceilings are the same. -/
def State.racesNow (s : State) : Prop := s.race.state = .running ∨ s.race.state = .finishing

theorem State.untargeted_effectiveFor {s : State} (h : s.racesNow) (e : Entrant) :
    s.untargeted.effectiveFor e = s.effectiveFor e := by
  have hceiling : stateCeiling s.cfg.ceilings s.race.yellow e.state .running
      = stateCeiling s.cfg.ceilings s.race.yellow e.state s.race.state := by
    rcases h with h | h <;> rw [h]
    cases e.state <;> rfl
  have hlimits : s.untargeted.limits e = s.limits e := rfl
  rw [State.effectiveFor, State.effectiveFor, hlimits]
  exact congrArg (fun c => (s.limits e).foldl min c) hceiling

/-- An operation that takes no notice of the lap target, nor of whether the race is Running or Finishing, and writes
nothing of the race. -/
structure Untargeted (f : State → State) : Prop where
  commutes : ∀ s : State, s.racesNow → f s.untargeted = (f s).untargeted
  race : ∀ s : State, (f s).race = s.race
  cfg : ∀ s : State, (f s).cfg = s.cfg

namespace Untargeted

variable {f g : State → State} {i : Slot}

theorem id : Untargeted fun s => s := ⟨fun _ _ => rfl, fun _ => rfl, fun _ => rfl⟩

theorem comp (hg : Untargeted g) (hf : Untargeted f) : Untargeted fun s => g (f s) where
  commutes s h := by
    have hnow : (f s).racesNow := by rw [State.racesNow, hf.race]; exact h
    rw [hf.commutes s h, hg.commutes _ hnow]
  race s := (hg.race _).trans (hf.race s)
  cfg s := (hg.cfg _).trans (hf.cfg s)

/-- A choice by something the two races agree on. -/
theorem choose {α : Type} (look : State → α) (hlook : ∀ s : State, look s.untargeted = look s) {f : α → State → State}
    (h : ∀ a : α, Untargeted (f a)) : Untargeted fun s => f (look s) s where
  commutes s hs := by
    rw [hlook, (h _).commutes s hs]
  race s := (h _).race s
  cfg s := (h _).cfg s

theorem modEntrant (u : Entrant → Entrant) : Untargeted (·.modEntrant i u) :=
  ⟨fun _ _ => rfl, fun _ => rfl, fun _ => rfl⟩

theorem recompute : Untargeted (·.recompute i) where
  commutes s h := by
    have hentrant : s.untargeted.entrant i = s.entrant i := rfl
    unfold State.recompute
    dsimp only
    rw [hentrant, State.untargeted_effectiveFor h]
    split <;> rfl
  race s := by simp
  cfg s := by simp

theorem replace : Untargeted (·.replace i) := ⟨fun _ _ => rfl, fun _ => rfl, fun _ => rfl⟩

theorem measure (n : Nat) (now : RunTime) : Untargeted (·.measure i n now) where
  commutes s _ := by
    rw [State.measure_eq, State.measure_eq]
    rfl
  race s := by simp
  cfg s := by simp

/-! ### The Penalty Unit's operations -/

theorem setPenalties (q : List PitPenalty) : Untargeted (·.setPenalties i q) := modEntrant _

theorem setHoldTimer (t : Option RunTime) : Untargeted (·.setHoldTimer i t) := modEntrant _

theorem setBlackFlag (on : Bool) : Untargeted (·.setBlackFlag i on) := recompute.comp (modEntrant _)

theorem setPowerHold (h : Option PowerHold) : Untargeted (·.setPowerHold i h) := recompute.comp (modEntrant _)

theorem markActivity : Untargeted (·.markActivity i) := modEntrant _

theorem serveHead (p : PitPenalty) (rest : List PitPenalty) (until_ : RunTime) :
    Untargeted (·.serveHead i p rest until_) :=
  recompute.comp ((setHoldTimer _).comp (setPenalties _))

theorem judgeHead : Untargeted (·.judgeHead i) := by
  refine choose (fun s => ((s.entrant i), s.race.runningClock)) (fun _ => rfl) (f := fun a s =>
    match a.1.penalties with
    | [] => s
    | p :: rest =>
      if p.state = .pending then
        if p.kind = .stopGo ∧ a.1.pitStatus = .box then s.serveHead i p.activated rest (a.2 + p.holdTicks)
        else s.setPenalties i (p.activated :: rest)
      else s) fun a => ?_
  split
  · exact id
  · split
    · split
      · exact serveHead _ _ _
      · exact setPenalties _
    · exact id

theorem dropHead : Untargeted (·.dropHead i) := by
  refine choose (fun s => (s.entrant i).penalties) (fun _ => rfl) (f := fun q s =>
    match q with
    | [] => s
    | p :: rest =>
      if p.servingStopGo then ((s.setPenalties i rest).setHoldTimer i none).recompute i
      else s.setPenalties i rest) fun q => ?_
  split
  · exact id
  · split
    · exact recompute.comp ((setHoldTimer _).comp (setPenalties _))
    · exact setPenalties _

theorem placePenalty (p : PitPenalty) : Untargeted (·.placePenalty i p) := by
  refine choose (fun s => (s.entrant i).penalties) (fun _ => rfl) (f := fun q s =>
    if p.escalation then (s.setPenalties i (p :: q)).judgeHead i
    else if q.length < 4 then (s.setPenalties i (q ++ [p])).judgeHead i
    else s.setBlackFlag i true) fun q => ?_
  split
  · exact judgeHead.comp (setPenalties _)
  · split
    · exact judgeHead.comp (setPenalties _)
    · exact setBlackFlag _

theorem deductLaps (k : Nat) : Untargeted (·.deductLaps i k) := replace.comp (modEntrant _)

theorem carryRuling (c : Call) : Untargeted (·.carryRuling c) := by
  unfold State.carryRuling
  split
  · exact placePenalty _
  · exact placePenalty _
  · next l t _ =>
    exact choose (fun s => mergeHold s.race.runningClock l t (s.entrant c.slot).powerHold) (fun _ => rfl)
      (f := fun h s => s.setPowerHold c.slot (some h)) fun _ => setPowerHold _
  · exact deductLaps _
  · exact setBlackFlag _

theorem makeCall (c : CallClass) (r : Ruling) : Untargeted (·.makeCall i c r) :=
  choose (fun s => (s.race.runningClock, (s.entrant i).laps)) (fun _ => rfl) (f := fun a s => (s.carryRuling
      { slot := i, cls := c, ruling := r, calledAt := a.1, calledLap := a.2, escalation := c.escalates }).markActivity i)
    fun _ => markActivity.comp (carryRuling _)

theorem report (c : CallClass) : Untargeted (·.report i c) := by
  refine choose (fun s => ((s.entrant i).state, s.rulingFor c)) (fun _ => rfl) (f := fun a s =>
    if a.1 = .racing then
      match a.2 with
      | some r => s.makeCall i c r
      | none => s
    else s) fun a => ?_
  split
  · split
    · exact makeCall c _
    · exact id
  · exact id

theorem missHead (kind : PenaltyKind) : Untargeted (·.missHead i kind) :=
  judgeHead.comp ((report _).comp (markActivity.comp dropHead))

theorem penaltyCrossing (cautionLap : Bool) : Untargeted (·.penaltyCrossing i cautionLap) := by
  refine choose (fun s => s.entrant i) (fun _ => rfl) (f := fun e s =>
    match e.penalties with
    | [] => s
    | p :: rest =>
      if (p.owedAgain e.pitStatus).state = .active ∧ cautionLap = false then
        match (p.owedAgain e.pitStatus).remaining with
        | some r =>
          if r ≤ 1 then
            (s.setPenalties i ({ p.owedAgain e.pitStatus with remaining := some (r - 1) } :: rest)).missHead i
              (p.owedAgain e.pitStatus).kind
          else s.setPenalties i ({ p.owedAgain e.pitStatus with remaining := some (r - 1) } :: rest)
        | none => s.setPenalties i (p.owedAgain e.pitStatus :: rest)
      else s.setPenalties i (p.owedAgain e.pitStatus :: rest)) fun e => ?_
  split
  · exact id
  · split
    · split
      · split
        · exact (missHead _).comp (setPenalties _)
        · exact setPenalties _
      · exact setPenalties _
    · exact setPenalties _

end Untargeted

/-! ### A credited crossing -/

/-- A credited crossing before the race is judged by it (R72 to R76, R147). -/
def State.scored (s : State) (i : Slot) (l now : RunTime) (assigned : Bool) : State :=
  (((((s.modEntrant i fun e => e.credited s.cfg now (now - l) assigned s.lineCaution).recompute i).measure i
    (min maxLaps ((s.entrant i).laps + 1)) now).replace i).penaltyCrossing i (s.entrant i).lapCaution)

theorem State.credit_scored (s : State) (i : Slot) (l now : RunTime) (assigned : Bool) :
    s.credit i l now assigned = (s.scored i l now assigned).judgeCrossing i now := by
  unfold State.credit
  dsimp only
  rw [State.entrant_modEntrant_same]
  rfl

theorem Untargeted.scored (i : Slot) (l now : RunTime) (assigned : Bool) : Untargeted (·.scored i l now assigned) := by
  refine choose (fun s => ((s.entrant i), s.lineCaution, s.cfg.lapCeiling, s.cfg.sectorCount)) (fun _ => rfl)
    (f := fun a s => (((((s.modEntrant i fun e => e.credited s.cfg now (now - l) assigned a.2.1).recompute i).measure i
      (min maxLaps (a.1.laps + 1)) now).replace i).penaltyCrossing i a.1.lapCaution)) fun a => ?_
  have credited : Untargeted fun s => s.modEntrant i fun e => e.credited s.cfg now (now - l) assigned a.2.1 :=
    ⟨fun _ _ => rfl, fun _ => rfl, fun _ => rfl⟩
  exact (penaltyCrossing _).comp (replace.comp ((measure _ _).comp (recompute.comp credited)))

/-- Short of the lap target a crossing in Running ends nothing (R117). -/
theorem State.judgeCrossing_short {s : State} {i : Slot} (now : RunTime) (hrace : s.race.state = .running)
    (h : s.cfg.lapTarget = 0 ∨ (s.entrant i).laps < s.cfg.lapTarget) : s.judgeCrossing i now = s := by
  rw [State.judgeCrossing, hrace]
  exact if_neg (by omega)

/-- A crossing as if the race were Running without a lap target, and then judged as the race is (R76, R117). -/
theorem State.credit_untargeted {s : State} (h : s.racesNow) (i : Slot) (l now : RunTime) (assigned : Bool) :
    s.credit i l now assigned
      = State.judgeCrossing { s.untargeted.credit i l now assigned with cfg := s.cfg, race := s.race } i now := by
  have hscored := Untargeted.scored i l now assigned
  have hunjudged : s.untargeted.credit i l now assigned = (s.scored i l now assigned).untargeted := by
    rw [State.credit_scored, hscored.commutes s h]
    exact State.judgeCrossing_short now rfl (.inl rfl)
  rw [hunjudged, State.credit_scored]
  have hrace := hscored.race s
  have hcfg := hscored.cfg s
  generalize s.scored i l now assigned = u at *
  rw [← hrace, ← hcfg]
  rfl

end Sys2Proof.Machine
end

section
/-! SUPPORT. Chapter 6, section 6.6: the crossing that finishes an entrant (R117, R119), and how a race ends. -/

namespace Sys2Proof.Machine

/-! ### A crossing judged -/

theorem State.judgeCrossing_target {s : State} {i : Slot} (now : RunTime) (hrace : s.race.state = .running)
    (htarget : s.cfg.lapTarget ≠ 0) (hlaps : s.cfg.lapTarget ≤ (s.entrant i).laps) :
    s.judgeCrossing i now = (s.finishEntrant i .flagged now).enterFinishing := by
  rw [State.judgeCrossing, hrace]
  exact if_pos ⟨htarget, hlaps⟩

theorem State.judgeCrossing_finishing {s : State} (i : Slot) (now : RunTime) (hrace : s.race.state = .finishing) :
    s.judgeCrossing i now = (s.finishEntrant i .flagged now).checkFinished := by
  rw [State.judgeCrossing, hrace]

theorem State.FrameOf.refl (u : State) : u.FrameOf u := rfl

section Finished

variable {s w r : State} {i : Slot} {st : FinishStatus} {time : RunTime}

theorem State.Finished.race_state (h : s.Finished i st time w) : w.race.state = s.race.state := by
  rw [h.frame]
  rfl

theorem State.Finished.others_racing (h : s.Finished i st time w)
    (hleft : ∃ j : Slot, j ≠ i ∧ (s.entrant j).state = .racing) : ∃ j : Slot, (w.entrant j).state = .racing := by
  obtain ⟨j, hj, hracing⟩ := hleft
  exact ⟨j, by rw [h.state, if_neg hj, hracing]⟩

theorem State.Finished.nobody_racing (h : s.Finished i st time w)
    (hnone : ∀ j : Slot, j ≠ i → (s.entrant j).state ≠ .racing) (j : Slot) : (w.entrant j).state ≠ .racing := by
  rw [h.state]
  split
  · exact fun h => nomatch h
  · next hj => exact hnone j hj

/-- What everyone's recomputation leaves of a finish: the records, the Caution Map and the Standing Order. -/
theorem State.Finished.recomputed (h : s.Finished i st time w)
    (hrecords : ∀ j : Slot, r.entrant j = (w.entrant j).recomputedIn r) (hcaution : r.race.caution = w.race.caution)
    (hstandings : r.standings = w.standings) :
    (∀ j : Slot, r.entrant j = (if j = i then (s.entrant i).finishedAs st time else s.entrant j).recomputedIn r)
    ∧ (∀ k : Fin 4, r.race.caution[k] =
        if (s.entrant i).overdue then
          { s.race.caution[k] with holders := s.race.caution[k].holders.filter fun j => j != i }
        else s.race.caution[k])
    ∧ r.standings =
        (if (s.entrant i).laps - ((s.entrant i).penalties.map (·.conversion)).sum = (s.entrant i).laps then s.standings
        else placeAgain i (r.entrant i).key s.standings) := by
  refine ⟨fun j => ?_, fun k => ?_, ?_⟩
  · rw [hrecords j]
    by_cases hj : j = i
    · subst hj
      rw [if_pos rfl]
      exact Entrant.recomputedIn_eq_of_bare h.bare_self r
    · rw [if_neg hj]
      exact Entrant.recomputedIn_eq_of_bare (h.bare_other hj) r
  · rw [hcaution]
    exact h.caution k
  · have hkey : (r.entrant i).key = (w.entrant i).key := by
      rw [hrecords i]
      rfl
    rw [hstandings, hkey]
    exact h.standings

/-- The race once the last Racing entrant has finished, by either way to Complete. -/
theorem State.Finished.completed {x : State} (h : s.Finished i st time w) (hx : x.FrameOf w ∨ x.FrameOf w.lastLap)
    (hrecords : ∀ j : Slot, (x.entrant j).bare = (w.entrant j).bare) :
    x.complete = { s with
        race := { s.race with
          state := .complete, finishDeadline := none, resume := none, suspStart := none
          caution := x.complete.race.caution }
        entrants := x.complete.entrants, standings := x.complete.standings
        ceiling := { s.ceiling with dirty := x.complete.ceiling.dirty, holdStart := none }
        attention := { s.attention with race := true } }
    ∧ (∀ j : Slot, x.complete.entrant j = (w.entrant j).recomputedIn x.complete)
    ∧ x.complete.race.caution = w.race.caution ∧ x.complete.standings = w.standings := by
  have hover : x.raceOver.FrameOf w.raceOver := hx.elim State.FrameOf.raceOver State.FrameOf.raceOver
  rw [State.complete_eq]
  have hrec := State.recomputeAll_recomputed x.raceOver
  have hframe := hrec.frameOf hover
  have hentrant (j : Slot) : x.raceOver.recomputeAll.entrant j = (w.entrant j).recomputedIn x.raceOver.recomputeAll :=
    (hrec.records j).trans (Entrant.recomputedIn_eq_of_bare (hrecords j) _)
  generalize x.raceOver.recomputeAll = r at *
  have hcaution : r.race.caution = w.race.caution := by rw [hframe]; rfl
  have hstandings : r.standings = w.standings := by rw [hframe]; rfl
  refine ⟨?_, hentrant, hcaution, hstandings⟩
  rw [State.FrameOf, h.frame] at hframe
  rw [hcaution, hstandings]
  exact hframe

end Finished

/-- The crossing of the last Racing entrant, in a race whose end it brings (R117, R119). -/
theorem State.judgeCrossing_last {s : State} {i : Slot} (now : RunTime)
    (hcase : s.race.state = .finishing
      ∨ (s.race.state = .running ∧ s.cfg.lapTarget ≠ 0 ∧ s.cfg.lapTarget ≤ (s.entrant i).laps))
    (hnone : ∀ j : Slot, j ≠ i → (s.entrant j).state ≠ .racing) :
    ∃ w x : State, s.Finished i .flagged now w ∧ s.judgeCrossing i now = x.complete
      ∧ (x.FrameOf w ∨ x.FrameOf w.lastLap) ∧ ∀ j : Slot, (x.entrant j).bare = (w.entrant j).bare := by
  have h := s.finishEntrant_finished i .flagged now
  rcases hcase with hrace | ⟨hrace, htarget, hlaps⟩
  · rw [State.judgeCrossing_finishing i now hrace,
      State.checkFinished_last (h.race_state.trans hrace) (h.nobody_racing hnone)]
    generalize s.finishEntrant i .flagged now = w at *
    exact ⟨w, w, h, rfl, .inl (.refl w), fun _ => rfl⟩
  · rw [State.judgeCrossing_target now hrace htarget hlaps,
      State.enterFinishing_last (h.race_state.trans hrace) (h.nobody_racing hnone)]
    generalize s.finishEntrant i .flagged now = w at *
    have hrec := State.recomputeAll_recomputed w.lastLap
    have hbare (j : Slot) : (w.lastLap.recomputeAll.entrant j).bare = (w.entrant j).bare := by
      rw [hrec.records j, Entrant.recomputedIn_bare]
      rfl
    exact ⟨w, w.lastLap.recomputeAll, h, rfl, .inr (hrec.frameOf (.refl _)), hbare⟩

/-! ### The events that end a race -/

theorem State.endsRace_iff (r : RaceState) :
    r ∈ [RaceState.running, .finishing, .suspended] ↔ r = .running ∨ r = .finishing ∨ r = .suspended := by
  simp

theorem exec_endRace {s : State} (h : s.race.state ∈ [RaceState.running, .finishing, .suspended]) :
    exec .endRace s = answered (s.finishAll s.race.runningClock).complete.accept :=
  congrArg answered (if_pos ((State.endsRace_iff _).mp h))

theorem exec_runningClockCap {s : State} (hrace : s.race.state = .running ∨ s.race.state = .finishing)
    (hcap : 3600000000 ≤ s.race.runningClock) :
    exec .runningClockCap s = (s.finishAll 3600000000).complete.done := by
  have hdue : s.capDue = true := by
    rw [State.capDue, (RaceState.clockRuns_iff _).mpr hrace]
    exact decide_eq_true hcap
  show execRunningClockCap s = _
  rw [execRunningClockCap, if_pos hdue]
  rfl

theorem exec_finishWindowExpiry {s : State} {d : RunTime} (hrace : s.race.state = .finishing)
    (hd : s.race.finishDeadline = some d) (hdue : d ≤ s.race.runningClock) :
    exec .finishWindowExpiry s = (s.finishAll d).complete.done := by
  show execFinishWindowExpiry s = _
  rw [execFinishWindowExpiry, State.windowDue_iff.mpr ⟨hrace, hd, hdue⟩]
  rfl

theorem State.timeTargetDue_iff (s : State) : s.timeTargetDue = true ↔
    s.cfg.timeTarget ≠ 0 ∧ s.race.state = .running ∧ s.cfg.timeTarget * 10000 ≤ s.race.runningClock := by
  rw [State.timeTargetDue, Bool.and_eq_true, Bool.and_eq_true, bne_iff_ne, beq_iff_eq, decide_eq_true_eq, and_assoc]
  rfl

theorem exec_timeTargetReached {s : State} (htarget : s.cfg.timeTarget ≠ 0) (hrace : s.race.state = .running)
    (hdue : s.cfg.timeTarget * 10000 ≤ s.race.runningClock) :
    exec .timeTargetReached s = s.enterFinishing.done :=
  if_pos (s.timeTargetDue_iff.mpr ⟨htarget, hrace, hdue⟩)

/-- Settles O43: an end finishes every Racing entrant and then the race; a flag finishes one, and the race once nobody is
left Racing. -/
theorem raceEnds : Obligations.RaceEnds := by
  refine ⟨?hostEnd, ?hostEndElse, ?cap, ?window, ?target, ?targetLast, ?targetNot, ?windowNot, ?capNot, ?crossing, ?short,
    ?flag, ?flagMore, ?flagLast⟩
  case hostEnd =>
    intro s h
    obtain ⟨t, hnext, hended, hlink, hstandings⟩ := (s.finishAll_allFinished _).accepted (exec_endRace h)
    exact ⟨t, hnext, hended, hlink, fun hkeeps => hstandings.trans (State.finishAll_standings _ hkeeps)⟩
  case hostEndElse =>
    intro s h
    refine State.refuses_of_answered (congrArg answered (if_neg ?_))
    rintro (hrace | hrace | hrace) <;> simp [hrace] at h
  case cap =>
    intro s hrace hcap
    obtain ⟨t, hnext, hended, hlink, hstandings⟩ := (s.finishAll_allFinished _).done (exec_runningClockCap hrace hcap)
    exact ⟨t, hnext, hended, hlink, fun hkeeps => hstandings.trans (State.finishAll_standings _ hkeeps)⟩
  case window =>
    intro d s hrace hd hdue
    obtain ⟨t, hnext, hended, hlink, hstandings⟩ :=
      (s.finishAll_allFinished _).done (exec_finishWindowExpiry hrace hd hdue)
    exact ⟨t, hnext, hended, hlink, fun hkeeps => hstandings.trans (State.finishAll_standings _ hkeeps)⟩
  case target =>
    intro s htarget hrace hdue hleft
    have hexec := exec_timeTargetReached htarget hrace hdue
    rw [State.enterFinishing_others hrace hleft] at hexec
    obtain ⟨t, hnext, htold, hlink⟩ := (State.recomputeAll_recomputed _).done hexec rfl
    exact ⟨t, hnext, htold.frame_link hlink, htold.records, htold.marked⟩
  case targetLast =>
    intro s htarget hrace hdue hnone
    have hexec := exec_timeTargetReached htarget hrace hdue
    rw [State.enterFinishing_last hrace hnone] at hexec
    obtain ⟨t, hnext, hended, hlink, -⟩ := (State.lastLap_allFinished s.race.runningClock hnone).done hexec
    exact ⟨t, hnext, hended, hlink⟩
  case targetNot =>
    intro s h
    refine State.unmovedBy_of_done (if_neg ?_)
    rw [s.timeTargetDue_iff]
    rintro ⟨htarget, hrace, hdue⟩
    exact h.elim (· hrace) fun h => h.elim htarget (Nat.not_lt.mpr hdue)
  case windowNot =>
    intro s h
    have hnone : s.windowDue = none := by
      rw [Option.eq_none_iff_forall_ne_some]
      intro d hd
      obtain ⟨hrace, hdeadline, hdue⟩ := State.windowDue_iff.mp hd
      obtain ⟨d', hmem, hlate⟩ := h.resolve_left (not_not.mpr hrace)
      obtain rfl : d' = d := by simpa [hdeadline, eq_comm] using hmem
      exact Nat.not_lt.mpr hdue hlate
    refine State.unmovedBy_of_done ?_
    show execFinishWindowExpiry s = _
    rw [execFinishWindowExpiry, hnone]
  case capNot =>
    intro s h
    refine State.unmovedBy_of_done (if_neg ?_)
    rw [State.capDue, Bool.and_eq_true, RaceState.clockRuns_iff, decide_eq_true_eq]
    rintro ⟨hrace, hcap⟩
    exact h.elim (fun hnot => hrace.elim hnot.1 hnot.2) (Nat.not_lt.mpr hcap)
  case crossing =>
    intro i now l s hrace hl hfloor
    have huntargeted : s.untargeted.crossing i now = s.untargeted.credit i l now false :=
      State.crossing_credit hl hfloor
    rw [State.crossing_credit hl hfloor, State.credit_untargeted hrace, ← huntargeted]
    rfl
  case short => exact fun i now s hrace h => State.judgeCrossing_short now hrace h
  case flag =>
    intro i now s hrace htarget hlaps _ hleft
    have h := s.finishEntrant_finished i .flagged now
    rw [State.judgeCrossing_target now hrace htarget hlaps,
      State.enterFinishing_others (h.race_state.trans hrace) (h.others_racing hleft)]
    generalize s.finishEntrant i .flagged now = w at *
    have hrec := State.recomputeAll_recomputed w.lastLap
    have hframe := hrec.frame
    generalize w.lastLap.recomputeAll = r at *
    have hcaution : r.race.caution = w.race.caution := by rw [hframe]; rfl
    have hstandings : r.standings = w.standings := by rw [hframe]; rfl
    refine ⟨?_, h.recomputed hrec.records hcaution hstandings⟩
    rw [h.frame] at hframe
    rw [hcaution, hstandings]
    exact hframe
  case flagMore =>
    intro i now s hrace _ hleft
    have h := s.finishEntrant_finished i .flagged now
    rw [State.judgeCrossing_finishing i now hrace, State.checkFinished_running fun _ => h.others_racing hleft]
    generalize s.finishEntrant i .flagged now = w at *
    exact ⟨h.frame, h.self, h.other, h.caution, h.standings⟩
  case flagLast =>
    intro i now s hcase _ hnone
    obtain ⟨w, x, h, hx, hframe, hbare⟩ := State.judgeCrossing_last now hcase hnone
    rw [hx]
    obtain ⟨hrest, hrecords, hcaution, hstandings⟩ := h.completed hframe hbare
    exact ⟨hrest, h.recomputed hrecords hcaution hstandings⟩

end Sys2Proof.Machine
end

section
/-! SUPPORT. Chapter 7, section 7.2, and chapter 6, section 6.7: the ruling a request asks for, CONFIG_CALL, and POWER. -/

namespace Sys2Proof.Machine

/-! ### The ruling a request asks for -/

theorem rulingKindOf_none_iff (b : Byte) : rulingKindOf b = none ↔ 5 < b.toNat := by
  unfold rulingKindOf
  generalize b.toNat = n
  by_cases h : 5 < n
  · obtain ⟨m, rfl⟩ : ∃ m, n = m + 6 := ⟨n - 6, by omega⟩
    simp
  · interval_cases n <;> simp

/-- The fields each ruling kind uses, with their ranges (R127). -/
theorem rulingOf_cases (h d v l t n : Byte) :
    rulingOf .noRuling h d v l t n = some none
    ∧ rulingOf .blackFlag h d v l t n = some (some .blackFlag)
    ∧ rulingOf .driveThrough h d v l t n
        = (if 1 ≤ d.toNat ∧ d.toNat ≤ 15 ∧ v.toNat ≤ 9 then some (some (.driveThrough d.toNat v.toNat)) else none)
    ∧ rulingOf .stopGo h d v l t n
        = (if 1 ≤ h.toNat ∧ h.toNat ≤ 60 ∧ 1 ≤ d.toNat ∧ d.toNat ≤ 15 ∧ v.toNat ≤ 9
          then some (some (.stopGo h.toNat d.toNat v.toNat)) else none)
    ∧ rulingOf .powerHold h d v l t n
        = (if l.toNat ≤ 90 ∧ 1 ≤ t.toNat ∧ t.toNat ≤ 60 then some (some (.powerHold l.toNat t.toNat)) else none)
    ∧ rulingOf .lapDeduction h d v l t n
        = (if 1 ≤ n.toNat ∧ n.toNat ≤ 9 then some (some (.lapDeduction n.toNat)) else none) :=
  ⟨rfl, rfl, by simp [rulingOf, inRange, and_assoc], by simp [rulingOf, inRange, and_assoc],
    by simp [rulingOf, inRange], by simp [rulingOf, inRange]⟩

section Asked
variable {kind hold deadline conversion level duration laps : Byte}

/-- The ruling that a kind byte and its fields ask for: `none` where one lies out of range, `some none` for kind None
(R129, R136). -/
def askedRuling (kind hold deadline conversion level duration laps : Byte) : Option (Option Ruling) :=
  (rulingKindOf kind).bind fun k => rulingOf k hold deadline conversion level duration laps

theorem askedRuling_of_kind {k : RulingKind} (hk : rulingKindOf kind = some k) :
    askedRuling kind hold deadline conversion level duration laps
      = rulingOf k hold deadline conversion level duration laps := by
  rw [askedRuling, hk]; rfl

theorem askedRuling_none (h : 5 < kind.toNat
      ∨ ∃ k ∈ (rulingKindOf kind).toList, rulingOf k hold deadline conversion level duration laps = none) :
    askedRuling kind hold deadline conversion level duration laps = none := by
  rcases h with hkind | ⟨k, hk, hfield⟩
  · rw [askedRuling, (rulingKindOf_none_iff kind).mpr hkind]; rfl
  · rw [askedRuling_of_kind (by simpa using hk), hfield]

/-! ### CONFIG_CALL -/

/-- CONFIG_CALL in Setup takes the ruling asked for into the class's row (R129). -/
theorem State.configCallRequest_inSetup {s : State} {cls : Byte} (hrace : s.race.state = .setup) :
    s.configCallRequest cls kind hold deadline conversion level duration laps
      = if h : cls.toNat < 7 then
          match askedRuling kind hold deadline conversion level duration laps with
          | none => s.refuse .badValue
          | some r => { s with callTable := s.callTable.set cls.toNat r h }.accept
        else s.refuse .badValue := by
  rw [State.configCallRequest, if_neg (not_not.mpr hrace)]
  unfold askedRuling
  cases rulingKindOf kind <;> rfl

theorem State.configCallRequest_accepted {s : State} {n : Fin 7} {r : Option Ruling} (hrace : s.race.state = .setup)
    (hr : askedRuling kind hold deadline conversion level duration laps = some r) :
    s.configCallRequest (BitVec.ofNat 8 n.val) kind hold deadline conversion level duration laps
      = { s with callTable := s.callTable.set n.val r }.accept := by
  have hval : (BitVec.ofNat 8 n.val).toNat = n.val := by
    rw [BitVec.toNat_ofNat]; exact Nat.mod_eq_of_lt (by omega)
  rw [State.configCallRequest_inSetup hrace, dif_pos (by omega), hr]
  simp only [hval]

theorem State.configCallRequest_badValue {s : State} {cls : Byte} (hrace : s.race.state = .setup)
    (h : 6 < cls.toNat ∨ askedRuling kind hold deadline conversion level duration laps = none) :
    s.configCallRequest cls kind hold deadline conversion level duration laps = s.refuse .badValue := by
  rw [State.configCallRequest_inSetup hrace]
  split
  · rw [h.resolve_left (by omega)]
  · rfl

end Asked

/-! ### POWER -/

theorem State.powerRequest_inSetup {s : State} {value : Byte} (hrace : s.race.state = .setup) :
    s.powerRequest value = match onOff value with
      | none => s.refuse .badValue
      | some on => { s with race := { s.race with powerSetting := on } }.accept :=
  if_neg (not_not.mpr hrace)

/-- In Setup master power is the POWER setting (R122). -/
theorem State.powerOut_inSetup {s : State} (hrace : s.race.state = .setup) : s.powerOut = s.race.powerSetting := by
  rw [State.powerOut, hrace]

/-- Settles O28: by whether the class and the ruling asked for are in range, and by the POWER value. -/
theorem configCallAndPowerWrite : Obligations.ConfigCallAndPowerWrite := by
  refine ⟨?entry, ?badEntry, rulingOf_cases, ?power, ?badPower, ?numbers⟩
  case entry =>
    intro n kind hold deadline conversion level duration laps k r s hrace hk hr
    have hrequest := State.configCallRequest_accepted (n := n) hrace ((askedRuling_of_kind hk).trans hr)
    exact ⟨_, State.next_of_accept (congrArg answered hrequest) rfl rfl, rfl⟩
  case badEntry =>
    intro cls kind hold deadline conversion level duration laps s hrace h
    have hrequest := State.configCallRequest_badValue hrace (h.imp_right askedRuling_none)
    exact State.refuses_of_answered (congrArg answered hrequest)
  case power =>
    intro on s hrace
    have hrequest := State.powerRequest_inSetup (value := if on then 1#8 else 0#8) hrace
    rw [onOff_flag] at hrequest
    exact ⟨_, State.next_of_accept (congrArg answered hrequest) rfl rfl, rfl, State.powerOut_inSetup hrace⟩
  case badPower =>
    intro value s hrace hvalue
    have hrequest := State.powerRequest_inSetup (value := value) hrace
    rw [onOff_none hvalue] at hrequest
    exact State.refuses_of_answered (congrArg answered hrequest)
  case numbers => exact fun b s => ⟨by decide, (rulingKindOf_none_iff b).mpr, rfl⟩

end Sys2Proof.Machine
end

section
/-! SUPPORT. Chapter 7, section 7.3, and chapter 8, sections 8.1, 8.4 and 8.5: what a call's ruling makes of the
entrant's record. -/

namespace Sys2Proof.Machine

/-! ### A record rewritten -/

/-- The state with another Standing Order and one record replaced, its dirty class marked by the move of its effective
ceiling (R160). -/
def State.rewritten (s : State) (i : Slot) (l : List Standing) (e : Entrant) : State :=
  (s.withStandings l).withRecord i e (DirtyClass.mark (s.entrant i).effective e.effective (s.dirtyOf i))

section Rewritten
variable {s : State} {i : Slot}

theorem State.rewritten_entrant (l : List Standing) (e : Entrant) : (s.rewritten i l e).entrant i = e :=
  State.withRecord_entrant _ _ _ _

theorem State.rewritten_entrant_other {j : Slot} (l : List Standing) (e : Entrant) (h : j ≠ i) :
    (s.rewritten i l e).entrant j = s.entrant j :=
  State.withRecord_entrant_other _ _ _ h

theorem State.modEntrant_rewritten {f : Entrant → Entrant} (h : (f (s.entrant i)).effective = (s.entrant i).effective) :
    s.modEntrant i f = s.rewritten i s.standings (f (s.entrant i)) := by
  rw [State.rewritten, h, DirtyClass.mark_same]
  exact s.modEntrant_eq_withRecord i f

theorem State.modEntrant_recompute_rewritten {f : Entrant → Entrant} (hv : (f (s.entrant i)).state ≠ .vacant)
    (h : (f (s.entrant i)).effective = (s.entrant i).effective) :
    (s.modEntrant i f).recompute i = s.rewritten i s.standings (s.limited (f (s.entrant i))) := by
  rw [State.modEntrant_eq_withRecord, State.withRecord_recompute _ _ _ _ hv, h]
  rfl

theorem State.rewritten_markActivity (l : List Standing) (e : Entrant) :
    (s.rewritten i l e).markActivity i = s.rewritten i l e.marked :=
  State.withRecord_modEntrant _ _ _ _ _

/-! ### Power holds and rulings that act at once -/

theorem State.setPowerHold_rewritten (h : Option PowerHold) (hv : (s.entrant i).state ≠ .vacant) :
    s.setPowerHold i h = s.rewritten i s.standings (s.limited { s.entrant i with powerHold := h }) :=
  State.modEntrant_recompute_rewritten (f := fun e => { e with powerHold := h }) hv rfl

theorem State.setBlackFlag_rewritten (on : Bool) (hv : (s.entrant i).state ≠ .vacant) :
    s.setBlackFlag i on = s.rewritten i s.standings (s.limited { s.entrant i with blackFlag := on }) :=
  State.modEntrant_recompute_rewritten (f := fun e => { e with blackFlag := on }) hv rfl

/-- The record less laps, saturating at 0 (R151). -/
def Entrant.lessLaps (e : Entrant) (n : Nat) : Entrant := { e with laps := e.laps - n }

theorem State.deductLaps_rewritten (n : Nat) : s.deductLaps i n
    = s.rewritten i (placeAgain i ((s.entrant i).lessLaps n).key s.standings) ((s.entrant i).lessLaps n) := by
  rw [State.deductLaps, State.modEntrant_eq_withRecord, State.withRecord_replace, State.rewritten]
  show _ = State.withRecord _ _ _ (DirtyClass.mark (s.entrant i).effective (s.entrant i).effective _)
  rw [DirtyClass.mark_same]
  rfl

/-! ### A pit penalty placed -/

/-- The record once a pit penalty that is no escalation has been placed: judged at once as the head of an empty queue,
else at the tail, or the Black-flag mark in its place (R141, R142). -/
def State.penalized (s : State) (e : Entrant) (p : PitPenalty) : Entrant :=
  if e.penalties = [] then
    if p.kind = .stopGo ∧ e.pitStatus = .box then
      s.limited (e.withQueue [{ p.activated with state := .serving }] (some (s.race.runningClock + p.holdTicks)))
    else e.withQueue [p.activated] e.holdTimer
  else if e.penalties.length < 4 then e.withQueue (e.penalties ++ [p]) e.holdTimer
  else s.limited { e with blackFlag := true }

theorem State.penalized_inBox {e : Entrant} {p : PitPenalty} (hnil : e.penalties = [])
    (hbox : p.kind = .stopGo ∧ e.pitStatus = .box) :
    s.penalized e p = { e.withQueue [{ p.activated with state := .serving }]
      (some (s.race.runningClock + p.holdTicks)) with effective := 0 } := by
  rw [State.penalized, if_pos hnil, if_pos hbox, State.limited, State.effectiveFor_serving]
  simp [Entrant.servingStopGo, Entrant.withQueue, PitPenalty.activated, hbox]

theorem State.penalized_head {e : Entrant} {p : PitPenalty} (hnil : e.penalties = [])
    (hbox : ¬(p.kind = .stopGo ∧ e.pitStatus = .box)) : s.penalized e p = e.withQueue [p.activated] e.holdTimer := by
  rw [State.penalized, if_pos hnil, if_neg hbox]

theorem State.penalized_behind {e : Entrant} (p : PitPenalty) (hcons : e.penalties ≠ [])
    (hlen : e.penalties.length < 4) : s.penalized e p = e.withQueue (e.penalties ++ [p]) e.holdTimer := by
  rw [State.penalized, if_neg hcons, if_pos hlen]

theorem State.penalized_full {e : Entrant} (p : PitPenalty) (hcons : e.penalties ≠ [])
    (hlen : ¬e.penalties.length < 4) : s.penalized e p = s.limited { e with blackFlag := true } := by
  rw [State.penalized, if_neg hcons, if_neg hlen]

theorem State.placePenalty_tail {p : PitPenalty} (hp : p.escalation = false)
    (hlen : (s.entrant i).penalties.length < 4) :
    s.placePenalty i p = (s.setPenalties i ((s.entrant i).penalties ++ [p])).judgeHead i := by
  simp [State.placePenalty, hp, hlen]

theorem State.setPenalties_rewritten (l : List PitPenalty) :
    s.setPenalties i l = s.rewritten i s.standings ((s.entrant i).withQueue l (s.entrant i).holdTimer) :=
  State.modEntrant_rewritten (f := fun e => { e with penalties := l }) rfl

/-- The first entry of a queue is judged as its head. -/
theorem State.setPenalties_judgeHead_first {p : PitPenalty} (hpending : p.state = .pending)
    (hv : (s.entrant i).state ≠ .vacant) (hnil : (s.entrant i).penalties = []) :
    (s.setPenalties i [p]).judgeHead i = s.rewritten i s.standings (s.penalized (s.entrant i) p) := by
  have hset : s.setPenalties i [p]
      = s.withRecord i ((s.entrant i).withQueue [p] (s.entrant i).holdTimer) (s.dirtyOf i) :=
    s.modEntrant_eq_withRecord i _
  have hhead : ((s.setPenalties i [p]).entrant i).penalties = [p] := by
    rw [hset, State.withRecord_entrant]; rfl
  have hpit : ((s.setPenalties i [p]).entrant i).pitStatus = (s.entrant i).pitStatus := by
    rw [hset, State.withRecord_entrant]; rfl
  rw [State.judgeHead_pending _ i p [] hhead hpending, hpit, State.penalized, if_pos hnil]
  split
  · rw [State.serveHead_eq, hset, State.withRecord_modEntrant, State.withRecord_recompute]
    · rfl
    · exact hv
  · rw [hset, State.setPenalties, State.withRecord_modEntrant, ← State.modEntrant_rewritten
      (f := (·.withQueue [p.activated] (s.entrant i).holdTimer)) rfl, State.modEntrant_eq_withRecord]
    rfl

theorem State.placePenalty_rewritten {p : PitPenalty} (hp : p.escalation = false) (hpending : p.state = .pending)
    (hv : (s.entrant i).state ≠ .vacant) (hhead : ∀ q ∈ (s.entrant i).penalties.take 1, q.state ≠ .pending) :
    s.placePenalty i p = s.rewritten i s.standings (s.penalized (s.entrant i) p) := by
  cases hq : (s.entrant i).penalties with
  | nil =>
    rw [State.placePenalty_tail hp (by simp [hq]), hq]
    exact State.setPenalties_judgeHead_first hpending hv hq
  | cons q rest =>
    have hcons : (s.entrant i).penalties ≠ [] := by simp [hq]
    by_cases hlen : (s.entrant i).penalties.length < 4
    · have hqueue : ((s.setPenalties i ((s.entrant i).penalties ++ [p])).entrant i).penalties = q :: (rest ++ [p]) := by
        rw [State.setPenalties, State.modEntrant_eq_withRecord, State.withRecord_entrant, hq]; rfl
      rw [State.placePenalty_tail hp hlen, State.judgeHead_judged _ i q _ hqueue (hhead q (by simp [hq])),
        State.setPenalties_rewritten, State.penalized_behind p hcons hlen]
    · rw [State.penalized_full p hcons hlen, ← State.setBlackFlag_rewritten true hv]
      simp [State.placePenalty, hp, hlen]

end Rewritten

end Sys2Proof.Machine
end

section
/-! SUPPORT. Chapter 7, section 7.6: CALL. -/

namespace Sys2Proof.Machine

/-! ### The judging of a CALL -/

/-- The kind of a ruling (R184). -/
def Ruling.kind : Ruling → RulingKind
  | .driveThrough .. => .driveThrough
  | .stopGo .. => .stopGo
  | .powerHold .. => .powerHold
  | .lapDeduction _ => .lapDeduction
  | .blackFlag => .blackFlag

section Call
variable {s : State} {code kind hold deadline conversion level duration laps : Byte} {i : Slot} {k : RulingKind}
  {r : Ruling}

theorem rulingOf_kind (h : rulingOf k hold deadline conversion level duration laps = some (some r)) : r.kind = k := by
  cases k with
  | noRuling => cases h
  | blackFlag => cases h; rfl
  | driveThrough | stopGo | powerHold | lapDeduction =>
    simp only [rulingOf, Option.ite_none_right_eq_some, Option.some.injEq] at h
    obtain ⟨-, rfl⟩ := h
    rfl

/-- Every ruling may be made against a Racing entrant, none against an Excluded one, and against a Finished or Retired
one only those that act at once (R136). -/
theorem manualAllowed_iff {st : EntrantState} : manualAllowed st r = true
    ↔ st ≠ .excluded ∧ (st ∈ [EntrantState.finished, .retired] →
      r.kind ∉ [RulingKind.driveThrough, .stopGo, .powerHold]) := by
  cases st with
  | finished | retired => cases r <;> simp [manualAllowed, Ruling.kind]
  | vacant | staged | racing | excluded => simp [manualAllowed]

theorem exec_call_beforeGreen (h : s.race.state.afterGreen = false) :
    exec (.call code kind hold deadline conversion level duration laps) s = answered (s.refuse .wrongState) :=
  congrArg answered (if_pos h)

theorem exec_call_noEntrant (hgreen : s.race.state.afterGreen = true) (hi : s.named code = none) :
    exec (.call code kind hold deadline conversion level duration laps) s = answered (s.refuse .noEntrant) := by
  show answered (s.callRequest ..) = _
  simp [State.callRequest, hgreen, hi]

/-- After green a CALL that names an entrant is judged by the ruling it asks for, and by the entrant's state (R136). -/
theorem exec_call_judged (hgreen : s.race.state.afterGreen = true) (hi : s.named code = some i) :
    exec (.call code kind hold deadline conversion level duration laps) s
      = answered (match (askedRuling kind hold deadline conversion level duration laps).join with
        | none => s.refuse .badValue
        | some r =>
          if manualAllowed (s.entrant i).state r then (s.makeCall i .manual r).accept else s.refuse .wrongState) := by
  show answered (s.callRequest ..) = _
  rw [State.callRequest, if_neg (by simp [hgreen]), hi]
  unfold askedRuling
  cases rulingKindOf kind with
  | none => rfl
  | some k =>
    cases k with
    | noRuling => rfl
    | _ =>
      dsimp only [Option.bind_some]
      rcases rulingOf _ hold deadline conversion level duration laps with _ | _ | r <;> rfl

/-- A CALL whose ruling is in range is judged by the entrant's state alone (R136). -/
theorem exec_call_ruled (hgreen : s.race.state.afterGreen = true) (hi : s.named code = some i)
    (hk : rulingKindOf kind = some k)
    (hr : rulingOf k hold deadline conversion level duration laps = some (some r)) :
    exec (.call code kind hold deadline conversion level duration laps) s
      = answered (if manualAllowed (s.entrant i).state r then (s.makeCall i .manual r).accept
        else s.refuse .wrongState) := by
  rw [exec_call_judged hgreen hi, askedRuling_of_kind hk, hr]
  rfl

/-! ### The call made -/

/-- The record of a Manual call (R130, R137). -/
def State.manualCall (s : State) (i : Slot) (r : Ruling) : Call :=
  { slot := i, cls := .manual, ruling := r, calledAt := s.race.runningClock
    calledLap := (s.entrant i).laps, escalation := false }

/-- What a command that rewrites one entrant's record, and may place it again, leaves once answered OK. -/
structure State.Rewrote (s : State) (i : Slot) (l : List Standing) (e : Entrant) (t : State) : Prop where
  frame : t = { s with
    entrants := t.entrants, standings := t.standings, ceiling := { s.ceiling with dirty := t.ceiling.dirty }
    link := s.replied .okay, pins := t.pinsNow }
  other : ∀ j : Slot, j ≠ i → t.entrant j = s.entrant j
  marked : t.markedFrom s
  standings : t.standings = l
  self : t.entrant i = e
  ceilings : ∀ x : Entrant, t.effectiveFor x = s.effectiveFor x

theorem State.rewritten_rewrote (s : State) (i : Slot) (l : List Standing) (e : Entrant) :
    s.Rewrote i l e ({ s.rewritten i l e with link := s.replied .okay } : State).settle where
  frame := rfl
  other _ hj := State.rewritten_entrant_other l e hj
  marked := s.withRecord_markedFrom i e
  standings := rfl
  self := State.rewritten_entrant l e
  ceilings _ := rfl

/-- A CALL whose ruling is in range and may be made against the entrant: the record as the ruling leaves it, with the
activity mark (R130, R137). -/
theorem exec_call_made {l : List Standing} {e : Entrant} (hgreen : s.race.state.afterGreen = true)
    (hi : s.named code = some i) (hk : rulingKindOf kind = some k)
    (hr : rulingOf k hold deadline conversion level duration laps = some (some r))
    (hallowed : manualAllowed (s.entrant i).state r = true)
    (hcarry : s.carryRuling (s.manualCall i r) = s.rewritten i l e) :
    ∃ t, exec (.call code kind hold deadline conversion level duration laps) s = .next t ∧ s.Rewrote i l e.marked t := by
  have hmake : s.makeCall i .manual r = s.rewritten i l e.marked :=
    (congrArg (·.markActivity i) hcarry).trans (State.rewritten_markActivity l e)
  have hexec := exec_call_ruled hgreen hi hk hr
  rw [if_pos hallowed, hmake] at hexec
  exact ⟨_, State.next_of_accept hexec rfl rfl, s.rewritten_rewrote i l e.marked⟩

end Call

/-- A ruling that acts at once may be made against a Racing, Finished or Retired entrant (R136). -/
theorem manualAllowed_atOnce {st : EntrantState} {r : Ruling}
    (hst : st ∈ [EntrantState.racing, .finished, .retired]) (hr : r.kind ∈ [RulingKind.lapDeduction, .blackFlag]) :
    manualAllowed st r = true ∧ st ≠ .vacant := by
  refine ⟨manualAllowed_iff.mpr ⟨?_, fun _ => ?_⟩, ?_⟩
  · rintro rfl; simp at hst
  · revert hr; cases r.kind <;> simp
  · rintro rfl; simp at hst

theorem manualAllowed_racing {st : EntrantState} (r : Ruling) (hst : st = .racing) :
    manualAllowed st r = true ∧ st ≠ .vacant := by
  subst hst; exact ⟨rfl, by decide⟩

/-- The entry a Manual call of a pit penalty places (R137, R140). -/
def State.manualEntry (s : State) (i : Slot) (k : PenaltyKind) (h : Option Nat) (d v : Nat) : PitPenalty :=
  { kind := k, cls := .manual, hold := h, deadline := d, conversion := v, escalation := false
    state := .pending, remaining := none, calledAt := s.race.runningClock, calledLap := (s.entrant i).laps }

/-- Settles O34: a CALL is judged in the order of R136's table, and its ruling rewrites the entrant's record. -/
theorem callMakesManualRuling : Obligations.CallMakesManualRuling := by
  refine ⟨?powerHold, ?lapDeduction, ?blackFlag, ?pitPenalty, ?beforeGreen, ?noEntrant, ?badValue, ?notAllowed⟩
  case powerHold =>
    intro code kind hold deadline conversion level duration laps i l d s hgreen hi hk hr hstate
    obtain ⟨hallowed, hv⟩ := manualAllowed_racing (.powerHold l d) hstate
    obtain ⟨t, hexec, ht⟩ := exec_call_made hgreen hi hk hr hallowed (State.setPowerHold_rewritten _ hv)
    refine ⟨t, hexec, ht.frame, ht.other, ht.marked, ht.standings, ?_⟩
    rw [ht.ceilings, ht.self]
    cases hhold : (s.entrant i).powerHold <;> simp only [State.manualCall, hhold] <;> rfl
  case lapDeduction =>
    intro code kind hold deadline conversion level duration laps i n s hgreen hi hk hr hstate
    obtain ⟨hallowed, -⟩ := manualAllowed_atOnce (r := .lapDeduction n) hstate (by simp [Ruling.kind])
    obtain ⟨t, hexec, ht⟩ := exec_call_made hgreen hi hk hr hallowed (State.deductLaps_rewritten n)
    refine ⟨t, hexec, ht.frame, ht.other, ht.marked, ht.self, ?_⟩
    rw [ht.standings, ht.self]
    rfl
  case blackFlag =>
    intro code kind hold deadline conversion level duration laps i s hgreen hi hk hstate
    obtain ⟨hallowed, hv⟩ := manualAllowed_atOnce (r := .blackFlag) hstate (by simp [Ruling.kind])
    obtain ⟨t, hexec, ht⟩ := exec_call_made (hold := hold) (deadline := deadline) (conversion := conversion)
      (level := level) (duration := duration) (laps := laps) hgreen hi hk rfl hallowed
      (State.setBlackFlag_rewritten true hv)
    refine ⟨t, hexec, ht.frame, ht.other, ht.marked, ht.standings, ?_⟩
    rw [ht.ceilings, ht.self]
    rfl
  case pitPenalty =>
    intro code kind hold deadline conversion level duration laps i k h d v s hgreen hi hcase hstate hhead
    obtain ⟨t, hexec, ht⟩ : ∃ t, exec (.call code kind hold deadline conversion level duration laps) s = .next t
        ∧ s.Rewrote i s.standings (s.penalized (s.entrant i) (s.manualEntry i k h d v)).marked t := by
      rcases hcase with ⟨rfl, hk, rfl, hr⟩ | ⟨rfl, hk, rfl, hr⟩
      all_goals
        obtain ⟨hallowed, hv⟩ := manualAllowed_racing _ hstate
        exact exec_call_made hgreen hi hk hr hallowed
          (State.placePenalty_rewritten (p := s.manualEntry i _ _ d v) rfl rfl hv hhead)
    have hhold : k = .stopGo → h = some hold.toNat := by
      rintro rfl
      exact hcase.elim (fun hdrive => nomatch hdrive.1) fun hstop => hstop.2.2.1
    refine ⟨t, hexec, ht.frame, ht.other, ht.marked, ht.standings, ?_⟩
    rw [ht.ceilings, ht.self]
    split
    · next hnil =>
      split
      · next hbox =>
        obtain rfl := hhold hbox.1
        rw [State.penalized_inBox hnil hbox]
        rfl
      · next hbox =>
        rw [State.penalized_head hnil hbox]
        rfl
    · next hcons =>
      split
      · next hlen =>
        rw [State.penalized_behind _ hcons hlen]
        rfl
      · next hlen =>
        rw [State.penalized_full _ hcons hlen]
        rfl
  case beforeGreen =>
    exact fun _ _ _ _ _ _ _ _ s hgreen => State.refuses_of_answered (exec_call_beforeGreen hgreen)
  case noEntrant =>
    exact fun _ _ _ _ _ _ _ _ s hgreen hi => State.refuses_of_answered (exec_call_noEntrant hgreen hi)
  case badValue =>
    intro code kind hold deadline conversion level duration laps i s hgreen hi h
    have hasked : (askedRuling kind hold deadline conversion level duration laps).join = none := by
      rcases h with rfl | h
      · rfl
      · rw [askedRuling_none h]; rfl
    refine State.refuses_of_answered ((exec_call_judged hgreen hi).trans ?_)
    rw [hasked]
  case notAllowed =>
    intro code kind hold deadline conversion level duration laps i k r s hgreen hi hk hr hstate
    have hallowed : ¬manualAllowed (s.entrant i).state r = true := by
      rw [manualAllowed_iff, rulingOf_kind hr]
      rintro ⟨hexcluded, hkinds⟩
      exact hstate.elim hexcluded fun ⟨hclosed, hkind⟩ => hkinds hclosed hkind
    refine State.refuses_of_answered ((exec_call_ruled hgreen hi hk hr).trans ?_)
    rw [if_neg hallowed]

end Sys2Proof.Machine
end

section
/-! SUPPORT. Chapter 8, section 8.2: the form of a pit-penalty queue, and what the Penalty Unit's and the Call Unit's
operations make of it (R140, R141, R142). -/

namespace Sys2Proof.Machine

/-! ### The form of a queue -/

/-- An entry behind the head: Pending, its laps remaining absent (R140). -/
def PitPenalty.Waits (p : PitPenalty) : Prop := p.state = .pending ∧ p.remaining = none

/-- An entry judged as a head: Active or Serving, its laps remaining present (R140, R142). -/
def PitPenalty.Leads (p : PitPenalty) : Prop := p.state ≠ .pending ∧ p.remaining ≠ none

/-- A queue with its hold timer between two commands (R140, R142). -/
def QueueHeld : List PitPenalty → Option RunTime → Prop
  | [], u => u = none
  | p :: rest, u => rest.length ≤ 3 ∧ p.Leads ∧ (∀ q ∈ rest, q.Waits) ∧ u.isSome = p.servingStopGo

/-- A queue of at most `n` entries whose head is still to be judged. -/
def QueueWaits (n : Nat) (l : List PitPenalty) (u : Option RunTime) : Prop :=
  l.length ≤ n ∧ (∀ q ∈ l, q.Waits) ∧ u = none

/-- A queue that may take another entry: an escalation comes to one whose head has just been dropped (R141, R148). -/
def QueueTakes (escalation : Bool) : List PitPenalty → Option RunTime → Prop :=
  if escalation then QueueWaits 3 else QueueHeld

theorem Entrant.pitQueueKept_iff (e : Entrant) : e.pitQueueKept ↔ QueueHeld e.penalties e.holdTimer := by
  unfold Entrant.pitQueueKept Entrant.servingStopGo
  cases e.penalties with
  | nil => simp [QueueHeld]
  | cons p rest =>
    simp only [List.length_cons, List.take_succ_cons, List.take_zero, List.mem_singleton, forall_eq,
      List.drop_succ_cons, List.drop_zero, List.forall_mem_cons, QueueHeld, PitPenalty.Leads, PitPenalty.Waits,
      PitPenalty.servingStopGo, Nat.add_le_add_iff_right, show 4 = 3 + 1 from rfl]
    constructor
    · rintro ⟨hlen, hp, hrest, ⟨hremaining, habsent⟩, htimer⟩
      exact ⟨hlen, ⟨hp, mt hremaining.mp hp⟩, fun q hq => ⟨hrest q hq, (habsent q hq).mpr (hrest q hq)⟩, htimer⟩
    · rintro ⟨hlen, ⟨hp, hremaining⟩, hrest, htimer⟩
      exact ⟨hlen, hp, fun q hq => (hrest q hq).1, ⟨iff_of_false hremaining hp,
        fun q hq => iff_of_true (hrest q hq).2 (hrest q hq).1⟩, htimer⟩

/-! ### The queues of a state -/

/-- The queue and the hold timer of a slot are as `Q` says. -/
def State.queueIs (s : State) (i : Slot) (Q : List PitPenalty → Option RunTime → Prop) : Prop :=
  Q (s.entrant i).penalties (s.entrant i).holdTimer

/-- Every queue has its form. -/
structure State.QueuesSound (s : State) : Prop where
  held : ∀ j : Slot, s.queueIs j QueueHeld

/-- Every queue has its form but that of one slot, which is as `Q` says. -/
structure State.QueuesBut (s : State) (i : Slot) (Q : List PitPenalty → Option RunTime → Prop) : Prop where
  others : ∀ j : Slot, j ≠ i → s.queueIs j QueueHeld
  self : s.queueIs i Q

/-- From `s` to `t` no queue changes and no hold timer. -/
structure State.SameQueues (s t : State) : Prop where
  records : ∀ j : Slot,
    (t.entrant j).penalties = (s.entrant j).penalties ∧ (t.entrant j).holdTimer = (s.entrant j).holdTimer

theorem State.pitQueuesKept_iff (s : State) : s.pitQueuesKept ↔ s.QueuesSound :=
  ⟨fun h => ⟨fun j => (s.entrant j).pitQueueKept_iff.mp (h j)⟩,
    fun h j => (s.entrant j).pitQueueKept_iff.mpr (h.held j)⟩

section Queues
variable {s t u : State} {i : Slot} {Q : List PitPenalty → Option RunTime → Prop}

theorem State.QueuesSound.but (hs : s.QueuesSound) (i : Slot) : s.QueuesBut i QueueHeld := 
  ⟨fun j _ => hs.held j, hs.held i⟩

theorem State.QueuesBut.sound (h : s.QueuesBut i QueueHeld) : s.QueuesSound where
  held j := by
    by_cases hj : j = i
    · exact hj ▸ h.self
    · exact h.others j hj

theorem State.QueuesBut.imp {R : List PitPenalty → Option RunTime → Prop} (h : s.QueuesBut i Q)
    (hQ : ∀ l u, Q l u → R l u) : s.QueuesBut i R := ⟨h.others, hQ _ _ h.self⟩

theorem State.SameQueues.refl (s : State) : s.SameQueues s := ⟨fun _ => ⟨rfl, rfl⟩⟩

theorem State.SameQueues.trans (hst : s.SameQueues t) (htu : t.SameQueues u) : s.SameQueues u where
  records j := by
    obtain ⟨hqueue, htimer⟩ := hst.records j
    obtain ⟨hqueue', htimer'⟩ := htu.records j
    exact ⟨hqueue'.trans hqueue, htimer'.trans htimer⟩

/-- An operation that leaves the records. -/
theorem State.SameQueues.of_entrants (h : t.entrants = s.entrants) : s.SameQueues t :=
  ⟨fun j => by rw [State.entrant_congr h]; exact ⟨rfl, rfl⟩⟩

/-- A write to fields of a record that hold neither the queue nor its timer. -/
theorem State.modEntrant_sameQueues (s : State) (i : Slot) {f : Entrant → Entrant}
    (hf : ∀ e, (f e).penalties = e.penalties ∧ (f e).holdTimer = e.holdTimer) : s.SameQueues (s.modEntrant i f) where
  records j := by
    rw [State.entrant_modEntrant]
    split
    · next hj => rw [hj]; exact hf _
    · exact ⟨rfl, rfl⟩

theorem State.SameQueues.ite {p : Prop} [Decidable p] (ht : s.SameQueues t) (hu : s.SameQueues u) :
    s.SameQueues (if p then t else u) := by
  split
  · exact ht
  · exact hu

theorem State.SameQueues.forSlots {f : State → Slot → State} (h : ∀ (s : State) (i : Slot), s.SameQueues (f s i))
    (s : State) : s.SameQueues (s.forSlots f) :=
  State.forSlots_induction s.SameQueues f (fun u i hu => hu.trans (h u i)) s (.refl s)

theorem State.SameQueues.queueIs (h : s.SameQueues t) (hs : s.queueIs i Q) : t.queueIs i Q := by
  obtain ⟨hqueue, htimer⟩ := h.records i
  rw [State.queueIs, hqueue, htimer]; exact hs

theorem State.SameQueues.but (h : s.SameQueues t) (hs : s.QueuesBut i Q) : t.QueuesBut i Q :=
  ⟨fun j hj => h.queueIs (hs.others j hj), h.queueIs hs.self⟩

theorem State.SameQueues.sound (h : s.SameQueues t) (hs : s.QueuesSound) : t.QueuesSound :=
  ⟨fun j => h.queueIs (hs.held j)⟩

/-- Queues are read in the records alone. -/
theorem State.QueuesSound.still (hs : s.QueuesSound) (h : t.entrants = s.entrants) : t.QueuesSound :=
  (State.SameQueues.of_entrants h).sound hs

theorem State.recompute_sameQueues (s : State) (i : Slot) : s.SameQueues (s.recompute i) := ⟨fun j => by simp⟩

theorem State.recomputeAll_sameQueues (s : State) : s.SameQueues s.recomputeAll := ⟨fun j => by simp⟩

/-- One record's queue and hold timer are written. -/
theorem State.QueuesBut.modEntrant {R : List PitPenalty → Option RunTime → Prop} (h : s.QueuesBut i Q)
    {f : Entrant → Entrant} (hf : R (f (s.entrant i)).penalties (f (s.entrant i)).holdTimer) :
    (s.modEntrant i f).QueuesBut i R := by
  refine ⟨fun j hj => ?_, ?_⟩
  · rw [State.queueIs, State.entrant_modEntrant_other _ _ hj]; exact h.others j hj
  · rwa [State.queueIs, State.entrant_modEntrant_same]

/-! ### The head -/

/-- The head becomes a Serving stop-and-go (R142, R144). -/
theorem State.serveHead_queuesSound {p : PitPenalty} {rest : List PitPenalty} (until_ : RunTime) (hs : s.QueuesBut i Q)
    (hlen : rest.length ≤ 3) (hkind : p.kind = .stopGo) (hp : p.remaining ≠ none) (hrest : ∀ q ∈ rest, q.Waits) :
    (s.serveHead i p rest until_).QueuesSound := by
  rw [State.serveHead_eq]
  refine (State.recompute_sameQueues _ i).sound (State.QueuesBut.sound (hs.modEntrant ?_))
  exact ⟨hlen, ⟨PenaltyState.noConfusion, hp⟩, hrest, by simp [PitPenalty.servingStopGo, Entrant.withQueue, hkind]⟩

/-- A Serving stop-and-go at the head becomes Active again (R143, R144). -/
theorem State.unserveHead_queuesSound {p : PitPenalty} {rest : List PitPenalty} (hs : s.QueuesSound)
    (hp : (s.entrant i).penalties = p :: rest) : (s.unserveHead i p rest).QueuesSound := by
  obtain ⟨hlen, ⟨-, hremaining⟩, hrest, -⟩ : QueueHeld (p :: rest) (s.entrant i).holdTimer := hp ▸ hs.held i
  rw [State.unserveHead_eq]
  refine (State.recompute_sameQueues _ i).sound (State.QueuesBut.sound ((hs.but i).modEntrant ?_))
  exact ⟨hlen, ⟨PenaltyState.noConfusion, hremaining⟩, hrest, by simp [PitPenalty.servingStopGo, Entrant.withQueue]⟩

/-- The head of a sound queue may be rewritten, if it leads and is as much a Serving stop-and-go as it was. -/
theorem State.setPenalties_head_queuesSound {p q : PitPenalty} {rest : List PitPenalty} (hs : s.QueuesSound)
    (hp : (s.entrant i).penalties = p :: rest) (hq : p.Leads → q.Leads) (hserving : q.servingStopGo = p.servingStopGo) :
    (s.setPenalties i (q :: rest)).QueuesSound := by
  obtain ⟨hlen, hleads, hrest, htimer⟩ : QueueHeld (p :: rest) (s.entrant i).holdTimer := hp ▸ hs.held i
  exact State.QueuesBut.sound ((hs.but i).modEntrant ⟨hlen, hq hleads, hrest, htimer.trans hserving.symm⟩)

/-- The judging of the head gives a queue its form, whether its head had been judged or not (R142). -/
theorem State.judgeHead_queuesSound (hs : s.QueuesBut i fun l u => QueueHeld l u ∨ QueueWaits 4 l u) :
    (s.judgeHead i).QueuesSound := by
  have hself := hs.self
  rw [State.queueIs] at hself
  cases hq : (s.entrant i).penalties with
  | nil =>
    rw [State.judgeHead_nil s i hq]
    refine State.QueuesBut.sound ⟨hs.others, ?_⟩
    rw [State.queueIs, hq]
    rw [hq] at hself
    exact hself.elim id fun hwaits => hwaits.2.2
  | cons p rest =>
    rw [hq] at hself
    rcases hself with hheld | ⟨hlen, hwaits, htimer⟩
    · rw [State.judgeHead_judged s i p rest hq hheld.2.1.1]
      exact State.QueuesBut.sound ⟨hs.others, by rwa [State.queueIs, hq]⟩
    · obtain ⟨hp, hrest⟩ := List.forall_mem_cons.mp hwaits
      have hlen : rest.length ≤ 3 := Nat.le_of_succ_le_succ hlen
      rw [State.judgeHead_pending s i p rest hq hp.1]
      split
      · next hbox => exact State.serveHead_queuesSound _ hs hlen hbox.1 (Option.some_ne_none _) hrest
      · refine State.QueuesBut.sound (hs.modEntrant ⟨hlen, ?_, hrest, ?_⟩)
        · exact ⟨PenaltyState.noConfusion, Option.some_ne_none _⟩
        · simp [htimer, PitPenalty.activated, PitPenalty.servingStopGo]

/-- The head is dropped, and the entries behind it wait (R146, R148, R153). -/
theorem State.dropHead_waits (i : Slot) (hs : s.QueuesSound) : (s.dropHead i).QueuesBut i (QueueWaits 3) := by
  have hself := hs.held i
  rw [State.queueIs] at hself
  unfold State.dropHead
  split
  · next hq =>
    rw [hq] at hself
    refine ⟨fun j _ => hs.held j, ?_⟩
    rw [State.queueIs, hq]
    exact ⟨Nat.zero_le _, List.forall_mem_nil _, hself⟩
  · next p rest hq =>
    rw [hq] at hself
    obtain ⟨hlen, -, hrest, htimer⟩ := hself
    dsimp only
    split
    · rw [State.setPenalties, State.setHoldTimer]
      have hwrite := ((hs.but i).modEntrant (f := fun e => { e with penalties := rest })
        (R := fun l _ => l = rest) rfl)
      refine (State.recompute_sameQueues _ i).but (hwrite.modEntrant ⟨?_, ?_, rfl⟩)
      all_goals rw [State.entrant_modEntrant_same]
      · exact hlen
      · exact hrest
    · next hserving =>
      refine (hs.but i).modEntrant ⟨hlen, hrest, ?_⟩
      rw [← Option.not_isSome_iff_eq_none, htimer]
      exact hserving

theorem QueueWaits.judgeable {n : Nat} (hn : n ≤ 4) {l : List PitPenalty} {u : Option RunTime} (h : QueueWaits n l u) :
    QueueHeld l u ∨ QueueWaits 4 l u := .inr ⟨h.1.trans hn, h.2⟩

theorem State.markActivity_sameQueues (s : State) (i : Slot) : s.SameQueues (s.markActivity i) :=
  s.modEntrant_sameQueues i fun _ => ⟨rfl, rfl⟩

theorem State.serveOut_queuesSound (i : Slot) (hs : s.QueuesSound) : (s.serveOut i).QueuesSound :=
  State.judgeHead_queuesSound <|
    ((State.markActivity_sameQueues _ i).but (State.dropHead_waits i hs)).imp fun _ _ h => h.judgeable (by decide)

theorem State.waiveEntry_queuesSound (i : Slot) (pos : Nat) (hs : s.QueuesSound) :
    (s.waiveEntry i pos).QueuesSound := by
  unfold State.waiveEntry
  split
  · exact State.judgeHead_queuesSound ((State.dropHead_waits i hs).imp fun _ _ h => h.judgeable (by decide))
  · next hpos =>
    refine State.QueuesBut.sound ((hs.but i).modEntrant ?_)
    have hself := hs.held i
    rw [State.queueIs] at hself
    obtain ⟨k, rfl⟩ := Nat.exists_eq_succ_of_ne_zero hpos
    cases hq : (s.entrant i).penalties with
    | nil => rwa [hq] at hself
    | cons p rest =>
      rw [hq] at hself
      obtain ⟨hlen, hp, hrest, htimer⟩ := hself
      exact ⟨(List.length_eraseIdx_le ..).trans hlen, hp, fun q hq => hrest q (List.mem_of_mem_eraseIdx hq), htimer⟩

/-! ### Rulings and reports -/

/-- A new entry is judged at the head, or waits behind it; a full queue stays as it is (R141). -/
theorem State.placePenalty_queuesSound {p : PitPenalty} (hp : p.Waits) (hs : s.QueuesBut i (QueueTakes p.escalation)) :
    (s.placePenalty i p).QueuesSound := by
  unfold State.placePenalty
  have hself := hs.self
  rw [State.queueIs] at hself
  dsimp only
  split
  · next hesc =>
    rw [hesc] at hself
    obtain ⟨hlen, hwaits, htimer⟩ := hself
    refine State.judgeHead_queuesSound (hs.modEntrant (.inr ⟨?_, ?_, htimer⟩))
    · exact Nat.succ_le_succ hlen
    · exact List.forall_mem_cons.mpr ⟨hp, hwaits⟩
  · next hesc =>
    rw [QueueTakes, if_neg hesc] at hself hs
    split
    · next hlen =>
      refine State.judgeHead_queuesSound (hs.modEntrant ?_)
      show QueueHeld ((s.entrant i).penalties ++ [p]) (s.entrant i).holdTimer ∨ QueueWaits 4 _ _
      cases hq : (s.entrant i).penalties with
      | nil =>
        rw [hq] at hself
        exact .inr ⟨by simp, by simpa using hp, hself⟩
      | cons q rest =>
        rw [hq] at hself hlen
        obtain ⟨-, hleads, hrest, htimer⟩ := hself
        refine .inl ⟨by simpa using Nat.lt_of_succ_lt_succ hlen, hleads, ?_, htimer⟩
        exact List.forall_mem_append.mpr ⟨hrest, by simpa using hp⟩
    · exact State.SameQueues.sound ⟨fun j => by simp⟩ hs.sound

/-- A pit penalty is placed, and another ruling leaves the queue (R130). -/
theorem State.carryRuling_queues {c : Call} (hs : s.QueuesBut c.slot (QueueTakes c.escalation)) :
    s.SameQueues (s.carryRuling c) ∨ (s.carryRuling c).QueuesSound := by
  unfold State.carryRuling
  split
  case h_1 => exact .inr (State.placePenalty_queuesSound ⟨rfl, rfl⟩ hs)
  case h_2 => exact .inr (State.placePenalty_queuesSound ⟨rfl, rfl⟩ hs)
  all_goals exact .inl ⟨fun j => by simp⟩

theorem State.makeCall_queues {c : CallClass} (r : Ruling) (hs : s.QueuesBut i (QueueTakes c.escalates)) :
    s.SameQueues (s.makeCall i c r) ∨ (s.makeCall i c r).QueuesSound :=
  (State.carryRuling_queues hs).imp (·.trans (State.markActivity_sameQueues _ i))
    (State.markActivity_sameQueues _ i).sound

theorem State.report_queues {c : CallClass} (hs : s.QueuesBut i (QueueTakes c.escalates)) :
    s.SameQueues (s.report i c) ∨ (s.report i c).QueuesSound := by
  rcases s.report_cases i c with ⟨r, -, -, h⟩ | ⟨-, h⟩ <;> rw [h]
  · exact State.makeCall_queues r hs
  · exact .inl (.refl s)

/-- A call that is no escalation (R130). -/
theorem State.makeCall_queuesSound {c : CallClass} (r : Ruling) (hc : c.escalates = false) (hs : s.QueuesSound) :
    (s.makeCall i c r).QueuesSound := by
  have htakes : s.QueuesBut i (QueueTakes c.escalates) := by rw [hc]; exact hs.but i
  exact (State.makeCall_queues r htakes).elim (·.sound hs) id

theorem State.report_queuesSound {c : CallClass} (hc : c.escalates = false) (hs : s.QueuesSound) :
    (s.report i c).QueuesSound := by
  rcases s.report_cases i c with ⟨r, -, -, h⟩ | ⟨-, h⟩ <;> rw [h]
  · exact State.makeCall_queuesSound r hc hs
  · exact hs

theorem State.reportAll_queuesSound {cs : List CallClass} (hcs : ∀ c ∈ cs, c.escalates = false) (hs : s.QueuesSound) :
    (s.reportAll i cs).QueuesSound := by
  induction cs generalizing s with
  | nil => exact hs
  | cons c cs ih =>
    obtain ⟨hc, hcs⟩ := List.forall_mem_cons.mp hcs
    exact ih hcs (State.report_queuesSound hc hs)

theorem State.countPress_queuesSound (n : StationNo) (hs : s.QueuesSound) : (s.countPress n).QueuesSound := by
  unfold State.countPress
  split
  · exact hs
  next i _ =>
    have counted := (s.modEntrant_sameQueues i (f := fun x => { x with callsUsed := min 15 (x.callsUsed + 1) })
      fun _ => ⟨rfl, rfl⟩).sound hs
    dsimp only
    split
    · split
      · exact State.report_queuesSound rfl counted
      · exact counted
    · exact hs

/-- A missed head is reported while the entries behind it wait, and then the head is judged (R148). -/
theorem State.missHead_queuesSound (kind : PenaltyKind) (hs : s.QueuesSound) : (s.missHead i kind).QueuesSound := by
  have dropped := (State.markActivity_sameQueues _ i).but (State.dropHead_waits i hs)
  have htakes : ((s.dropHead i).markActivity i).QueuesBut i (QueueTakes kind.missedClass.escalates) := by
    cases kind <;> exact dropped
  refine State.judgeHead_queuesSound ?_
  rcases State.report_queues htakes with hsame | hsound
  · exact (hsame.but dropped).imp fun _ _ h => h.judgeable (by decide)
  · exact (hsound.but i).imp fun _ _ => .inl

/-! ### Service events -/

theorem PitPenalty.owedAgain_leads {p : PitPenalty} (pit : PitStatus) (hp : p.Leads) : (p.owedAgain pit).Leads := by
  unfold PitPenalty.owedAgain
  split
  · exact ⟨PenaltyState.noConfusion, hp.2⟩
  · exact hp

theorem PitPenalty.owedAgain_servingStopGo (p : PitPenalty) (pit : PitStatus) :
    (p.owedAgain pit).servingStopGo = p.servingStopGo := by
  unfold PitPenalty.owedAgain
  split
  · next h => simp [PitPenalty.servingStopGo, h]
  · rfl

theorem State.penaltyCrossing_queuesSound (c : Bool) (hs : s.QueuesSound) : (s.penaltyCrossing i c).QueuesSound := by
  unfold State.penaltyCrossing
  split
  · exact hs
  next p rest hp =>
    extract_lets q s1
    have hserving := p.owedAgain_servingStopGo (s.entrant i).pitStatus
    have owed : s1.QueuesSound := State.setPenalties_head_queuesSound hs hp (PitPenalty.owedAgain_leads _) hserving
    split
    · split
      · next r _ =>
        have counted : (s.setPenalties i ({ q with remaining := some (r - 1) } :: rest)).QueuesSound :=
          State.setPenalties_head_queuesSound hs hp
            (fun h => ⟨(PitPenalty.owedAgain_leads _ h).1, Option.some_ne_none _⟩) hserving
        dsimp only
        split
        · exact State.missHead_queuesSound _ counted
        · exact counted
      · exact owed
    · exact owed

theorem State.penaltyPitIn_queuesSound (hs : s.QueuesSound) : (s.penaltyPitIn i).QueuesSound := by
  unfold State.penaltyPitIn
  split
  · exact hs
  next p rest hp =>
    split
    · next hkind _ =>
      refine State.setPenalties_head_queuesSound hs hp (fun h => ⟨PenaltyState.noConfusion, h.2⟩) ?_
      simp [PitPenalty.servingStopGo, hkind]
    · exact State.unserveHead_queuesSound hs hp
    · exact hs

theorem State.penaltyBoxArrival_queuesSound (t : RunTime) (hs : s.QueuesSound) :
    (s.penaltyBoxArrival i t).QueuesSound := by
  unfold State.penaltyBoxArrival
  split
  · exact hs
  next p rest hp =>
    split
    · next h =>
      obtain ⟨hlen, ⟨-, hremaining⟩, hrest, -⟩ : QueueHeld (p :: rest) (s.entrant i).holdTimer := hp ▸ hs.held i
      exact State.serveHead_queuesSound _ (hs.but i) hlen h.1 hremaining hrest
    · exact hs

theorem State.penaltyBoxDeparture_queuesSound (hs : s.QueuesSound) : (s.penaltyBoxDeparture i).QueuesSound := by
  unfold State.penaltyBoxDeparture
  split
  · exact hs
  next p rest hp =>
    split
    · exact State.unserveHead_queuesSound hs hp
    · exact hs

theorem State.penaltyPitOut_queuesSound (hs : s.QueuesSound) : (s.penaltyPitOut i).QueuesSound := by
  unfold State.penaltyPitOut
  split
  · exact hs
  · split
    · exact State.serveOut_queuesSound i hs
    · exact hs

/-- A queue that is emptied with its hold timer (R154, R155). -/
theorem State.QueuesSound.emptied (hs : s.QueuesSound) {f : Entrant → Entrant}
    (hf : ∀ e, (f e).penalties = [] ∧ (f e).holdTimer = none) : (s.modEntrant i f).QueuesSound := by
  refine State.QueuesBut.sound ((hs.but i).modEntrant ?_)
  obtain ⟨hqueue, htimer⟩ := hf (s.entrant i)
  rw [hqueue, htimer]
  exact rfl

theorem State.clearPenalties_queuesSound (i : Slot) (hs : s.QueuesSound) : (s.clearPenalties i).QueuesSound :=
  (State.recompute_sameQueues _ i).sound (hs.emptied fun _ => ⟨rfl, rfl⟩)

theorem State.convertPenalties_queuesSound (i : Slot) (hs : s.QueuesSound) : (s.convertPenalties i).QueuesSound := by
  unfold State.convertPenalties
  extract_lets e sum s1 s2
  have told : s1.SameQueues s2 := .ite (.refl s1) ⟨fun j => by simp⟩
  refine State.SameQueues.sound (.ite told (told.trans (.of_entrants rfl))) (hs.emptied ?_)
  exact fun _ => ⟨rfl, rfl⟩

end Queues

end Sys2Proof.Machine
end

section
/-! SUPPORT. Chapters 3, 4 and 6: passes, box reports, green and finishes leave every pit-penalty queue its form. -/

namespace Sys2Proof.Machine

section Queues
variable {s : State}

/-! ### Finishes and withdrawals -/

theorem State.finishEntrant_queuesSound (i : Slot) (st : FinishStatus) (t : RunTime) (hs : s.QueuesSound) :
    (s.finishEntrant i st t).QueuesSound := by
  have finished : s.SameQueues
      (s.modEntrant i fun e => { e with state := .finished, finishStatus := some st, finishTime := some t }) :=
    s.modEntrant_sameQueues i fun _ => ⟨rfl, rfl⟩
  have dropped (u : State) : u.SameQueues (u.modEntrant i fun e => { e with deadline := none }) :=
    u.modEntrant_sameQueues i fun _ => ⟨rfl, rfl⟩
  have released (u : State) : u.SameQueues (u.release i) := ⟨fun j => by simp⟩
  unfold State.finishEntrant
  refine (State.recompute_sameQueues _ i).sound (State.convertPenalties_queuesSound i ?_)
  exact (((finished.trans (State.recompute_sameQueues _ i)).trans (dropped _)).trans (released _)).sound hs

theorem State.finishAll_queuesSound (t : RunTime) (hs : s.QueuesSound) : (s.finishAll t).QueuesSound := by
  refine State.forSlots_induction State.QueuesSound _ (fun u i hu => ?_) s hs
  split
  · exact State.finishEntrant_queuesSound i _ t hu
  · exact hu

theorem State.endRace_queuesSound (t : RunTime) (hs : s.QueuesSound) : (s.endRace t).QueuesSound :=
  State.SameQueues.sound ⟨fun j => by simp [State.endRace]⟩ (State.finishAll_queuesSound t hs)

theorem State.judgeCrossing_queuesSound (i : Slot) (t : RunTime) (hs : s.QueuesSound) :
    (s.judgeCrossing i t).QueuesSound := by
  have finish := State.finishEntrant_queuesSound i .flagged t hs
  unfold State.judgeCrossing
  split
  · split
    · exact State.SameQueues.sound ⟨fun j => by simp⟩ finish
    · exact hs
  · exact State.SameQueues.sound ⟨fun j => by simp⟩ finish
  all_goals exact hs

/-- Leaving the race, an entrant is released (R50, R51). -/
theorem State.withdraw_sameQueues (s : State) (i : Slot) : s.SameQueues
    (((s.modEntrant i fun e => { e with deadline := none }).release i).modEntrant i
      fun e => { e with jumpStart := false }) := by
  have dropped : s.SameQueues (s.modEntrant i fun e => { e with deadline := none }) :=
    s.modEntrant_sameQueues i fun _ => ⟨rfl, rfl⟩
  have released (u : State) : u.SameQueues (u.release i) := ⟨fun j => by simp⟩
  have unmarked (u : State) : u.SameQueues (u.modEntrant i fun e => { e with jumpStart := false }) :=
    u.modEntrant_sameQueues i fun _ => ⟨rfl, rfl⟩
  exact (dropped.trans (released _)).trans (unmarked _)

theorem State.retireEntrant_queuesSound (i : Slot) (hs : s.QueuesSound) : (s.retireEntrant i).QueuesSound := by
  have retired : s.SameQueues (s.modEntrant i fun e => { e with state := .retired }) :=
    s.modEntrant_sameQueues i fun _ => ⟨rfl, rfl⟩
  have judged (u : State) : u.SameQueues (u.recompute i).checkFinished := ⟨fun j => by simp⟩
  unfold State.retireEntrant
  refine (judged _).sound (State.clearPenalties_queuesSound i ?_)
  exact ((retired.trans (State.recompute_sameQueues _ i)).trans (State.withdraw_sameQueues _ i)).sound hs

theorem State.excludeEntrant_queuesSound (i : Slot) (hs : s.QueuesSound) : (s.excludeEntrant i).QueuesSound := by
  have excluded : s.SameQueues (s.modEntrant i fun e => { e with state := .excluded }) :=
    s.modEntrant_sameQueues i fun _ => ⟨rfl, rfl⟩
  have removed (u : State) : u.SameQueues ((u.recompute i).leaveStandings i) :=
    (u.recompute_sameQueues i).trans (.of_entrants rfl)
  have unflagged (u : State) : u.SameQueues (u.setBlackFlag i false) := ⟨fun j => by simp⟩
  have detached (u : State) : u.SameQueues (u.modEntrant i fun e => { e with station := none }) :=
    u.modEntrant_sameQueues i fun _ => ⟨rfl, rfl⟩
  have judged (u : State) : u.SameQueues (u.recompute i).checkFinished := ⟨fun j => by simp⟩
  unfold State.excludeEntrant
  refine (((unflagged _).trans (detached _)).trans (judged _)).sound (State.clearPenalties_queuesSound i ?_)
  exact ((excluded.trans (removed _)).trans (State.withdraw_sameQueues _ i)).sound hs

/-! ### Green -/

theorem State.reportJumpStart_queuesSound (i : Slot) (marked : Bool) (hs : s.QueuesSound) :
    (s.reportJumpStart i marked).QueuesSound := by
  have unmarked (u : State) : u.SameQueues (u.modEntrant i fun e => { e with jumpStart := false }) :=
    u.modEntrant_sameQueues i fun _ => ⟨rfl, rfl⟩
  unfold State.reportJumpStart
  split
  · exact (unmarked _).sound (State.report_queuesSound (c := .jumpStart) rfl hs)
  · exact hs

theorem State.greenEntrant_queuesSound (i : Slot) (hs : s.QueuesSound) : (s.greenEntrant i).QueuesSound := by
  have racing : s.SameQueues (s.modEntrant i fun e => { e with state := .racing }) :=
    s.modEntrant_sameQueues i fun _ => ⟨rfl, rfl⟩
  have zeroed (u : State) : u.SameQueues ((u.recompute i).zeroLaps i) := ⟨fun j => by simp⟩
  have cleared (u : State) : u.SameQueues
      (u.modEntrant i fun e => { e with latestCrossing := none, prevCrossing := none, reachTime := none }) :=
    u.modEntrant_sameQueues i fun _ => ⟨rfl, rfl⟩
  have seen (u : State) : u.SameQueues (u.firstDeadline i) := ⟨fun j => by simp⟩
  unfold State.greenEntrant
  refine State.reportJumpStart_queuesSound i _ ?_
  exact (((racing.trans (zeroed _)).trans (cleared _)).trans (seen _)).sound hs

theorem State.green_queuesSound (hs : s.QueuesSound) : s.green.QueuesSound := by
  unfold State.green
  refine (State.recomputeAll_sameQueues _).sound
    (State.forSlots_induction State.QueuesSound _ (fun u i hu => ?_) _ (hs.still rfl))
  split
  · exact State.greenEntrant_queuesSound i hu
  · exact hu

theorem State.stepCountdown_queuesSound (c : Countdown) (hs : s.QueuesSound) : (s.stepCountdown c).QueuesSound := by
  unfold State.stepCountdown
  split
  · exact State.green_queuesSound hs
  · split
    · exact hs.still rfl
    · split
      · exact State.green_queuesSound hs
      · exact hs.still rfl

/-! ### Laps -/

theorem State.credit_queuesSound (i : Slot) (l t : RunTime) (assigned : Bool) (hs : s.QueuesSound) :
    (s.credit i l t assigned).QueuesSound := by
  have credited : s.SameQueues (s.modEntrant i fun e => e.credited s.cfg t (t - l) assigned s.lineCaution) :=
    s.modEntrant_sameQueues i fun _ => ⟨rfl, rfl⟩
  have measured (u : State) (n : Nat) : u.SameQueues (((u.recompute i).measure i n t).replace i) := ⟨fun j => by simp⟩
  refine State.judgeCrossing_queuesSound i t (State.penaltyCrossing_queuesSound _ ?_)
  exact (credited.trans (measured _ _)).sound hs

theorem State.lateLap_queuesSound (i : Slot) (a : RunTime) (o : LateOutcome) (hs : s.QueuesSound) :
    (s.lateLap i a o).QueuesSound := by
  have launched : s.SameQueues (s.launch i a) := ⟨fun j => by simp⟩
  have cut (p l : RunTime) : s.SameQueues (s.split i p l a) := ⟨fun j => by simp⟩
  cases o with
  | launch => exact launched.sound hs
  | credit l => exact State.credit_queuesSound i l a true hs
  | split p l => exact (cut p l).sound hs
  | duplicate | tooOld => exact hs

theorem State.lapStep_queuesSound (i : Slot) (p : Pass) (hs : s.QueuesSound) : (s.lapStep i p).QueuesSound := by
  have launched (t : RunTime) : s.SameQueues (s.launch i t) := ⟨fun j => by simp⟩
  have entered (b : Nat) (t : RunTime) : s.SameQueues (s.boundary i b t) := ⟨fun j => by simp⟩
  unfold State.lapStep
  split
  · next t _ _ =>
    rcases s.crossing_cases i t with ⟨-, h⟩ | ⟨l, -, -, h⟩ | ⟨l, -, -, h⟩ <;> rw [h]
    · exact (launched t).sound hs
    · exact hs
    · exact State.credit_queuesSound i l t false hs
  · exact (entered _ _).sound hs
  · exact hs

/-! ### Lane and pit status -/

theorem State.setPitStatus_sameQueues (s : State) (i : Slot) (p : PitStatus) : s.SameQueues (s.setPitStatus i p) :=
  ⟨fun j => by simp⟩

theorem State.setLane_sameQueues (s : State) (i : Slot) (l : Option Nat) : s.SameQueues (s.setLane i l) :=
  s.modEntrant_sameQueues i fun _ => ⟨rfl, rfl⟩

theorem State.leaveBox_queuesSound (tr : Treatment) (i : Slot) (hs : s.QueuesSound) :
    (s.leaveBox tr i).QueuesSound := by
  have left := (s.setPitStatus_sameQueues i .pitLane).sound hs
  unfold State.leaveBox
  split
  · dsimp only
    split
    · exact State.penaltyBoxDeparture_queuesSound left
    · exact left
  · exact hs

theorem State.endPitVisit_queuesSound (tr : Treatment) (i : Slot) (hs : s.QueuesSound) :
    (s.endPitVisit tr i).QueuesSound := by
  unfold State.endPitVisit
  dsimp only
  split
  · exact (State.setPitStatus_sameQueues _ i _).sound (State.leaveBox_queuesSound tr i hs)
  · exact State.leaveBox_queuesSound tr i hs

theorem State.pitInPass_queuesSound (tr : Treatment) (i : Slot) (p : Pass) (hs : s.QueuesSound) :
    (s.pitInPass tr i p).QueuesSound := by
  have entered : s.SameQueues (s.modEntrant i fun e =>
      { e with lane := some 6, pitEntry := p.running, boxArrival := none, boxVisited := false }) :=
    s.modEntrant_sameQueues i fun _ => ⟨rfl, rfl⟩
  have inLane := (entered.trans (State.setPitStatus_sameQueues _ i .pitLane)).sound hs
  unfold State.pitInPass
  dsimp only
  split
  · exact State.penaltyPitIn_queuesSound inLane
  · exact inLane

theorem State.pitOutPass_queuesSound (tr : Treatment) (i : Slot) (p : Pass) (hs : s.QueuesSound) :
    (s.pitOutPass tr i p).1.QueuesSound := by
  have out (u : State) : u.SameQueues ((u.setLane i none).setPitStatus i .track) :=
    (u.setLane_sameQueues i none).trans (State.setPitStatus_sameQueues _ i .track)
  have counted (u : State) : u.SameQueues (u.countPitStop i) := ⟨fun j => by simp⟩
  have onTrack := (out _).sound (State.leaveBox_queuesSound tr i hs)
  unfold State.pitOutPass
  dsimp only
  split
  · exact State.penaltyPitOut_queuesSound ((counted _).sound onTrack)
  · exact onTrack

theorem State.passEffects_queuesSound (tr : Treatment) (i : Slot) (p : Pass) (hs : s.QueuesSound) :
    (s.passEffects tr i p).1.QueuesSound := by
  have inLane : (s.pitLanePass i).QueuesSound := State.SameQueues.sound ⟨fun j => by simp⟩ hs
  have onLane : ((s.endPitVisit tr i).setLane i p.lane).QueuesSound :=
    (State.setLane_sameQueues _ i p.lane).sound (State.endPitVisit_queuesSound tr i hs)
  unfold State.passEffects
  split
  · exact hs
  · split
    · exact inLane
    · exact onLane
  · exact onLane
  · exact onLane
  · exact State.pitInPass_queuesSound tr i p hs
  · exact inLane
  · exact State.pitOutPass_queuesSound tr i p hs

/-- No infraction a gate finds is an escalation: only a missed pit penalty is (R57, R58, R61, R130). -/
theorem State.passEffects_escalates (s : State) (tr : Treatment) (i : Slot) (p : Pass) :
    ∀ c ∈ (s.passEffects tr i p).2, c.escalates = false := by
  unfold State.passEffects State.racingLanePass State.switchPass State.pitOutPass
  dsimp only
  split
  case h_2 =>
    split
    · exact List.forall_mem_nil _
    · dsimp only; split <;> simp [CallClass.escalates]
  case h_3 => split <;> simp [CallClass.escalates]
  case h_4 => split <;> simp [CallClass.escalates]
  case h_7 =>
    split
    · dsimp only; split <;> simp [CallClass.escalates]
    · exact List.forall_mem_nil _
  all_goals exact List.forall_mem_nil _

theorem State.arriveInBox_queuesSound (tr : Treatment) (i : Slot) (t : Option RunTime) (hs : s.QueuesSound) :
    (s.arriveInBox tr i t).QueuesSound := by
  have arrived : s.SameQueues (s.modEntrant i fun e =>
      { e with
        lane := some 6, boxArrival := t, boxVisited := true
        pitEntry := if e.pitStatus = .track then none else e.pitEntry }) :=
    s.modEntrant_sameQueues i fun _ => ⟨rfl, rfl⟩
  have inBox := (arrived.trans (State.setPitStatus_sameQueues _ i .box)).sound hs
  unfold State.arriveInBox
  dsimp only
  split
  · exact State.penaltyBoxArrival_queuesSound _ inBox
  · exact inBox

/-! ### Passes and box reports -/

theorem State.scoredPass_queuesSound (tr : Treatment) (i : Slot) (p : Pass) (hs : s.QueuesSound) :
    (s.scoredPass tr i p).QueuesSound := by
  have seen : s.SameQueues ((s.release i).noteSeen i p.running) := ⟨fun j => by simp⟩
  have moved (u : State) : u.SameQueues (u.moveDeadline i p.running) := ⟨fun j => by simp⟩
  unfold State.scoredPass
  refine State.reportAll_queuesSound (fun c hc => ?_)
    ((moved _).sound (State.passEffects_queuesSound tr i p (seen.sound hs)))
  rcases List.mem_append.mp hc with hc | hc
  · exact State.passEffects_escalates _ tr i p c hc
  · split at hc
    · rw [List.mem_singleton.mp hc]; rfl
    · exact absurd hc List.not_mem_nil

theorem State.positionPass_queuesSound (i : Slot) (p : Pass) (hs : s.QueuesSound) :
    (s.positionPass i p).QueuesSound := by
  have placed := State.passEffects_queuesSound .position i p hs
  have marked (u : State) : u.SameQueues (u.modEntrant i fun e => { e with jumpStart := true }) :=
    u.modEntrant_sameQueues i fun _ => ⟨rfl, rfl⟩
  unfold State.positionPass
  dsimp only
  split
  · exact (marked _).sound placed
  · exact placed

theorem State.deliver_queuesSound (i : Slot) (p : Pass) (hs : s.QueuesSound) : (s.deliver i p).QueuesSound := by
  rcases s.deliver_cases i p with ⟨-, h⟩ | ⟨-, h⟩ | ⟨-, h⟩ | ⟨-, h⟩ <;> rw [h]
  · exact hs
  · exact State.positionPass_queuesSound i p hs
  · exact State.scoredPass_queuesSound _ i p hs
  · exact State.lapStep_queuesSound i p (State.scoredPass_queuesSound _ i p hs)

theorem State.deliverLate_queuesSound (i : Slot) (p : Pass) (a : RunTime) (o : LateOutcome) (hs : s.QueuesSound) :
    (s.deliverLate i p a o).QueuesSound := by
  rw [State.deliverLate_eq]
  split
  · exact State.lateLap_queuesSound i a o hs
  · exact State.lateLap_queuesSound i a o (State.scoredPass_queuesSound _ i p hs)

theorem State.route_queuesSound (p : Pass) (hs : s.QueuesSound) : (s.route p).QueuesSound := by
  unfold State.route
  split
  · exact hs.still rfl
  · split
    · exact State.deliver_queuesSound _ p hs
    · exact hs.still rfl

theorem State.takeTally_queuesSound (g : GateNo) (b : Tally) (hs : s.QueuesSound) : (s.takeTally g b).QueuesSound :=
  foldl_induction State.QueuesSound State.route (fun _ p hu => State.route_queuesSound p hu) _ s hs

theorem State.deliverBox_queuesSound (ar : Bool) (i : Slot) (t : Option RunTime) (hs : s.QueuesSound) :
    (s.deliverBox ar i t).QueuesSound := by
  have seen : s.SameQueues ((s.release i).noteSeen i t) := ⟨fun j => by simp⟩
  have moved (u : State) : u.SameQueues (u.moveDeadline i t) := ⟨fun j => by simp⟩
  have act {u : State} (tr : Treatment) (hu : u.QueuesSound) :
      (if ar then u.arriveInBox tr i t else u.leaveBox tr i).QueuesSound := by
    split
    · exact State.arriveInBox_queuesSound tr i t hu
    · exact State.leaveBox_queuesSound tr i hu
  unfold State.deliverBox
  dsimp only
  split
  · exact hs
  · exact act _ hs
  · exact (moved _).sound (act _ (seen.sound hs))
  · exact (moved _).sound (act _ (seen.sound hs))

theorem State.reportBox_queuesSound (ar : Bool) (g : GateNo) (code : Nat) (t : RawTime) (hs : s.QueuesSound) :
    (s.reportBox ar g code t).QueuesSound := by
  unfold State.reportBox State.boxReport
  split
  · exact hs
  · split
    · exact State.deliverBox_queuesSound ar _ _ hs
    · exact hs

/-! ### Bursts -/

theorem State.departures_queuesSound (g : GateNo) (b : Tally) (hs : s.QueuesSound) : (s.departures g b).QueuesSound :=
  foldl_induction State.QueuesSound _ (fun _ e hu => State.reportBox_queuesSound false g e.code b.last hu) _ s hs

theorem State.frameEvent_queuesSound (g : GateNo) (frame : Option Nat) (hs : s.QueuesSound) :
    (s.frameEvent g frame).QueuesSound := by
  unfold State.frameEvent
  dsimp only
  split
  · split
    · exact State.reportBox_queuesSound true g _ _ (hs.still rfl)
    · exact hs.still rfl
  · exact hs.still rfl

theorem State.closeBurst_queuesSound (g : GateNo) (b : Tally) (hs : s.QueuesSound) :
    (s.closeBurst g b).QueuesSound := by
  unfold State.closeBurst
  dsimp only
  split
  · split <;> exact hs.still rfl
  · refine State.takeTally_queuesSound g b ?_
    split
    · exact State.departures_queuesSound g b (hs.still rfl)
    · exact hs.still rfl

theorem State.closeOpen_queuesSound (g : GateNo) (hs : s.QueuesSound) : (s.closeOpen g).QueuesSound := by
  unfold State.closeOpen
  split
  · exact State.closeBurst_queuesSound g _ hs
  · exact hs

theorem State.discardBurst_queuesSound (g : GateNo) (hs : s.QueuesSound) : (s.discardBurst g).QueuesSound := by
  unfold State.discardBurst
  split
  · dsimp only
    split
    · exact State.departures_queuesSound g _ (hs.still rfl)
    · exact hs.still rfl
  · exact hs

theorem State.startTest_queuesSound (hs : s.QueuesSound) : s.startTest.QueuesSound := by
  have begun (u : State) (g : GateNo) (hu : u.QueuesSound) : (u.beginTest g).QueuesSound := by
    unfold State.beginTest
    split
    · exact hu.still rfl
    · exact (State.discardBurst_queuesSound g hu).still rfl
  have watched (u : State) : u.SameQueues u.testFromNow.watchBlind := .of_entrants rfl
  rw [State.startTest_eq]
  exact (watched _).sound (State.forSlots_induction State.QueuesSound State.beginTest begun s hs)

end Queues

end Sys2Proof.Machine
end

section
/-! SUPPORT. Chapter 8, section 8.2: no command, and no tick, spoils the form of a pit-penalty queue. -/

namespace Sys2Proof.Machine

section Queues
variable {s : State}

/-! ### Resets -/

/-- An empty queue without a hold timer has its form. -/
theorem State.queuesSound_of_empty
    (h : ∀ j : Slot, (s.entrant j).penalties = [] ∧ (s.entrant j).holdTimer = none) : s.QueuesSound where
  held j := by
    obtain ⟨hqueue, htimer⟩ := h j
    rw [State.queueIs, hqueue, htimer]
    exact rfl

theorem State.powerOnReset_queuesSound (s : State) (results : Vector TestResult 24) (straps : BitVec 5)
    (pins : PinLevels) :
    (s.powerOnReset results straps pins).QueuesSound :=
  State.queuesSound_of_empty fun j => by simp [State.powerOnReset, State.powerOn, State.entrant, Entrant.vacant]

/-- A race reset empties the queue of every entrant, and leaves a Vacant record (R66, R155). -/
theorem State.raceReset_queuesSound (hs : s.QueuesSound) : s.raceReset.QueuesSound := by
  have listed (u : State) : u.SameQueues u.rebuildStandings := .of_entrants rfl
  have rebuilt (u : State) : u.SameQueues u.rebuildStandings.recomputeAll :=
    (listed u).trans (State.recomputeAll_sameQueues _)
  have record (e : Entrant) (he : QueueHeld e.penalties e.holdTimer) :
      QueueHeld e.raceReset.penalties e.raceReset.holdTimer := by
    unfold Entrant.raceReset
    split
    · exact he
    · exact rfl
  unfold State.raceReset
  refine (rebuilt _).sound ⟨fun j => ?_⟩
  simpa [State.queueIs, State.entrant_mk] using record _ (hs.held j)

/-! ### The requests -/

theorem State.enterRequest_queuesSound (code station : Byte) (hs : s.QueuesSound) :
    (s.enterRequest code station).1.QueuesSound := by
  have written (i : Slot) (n : Nat) (st : Option StationNo) : (s.modEntrant i fun _ =>
      { Entrant.vacant with code := some n, state := .staged, station := st }).QueuesSound :=
    hs.emptied fun _ => ⟨rfl, rfl⟩
  have entered (i : Slot) (n : Nat) (st : Option StationNo) : (s.enterCar i n st).QueuesSound :=
    (State.recompute_sameQueues _ i).sound ((written i n st).still rfl)
  unfold State.enterRequest
  split
  · exact hs
  split
  · split
    · exact hs
    refine iteInduction (motive := fun r : State × Answer => r.1.QueuesSound) (fun _ => hs) fun _ => ?_
    split
    · exact hs
    · exact entered _ _ _
  · exact hs

theorem State.retireRequest_queuesSound (code : Byte) (hs : s.QueuesSound) : (s.retireRequest code).1.QueuesSound := by
  have written (i : Slot) : (s.modEntrant i fun _ => Entrant.vacant).QueuesSound := hs.emptied fun _ => ⟨rfl, rfl⟩
  have vacated (i : Slot) : (s.vacate i).QueuesSound := (written i).still rfl
  unfold State.retireRequest
  split
  · exact hs
  split
  · rw [State.accept_fst]; exact vacated _
  split
  · exact hs
  · rw [State.accept_fst]; exact State.retireEntrant_queuesSound _ hs

theorem State.excludeRequest_queuesSound (code : Byte) (hs : s.QueuesSound) :
    (s.excludeRequest code).1.QueuesSound := by
  unfold State.excludeRequest
  split
  · exact hs
  split
  · exact hs
  · rw [State.accept_fst]; exact State.excludeEntrant_queuesSound _ hs

theorem State.amendItems_sameQueues (s : State) (i : Slot) (items : Byte) (d : Int) (v : Option Nat)
    (st : Option StationNo) : s.SameQueues (s.amendItems i items d v st) := by
  have written (u : State) {f : Entrant → Entrant}
      (hf : ∀ e, (f e).penalties = e.penalties ∧ (f e).holdTimer = e.holdTimer) : u.SameQueues (u.modEntrant i f) :=
    u.modEntrant_sameQueues i hf
  have laps (u : State) : u.SameQueues (u.amendLaps i d) := by
    unfold State.amendLaps
    refine .ite (.refl u) (.trans (t := u.modEntrant i fun e => { e with laps := lapsPlus (u.entrant i).laps d }) ?_ ?_)
    · exact written u fun _ => ⟨rfl, rfl⟩
    · exact .of_entrants rfl
  have override (u : State) : u.SameQueues (u.amendOverride i v) := by
    refine .trans ?_ (State.recompute_sameQueues _ i)
    exact written u fun _ => ⟨rfl, rfl⟩
  have station (u : State) : u.SameQueues (u.amendStation i st) := written u fun _ => ⟨rfl, rfl⟩
  have flag (u : State) : u.SameQueues (u.amendBlackFlag i) := .ite ⟨fun j => by simp⟩ (.refl u)
  have calls (u : State) : u.SameQueues (u.resetCalls i) := written u fun _ => ⟨rfl, rfl⟩
  have given (u t : State) (h : u.SameQueues t) (b : Bool) : u.SameQueues (if b then t else u) := .ite h (.refl u)
  unfold State.amendItems
  exact (given _ _ (laps _) _).trans <| (given _ _ (override _) _).trans <| (given _ _ (station _) _).trans <|
    (given _ _ (flag _) _).trans (given _ _ (calls _) _)

theorem State.callRequest_queuesSound (code kind hold deadline conversion level duration laps : Byte)
    (hs : s.QueuesSound) : (s.callRequest code kind hold deadline conversion level duration laps).1.QueuesSound := by
  unfold State.callRequest
  split
  · exact hs
  split
  · exact hs
  split
  · exact hs
  · exact hs
  split
  · exact hs
  · exact hs
  split
  · rw [State.accept_fst]; exact State.makeCall_queuesSound _ rfl hs
  · exact hs

theorem State.waiveRequest_queuesSound (code which : Byte) (hs : s.QueuesSound) :
    (s.waiveRequest code which).1.QueuesSound := by
  have lifted (i : Slot) : s.SameQueues (s.setPowerHold i none) := ⟨fun j => by simp⟩
  unfold State.waiveRequest
  split
  · exact hs
  split
  · exact hs
  split
  · split
    · rw [State.accept_fst]; exact (lifted _).sound hs
    · exact hs
  split
  · rw [State.accept_fst]; exact State.waiveEntry_queuesSound _ _ hs
  · exact hs

theorem State.assignRequest_queuesSound (tag code : Byte) (hs : s.QueuesSound) :
    (s.assignRequest tag code).1.QueuesSound := by
  unfold State.assignRequest
  split
  · exact hs
  split
  · exact hs
  split
  · exact hs
  split
  · exact hs
  split
  · unfold State.assignLate
    split
    · exact hs
    · exact hs
    all_goals exact (State.deliverLate_queuesSound _ _ _ _ hs).still rfl
  · exact (State.deliver_queuesSound _ _ hs).still rfl

theorem State.endRequest_queuesSound (hs : s.QueuesSound) : s.endRequest.1.QueuesSound := by
  unfold State.endRequest
  split
  · rw [State.accept_fst]; exact State.endRace_queuesSound _ hs
  · exact hs

theorem State.configGateRequest_queuesSound (gate kind lane boundary sector : Byte) (offset : Word16)
    (hs : s.QueuesSound) :
    (s.configGateRequest gate kind lane boundary sector offset).1.QueuesSound := by
  unfold State.configGateRequest
  split
  · exact hs
  split
  · split
    · exact hs
    split
    · exact hs
    · exact (State.discardBurst_queuesSound _ hs).still rfl
  · exact hs

theorem State.selfTestRequest_queuesSound (hs : s.QueuesSound) : s.selfTestRequest.1.QueuesSound := by
  unfold State.selfTestRequest
  split
  · exact hs
  · rw [State.accept_fst]; exact State.startTest_queuesSound hs

/-! ### What leaves every queue -/

/-- The commands that may change a pit-penalty queue or a hold timer. -/
def touchesPitQueues : Instr → Bool
  | .configGate .. | .selfTest | .enter .. | .retire _ | .exclude _ | .call .. | .waive .. | .assign .. => true
  | .endRace | .resetRace | .commandFrame _ | .resetPartReboot .. | .resetPin .. | .powerUp .. => true
  | .beaconFrame .. | .gateBlind _ | .burstGapExpiry _ | .burstDwellExpiry _ | .stopGoHoldExpiry _ => true
  | .countdownStep | .finishWindowExpiry | .runningClockCap | .stationPress _ => true
  | _ => false

theorem State.suspensionCause_sameQueues (s : State) (why : Reason) : s.SameQueues (s.suspensionCause why) :=
  ⟨fun j => by simp⟩

theorem State.callAction_sameQueues (s : State) : s.SameQueues s.callAction := by
  unfold State.callAction
  split
  · exact .refl s
  all_goals exact ⟨fun j => by simp⟩

theorem State.refresh_sameQueues (s : State) : s.SameQueues s.refresh := by
  have marked (u : State) (i : Slot) : u.SameQueues (u.setDirty i .raised) := .of_entrants rfl
  have timed (u : State) (c : CeilingUnit) : u.SameQueues { u with ceiling := c } := .of_entrants rfl
  unfold State.refresh
  exact (State.SameQueues.forSlots (fun u i => .ite (marked u i) (.refl u)) s).trans (timed _ _)

theorem State.readActivityRequest_sameQueues (s : State) : s.SameQueues s.readActivityRequest.1 := by
  have cleared (u : State) (i : Slot) : u.SameQueues (u.modEntrant i fun e => { e with activity := false }) :=
    u.modEntrant_sameQueues i fun _ => ⟨rfl, rfl⟩
  unfold State.readActivityRequest
  exact State.SameQueues.forSlots cleared s

/-- A command that ends in a state with every queue as it was leaves the queues. -/
theorem done_sameQueues {u : State} (h : s.SameQueues u) : ∃ t, u.done = .next t ∧ s.SameQueues t :=
  ⟨_, rfl, h.trans (.of_entrants rfl)⟩

/-- The same for an event that comes only where its condition holds. -/
theorem ite_done_sameQueues {u : State} {p : Prop} [Decidable p] (h : s.SameQueues u) :
    ∃ t, (if p then u.done else s.done) = .next t ∧ s.SameQueues t := by
  split
  · exact done_sameQueues h
  · exact done_sameQueues (.refl s)

theorem answered_sameQueues {r : State × Answer} (h : s.SameQueues r.1) :
    ∃ t, answered r = .next t ∧ s.SameQueues t :=
  ⟨_, rfl, h.trans (.of_entrants rfl)⟩

/-- Every other command leaves the queues and the hold timers as they are. -/
theorem exec_sameQueues {c : Instr} (s : State) (h : touchesPitQueues c = false) :
    ∃ t, exec c s = .next t ∧ s.SameQueues t := by
  cases c
  case status | resetPart | setMask | ackStations => exact answered_sameQueues (.of_entrants rfl)
  case lookup | lookupSlot | standings | readAttention | readPasses | discard =>
    refine answered_sameQueues ?_
    simp only [State.lookupRequest, State.lookupSlotRequest, State.standingsRequest, State.readAttentionRequest,
      State.readPassesRequest, State.discardRequest]
    (repeat' split) <;> exact .of_entrants rfl
  case amend code items delta override station =>
    refine answered_sameQueues ?_
    rcases s.amendRequest_cases code items delta override station with hcase | ⟨i, st, hcase⟩ <;> rw [hcase]
    · exact .refl s
    · exact s.amendItems_sameQueues ..
  case configCall | configRace | power =>
    refine answered_sameQueues ?_
    simp only [State.configCallRequest, State.configRaceRequest, State.powerRequest]
    (repeat' split) <;> exact ⟨fun j => by simp [State.entrant_mk, State.entrants_getElem]⟩
  case stage | start | yellow | zone | suspend | resume =>
    refine answered_sameQueues ?_
    simp only [State.stageRequest, State.startRequest, State.startCountdown, State.yellowRequest, State.zoneRequest,
      State.suspendRequest, State.resumeRequest]
    (repeat' split) <;> exact ⟨fun j => by simp [State.entrant_mk, State.entrants_getElem]⟩
  case readPenaltyActivity => exact answered_sameQueues s.readActivityRequest_sameQueues
  case rxGapTimeout | rxByteError | commandByte | gateUnblind | blindedSummaryEdge =>
    exact ite_done_sameQueues (.of_entrants rfl)
  case selfTestEnd | sightingDeadlineExpiry | powerHoldExpiry | timeTargetReached =>
    exact ite_done_sameQueues ⟨fun j => by simp⟩
  case linkHoldExpiry =>
    refine ite_done_sameQueues (.trans ?_ (State.suspensionCause_sameQueues _ _))
    exact .of_entrants rfl
  case ceilingRefresh => exact ite_done_sameQueues s.refresh_sameQueues
  case pauseByte | resumingByte => exact done_sameQueues (.of_entrants (by simp))
  case returnByteError => exact done_sameQueues (.refl s)
  case responseStart | responseEnd | ceilingFrameEnd =>
    simp only [exec, execResponseStart, execResponseEnd, execCeilingFrameEnd]
    split
    · exact ite_done_sameQueues (.of_entrants rfl)
    all_goals exact done_sameQueues (.refl s)
  case gateCell | ceilingFrameStart =>
    simp only [exec, execGateCell, execCeilingFrameStart]
    split <;> exact done_sameQueues (.of_entrants (by simp))
  case claimWaitExpiry =>
    simp only [exec, execClaimWaitExpiry]
    split
    · exact ite_done_sameQueues (.of_entrants rfl)
    · exact done_sameQueues (.refl s)
  case stationRelease | redRelease | powerSenseRestore =>
    simp only [exec, execStationRelease, execRedRelease, execPowerSenseRestore]
    split <;> exact done_sameQueues (.of_entrants rfl)
  case redPress | powerSenseLoss =>
    simp only [exec, execRedPress, execPowerSenseLoss]
    split
    · exact done_sameQueues (.of_entrants rfl)
    · refine done_sameQueues (.trans ?_ (State.suspensionCause_sameQueues _ _))
      exact .of_entrants rfl
  all_goals cases h

/-! ### The commands that touch a queue -/

/-- A command that ends in a state whose queues have their form keeps it. -/
theorem done_queuesSound {u : State} (h : u.QueuesSound) : ∃ t, u.done = .next t ∧ t.QueuesSound :=
  ⟨_, rfl, h.still rfl⟩

/-- The same for an event that comes only where its condition holds. -/
theorem ite_done_queuesSound {u : State} {p : Prop} [Decidable p] (hs : s.QueuesSound) (hu : u.QueuesSound) :
    ∃ t, (if p then u.done else s.done) = .next t ∧ t.QueuesSound := by
  split
  · exact done_queuesSound hu
  · exact done_queuesSound hs

theorem answered_queuesSound {r : State × Answer} (h : r.1.QueuesSound) : ∃ t, answered r = .next t ∧ t.QueuesSound :=
  ⟨_, rfl, h.still rfl⟩

/-- A counted press may be called (R133, R170). -/
theorem execStationPress_queuesSound (n : StationNo) (hs : s.QueuesSound) :
    ∃ t, execStationPress n s = .next t ∧ t.QueuesSound := by
  unfold execStationPress
  split
  · exact done_queuesSound (hs.still rfl)
  dsimp only
  split
  · exact done_queuesSound (State.countPress_queuesSound n ((State.callAction_sameQueues _).sound (hs.still rfl)))
  · exact done_queuesSound (hs.still rfl)

/-- Every command but the check byte of a frame leaves the queues their form. -/
theorem exec_queuesSound {c : Instr} (hc : ∀ b, c ≠ .commandFrame b) (hs : s.QueuesSound) :
    ∃ t, exec c s = .next t ∧ t.QueuesSound := by
  by_cases htouch : touchesPitQueues c = false
  · obtain ⟨t, hexec, hsame⟩ := exec_sameQueues s htouch
    exact ⟨t, hexec, hsame.sound hs⟩
  cases c
  case configGate => exact answered_queuesSound (State.configGateRequest_queuesSound _ _ _ _ _ _ hs)
  case selfTest => exact answered_queuesSound (State.selfTestRequest_queuesSound hs)
  case enter code station => exact answered_queuesSound (State.enterRequest_queuesSound code station hs)
  case retire code => exact answered_queuesSound (State.retireRequest_queuesSound code hs)
  case exclude code => exact answered_queuesSound (State.excludeRequest_queuesSound code hs)
  case call => exact answered_queuesSound (State.callRequest_queuesSound _ _ _ _ _ _ _ _ hs)
  case waive code which => exact answered_queuesSound (State.waiveRequest_queuesSound code which hs)
  case assign tag code => exact answered_queuesSound (State.assignRequest_queuesSound tag code hs)
  case endRace => exact answered_queuesSound (State.endRequest_queuesSound hs)
  case resetRace =>
    refine answered_queuesSound ?_
    rw [State.resetRaceRequest, State.accept_fst]
    exact State.raceReset_queuesSound hs
  case commandFrame b => exact absurd rfl (hc b)
  case powerUp | resetPin => exact done_queuesSound (s.powerOnReset_queuesSound _ _ _)
  case resetPartReboot => exact ite_done_queuesSound hs (s.powerOnReset_queuesSound _ _ _)
  case beaconFrame => exact ite_done_queuesSound hs (State.frameEvent_queuesSound _ _ (hs.still rfl))
  case gateBlind feed => exact ite_done_queuesSound hs (State.closeOpen_queuesSound feed.gate (hs.still rfl))
  case burstGapExpiry g => exact ite_done_queuesSound hs (State.closeOpen_queuesSound g hs)
  case burstDwellExpiry g =>
    simp only [exec, execBurstDwellExpiry]
    split
    · exact done_queuesSound (State.closeBurst_queuesSound g _ hs)
    · exact done_queuesSound hs
  case stopGoHoldExpiry i => exact ite_done_queuesSound hs (State.serveOut_queuesSound i hs)
  case countdownStep =>
    simp only [exec, execCountdownStep]
    split
    · exact done_queuesSound (State.stepCountdown_queuesSound _ hs)
    · exact done_queuesSound hs
  case finishWindowExpiry =>
    simp only [exec, execFinishWindowExpiry]
    split
    · exact done_queuesSound (State.endRace_queuesSound _ hs)
    · exact done_queuesSound hs
  case runningClockCap => exact ite_done_queuesSound hs (State.endRace_queuesSound _ hs)
  case stationPress n => exact execStationPress_queuesSound n hs
  all_goals exact absurd rfl htouch

end Queues

/-- Settles O11: a head is dropped, placed and judged within one command, a missed head makes room before its
escalation comes, and no other command, and no tick, touches a queue. -/
theorem pitPenaltyQueuesKept : Obligations.PitPenaltyQueuesKept := by
  have hstep : ∀ s : State, s.QueuesSound → ∃ t, step s = .next t ∧ t.QueuesSound := by
    refine step_keeps (fun _ _ h => h.still rfl) (fun c s hs => ?_) (fun _ h => h.still rfl)
    by_cases hc : ∃ b, c = .commandFrame b
    · obtain ⟨b, rfl⟩ := hc
      refine execCommandFrame_keeps (fun _ _ _ h => h.still rfl) (fun c s hc h => exec_queuesSound ?_ h) b hs
      rintro b rfl
      cases hc
    · exact exec_queuesSound (fun b h => hc ⟨b, h⟩) hs
  intro s hs
  obtain ⟨t, ht, hkept⟩ := hstep s (s.pitQueuesKept_iff.mp hs)
  exact ⟨t, ht, t.pitQueuesKept_iff.mpr hkept⟩

end Sys2Proof.Machine
end

section
/-! SUPPORT. Chapter 8, sections 8.2 and 8.3, and chapter 7, section 7.2: the head of a pit-penalty queue judged,
dropped, counted down and served, and the calls of infraction reports, each as what it makes of the entrant's record. -/

namespace Sys2Proof.Machine

/-! ### One record replaced -/

/-- The state with one entrant's record replaced. -/
def State.withEntrant (s : State) (i : Slot) (e : Entrant) : State :=
  { s with entrants := s.entrants.set i.val e }

section Head
variable {s : State} {i : Slot} {p q : PitPenalty} {rest : List PitPenalty}

@[simp] theorem State.withEntrant_entrant (s : State) (i : Slot) (e : Entrant) :
    (s.withEntrant i e).entrant i = e := by simp [State.withEntrant, State.entrant]

@[simp] theorem State.withEntrant_entrant_other (s : State) {i j : Slot} (e : Entrant) (h : j ≠ i) :
    (s.withEntrant i e).entrant j = s.entrant j := s.entrant_modEntrant_other (fun _ => e) h

theorem State.modEntrant_eq_withEntrant (s : State) (i : Slot) (f : Entrant → Entrant) :
    s.modEntrant i f = s.withEntrant i (f (s.entrant i)) := rfl

@[simp] theorem State.withEntrant_modEntrant (s : State) (i : Slot) (e : Entrant) (f : Entrant → Entrant) :
    (s.withEntrant i e).modEntrant i f = s.withEntrant i (f e) := by
  rw [State.modEntrant_eq_withEntrant, State.withEntrant_entrant]
  simp [State.withEntrant]

@[simp] theorem State.withEntrant_withEntrant (s : State) (i : Slot) (e f : Entrant) :
    (s.withEntrant i e).withEntrant i f = s.withEntrant i f := s.withEntrant_modEntrant i e fun _ => f

theorem State.setPenalties_eq (s : State) (i : Slot) (l : List PitPenalty) :
    s.setPenalties i l = s.withEntrant i { s.entrant i with penalties := l } := rfl

/-- A queue rewritten as it stands changes nothing. -/
theorem State.setPenalties_self {l : List PitPenalty} (h : (s.entrant i).penalties = l) : s.setPenalties i l = s :=
  State.modEntrant_of_eq (by rw [← h])

theorem State.markActivity_eq (s : State) (i : Slot) :
    s.markActivity i = s.withEntrant i { s.entrant i with activity := true } := rfl

theorem Entrant.aside_activity : Entrant.Aside fun e => { e with activity := true } :=
  ⟨fun _ _ => rfl, fun _ => rfl, fun _ => rfl⟩

/-- The activity mark may as well be set before the ceiling is recomputed. -/
theorem State.recompute_markActivity (hv : (s.entrant i).state ≠ .vacant) :
    (s.recompute i).markActivity i = (s.markActivity i).recompute i :=
  State.recompute_modEntrant Entrant.aside_activity hv

/-- An activity mark raises PENALTY (R138, R171). -/
theorem State.raised_penalty_of_activity (h : (s.entrant i).activity = true) : s.raised .penalty = true := by
  have hmem : i ∈ s.slotsWith (·.activity) := List.mem_filter.mpr ⟨mem_allSlots i, h⟩
  simpa [State.raised] using List.ne_nil_of_mem hmem

/-! ### The head -/

/-- A Pending head becomes Active with its full deadline, unless it is a stop-and-go of a car in the box (R142). -/
theorem State.judgeHead_activates (h : (s.entrant i).penalties = p :: rest) (hp : p.state = .pending)
    (hbox : ¬(p.kind = .stopGo ∧ (s.entrant i).pitStatus = .box)) :
    s.judgeHead i = s.withEntrant i { s.entrant i with penalties := p.activated :: rest } := by
  rw [State.judgeHead_pending s i p rest h hp, if_neg hbox, State.setPenalties_eq]

/-- A Pending stop-and-go of a car in the box becomes Serving (R142). -/
theorem State.judgeHead_serves (h : (s.entrant i).penalties = p :: rest) (hp : p.state = .pending)
    (hbox : p.kind = .stopGo ∧ (s.entrant i).pitStatus = .box) :
    s.judgeHead i = State.recompute (s.withEntrant i ((s.entrant i).withQueue
      ({ p with state := .serving, remaining := some p.deadline } :: rest)
      (some (s.race.runningClock + p.holdTicks)))) i := by
  rw [State.judgeHead_pending s i p rest h hp, if_pos hbox, State.serveHead_eq]
  rfl

/-- A head that is no Serving stop-and-go leaves the queue alone (R146, R148). -/
theorem State.dropHead_other (h : (s.entrant i).penalties = p :: rest) (hp : p.servingStopGo = false) :
    s.dropHead i = s.withEntrant i { s.entrant i with penalties := rest } := by
  simp only [State.dropHead, h, hp, Bool.false_eq_true, if_false, State.setPenalties_eq]

theorem PitPenalty.servingStopGo_of_kind (h : p.kind = .driveThrough) : p.servingStopGo = false := by
  simp [PitPenalty.servingStopGo, h]

theorem PitPenalty.servingStopGo_of_state (h : p.state ≠ .serving) : p.servingStopGo = false := by
  simp [PitPenalty.servingStopGo, h]

/-- The state once a head is served or missed: `rest` is queued, and the activity mark is set (R145, R148). -/
def State.headGone (s : State) (i : Slot) (rest : List PitPenalty) : State :=
  s.withEntrant i { s.entrant i with activity := true, penalties := rest }

@[simp] theorem State.headGone_entrant (s : State) (i : Slot) (rest : List PitPenalty) :
    (s.headGone i rest).entrant i = { s.entrant i with activity := true, penalties := rest } :=
  s.withEntrant_entrant i _

@[simp] theorem State.headGone_withEntrant (s : State) (i : Slot) (rest : List PitPenalty) (e : Entrant) :
    (s.headGone i rest).withEntrant i e = s.withEntrant i e := s.withEntrant_withEntrant i _ e

theorem State.dropHead_headGone (h : (s.entrant i).penalties = p :: rest) (hp : p.servingStopGo = false) :
    (s.dropHead i).markActivity i = s.headGone i rest := by
  rw [State.dropHead_other h hp, State.markActivity_eq, State.withEntrant_entrant, State.withEntrant_withEntrant,
    State.headGone]

/-- Behind a head that is gone the next entry becomes Active (R142). -/
theorem State.headGone_judgeHead (hq : q.state = .pending)
    (hbox : ¬(q.kind = .stopGo ∧ (s.entrant i).pitStatus = .box)) :
    (s.headGone i (q :: rest)).judgeHead i
      = s.withEntrant i { s.entrant i with activity := true, penalties := q.activated :: rest } := by
  rw [State.judgeHead_activates (p := q) (rest := rest) _ hq, State.headGone_entrant, State.headGone_withEntrant]
  · rwa [State.headGone_entrant]
  · rw [State.headGone_entrant]

/-- A head that is gone leaves an empty queue behind it if it was the only entry. -/
theorem State.headGone_judgeHead_nil (s : State) (i : Slot) : (s.headGone i []).judgeHead i = s.headGone i [] :=
  State.judgeHead_nil _ i (by rw [State.headGone_entrant])

/-! ### PitIn and PitOut -/

/-- PitIn begins the service of an Active drive-through (R143). -/
theorem State.penaltyPitIn_driveThrough (h : (s.entrant i).penalties = p :: rest)
    (hp : p.kind = .driveThrough ∧ p.state = .active) :
    s.penaltyPitIn i = s.setPenalties i ({ p with state := .serving } :: rest) := by
  simp only [State.penaltyPitIn, h, hp]

/-- PitIn ends the hold of a Serving stop-and-go (R143). -/
theorem State.penaltyPitIn_stopGo (h : (s.entrant i).penalties = p :: rest)
    (hp : p.kind = .stopGo ∧ p.state = .serving) : s.penaltyPitIn i = s.unserveHead i p rest := by
  simp only [State.penaltyPitIn, h, hp]

/-- PitIn leaves every other head (R143). -/
theorem State.penaltyPitIn_other (h : (s.entrant i).penalties = p :: rest)
    (hdrive : ¬(p.kind = .driveThrough ∧ p.state = .active)) (hstop : ¬(p.kind = .stopGo ∧ p.state = .serving)) :
    s.penaltyPitIn i = s := by
  simp only [State.penaltyPitIn, h]
  split
  · next hkind hstate => exact absurd ⟨hkind, hstate⟩ hdrive
  · next hkind hstate => exact absurd ⟨hkind, hstate⟩ hstop
  · rfl

theorem State.penaltyPitIn_nil (h : (s.entrant i).penalties = []) : s.penaltyPitIn i = s := by
  simp only [State.penaltyPitIn, h]

theorem State.penaltyPitOut_cons (h : (s.entrant i).penalties = p :: rest) :
    s.penaltyPitOut i = if p.kind = .driveThrough ∧ p.state ≠ .pending then s.serveOut i else s := by
  simp only [State.penaltyPitOut, h]

theorem State.penaltyPitOut_nil (h : (s.entrant i).penalties = []) : s.penaltyPitOut i = s := by
  simp only [State.penaltyPitOut, h]

/-- PitOut serves the drive-through at the head (R145). -/
theorem State.penaltyPitOut_serves (h : (s.entrant i).penalties = p :: rest) (hkind : p.kind = .driveThrough)
    (hstate : p.state = .active ∨ p.state = .serving) : s.penaltyPitOut i = (s.headGone i rest).judgeHead i := by
  have hjudged : p.state ≠ .pending := by rcases hstate with h | h <;> rw [h] <;> decide
  rw [State.penaltyPitOut_cons h, if_pos ⟨hkind, hjudged⟩, State.serveOut,
    State.dropHead_headGone h (PitPenalty.servingStopGo_of_kind hkind)]

/-! ### A credited crossing -/

theorem State.penaltyCrossing_nil (h : (s.entrant i).penalties = []) (c : Bool) : s.penaltyCrossing i c = s := by
  simp only [State.penaltyCrossing, h]

/-- A head that is not Active again on the track stands as it is (R147). -/
theorem PitPenalty.owedAgain_of_not {pit : PitStatus}
    (h : ¬(p.kind = .driveThrough ∧ p.state = .serving ∧ pit = .track)) : p.owedAgain pit = p := if_neg h

theorem PitPenalty.owedAgain_active {pit : PitStatus} (h : p.state = .active) : p.owedAgain pit = p :=
  PitPenalty.owedAgain_of_not fun ⟨_, hserving, _⟩ => nomatch h.symm.trans hserving

/-- Under caution, and while it is not Active, the head counts down no lap (R147). -/
theorem State.penaltyCrossing_uncounted {c : Bool} (h : (s.entrant i).penalties = p :: rest)
    (hq : p.owedAgain (s.entrant i).pitStatus = q) (hc : ¬(q.state = .active ∧ c = false)) :
    s.penaltyCrossing i c = s.setPenalties i (q :: rest) := by
  simp only [State.penaltyCrossing, h, hq, if_neg hc]

/-- An Active head loses a lap, and with its last one is missed (R147, R148). -/
theorem State.penaltyCrossing_counts {r : Nat} (h : (s.entrant i).penalties = p :: rest)
    (hq : p.owedAgain (s.entrant i).pitStatus = q) (hactive : q.state = .active) (hr : q.remaining = some r) :
    s.penaltyCrossing i false =
      if r ≤ 1 then (s.setPenalties i ({ q with remaining := some (r - 1) } :: rest)).missHead i q.kind
      else s.setPenalties i ({ q with remaining := some (r - 1) } :: rest) := by
  simp only [State.penaltyCrossing, h, hq, hactive, hr, and_self, if_true]

/-- A missed head leaves the queue unjudged, is marked and reported, and then the head is judged (R148). -/
theorem State.penaltyCrossing_missed (h : (s.entrant i).penalties = p :: rest) (hactive : p.state = .active)
    (hr : p.remaining = some 1 ∨ p.remaining = some 0) :
    s.penaltyCrossing i false = ((s.headGone i rest).report i p.kind.missedClass).judgeHead i := by
  obtain ⟨r, hr, hlast⟩ : ∃ r, p.remaining = some r ∧ r ≤ 1 := by
    rcases hr with hr | hr
    · exact ⟨1, hr, le_rfl⟩
    · exact ⟨0, hr, Nat.zero_le 1⟩
  have hdropped : ((s.setPenalties i ({ p with remaining := some (r - 1) } :: rest)).dropHead i).markActivity i
      = s.headGone i rest := by
    rw [State.setPenalties_eq, State.dropHead_headGone (p := { p with remaining := some (r - 1) }) (rest := rest)]
    · rw [State.headGone, State.withEntrant_entrant, State.withEntrant_withEntrant]
      rfl
    · rw [State.withEntrant_entrant]
    · exact PitPenalty.servingStopGo_of_state (by rw [hactive]; decide)
  rw [State.penaltyCrossing_counts h (PitPenalty.owedAgain_active hactive) hactive hr, if_pos hlast, State.missHead,
    hdropped]

/-! ### Reports -/

theorem CallClass.escalates_eq (c : CallClass) :
    c.escalates = (c == .missedDriveThrough || c == .missedStopGo) := by cases c <;> rfl

theorem CallClass.escalates_iff {c : CallClass} :
    c.escalates = true ↔ c ∈ [CallClass.missedDriveThrough, .missedStopGo] := by cases c <;> decide

/-- The record of a call of the Call Table (R130). -/
def State.callFor (s : State) (i : Slot) (c : CallClass) (r : Ruling) : Call :=
  { slot := i, cls := c, ruling := r, calledAt := s.race.runningClock, calledLap := (s.entrant i).laps
    escalation := c.escalates }

/-- A report is dropped unless the entrant is Racing and the class has a ruling (R126, R127). -/
theorem State.report_dropped {c : CallClass} (h : (s.entrant i).state ≠ .racing ∨ s.rulingFor c = none) :
    s.report i c = s := by
  rcases s.report_cases i c with ⟨r, hracing, hr, -⟩ | ⟨-, hsame⟩
  · rcases h with h | h
    · exact absurd hracing h
    · exact nomatch hr.symm.trans h
  · exact hsame

/-- A report that is ruled on carries the ruling out and sets the activity mark (R130). -/
theorem State.report_ruled {c : CallClass} {r : Ruling} (h : (s.entrant i).state = .racing)
    (hr : s.rulingFor c = some r) : s.report i c = (s.carryRuling (s.callFor i c r)).markActivity i := by
  rcases s.report_cases i c with ⟨r', -, hr', hcall⟩ | ⟨hdropped, -⟩
  · obtain rfl : r = r' := Option.some.inj (hr.symm.trans hr')
    exact hcall
  · exact absurd hdropped (by simp [h, hr])

theorem State.not_vacant_of_racing (h : (s.entrant i).state = .racing) : (s.entrant i).state ≠ .vacant := by
  rw [h]; decide

/-- A Black-flag ruling, or one that a full queue turns into it (R141, R152). -/
theorem State.setBlackFlag_markActivity (h : (s.entrant i).state = .racing) :
    (s.setBlackFlag i true).markActivity i
      = State.recompute (s.withEntrant i { s.entrant i with activity := true, blackFlag := true }) i := by
  rw [State.setBlackFlag, State.recompute_markActivity, State.modEntrant_eq_withEntrant, State.markActivity_eq,
    State.withEntrant_entrant, State.withEntrant_withEntrant]
  rw [State.entrant_modEntrant_same]
  exact State.not_vacant_of_racing h

theorem State.setPowerHold_markActivity (x : Option PowerHold) (h : (s.entrant i).state = .racing) :
    (s.setPowerHold i x).markActivity i
      = State.recompute (s.withEntrant i { s.entrant i with activity := true, powerHold := x }) i := by
  rw [State.setPowerHold, State.recompute_markActivity, State.modEntrant_eq_withEntrant, State.markActivity_eq,
    State.withEntrant_entrant, State.withEntrant_withEntrant]
  rw [State.entrant_modEntrant_same]
  exact State.not_vacant_of_racing h

/-- A lap deduction places the entrant again (R93, R151). -/
theorem State.deductLaps_markActivity (s : State) (i : Slot) (n : Nat) : (s.deductLaps i n).markActivity i
    = (s.withStandings (placeAgain i { laps := (s.entrant i).laps - n, reach := (s.entrant i).reachTime } s.standings)
      ).withEntrant i { s.entrant i with activity := true, laps := (s.entrant i).laps - n } := by
  have hdeducted : s.deductLaps i n = (s.withStandings (placeAgain i ((s.entrant i).lessLaps n).key s.standings)
      ).withEntrant i ((s.entrant i).lessLaps n) := by
    rw [State.deductLaps, State.modEntrant_eq_withEntrant, State.replace, State.withEntrant_entrant]
    rfl
  rw [hdeducted, State.markActivity_eq, State.withEntrant_entrant, State.withEntrant_withEntrant]
  rfl

/-! ### A pit penalty called -/

/-- A pit-penalty ruling (R127). -/
def Ruling.pit (k : PenaltyKind) (h d v : Nat) : Ruling := if k = .stopGo then .stopGo h d v else .driveThrough d v

/-- The entry a call of the Call Table places (R140). -/
def State.calledEntry (s : State) (i : Slot) (c : CallClass) (k : PenaltyKind) (h d v : Nat) : PitPenalty :=
  (s.callFor i c (.pit k h d v)).entry k (if k = .stopGo then some h else none) d v

theorem State.calledEntry_escalation (c : CallClass) (k : PenaltyKind) (h d v : Nat) :
    (s.calledEntry i c k h d v).escalation = c.escalates := rfl

theorem State.report_pit {c : CallClass} {k : PenaltyKind} {h d v : Nat} (hracing : (s.entrant i).state = .racing)
    (hr : s.rulingFor c = some (.pit k h d v)) :
    s.report i c = (s.placePenalty i (s.calledEntry i c k h d v)).markActivity i := by
  rw [State.report_ruled hracing hr]
  cases k <;> rfl

/-- An escalation, and any pit penalty of an empty queue, comes to the head and is judged there (R141). -/
theorem State.placePenalty_head (h : p.escalation = true ∨ (s.entrant i).penalties = []) :
    s.placePenalty i p = (s.setPenalties i (p :: (s.entrant i).penalties)).judgeHead i := by
  by_cases hp : p.escalation = true
  · simp only [State.placePenalty, hp, if_true]
  · have hnil := h.resolve_left hp
    rw [State.placePenalty_tail (by simpa using hp) (by simp [hnil]), hnil, List.nil_append]

theorem State.placePenalty_activates (h : p.escalation = true ∨ (s.entrant i).penalties = [])
    (hp : p.state = .pending) (hbox : ¬(p.kind = .stopGo ∧ (s.entrant i).pitStatus = .box)) :
    s.placePenalty i p = s.withEntrant i { s.entrant i with penalties := p.activated :: (s.entrant i).penalties } := by
  rw [State.placePenalty_head h, State.setPenalties_eq,
    State.judgeHead_activates (p := p) (rest := (s.entrant i).penalties)]
  · rw [State.withEntrant_entrant, State.withEntrant_withEntrant]
  · rw [State.withEntrant_entrant]
  · exact hp
  · rwa [State.withEntrant_entrant]

theorem State.placePenalty_serves (h : p.escalation = true ∨ (s.entrant i).penalties = [])
    (hp : p.state = .pending) (hbox : p.kind = .stopGo ∧ (s.entrant i).pitStatus = .box) :
    s.placePenalty i p = State.recompute (s.withEntrant i ((s.entrant i).withQueue
      ({ p with state := .serving, remaining := some p.deadline } :: (s.entrant i).penalties)
      (some (s.race.runningClock + p.holdTicks)))) i := by
  rw [State.placePenalty_head h, State.setPenalties_eq,
    State.judgeHead_serves (p := p) (rest := (s.entrant i).penalties)]
  · rw [State.withEntrant_entrant, State.withEntrant_withEntrant]
    rfl
  · rw [State.withEntrant_entrant]
  · exact hp
  · rwa [State.withEntrant_entrant]

section Report
variable {c : CallClass} {k : PenaltyKind} {h d v : Nat}

/-- A pit penalty that comes to the head becomes Active there (R141, R142). -/
theorem State.report_activates (hracing : (s.entrant i).state = .racing) (hr : s.rulingFor c = some (.pit k h d v))
    (hhead : c.escalates = true ∨ (s.entrant i).penalties = [])
    (hbox : ¬(k = .stopGo ∧ (s.entrant i).pitStatus = .box)) :
    s.report i c = s.withEntrant i { s.entrant i with
      activity := true, penalties := (s.calledEntry i c k h d v).activated :: (s.entrant i).penalties } := by
  rw [State.report_pit hracing hr, State.placePenalty_activates (p := s.calledEntry i c k h d v) hhead rfl hbox,
    State.markActivity_eq, State.withEntrant_entrant, State.withEntrant_withEntrant]

/-- A stop-and-go that comes to the head while the car stands in the box is served at once (R141, R142). -/
theorem State.report_serves (hracing : (s.entrant i).state = .racing) (hr : s.rulingFor c = some (.pit k h d v))
    (hhead : c.escalates = true ∨ (s.entrant i).penalties = []) (hbox : k = .stopGo ∧ (s.entrant i).pitStatus = .box) :
    s.report i c = State.recompute (s.withEntrant i { s.entrant i with
      activity := true, holdTimer := some (s.race.runningClock + h * 10000)
      penalties := { s.calledEntry i c k h d v with state := .serving, remaining := some d }
        :: (s.entrant i).penalties }) i := by
  obtain ⟨rfl, hbox⟩ := hbox
  rw [State.report_pit hracing hr,
    State.placePenalty_serves (p := s.calledEntry i c .stopGo h d v) hhead rfl ⟨rfl, hbox⟩,
    State.recompute_markActivity, State.markActivity_eq, State.withEntrant_entrant, State.withEntrant_withEntrant]
  · rfl
  · rw [State.withEntrant_entrant]
    exact State.not_vacant_of_racing hracing

/-- Behind a head that has been judged a pit penalty waits, and where four are queued it becomes the Black-flag mark
(R141). -/
theorem State.report_behind (hracing : (s.entrant i).state = .racing) (hr : s.rulingFor c = some (.pit k h d v))
    (hc : c.escalates = false) (hp : (s.entrant i).penalties = p :: rest) (hjudged : p.state ≠ .pending) :
    s.report i c = if (s.entrant i).penalties.length < 4 then s.withEntrant i { s.entrant i with
        activity := true, penalties := (s.entrant i).penalties ++ [s.calledEntry i c k h d v] }
      else State.recompute (s.withEntrant i { s.entrant i with activity := true, blackFlag := true }) i := by
  rw [State.report_pit hracing hr]
  split
  · next hlen =>
    rw [State.placePenalty_tail hc hlen, State.setPenalties_eq,
      State.judgeHead_judged _ i p (rest ++ [s.calledEntry i c k h d v]) _ hjudged,
      State.markActivity_eq, State.withEntrant_entrant, State.withEntrant_withEntrant]
    rw [State.withEntrant_entrant, hp]
    rfl
  · next hlen =>
    rw [← State.setBlackFlag_markActivity hracing]
    simp only [State.placePenalty, State.calledEntry_escalation, hc, Bool.false_eq_true, if_false, if_neg hlen]

end Report

end Head

end Sys2Proof.Machine
end

section
/-! SUPPORT. Chapter 8, section 8.3: PitIn and PitOut. -/

namespace Sys2Proof.Machine

/-- Settles O58: by the kind and the state of the head, and by whether an entry waits behind it. -/
theorem pitPassesServePenalties : Obligations.PitPassesServePenalties := by
  refine ⟨?head, ?empty, ?servedLast, ?servedNext⟩
  case head =>
    intro i p rest s hp _
    refine ⟨?driveActive, ?driveServing, ?stopActive, ?stopServing, ?inPit, ?stopOut⟩
    case driveActive => exact fun h => (State.penaltyPitIn_driveThrough hp h).trans (s.setPenalties_eq i _)
    case stopServing => exact fun h => (State.penaltyPitIn_stopGo hp h).trans (s.unserveHead_eq i p rest)
    case driveServing | stopActive =>
      rintro ⟨hkind, hstate⟩
      exact State.penaltyPitIn_other hp (by simp [hkind, hstate]) (by simp [hkind, hstate])
    case inPit =>
      rintro ⟨-, hstate, hpit⟩ caution
      have howed : p.owedAgain (s.entrant i).pitStatus = p := PitPenalty.owedAgain_of_not fun h => hpit h.2.2
      rw [State.penaltyCrossing_uncounted hp howed (by simp [hstate]), State.setPenalties_self hp]
    case stopOut =>
      intro hkind
      rw [State.penaltyPitOut_cons hp, if_neg (by simp [hkind])]
  case empty => exact fun i s hp => ⟨State.penaltyPitIn_nil hp, State.penaltyPitOut_nil hp⟩
  case servedLast =>
    intro i p s hp hkind hstate
    have hout := (State.penaltyPitOut_serves hp hkind hstate).trans (s.headGone_judgeHead_nil i)
    exact ⟨hout, State.raised_penalty_of_activity (i := i) (by rw [hout, State.headGone_entrant])⟩
  case servedNext =>
    intro i p q rest s hp hkind hstate hq htrack
    have hout := (State.penaltyPitOut_serves hp hkind hstate).trans
      (State.headGone_judgeHead (rest := rest) hq (by simp [htrack]))
    exact ⟨hout, State.raised_penalty_of_activity (i := i) (by rw [hout, State.withEntrant_entrant])⟩

end Sys2Proof.Machine
end

section
/-! SUPPORT. Chapter 8, section 8.3, and chapter 7, sections 7.1 and 7.2: missed pit penalties and infraction
reports. -/

namespace Sys2Proof.Machine

section Missed
variable {s : State} {i : Slot} {p : PitPenalty} {rest : List PitPenalty}

/-- A missed head whose class is ruled on by an escalation of its own kind makes way for it (R142, R148). -/
theorem State.penaltyCrossing_escalates {h d v : Nat} (hp : (s.entrant i).penalties = p :: rest)
    (hactive : p.state = .active) (hr : p.remaining = some 1) (hbox : (s.entrant i).pitStatus ≠ .box)
    (hracing : (s.entrant i).state = .racing) (hruling : s.rulingFor p.kind.missedClass = some (.stopGo h d v)) :
    s.penaltyCrossing i false = s.withEntrant i { s.entrant i with
      activity := true
      penalties := (s.calledEntry i p.kind.missedClass .stopGo h d v).activated :: rest } := by
  have hescalates : p.kind.missedClass.escalates = true := by cases p.kind <;> rfl
  have hcalled : (s.headGone i rest).report i p.kind.missedClass = s.withEntrant i { s.entrant i with
      activity := true
      penalties := (s.calledEntry i p.kind.missedClass .stopGo h d v).activated :: rest } := by
    have hruled : (s.headGone i rest).rulingFor p.kind.missedClass = some (.pit .stopGo h d v) := hruling
    rw [State.report_activates _ hruled (.inl hescalates), State.headGone_withEntrant, State.headGone_entrant,
      State.calledEntry, State.callFor, State.headGone_entrant]
    · rfl
    · rw [State.headGone_entrant]
      exact fun h => hbox h.2
    · rw [State.headGone_entrant]
      exact hracing
  rw [State.penaltyCrossing_missed hp hactive (.inl hr), hcalled]
  exact State.judgeHead_judged _ i _ rest (by rw [State.withEntrant_entrant]) PenaltyState.noConfusion

/-- A missed head whose class has no ruling leaves the queue to be judged (R147, R148). -/
theorem State.penaltyCrossing_unruled (hp : (s.entrant i).penalties = p :: rest) (hactive : p.state = .active)
    (hr : p.remaining = some 1) (hruling : s.rulingFor p.kind.missedClass = none) :
    s.penaltyCrossing i false = (s.headGone i rest).judgeHead i := by
  have hdropped : (s.headGone i rest).rulingFor p.kind.missedClass = none := hruling
  rw [State.penaltyCrossing_missed hp hactive (.inl hr), State.report_dropped (.inr hdropped)]

end Missed

/-- Settles O59: the head is counted down, missed and reported, a report carries the Call Table's ruling out, and each
ruling rewrites the entrant's record. -/
theorem missedPenaltiesEscalate : Obligations.MissedPenaltiesEscalate := by
  refine ⟨?counted, ?owedAgain, ?missedLast, ?missedNext, ?missedDrive, ?empty, ?dropped, ?blackFlag, ?powerHold,
    ?lapDeduction, ?atHead, ?behind, ?missed, ?judged, ?missedStop, ?missedFlag⟩
  case counted =>
    intro i p rest r s hp hactive hr
    have howed := PitPenalty.owedAgain_active (pit := (s.entrant i).pitStatus) hactive
    refine ⟨?_, fun hlaps => ?_⟩
    · rw [State.penaltyCrossing_uncounted hp howed (by simp), State.setPenalties_self hp]
    · rw [State.penaltyCrossing_counts hp howed hactive hr, if_neg (Nat.not_le.mpr hlaps)]
      exact s.setPenalties_eq i _
  case owedAgain =>
    intro i p rest r s hp hkind hserving hr hlaps htrack
    have howed : p.owedAgain (s.entrant i).pitStatus = { p with state := .active } := if_pos ⟨hkind, hserving, htrack⟩
    refine ⟨?_, ?_⟩
    · rw [State.penaltyCrossing_counts hp howed rfl hr, if_neg (Nat.not_le.mpr hlaps)]
      exact s.setPenalties_eq i _
    · rw [State.penaltyCrossing_uncounted hp howed (by simp)]
      exact s.setPenalties_eq i _
  case missedLast =>
    intro i p s hp hkind hactive hr hruling
    have hruling : s.rulingFor p.kind.missedClass = none := by rw [hkind]; exact hruling
    exact (State.penaltyCrossing_unruled hp hactive hr hruling).trans (s.headGone_judgeHead_nil i)
  case missedNext =>
    intro i p q rest s hp hkind hactive hr hq hbox hruling
    have hruling : s.rulingFor p.kind.missedClass = none := by rw [hkind]; exact hruling
    exact (State.penaltyCrossing_unruled hp hactive hr hruling).trans
      (State.headGone_judgeHead hq fun h => hbox h.2)
  case missedDrive =>
    intro i p rest h d v s hp hkind hactive hr hbox hracing hruling
    rw [State.penaltyCrossing_escalates hp hactive hr hbox hracing (by rw [hkind]; exact hruling), hkind]
    rfl
  case empty => exact fun i s hp => ⟨State.penaltyCrossing_nil hp false, State.penaltyCrossing_nil hp true⟩
  case dropped => exact fun i cls s h => State.report_dropped h
  case blackFlag =>
    intro i cls s hracing hr
    rw [State.report_ruled hracing hr]
    exact State.setBlackFlag_markActivity hracing
  case powerHold =>
    intro i cls l d s hracing hr
    rw [State.report_ruled hracing hr]
    refine (State.setPowerHold_markActivity _ hracing).trans ?_
    cases hhold : (s.entrant i).powerHold <;> simp only [State.callFor, hhold] <;> rfl
  case lapDeduction =>
    intro i cls n s hracing hr
    rw [State.report_ruled hracing hr]
    exact s.deductLaps_markActivity i n
  case atHead =>
    intro i cls k h d v s hracing hr hhead
    have hhead : cls.escalates = true ∨ (s.entrant i).penalties = [] := hhead.imp_left CallClass.escalates_iff.mpr
    rw [← CallClass.escalates_eq]
    split
    · next hbox => exact State.report_serves hracing hr hhead hbox
    · next hbox => exact State.report_activates hracing hr hhead hbox
  case behind =>
    intro i cls k h d v s hracing hr hcls hqueue hjudged
    have hescalates : cls.escalates = false := Bool.eq_false_iff.mpr (mt CallClass.escalates_iff.mp hcls)
    obtain ⟨p, rest, hp⟩ := List.exists_cons_of_ne_nil hqueue
    rw [← CallClass.escalates_eq]
    exact State.report_behind hracing hr hescalates hp (hjudged p (by simp [hp]))
  case missed =>
    intro i p rest cls s hp hactive hr hcls
    have hcls : cls = p.kind.missedClass := by rw [hcls]; cases p.kind <;> rfl
    rw [State.penaltyCrossing_missed hp hactive hr, hcls]
    rfl
  case judged =>
    refine fun i s => ⟨State.judgeHead_nil s i, fun q hq => ?_⟩
    obtain ⟨rest, hp⟩ : ∃ rest, (s.entrant i).penalties = q :: rest := by
      rw [Option.mem_toList, List.head?_eq_some_iff] at hq
      exact hq
    refine ⟨State.judgeHead_judged s i q rest hp, fun hpending => ?_⟩
    rw [hp]
    split
    · next hbox => exact State.judgeHead_serves hp hpending hbox
    · next hbox => exact State.judgeHead_activates hp hpending hbox
  case missedStop =>
    intro i p rest h d v s hp hkind hactive hr hbox hracing hruling
    rw [State.penaltyCrossing_escalates hp hactive hr hbox hracing (by rw [hkind]; exact hruling), hkind]
    rfl
  case missedFlag =>
    intro i p s hp hkind hactive hr hracing hruling
    have hruled : (s.headGone i []).rulingFor p.kind.missedClass = some .blackFlag := by rw [hkind]; exact hruling
    have hracing : ((s.headGone i []).entrant i).state = .racing := by rw [State.headGone_entrant]; exact hracing
    have hcalled : (s.headGone i []).report i p.kind.missedClass = State.recompute
        (s.withEntrant i { s.entrant i with penalties := [], activity := true, blackFlag := true }) i := by
      rw [State.report_ruled hracing hruled]
      refine (State.setBlackFlag_markActivity hracing).trans ?_
      rw [State.headGone_withEntrant, State.headGone_entrant]
    rw [State.penaltyCrossing_missed hp hactive (.inl hr), hcalled]
    exact State.judgeHead_nil _ i (by simp)

end Sys2Proof.Machine
end

section
/-! SUPPORT. Chapter 8, section 8.6: WAIVE. -/

namespace Sys2Proof.Machine

/-! ### A head dropped and the next one judged, in the record -/

/-- The record once its head is dropped unjudged; a Serving stop-and-go takes its hold timer with it (R153). -/
def State.lessHead (s : State) (e : Entrant) (p : PitPenalty) (rest : List PitPenalty) : Entrant :=
  if p.kind = .stopGo ∧ p.state = .serving then s.limited (e.withQueue rest none) else e.withQueue rest e.holdTimer

/-- The record once a Pending head is judged (R142). -/
def State.withHead (s : State) (e : Entrant) (q : PitPenalty) (rest : List PitPenalty) : Entrant :=
  if q.kind = .stopGo ∧ e.pitStatus = .box then
    s.limited (e.withQueue ({ q.activated with state := .serving } :: rest)
      (some (s.race.runningClock + q.holdTicks)))
  else e.withQueue (q.activated :: rest) e.holdTimer

section Record
variable {s : State} {i : Slot} {e : Entrant} {d : DirtyClass} {p q : PitPenalty} {rest : List PitPenalty}

theorem State.lessHead_serving (h : p.kind = .stopGo ∧ p.state = .serving) :
    s.lessHead e p rest = s.limited (e.withQueue rest none) := if_pos h

theorem State.lessHead_other (h : ¬(p.kind = .stopGo ∧ p.state = .serving)) :
    s.lessHead e p rest = e.withQueue rest e.holdTimer := if_neg h

theorem State.withHead_inBox (h : q.kind = .stopGo ∧ e.pitStatus = .box) :
    s.withHead e q rest = s.limited (e.withQueue ({ q.activated with state := .serving } :: rest)
      (some (s.race.runningClock + q.holdTicks))) := if_pos h

theorem State.withHead_other (h : ¬(q.kind = .stopGo ∧ e.pitStatus = .box)) :
    s.withHead e q rest = e.withQueue (q.activated :: rest) e.holdTimer := if_neg h

/-- Dropping the head changes the queue, the hold timer and the ceiling alone. -/
theorem State.lessHead_fields : (s.lessHead e p rest).penalties = rest ∧ (s.lessHead e p rest).state = e.state
    ∧ (s.lessHead e p rest).pitStatus = e.pitStatus := by
  unfold State.lessHead
  split <;> exact ⟨rfl, rfl, rfl⟩

theorem PitPenalty.servingStopGo_iff : p.servingStopGo = true ↔ p.kind = .stopGo ∧ p.state = .serving := by
  simp [PitPenalty.servingStopGo]

/-- A dropped head: the record is rewritten, and marked by the move of its ceiling (R153, R160). -/
theorem State.dropHead_eq_withRecord (hv : (s.entrant i).state ≠ .vacant) (hp : (s.entrant i).penalties = p :: rest) :
    s.dropHead i = s.withRecord i (s.lessHead (s.entrant i) p rest)
      (DirtyClass.mark (s.entrant i).effective (s.lessHead (s.entrant i) p rest).effective (s.dirtyOf i)) := by
  by_cases hserving : p.kind = .stopGo ∧ p.state = .serving
  · rw [State.dropHead_serving hp hserving, State.modEntrant_eq_withRecord, State.withRecord_recompute,
      State.lessHead_serving hserving]
    · rfl
    · exact hv
  · rw [State.dropHead_other hp (Bool.eq_false_iff.mpr (mt PitPenalty.servingStopGo_iff.mp hserving)),
      State.lessHead_other hserving]
    show _ = s.withRecord i _ (DirtyClass.mark (s.entrant i).effective (s.entrant i).effective _)
    rw [DirtyClass.mark_same]
    exact s.modEntrant_eq_withRecord i fun e => { e with penalties := rest }

/-- A judged head: the record is rewritten, and marked by the move of its ceiling (R142, R160). -/
theorem State.withRecord_judgeHead (hv : e.state ≠ .vacant) (hq : e.penalties = q :: rest)
    (hpending : q.state = .pending) : (s.withRecord i e d).judgeHead i = s.withRecord i (s.withHead e q rest)
      (DirtyClass.mark e.effective (s.withHead e q rest).effective d) := by
  rw [State.judgeHead_pending _ i q rest (by rw [State.withRecord_entrant]; exact hq) hpending,
    State.withRecord_entrant]
  by_cases hbox : q.kind = .stopGo ∧ e.pitStatus = .box
  · rw [if_pos hbox, State.withHead_inBox hbox, State.serveHead_eq, State.withRecord_modEntrant,
      State.withRecord_recompute]
    · rfl
    · exact hv
  · rw [if_neg hbox, State.withHead_other hbox, State.setPenalties, State.withRecord_modEntrant]
    show _ = s.withRecord i _ (DirtyClass.mark e.effective e.effective d)
    rw [DirtyClass.mark_same]
    rfl

/-- A Pending head made Active is no Serving stop-and-go either, so the ceiling stays (R158). -/
theorem State.effectiveFor_activated (s : State) (e : Entrant) (rest : List PitPenalty) (u : Option RunTime)
    (hpending : q.state = .pending) :
    s.effectiveFor (e.withQueue (q :: rest) u) = s.effectiveFor (e.withQueue (q.activated :: rest) u) :=
  s.effectiveFor_withQueue e u u
    (by simp [Entrant.servingStopGo, Entrant.withQueue, PitPenalty.activated, hpending]; rfl)

/-- The ceiling of an entrant whose head has been dropped and the next one judged is the one R158 gives, if either told
the Ceiling Unit, and else it has stayed (R159). -/
theorem State.withHead_lessHead_effective (hpending : q.state = .pending) :
    (s.withHead (s.lessHead e p (q :: rest)) q rest).effective =
      if (q.kind = .stopGo ∧ e.pitStatus = .box) ∨ (p.kind = .stopGo ∧ p.state = .serving)
      then s.effectiveFor (s.withHead (s.lessHead e p (q :: rest)) q rest) else e.effective := by
  obtain ⟨-, -, hpit⟩ := State.lessHead_fields (s := s) (e := e) (p := p) (rest := q :: rest)
  by_cases hbox : q.kind = .stopGo ∧ e.pitStatus = .box
  · rw [if_pos (.inl hbox), State.withHead_inBox (hpit ▸ hbox)]
    rfl
  · rw [State.withHead_other (hpit ▸ hbox)]
    by_cases hserving : p.kind = .stopGo ∧ p.state = .serving
    · rw [if_pos (.inr hserving), State.lessHead_serving hserving]
      exact s.effectiveFor_activated e rest none hpending
    · rw [if_neg (not_or.mpr ⟨hbox, hserving⟩), State.lessHead_other hserving]
      rfl

/-- The head judged is Serving at once in the box, and else Active with its full deadline (R142). -/
theorem State.withHead_penalties : (s.withHead e q rest).penalties = { q with
    state := if q.kind = .stopGo ∧ e.pitStatus = .box then .serving else .active
    remaining := some q.deadline } :: rest := by
  by_cases hbox : q.kind = .stopGo ∧ e.pitStatus = .box
  · rw [State.withHead_inBox hbox, if_pos hbox]
    rfl
  · rw [State.withHead_other hbox, if_neg hbox]
    rfl

theorem State.withHead_holdTimer : (s.withHead e q rest).holdTimer =
    if q.kind = .stopGo ∧ e.pitStatus = .box then some (s.race.runningClock + q.holdTicks) else e.holdTimer := by
  by_cases hbox : q.kind = .stopGo ∧ e.pitStatus = .box
  · rw [State.withHead_inBox hbox, if_pos hbox]
    rfl
  · rw [State.withHead_other hbox, if_neg hbox]
    rfl

theorem State.lessHead_holdTimer : (s.lessHead e p rest).holdTimer =
    if p.kind = .stopGo ∧ p.state = .serving then none else e.holdTimer := by
  by_cases hserving : p.kind = .stopGo ∧ p.state = .serving
  · rw [State.lessHead_serving hserving, if_pos hserving]
    rfl
  · rw [State.lessHead_other hserving, if_neg hserving]
    rfl

/-- `x` is `e` but for the queue, the hold timer and the effective ceiling. -/
def Entrant.Requeued (x e : Entrant) : Prop :=
  x = { e with penalties := x.penalties, holdTimer := x.holdTimer, effective := x.effective }

theorem State.lessHead_requeued : (s.lessHead e p rest).Requeued e := by
  unfold State.lessHead
  split <;> rfl

theorem State.withHead_requeued : (s.withHead e q rest).Requeued e := by
  unfold State.withHead
  split <;> rfl

theorem Entrant.Requeued.trans {x y z : Entrant} (hxy : x.Requeued y) (hyz : y.Requeued z) : x.Requeued z := by
  unfold Entrant.Requeued at *
  rw [hyz] at hxy
  exact hxy

/-- Where a Serving stop-and-go does not end as another starts, the ceiling moves once at most: the two marks are
one (R160). -/
theorem State.mark_withHead_lessHead
    (hone : ¬((q.kind = .stopGo ∧ e.pitStatus = .box) ∧ (p.kind = .stopGo ∧ p.state = .serving))) :
    DirtyClass.mark (s.lessHead e p (q :: rest)).effective
        (s.withHead (s.lessHead e p (q :: rest)) q rest).effective
        (DirtyClass.mark e.effective (s.lessHead e p (q :: rest)).effective d) =
      DirtyClass.mark e.effective (s.withHead (s.lessHead e p (q :: rest)) q rest).effective d := by
  obtain ⟨-, -, hpit⟩ := State.lessHead_fields (s := s) (e := e) (p := p) (rest := q :: rest)
  by_cases hserving : p.kind = .stopGo ∧ p.state = .serving
  · have hbox : ¬(q.kind = .stopGo ∧ e.pitStatus = .box) := fun h => hone ⟨h, hserving⟩
    rw [State.withHead_other (hpit ▸ hbox)]
    exact DirtyClass.mark_same _ _
  · have hsame : (s.lessHead e p (q :: rest)).effective = e.effective := by
      rw [State.lessHead_other hserving]
      rfl
    rw [hsame, DirtyClass.mark_same]

end Record

/-! ### The judging of a WAIVE -/

section Waive
variable {s : State} {code which : Byte} {i : Slot}

theorem exec_waive_noEntrant (hi : s.named code = none) :
    exec (.waive code which) s = answered (s.refuse .noEntrant) := by
  show answered (s.waiveRequest code which) = _
  simp [State.waiveRequest, hi]

theorem exec_waive_badValue (hi : s.named code = some i) (h : 4 < which.toNat) :
    exec (.waive code which) s = answered (s.refuse .badValue) := by
  show answered (s.waiveRequest code which) = _
  simp [State.waiveRequest, hi, h]

/-- WAIVE of a queue position (R153). -/
theorem exec_waive_position (hi : s.named code = some i) (h : which.toNat ≤ 3) :
    exec (.waive code which) s = answered (if which.toNat < (s.entrant i).penalties.length
      then (s.waiveEntry i which.toNat).accept else s.refuse .noPenalty) := by
  show answered (s.waiveRequest code which) = _
  rw [State.waiveRequest, hi]
  dsimp only
  rw [if_neg (by omega), if_neg (by omega)]

/-- WAIVE of the power hold (R153). -/
theorem exec_waive_powerHold (hi : s.named code = some i) :
    exec (.waive code 4#8) s = answered (if (s.entrant i).powerHold.isSome
      then (s.setPowerHold i none).accept else s.refuse .noPenalty) := by
  show answered (s.waiveRequest code 4#8) = _
  rw [State.waiveRequest, hi]
  rfl

/-- WAIVE of the head (R153). -/
theorem exec_waive_head {p : PitPenalty} {rest : List PitPenalty} (hi : s.named code = some i)
    (hp : (s.entrant i).penalties = p :: rest) :
    exec (.waive code 0#8) s = answered ((s.withRecord i (s.lessHead (s.entrant i) p rest)
      (DirtyClass.mark (s.entrant i).effective (s.lessHead (s.entrant i) p rest).effective
        (s.dirtyOf i))).judgeHead i).accept := by
  have hlen : (0#8).toNat < (s.entrant i).penalties.length := by simp [hp]
  have hdrop : s.waiveEntry i (0#8).toNat = (s.dropHead i).judgeHead i := rfl
  rw [exec_waive_position hi (by decide), if_pos hlen, hdrop,
    State.dropHead_eq_withRecord (State.named_not_vacant hi) hp]

/-- What a request that rewrites one record, and its dirty class, leaves once answered OK. -/
structure State.RewroteRecord (s : State) (i : Slot) (e : Entrant) (d : DirtyClass) (t : State) : Prop where
  frame : t = { s with
    entrants := t.entrants, ceiling := { s.ceiling with dirty := t.ceiling.dirty }
    link := s.replied .okay, pins := t.pinsNow }
  others : ∀ j : Slot, j ≠ i → t.entrant j = s.entrant j
  self : t.entrant i = e
  ceilings : ∀ x : Entrant, t.effectiveFor x = s.effectiveFor x
  unmarked : ∀ j : Slot, j ≠ i → t.dirtyOf j = s.dirtyOf j
  dirty : t.dirtyOf i = d

theorem State.rewroteRecord_of_accept {c : Instr} {e : Entrant} {d : DirtyClass}
    (h : exec c s = answered (s.withRecord i e d).accept) :
    ∃ t, exec c s = .next t ∧ s.RewroteRecord i e d t := by
  refine ⟨_, State.next_of_accept h rfl rfl, rfl, ?_, ?_, fun _ => rfl, ?_, ?_⟩
  · exact fun j hj => s.withRecord_entrant_other e d hj
  · exact s.withRecord_entrant i e d
  · exact fun j hj => s.withRecord_dirtyOf_other e d hj
  · exact s.withRecord_dirtyOf i e d

/-- One mark by the move of the ceiling is what R160 makes of every class. -/
theorem State.RewroteRecord.markedFrom {e : Entrant} {d : DirtyClass} {t : State} (h : s.RewroteRecord i e d t)
    (hd : d = DirtyClass.mark (s.entrant i).effective e.effective (s.dirtyOf i)) : t.markedFrom s := by
  intro j
  by_cases hj : j = i
  · rw [hj, h.dirty, hd, h.self]
  · rw [h.unmarked j hj, h.others j hj, DirtyClass.mark_same]

end Waive

/-- Settles O35: by the position waived, and at the head by what ends and what starts with it. -/
theorem waiveRemovesOnePenalty : Obligations.WaiveRemovesOnePenalty := by
  refine ⟨?behind, ?last, ?next, ?powerHold, ?noEntrant, ?badValue, ?noPenalty⟩
  case behind =>
    intro code which i s hi ⟨hlow, hhigh⟩ hlen
    have hexec := exec_waive_position (which := which) hi hhigh
    rw [if_pos hlen, State.waiveEntry, if_neg (by omega)] at hexec
    refine ⟨_, State.next_of_accept hexec rfl rfl, rfl, fun j hj => ?_, ?_⟩
    · exact s.withEntrant_entrant_other (i := i)
        { s.entrant i with penalties := (s.entrant i).penalties.eraseIdx which.toNat } hj
    · exact s.withEntrant_entrant i
        { s.entrant i with penalties := (s.entrant i).penalties.eraseIdx which.toNat }
  case last =>
    intro code i p s hi hp
    have hexec := exec_waive_head hi hp
    obtain ⟨hnil, -, -⟩ := State.lessHead_fields (s := s) (e := s.entrant i) (p := p) (rest := [])
    rw [State.judgeHead_nil _ i (by rw [State.withRecord_entrant]; exact hnil)] at hexec
    obtain ⟨t, ht, hwaived⟩ := State.rewroteRecord_of_accept hexec
    refine ⟨t, ht, hwaived.frame, hwaived.others, ?_, hwaived.markedFrom rfl⟩
    rw [hwaived.ceilings, hwaived.self]
    split
    · next hserving => rw [State.lessHead_serving hserving]; rfl
    · next hserving => rw [State.lessHead_other hserving]; rfl
  case next =>
    intro code i p q rest s hi hp hpending
    have hexec := exec_waive_head hi hp
    obtain ⟨hqueue, hstate, hpit⟩ := State.lessHead_fields (s := s) (e := s.entrant i) (p := p) (rest := q :: rest)
    rw [State.withRecord_judgeHead (hstate ▸ State.named_not_vacant hi) hqueue hpending] at hexec
    obtain ⟨t, ht, hwaived⟩ := State.rewroteRecord_of_accept hexec
    refine ⟨t, ht, hwaived.frame, hwaived.others, ?queue, ?timer, ?record, ?ceiling, hwaived.unmarked, ?once, ?twice⟩
    case ceiling =>
      rw [hwaived.ceilings, hwaived.self]
      exact State.withHead_lessHead_effective hpending
    case queue => rw [hwaived.self, State.withHead_penalties, hpit]
    case timer =>
      rw [hwaived.self, State.withHead_holdTimer, hpit, State.lessHead_holdTimer]
      rfl
    case record =>
      rw [hwaived.self]
      exact State.withHead_requeued.trans State.lessHead_requeued
    case once => exact fun hone => hwaived.markedFrom (State.mark_withHead_lessHead hone)
    case twice =>
      rintro ⟨-, hserving⟩
      rw [hwaived.dirty, hwaived.self, State.lessHead_serving hserving]
      rfl
  case powerHold =>
    intro code i h s hi hhold
    have hv := State.named_not_vacant hi
    have hexec := exec_waive_powerHold hi
    rw [if_pos (by rw [hhold]; rfl), State.setPowerHold_rewritten none hv] at hexec
    obtain ⟨t, ht, hwaived⟩ := State.rewroteRecord_of_accept hexec
    refine ⟨t, ht, hwaived.frame, hwaived.others, ?_, hwaived.markedFrom rfl⟩
    rw [hwaived.ceilings, hwaived.self]
    rfl
  case noEntrant => exact fun code which s hi => State.refuses_of_answered (exec_waive_noEntrant hi)
  case badValue => exact fun code which i s hi h => State.refuses_of_answered (exec_waive_badValue hi h)
  case noPenalty =>
    intro code which i s hi h
    refine State.refuses_of_answered ?_
    rcases h with ⟨hhigh, hlen⟩ | ⟨rfl, hhold⟩
    · rw [exec_waive_position hi hhigh, if_neg (Nat.not_lt.mpr hlen)]
    · rw [exec_waive_powerHold hi, if_neg (by rw [hhold]; exact Bool.false_ne_true)]

end Sys2Proof.Machine
end

section
/-! SUPPORT. Section 9.2: where the part's operations write what ceilings are read from, and where they have them
recomputed, said once for every property of ceilings that the Ceiling Unit's own work keeps (R159, R160). -/

namespace Sys2Proof.Machine

/-! ### What ceilings are read from -/

/-- The records and the dirty classes. -/
def State.marked (s : State) : Vector Entrant 24 × Vector DirtyClass 24 := (s.entrants, s.ceiling.dirty)

/-- All that ceilings and their marks are, and all they are computed from (R157, R158). -/
def State.ceilingFields (s : State) :
    (Vector Entrant 24 × Vector DirtyClass 24) × RaceConfig × RaceState × Bool × (Nat → Bool) :=
  (s.marked, s.cfg, s.race.state, s.race.yellow, s.localCaution)

/-- What a record holds for the Penalty Unit, and its effective ceiling. -/
def Entrant.heldFields (e : Entrant) : Nat × List PitPenalty × Option RunTime := (e.effective, e.penalties, e.holdTimer)

/-- Beside that, what a record's limits are read from (R158). -/
def Entrant.limitFields (e : Entrant) :
    (Nat × List PitPenalty × Option RunTime) × EntrantState × Nat × PitStatus × Bool × Option PowerHold × Option Nat :=
  (e.heldFields, e.state, e.sector, e.pitStatus, e.blackFlag, e.powerHold, e.override)

/-- The slot and those of `due`. -/
def also (i : Slot) (due : Slot → Prop) : Slot → Prop := fun j => j = i ∨ due j

/-- What the other blocks have the Penalty Unit and the Call Unit do to an entrant. A missed head alone is called as an
escalation, within the work of its crossing (R147, R148). -/
inductive PenaltyWork : (State → Slot → State) → Prop where
  | call (c : CallClass) (r : Ruling) (h : c.escalates = false) : PenaltyWork fun s i => s.makeCall i c r
  | crossing (cautionLap : Bool) : PenaltyWork fun s i => s.penaltyCrossing i cautionLap
  | pitIn : PenaltyWork State.penaltyPitIn
  | boxArrival (t : RunTime) : PenaltyWork fun s i => s.penaltyBoxArrival i t
  | boxDeparture : PenaltyWork State.penaltyBoxDeparture
  | pitOut : PenaltyWork State.penaltyPitOut
  | served : PenaltyWork State.serveOut
  | waived (pos : Nat) : PenaltyWork fun s i => s.waiveEntry i pos
  | cleared : PenaltyWork State.clearPenalties
  | converted : PenaltyWork State.convertPenalties

/-- What the Ceiling Unit keeps, `P due s`, while the entrants in `due` are still to be recomputed: no change of other
fields touches it, a change of what a ceiling is read from makes the entrant due, and a recomputation settles it. -/
structure CeilingRules (P : (Slot → Prop) → State → Prop) : Prop where
  mono {due more : Slot → Prop} {s : State} : (∀ j, due j → more j) → P due s → P more s
  still {due : Slot → Prop} {s t : State} : P due s → t.ceilingFields = s.ceilingFields → P due t
  anew {due : Slot → Prop} {s t : State} : P due s → t.marked = s.marked → P (fun _ => True) t
  aside {due : Slot → Prop} {s : State} {i : Slot} {f : Entrant → Entrant} :
    s.entrant i ≠ Entrant.vacant ∨ f Entrant.vacant = Entrant.vacant → (∀ e, (f e).limitFields = e.limitFields) →
    P due s → P due (s.modEntrant i f)
  write {due : Slot → Prop} {s : State} {i : Slot} {f : Entrant → Entrant} :
    s.entrant i ≠ Entrant.vacant → (∀ e, e.state ≠ .vacant → (f e).state ≠ .vacant) →
    (∀ e, (f e).heldFields = e.heldFields) → P due s → P (also i due) (s.modEntrant i f)
  recompute {due : Slot → Prop} {s : State} {i : Slot} : P (also i due) s → P due (s.recompute i)
  recomputeAll {due less : Slot → Prop} {s : State} : P due s → P less s.recomputeAll
  penalty {due : Slot → Prop} {s : State} {i : Slot} {work : State → Slot → State} :
    PenaltyWork work → s.entrant i ≠ Entrant.vacant → P due s → P due (work s i)

theorem State.occupied {s : State} {i : Slot} (hi : (s.entrant i).state ≠ .vacant) : s.entrant i ≠ Entrant.vacant :=
  fun he => hi (by rw [he]; rfl)

theorem State.occupied_of_racing {s : State} {i : Slot} (hi : (s.entrant i).state = .racing) :
    s.entrant i ≠ Entrant.vacant := State.occupied (State.not_vacant_of_racing hi)

namespace CeilingRules

variable {P : (Slot → Prop) → State → Prop} {due : Slot → Prop} {s : State} {i : Slot}

/-! ### One entrant, and all of them -/

/-- A change of what an entrant's ceiling is read from, with the Ceiling Unit told. -/
theorem told (rules : CeilingRules P) {f : Entrant → Entrant} (hi : s.entrant i ≠ Entrant.vacant)
    (hstate : ∀ e, e.state ≠ .vacant → (f e).state ≠ .vacant) (hheld : ∀ e, (f e).heldFields = e.heldFields)
    (hs : P due s) : P due ((s.modEntrant i f).recompute i) :=
  rules.recompute (rules.write hi hstate hheld hs)

/-- The Ceiling Unit is told though nothing has changed. -/
theorem again (rules : CeilingRules P) (i : Slot) (hs : P due s) : P due (s.recompute i) :=
  rules.recompute (rules.mono (fun _ => .inr) hs)

/-- A change of the race or of the configuration, with the Ceiling Unit told. -/
theorem allTold (rules : CeilingRules P) {less : Slot → Prop} {t : State} (hs : P due s) (ht : t.marked = s.marked) :
    P less t.recomputeAll :=
  rules.recomputeAll (rules.anew hs ht)

theorem setPowerHold (rules : CeilingRules P) (x : Option PowerHold) (hi : s.entrant i ≠ Entrant.vacant)
    (hs : P due s) : P due (s.setPowerHold i x) :=
  rules.told hi (fun _ h => h) (fun _ => rfl) hs

theorem setBlackFlag (rules : CeilingRules P) (on : Bool) (hi : s.entrant i ≠ Entrant.vacant) (hs : P due s) :
    P due (s.setBlackFlag i on) :=
  rules.told hi (fun _ h => h) (fun _ => rfl) hs

theorem replace (rules : CeilingRules P) (i : Slot) (hs : P due s) : P due (s.replace i) := rules.still hs rfl

/-! ### The yellow flag and the Caution Map -/

theorem notice (rules : CeilingRules P) (concerns : Entrant → Bool) (hs : P due s) : P due (s.notice concerns) := by
  refine State.forSlots_induction (P due) _ (fun u i hu => ?_) s hs
  split
  · next h =>
    rw [Bool.and_eq_true, beq_iff_eq] at h
    exact rules.aside (.inl (State.occupied_of_racing h.1)) (fun _ => rfl) hu
  · exact hu

theorem setYellow (rules : CeilingRules P) (on : Bool) (hs : P due s) : P due (s.setYellow on) := by
  have flagged : P (fun _ => True) { s with race := { s.race with yellow := on } } := rules.anew hs rfl
  unfold State.setYellow
  split
  · exact hs
  · refine rules.recomputeAll (due := fun _ => True) ?_
    split
    · exact rules.notice _ flagged
    · exact flagged

/-- A change of one sector leaves the others out of local caution, or under it (R114). -/
theorem changeSector (rules : CeilingRules P) (k : Nat) (f : SectorCaution → SectorCaution) (hs : P due s) :
    P due (s.changeSector k f) := by
  by_cases hk : k < 4
  · obtain ⟨k, rfl⟩ : ∃ j : Fin 4, k = j.val := ⟨⟨k, hk⟩, rfl⟩
    have written : P (fun _ => True) (s.modSector k.val f) := rules.anew hs (by rw [State.modSector_eq]; rfl)
    unfold State.changeSector
    dsimp only
    split
    · next hsame =>
      refine rules.still hs ?_
      have hmap : (s.modSector k.val f).localCaution = s.localCaution := by
        funext n
        refine State.localCaution_forall.mpr (fun j => ?_) n
        by_cases hj : j = k
        · rw [hj, ← hsame]
        · rw [State.modSector_localCaution, if_neg hj]
      rw [State.ceilingFields, hmap, State.modSector_eq]
      rfl
    · refine rules.recomputeAll (due := fun _ => True) ?_
      split
      · exact rules.notice _ written
      · exact written
  · have hnone : s.changeSector k f = s := by
      simp [State.changeSector, State.modSector_beyond (by omega : 4 ≤ k)]
    rwa [hnone]

theorem dropHolder (rules : CeilingRules P) (i : Slot) (hs : P due s) : P due (s.dropHolder i) :=
  foldl_induction (P due) _ (fun _ k hu => rules.changeSector k _ hu) _ s hs

theorem release (rules : CeilingRules P) (hi : s.entrant i ≠ Entrant.vacant) (hs : P due s) : P due (s.release i) := by
  unfold State.release
  split
  · exact rules.dropHolder i (rules.aside (.inl hi) (fun _ => rfl) hs)
  · exact hs

theorem expireSighting (rules : CeilingRules P) (hi : s.entrant i ≠ Entrant.vacant) (hs : P due s) :
    P due (s.expireSighting i) := by
  have lost : P due (s.modEntrant i fun e => { e with deadline := none, overdue := true }) :=
    rules.aside (.inl hi) (fun _ => rfl) hs
  unfold State.expireSighting
  dsimp only
  split
  · exact rules.changeSector _ _ lost
  · exact lost

/-! ### Calls -/

theorem makeCall (rules : CeilingRules P) {c : CallClass} (r : Ruling) (hc : c.escalates = false)
    (hi : (s.entrant i).state ≠ .vacant) (hs : P due s) : P due (s.makeCall i c r) :=
  rules.penalty (work := fun s i => s.makeCall i c r) (.call c r hc) (State.occupied hi) hs

/-- A report comes to a call for a Racing entrant alone (R126). -/
theorem report (rules : CeilingRules P) {c : CallClass} (hc : c.escalates = false) (hs : P due s) :
    P due (s.report i c) := by
  rcases s.report_cases i c with ⟨r, hracing, -, h⟩ | ⟨-, h⟩ <;> rw [h]
  · exact rules.makeCall r hc (State.not_vacant_of_racing hracing) hs
  · exact hs

theorem reportAll (rules : CeilingRules P) {cs : List CallClass} (hcs : ∀ c ∈ cs, c.escalates = false)
    (hs : P due s) : P due (s.reportAll i cs) := by
  induction cs generalizing s with
  | nil => exact hs
  | cons c cs ih =>
    obtain ⟨hc, hcs⟩ := List.forall_mem_cons.mp hcs
    exact ih hcs (rules.report hc hs)

theorem countPress (rules : CeilingRules P) (n : StationNo) (hs : P due s) : P due (s.countPress n) := by
  unfold State.countPress
  split
  · exact hs
  dsimp only
  split
  · next i _ hracing =>
    have counted : P due (s.modEntrant i fun x => { x with callsUsed := min 15 (x.callsUsed + 1) }) :=
      rules.aside (.inl (State.occupied_of_racing hracing)) (fun _ => rfl) hs
    split
    · exact rules.report rfl counted
    · exact counted
  · exact hs

/-! ### The finish -/

theorem finishEntrant (rules : CeilingRules P) (st : FinishStatus) (t : RunTime)
    (hi : (s.entrant i).state ≠ .vacant) (hs : P due s) : P due (s.finishEntrant i st t) := by
  unfold State.finishEntrant
  refine rules.again i (rules.penalty .converted (State.occupied (by simp)) ?_)
  refine rules.release (State.occupied (by simp)) (rules.aside (.inl (State.occupied (by simp))) (fun _ => rfl) ?_)
  exact rules.told (State.occupied hi) (fun _ _ => nofun) (fun _ => rfl) hs

theorem finishAll (rules : CeilingRules P) (t : RunTime) (hs : P due s) : P due (s.finishAll t) := by
  refine State.forSlots_induction (P due) _ (fun u i hu => ?_) s hs
  split
  · next h => exact rules.finishEntrant _ t (State.not_vacant_of_racing h) hu
  · exact hu

theorem complete (rules : CeilingRules P) (hs : P due s) : P due s.complete := rules.allTold hs rfl

theorem checkFinished (rules : CeilingRules P) (hs : P due s) : P due s.checkFinished := by
  rcases s.checkFinished_cases with ⟨-, -, h⟩ | ⟨-, h⟩ <;> rw [h]
  · exact rules.complete hs
  · exact hs

theorem enterFinishing (rules : CeilingRules P) (hs : P due s) : P due s.enterFinishing :=
  rules.checkFinished (rules.allTold hs rfl)

theorem judgeCrossing (rules : CeilingRules P) (t : RunTime) (hi : (s.entrant i).state ≠ .vacant) (hs : P due s) :
    P due (s.judgeCrossing i t) := by
  have finished := rules.finishEntrant .flagged t hi hs
  unfold State.judgeCrossing
  split
  · split
    · exact rules.enterFinishing finished
    · exact hs
  · exact rules.checkFinished finished
  all_goals exact hs

theorem endRace (rules : CeilingRules P) (t : RunTime) (hs : P due s) : P due (s.endRace t) :=
  rules.complete (rules.finishAll t hs)

/-- An entrant that leaves the race is released (R50, R51). -/
theorem withdraw (rules : CeilingRules P) (hi : (s.entrant i).state ≠ .vacant) (hs : P due s) :
    P due (((s.modEntrant i fun e => { e with deadline := none }).release i).modEntrant i
      fun e => { e with jumpStart := false }) := by
  refine rules.aside (.inl (State.occupied (by simpa using hi))) (fun _ => rfl) ?_
  refine rules.release (State.occupied (by simpa using hi)) ?_
  exact rules.aside (.inl (State.occupied hi)) (fun _ => rfl) hs

theorem retireEntrant (rules : CeilingRules P) (hi : (s.entrant i).state ≠ .vacant) (hs : P due s) :
    P due (s.retireEntrant i) := by
  unfold State.retireEntrant
  refine rules.checkFinished (rules.again i (rules.penalty .cleared (State.occupied (by simp)) ?_))
  refine rules.withdraw (by simp) ?_
  exact rules.told (State.occupied hi) (fun _ _ => nofun) (fun _ => rfl) hs

theorem excludeEntrant (rules : CeilingRules P) (hi : (s.entrant i).state ≠ .vacant) (hs : P due s) :
    P due (s.excludeEntrant i) := by
  have excluded : P due ((s.modEntrant i fun e => { e with state := .excluded }).recompute i) :=
    rules.told (State.occupied hi) (fun _ _ => nofun) (fun _ => rfl) hs
  unfold State.excludeEntrant
  refine rules.checkFinished (rules.again i (rules.aside (.inl (State.occupied (by simp))) (fun _ => rfl) ?_))
  refine rules.setBlackFlag false (State.occupied (by simp)) (rules.penalty .cleared (State.occupied (by simp)) ?_)
  exact rules.withdraw (by simp) (rules.still excluded rfl)

/-! ### Green, suspension and resumption -/

theorem zeroLaps (rules : CeilingRules P) (hi : s.entrant i ≠ Entrant.vacant) (hs : P due s) :
    P due (s.zeroLaps i) := by
  unfold State.zeroLaps
  split
  · exact hs
  · exact rules.replace i (rules.aside (.inl hi) (fun _ => rfl) hs)

theorem firstDeadline (rules : CeilingRules P) (hi : s.entrant i ≠ Entrant.vacant) (hs : P due s) :
    P due (s.firstDeadline i) := by
  unfold State.firstDeadline
  split
  · exact rules.aside (.inl hi) (fun _ => rfl) hs
  · exact hs

theorem greenEntrant (rules : CeilingRules P) (hi : (s.entrant i).state ≠ .vacant) (hs : P due s) :
    P due (s.greenEntrant i) := by
  have racing : P due ((s.modEntrant i fun e => { e with state := .racing }).recompute i) :=
    rules.told (State.occupied hi) (fun _ _ => nofun) (fun _ => rfl) hs
  have started : P due (((((s.modEntrant i fun e => { e with state := .racing }).recompute i).zeroLaps i).modEntrant i
      fun e => { e with latestCrossing := none, prevCrossing := none, reachTime := none }).firstDeadline i) := by
    refine rules.firstDeadline (State.occupied (by simp)) ?_
    refine rules.aside (.inl (State.occupied (by simp))) (fun _ => rfl) ?_
    exact rules.zeroLaps (State.occupied (by simp)) racing
  unfold State.greenEntrant State.reportJumpStart
  dsimp only
  split
  · exact rules.aside (.inl (State.occupied (by simp))) (fun _ => rfl) (rules.report rfl started)
  · exact started

theorem green (rules : CeilingRules P) (hs : P due s) : P due s.green := by
  unfold State.green
  refine rules.recomputeAll (due := fun _ => True) ?_
  refine State.forSlots_induction (P fun _ => True) _ (fun u i hu => ?_) _ (rules.anew hs rfl)
  split
  · next h => exact rules.greenEntrant (by simp [h]) hu
  · exact hu

theorem stepCountdown (rules : CeilingRules P) (c : Countdown) (hs : P due s) : P due (s.stepCountdown c) := by
  unfold State.stepCountdown
  split
  · exact rules.green hs
  split
  · exact rules.still hs rfl
  split
  · exact rules.green hs
  · exact rules.still hs rfl

theorem abortStart (rules : CeilingRules P) (why : Reason) (hs : P due s) : P due (s.abortStart why) := by
  have dropped {u : State} (hu : P (fun _ => True) u) : P (fun _ => True) u.dropJumpStarts :=
    State.forSlots_induction (P fun _ => True) (fun u i => u.modEntrant i fun e => { e with jumpStart := false })
      (fun _ _ hu => rules.aside (.inr rfl) (fun _ => rfl) hu) u hu
  unfold State.abortStart
  exact rules.recomputeAll (dropped (rules.anew hs rfl))

theorem suspensionCause (rules : CeilingRules P) (why : Reason) (hs : P due s) : P due (s.suspensionCause why) := by
  rcases s.suspensionCause_cases why with ⟨-, h⟩ | ⟨-, h⟩ | ⟨-, h⟩ | ⟨-, h⟩ <;> rw [h]
  · exact rules.allTold hs rfl
  · exact rules.allTold hs rfl
  · exact rules.abortStart why hs
  · exact hs

theorem resumeRace (rules : CeilingRules P) (yellow : Bool) (hs : P due s) : P due (s.resumeRace yellow) := by
  unfold State.resumeRace
  exact rules.checkFinished (rules.recomputeAll (rules.setYellow yellow (rules.anew hs rfl)))

theorem callAction (rules : CeilingRules P) (hs : P due s) : P due s.callAction := by
  unfold State.callAction
  split
  · exact hs
  · exact rules.setYellow true hs
  · exact rules.suspensionCause _ hs

/-! ### Laps -/

theorem launch (rules : CeilingRules P) (t : RunTime) (hi : s.entrant i ≠ Entrant.vacant) (hs : P due s) :
    P due (s.launch i t) :=
  rules.replace i (rules.told hi (fun _ h => h) (fun _ => rfl) hs)

theorem measure (rules : CeilingRules P) (n : Nat) (t : RunTime) (hi : s.entrant i ≠ Entrant.vacant) (hs : P due s) :
    P due (s.measure i n t) := by
  unfold State.measure
  split
  · exact rules.aside (.inl hi) (fun _ => rfl) (rules.still hs rfl)
  · exact rules.aside (.inl hi) (fun _ => rfl) hs

theorem credit (rules : CeilingRules P) (l t : RunTime) (assigned : Bool) (hi : (s.entrant i).state ≠ .vacant)
    (hs : P due s) : P due (s.credit i l t assigned) := by
  have credited : P due ((s.modEntrant i fun e => e.credited s.cfg t (t - l) assigned s.lineCaution).recompute i) :=
    rules.told (State.occupied hi) (fun _ h => h) (fun _ => rfl) hs
  have hstate :
      ((s.modEntrant i fun e => e.credited s.cfg t (t - l) assigned s.lineCaution).entrant i).state ≠ .vacant := by
    simpa [Entrant.credited] using hi
  unfold State.credit
  refine rules.judgeCrossing t (by simpa using hstate) ?_
  refine rules.penalty (.crossing _) (State.occupied (by simpa using hstate)) (rules.replace i ?_)
  exact rules.measure _ t (State.occupied (by simpa using hstate)) credited

theorem boundary (rules : CeilingRules P) (b : Nat) (t : RunTime) (hi : s.entrant i ≠ Entrant.vacant) (hs : P due s) :
    P due (s.boundary i b t) := by
  unfold State.boundary
  dsimp only
  split
  · exact rules.told hi (fun _ h => h) (fun _ => rfl) hs
  · exact hs

theorem lapStep (rules : CeilingRules P) (p : Pass) (hi : (s.entrant i).state ≠ .vacant) (hs : P due s) :
    P due (s.lapStep i p) := by
  unfold State.lapStep
  split
  · next t _ _ =>
    rcases s.crossing_cases i t with ⟨-, h⟩ | ⟨l, -, -, h⟩ | ⟨l, -, -, h⟩ <;> rw [h]
    · exact rules.launch t (State.occupied hi) hs
    · exact hs
    · exact rules.credit l t false hi hs
  · exact rules.boundary _ _ (State.occupied hi) hs
  · exact hs

theorem lateLap (rules : CeilingRules P) (a : RunTime) (o : LateOutcome) (hi : (s.entrant i).state ≠ .vacant)
    (hs : P due s) : P due (s.lateLap i a o) := by
  cases o with
  | launch => exact rules.launch a (State.occupied hi) hs
  | credit l => exact rules.credit l a true hi hs
  | split p l => exact rules.replace i (rules.aside (.inl (State.occupied hi)) (fun _ => rfl) hs)
  | duplicate | tooOld => exact hs

/-! ### Lane and pit status -/

theorem setLane (rules : CeilingRules P) (lane : Option Nat) (hi : s.entrant i ≠ Entrant.vacant) (hs : P due s) :
    P due (s.setLane i lane) :=
  rules.aside (.inl hi) (fun _ => rfl) hs

theorem setPitStatus (rules : CeilingRules P) (p : PitStatus) (hi : s.entrant i ≠ Entrant.vacant) (hs : P due s) :
    P due (s.setPitStatus i p) :=
  rules.told hi (fun _ h => h) (fun _ => rfl) hs

theorem leaveBox (rules : CeilingRules P) (tr : Treatment) (hi : (s.entrant i).state ≠ .vacant) (hs : P due s) :
    P due (s.leaveBox tr i) := by
  have left := rules.setPitStatus .pitLane (State.occupied hi) hs
  unfold State.leaveBox
  split
  · dsimp only
    split
    · exact rules.penalty .boxDeparture (State.occupied (by simpa using hi)) left
    · exact left
  · exact hs

theorem endPitVisit (rules : CeilingRules P) (tr : Treatment) (hi : (s.entrant i).state ≠ .vacant) (hs : P due s) :
    P due (s.endPitVisit tr i) := by
  have left := rules.leaveBox tr hi hs
  unfold State.endPitVisit
  dsimp only
  split
  · exact rules.setPitStatus _ (State.occupied (by simpa using hi)) left
  · exact left

theorem pitInPass (rules : CeilingRules P) (tr : Treatment) (p : Pass) (hi : (s.entrant i).state ≠ .vacant)
    (hs : P due s) : P due (s.pitInPass tr i p) := by
  have inLane : P due ((s.modEntrant i fun e =>
      { e with
        lane := some 6, pitEntry := p.running, boxArrival := none
        boxVisited := false }).setPitStatus i .pitLane) :=
    rules.setPitStatus _ (State.occupied (by simpa using hi))
      (rules.aside (.inl (State.occupied hi)) (fun _ => rfl) hs)
  unfold State.pitInPass
  dsimp only
  split
  · exact rules.penalty .pitIn (State.occupied (by simpa using hi)) inLane
  · exact inLane

theorem pitLanePass (rules : CeilingRules P) (hi : (s.entrant i).state ≠ .vacant) (hs : P due s) :
    P due (s.pitLanePass i) := by
  have laned := rules.setLane (some 6) (State.occupied hi) hs
  unfold State.pitLanePass
  dsimp only
  split
  · refine rules.setPitStatus _ (State.occupied (by simpa using hi)) ?_
    exact rules.aside (.inl (State.occupied (by simpa using hi))) (fun _ => rfl) laned
  · exact laned

theorem pitOutPass (rules : CeilingRules P) (tr : Treatment) (p : Pass) (hi : (s.entrant i).state ≠ .vacant)
    (hs : P due s) : P due (s.pitOutPass tr i p).1 := by
  have onTrack : P due (((s.leaveBox tr i).setLane i none).setPitStatus i .track) :=
    rules.setPitStatus _ (State.occupied (by simpa using hi))
      (rules.setLane none (State.occupied (by simpa using hi)) (rules.leaveBox tr hi hs))
  have counted : P due ((((s.leaveBox tr i).setLane i none).setPitStatus i .track).countPitStop i) := by
    unfold State.countPitStop
    split
    · exact rules.aside (.inl (State.occupied (by simpa using hi))) (fun _ => rfl) onTrack
    · exact onTrack
  unfold State.pitOutPass
  dsimp only
  split
  · exact rules.penalty .pitOut (State.occupied (by simpa using hi)) counted
  · exact onTrack

theorem passEffects (rules : CeilingRules P) (tr : Treatment) (p : Pass) (hi : (s.entrant i).state ≠ .vacant)
    (hs : P due s) : P due (s.passEffects tr i p).1 := by
  have onLane : P due ((s.endPitVisit tr i).setLane i p.lane) :=
    rules.setLane _ (State.occupied (by simpa using hi)) (rules.endPitVisit tr hi hs)
  unfold State.passEffects
  split
  · exact hs
  · split
    · exact rules.pitLanePass hi hs
    · exact onLane
  · exact onLane
  · exact onLane
  · exact rules.pitInPass tr p hi hs
  · exact rules.pitLanePass hi hs
  · exact rules.pitOutPass tr p hi hs

/-! ### Passes and box reports -/

theorem noteSeen (rules : CeilingRules P) (t : Option RunTime) (hi : s.entrant i ≠ Entrant.vacant) (hs : P due s) :
    P due (s.noteSeen i t) := by
  unfold State.noteSeen
  split
  · exact rules.aside (.inl hi) (fun _ => rfl) hs
  · exact hs

theorem moveDeadline (rules : CeilingRules P) (t : Option RunTime) (hi : s.entrant i ≠ Entrant.vacant) (hs : P due s) :
    P due (s.moveDeadline i t) := by
  unfold State.moveDeadline
  split
  · exact rules.aside (.inl hi) (fun _ => rfl) hs
  split
  · split
    · exact hs
    · exact rules.aside (.inl hi) (fun _ => rfl) hs
  · exact hs

theorem seen (rules : CeilingRules P) (t : Option RunTime) (hi : (s.entrant i).state ≠ .vacant) (hs : P due s) :
    P due ((s.release i).noteSeen i t) :=
  rules.noteSeen t (State.occupied (by simpa using hi)) (rules.release (State.occupied hi) hs)

theorem scoredPass (rules : CeilingRules P) (tr : Treatment) (p : Pass) (hi : (s.entrant i).state ≠ .vacant)
    (hs : P due s) : P due (s.scoredPass tr i p) := by
  unfold State.scoredPass
  refine rules.reportAll (fun c hc => ?_) (rules.moveDeadline _ (State.occupied (by simpa using hi))
    (rules.passEffects tr p (by simpa using hi) (rules.seen p.running hi hs)))
  rcases List.mem_append.mp hc with hc | hc
  · exact State.passEffects_escalates _ tr i p c hc
  · split at hc
    · rw [List.mem_singleton.mp hc]; rfl
    · exact absurd hc List.not_mem_nil

theorem positionPass (rules : CeilingRules P) (p : Pass) (hi : (s.entrant i).state ≠ .vacant) (hs : P due s) :
    P due (s.positionPass i p) := by
  have placed := rules.passEffects .position p hi hs
  unfold State.positionPass
  dsimp only
  split
  · exact rules.aside (.inl (State.occupied (by simpa using hi))) (fun _ => rfl) placed
  · exact placed

theorem deliver (rules : CeilingRules P) (p : Pass) (hi : (s.entrant i).state ≠ .vacant) (hs : P due s) :
    P due (s.deliver i p) := by
  rcases s.deliver_cases i p with ⟨-, h⟩ | ⟨-, h⟩ | ⟨-, h⟩ | ⟨-, h⟩ <;> rw [h]
  · exact hs
  · exact rules.positionPass p hi hs
  · exact rules.scoredPass _ p hi hs
  · exact rules.lapStep p (by simpa using hi) (rules.scoredPass _ p hi hs)

theorem deliverLate (rules : CeilingRules P) (p : Pass) (a : RunTime) (o : LateOutcome)
    (hi : (s.entrant i).state ≠ .vacant) (hs : P due s) : P due (s.deliverLate i p a o) := by
  rw [State.deliverLate_eq]
  split
  · exact rules.lateLap a o hi hs
  · exact rules.lateLap a o (by simpa using hi) (rules.scoredPass _ p hi hs)

theorem route (rules : CeilingRules P) (p : Pass) (hs : P due s) : P due (s.route p) := by
  unfold State.route
  split
  · exact rules.still hs rfl
  split
  · next h => exact rules.deliver p (State.slotOfCode_some h).1 hs
  · exact rules.still hs rfl

theorem takeTally (rules : CeilingRules P) (g : GateNo) (b : Tally) (hs : P due s) : P due (s.takeTally g b) :=
  foldl_induction (P due) State.route (fun _ p hu => rules.route p hu) _ s hs

theorem arriveInBox (rules : CeilingRules P) (tr : Treatment) (t : Option RunTime) (hi : (s.entrant i).state ≠ .vacant)
    (hs : P due s) : P due (s.arriveInBox tr i t) := by
  have inBox : P due ((s.modEntrant i fun e =>
      { e with
        lane := some 6, boxArrival := t, boxVisited := true
        pitEntry := if e.pitStatus = .track then none else e.pitEntry }).setPitStatus i .box) :=
    rules.setPitStatus _ (State.occupied (by simpa using hi))
      (rules.aside (.inl (State.occupied hi)) (fun _ => rfl) hs)
  unfold State.arriveInBox
  dsimp only
  split
  · exact rules.penalty (.boxArrival _) (State.occupied (by simpa using hi)) inBox
  · exact inBox

theorem deliverBox (rules : CeilingRules P) (ar : Bool) (t : Option RunTime) (hi : (s.entrant i).state ≠ .vacant)
    (hs : P due s) : P due (s.deliverBox ar i t) := by
  have act {u : State} (tr : Treatment) (hui : (u.entrant i).state ≠ .vacant) (hu : P due u) :
      P due (if ar then u.arriveInBox tr i t else u.leaveBox tr i) := by
    split
    · exact rules.arriveInBox tr t hui hu
    · exact rules.leaveBox tr hui hu
  have moved (tr : Treatment) : P due (State.moveDeadline (if ar then ((s.release i).noteSeen i t).arriveInBox tr i t
      else ((s.release i).noteSeen i t).leaveBox tr i) i t) := by
    refine rules.moveDeadline t (State.occupied ?_) (act tr (by simpa using hi) (rules.seen t hi hs))
    split <;> simpa using hi
  unfold State.deliverBox
  dsimp only
  split
  · exact hs
  · exact act _ hi hs
  · exact moved _
  · exact moved _

theorem reportBox (rules : CeilingRules P) (ar : Bool) (g : GateNo) (code : Nat) (t : RawTime) (hs : P due s) :
    P due (s.reportBox ar g code t) := by
  unfold State.reportBox State.boxReport
  split
  · exact hs
  split
  · next h => exact rules.deliverBox ar _ (State.slotOfCode_some h).1 hs
  · exact hs

/-! ### Bursts -/

theorem departures (rules : CeilingRules P) (g : GateNo) (b : Tally) (hs : P due s) : P due (s.departures g b) :=
  foldl_induction (P due) _ (fun _ e hu => rules.reportBox false g e.code b.last hu) _ s hs

theorem frameEvent (rules : CeilingRules P) (g : GateNo) (frame : Option Nat) (hs : P due s) :
    P due (s.frameEvent g frame) := by
  unfold State.frameEvent
  dsimp only
  split
  · split
    · exact rules.reportBox true g _ _ (rules.still hs rfl)
    · exact rules.still hs rfl
  · exact rules.still hs rfl

theorem closeBurst (rules : CeilingRules P) (g : GateNo) (b : Tally) (hs : P due s) : P due (s.closeBurst g b) := by
  have closed : P due (s.modDecoder g fun d => { d with burst := none }) := rules.still hs rfl
  unfold State.closeBurst
  dsimp only
  split
  · split
    · exact rules.still closed rfl
    · exact closed
  · refine rules.takeTally g b ?_
    split
    · exact rules.departures g b closed
    · exact closed

theorem closeOpen (rules : CeilingRules P) (g : GateNo) (hs : P due s) : P due (s.closeOpen g) := by
  unfold State.closeOpen
  split
  · exact rules.closeBurst g _ hs
  · exact hs

theorem discardBurst (rules : CeilingRules P) (g : GateNo) (hs : P due s) : P due (s.discardBurst g) := by
  have closed : P due (s.modDecoder g fun d => { d with burst := none }) := rules.still hs rfl
  unfold State.discardBurst
  split
  · dsimp only
    split
    · exact rules.departures g _ closed
    · exact closed
  · exact hs

theorem startTest (rules : CeilingRules P) (hs : P due s) : P due s.startTest := by
  have begun (u : State) (g : GateNo) (hu : P due u) : P due (u.beginTest g) := by
    refine rules.still (s := if (u.gate g).entry.kind = .unused then u else u.discardBurst g) ?_ rfl
    split
    · exact hu
    · exact rules.discardBurst g hu
  have watched {u : State} (hu : P due u) : P due u.testFromNow.watchBlind := rules.still hu rfl
  rw [State.startTest_eq]
  exact watched (State.forSlots_induction (P due) State.beginTest begun s hs)

end CeilingRules

end Sys2Proof.Machine
end

section
/-! SUPPORT. Section 9.2: the commands that change ceilings and their marks by the rules of recomputation alone. -/

namespace Sys2Proof.Machine

/-- The commands that write a record or a dirty class otherwise: an entrant comes or goes, a reset, and the ceiling
link's own frame and refresh; and the check byte of a frame, which may be one of them. -/
def marksOtherwise : Instr → Bool
  | .enter .. | .retire _ | .resetRace | .powerUp .. | .resetPin .. | .resetPartReboot .. => true
  | .ceilingFrameStart | .ceilingRefresh | .commandFrame _ => true
  | _ => false

/-- A power hold that expires is lifted and marked as served, whoever held it (R150). -/
theorem State.setPowerHold_served (s : State) (i : Slot) : (s.setPowerHold i none).markActivity i
    = (s.modEntrant i fun e => { e with activity := true, powerHold := none }).recompute i := by
  rw [State.setPowerHold]
  by_cases hv : (s.entrant i).state = .vacant
  · simp [State.markActivity, State.recompute, hv, State.modEntrant_modEntrant]
  · rw [State.recompute_markActivity (by simpa using hv), State.markActivity, State.modEntrant_modEntrant]

theorem State.occupied_of_powerHoldDue {s : State} {i : Slot} (h : s.powerHoldDue i = true) :
    s.entrant i ≠ Entrant.vacant := by
  intro hv
  simp [State.powerHoldDue, hv, Entrant.vacant] at h

theorem State.occupied_of_holdTimerDue {s : State} {i : Slot} (h : s.holdTimerDue i = true) :
    s.entrant i ≠ Entrant.vacant := by
  intro hv
  simp [State.holdTimerDue, hv, Entrant.vacant] at h

theorem State.racing_of_sightingDue {s : State} {i : Slot} (h : s.sightingDue i = true) :
    (s.entrant i).state = .racing := by
  simp only [State.sightingDue, Bool.and_eq_true, beq_iff_eq] at h
  exact h.1.2

namespace CeilingRules

variable {P : (Slot → Prop) → State → Prop} {due : Slot → Prop} {s : State}

/-! ### The requests -/

/-- A change of records that the Ceiling Unit's work keeps, and that leaves an entrant one. -/
theorem amendItems (rules : CeilingRules P) {i : Slot} (items : Byte) (d : Int) (v : Option Nat)
    (st : Option StationNo) (hi : (s.entrant i).state ≠ .vacant) (hs : P due s) :
    P due (s.amendItems i items d v st) := by
  let Q (u : State) : Prop := P due u ∧ (u.entrant i).state ≠ .vacant
  have laps {u : State} : Q u → Q (u.amendLaps i d) := by
    intro ⟨hu, hv⟩
    unfold State.amendLaps
    dsimp only
    split
    · exact ⟨hu, hv⟩
    · exact ⟨rules.replace i (rules.aside (.inl (State.occupied hv)) (fun _ => rfl) hu), by simpa using hv⟩
  have override {u : State} : Q u → Q (u.amendOverride i v) := fun ⟨hu, hv⟩ =>
    ⟨rules.told (State.occupied hv) (fun _ h => h) (fun _ => rfl) hu, by simpa [State.amendOverride] using hv⟩
  have station {u : State} : Q u → Q (u.amendStation i st) := fun ⟨hu, hv⟩ =>
    ⟨rules.aside (.inl (State.occupied hv)) (fun _ => rfl) hu, by simpa [State.amendStation] using hv⟩
  have flag {u : State} : Q u → Q (u.amendBlackFlag i) := by
    intro ⟨hu, hv⟩
    unfold State.amendBlackFlag
    split
    · exact ⟨rules.setBlackFlag _ (State.occupied hv) hu, by simpa using hv⟩
    · exact ⟨hu, hv⟩
  have calls {u : State} : Q u → Q (u.resetCalls i) := fun ⟨hu, hv⟩ =>
    ⟨rules.aside (.inl (State.occupied hv)) (fun _ => rfl) hu, by simpa [State.resetCalls] using hv⟩
  have given (b : Bool) {u t : State} (h : Q u → Q t) (hu : Q u) : Q (if b then t else u) := by
    split
    · exact h hu
    · exact hu
  unfold State.amendItems
  exact (given _ calls (given _ flag (given _ station (given _ override (given _ laps ⟨hs, hi⟩))))).1

theorem amendRequest (rules : CeilingRules P) (code items : Byte) (delta : Word16) (override station : Byte)
    (hs : P due s) : P due (s.amendRequest code items delta override station).1 := by
  unfold State.amendRequest
  split
  · exact hs
  next hi =>
    split
    · exact hs
    split
    · exact hs
    split
    · exact hs
    refine iteInduction (motive := fun r : State × Answer => P due r.1) (fun _ => hs) fun _ => ?_
    rw [State.accept_fst]
    exact rules.amendItems _ _ _ _ (State.named_not_vacant hi) hs

theorem excludeRequest (rules : CeilingRules P) (code : Byte) (hs : P due s) : P due (s.excludeRequest code).1 := by
  unfold State.excludeRequest
  split
  · exact hs
  next hi =>
    split
    · exact hs
    · rw [State.accept_fst]; exact rules.excludeEntrant (State.named_not_vacant hi) hs

theorem callRequest (rules : CeilingRules P) (code kind hold deadline conversion level duration laps : Byte)
    (hs : P due s) : P due (s.callRequest code kind hold deadline conversion level duration laps).1 := by
  unfold State.callRequest
  split
  · exact hs
  split
  · exact hs
  next hi =>
    split
    · exact hs
    · exact hs
    split
    · exact hs
    · exact hs
    split
    · rw [State.accept_fst]; exact rules.makeCall _ rfl (State.named_not_vacant hi) hs
    · exact hs

theorem waiveRequest (rules : CeilingRules P) (code which : Byte) (hs : P due s) :
    P due (s.waiveRequest code which).1 := by
  unfold State.waiveRequest
  split
  · exact hs
  next hi =>
    have hv := State.occupied (State.named_not_vacant hi)
    split
    · exact hs
    split
    · split
      · rw [State.accept_fst]; exact rules.setPowerHold none hv hs
      · exact hs
    split
    · rw [State.accept_fst]; exact rules.penalty (.waived _) hv hs
    · exact hs

theorem assignRequest (rules : CeilingRules P) (tag code : Byte) (hs : P due s) :
    P due (s.assignRequest tag code).1 := by
  unfold State.assignRequest
  split
  · exact hs
  split
  · exact hs
  next i hi =>
    have hv := State.named_not_vacant hi
    split
    · exact hs
    split
    · exact hs
    split
    · unfold State.assignLate
      split
      · exact hs
      · exact hs
      all_goals exact rules.still (rules.deliverLate _ _ _ hv hs) rfl
    · exact rules.still (rules.deliver _ hv hs) rfl

theorem configGateRequest (rules : CeilingRules P) (gate kind lane boundary sector : Byte) (offset : Word16)
    (hs : P due s) : P due (s.configGateRequest gate kind lane boundary sector offset).1 := by
  unfold State.configGateRequest
  split
  · exact hs
  split
  · split
    · exact hs
    split
    · exact hs
    · exact rules.still (rules.discardBurst _ hs) rfl
  · exact hs

theorem configRaceRequest (rules : CeilingRules P) (w : RaceWords) (hs : P due s) :
    P due (s.configRaceRequest w).1 := by
  unfold State.configRaceRequest
  split
  · exact hs
  split
  · exact hs
  · rw [State.accept_fst]; exact rules.allTold hs rfl

theorem selfTestRequest (rules : CeilingRules P) (hs : P due s) : P due s.selfTestRequest.1 := by
  unfold State.selfTestRequest
  split
  · exact hs
  · rw [State.accept_fst]; exact rules.startTest hs

theorem stageRequest (rules : CeilingRules P) (hs : P due s) : P due s.stageRequest.1 := by
  unfold State.stageRequest
  split
  · exact hs
  split
  · rw [State.accept_fst]; exact rules.allTold hs rfl
  · exact hs

theorem startRequest (rules : CeilingRules P) (delay : Word16) (hs : P due s) : P due (s.startRequest delay).1 := by
  unfold State.startRequest
  split
  · exact hs
  split
  · exact hs
  split
  · exact hs
  · rw [State.accept_fst]; exact rules.allTold hs rfl

theorem yellowRequest (rules : CeilingRules P) (value : Byte) (hs : P due s) : P due (s.yellowRequest value).1 := by
  unfold State.yellowRequest
  split
  · exact hs
  split
  · exact hs
  · rw [State.accept_fst]; exact rules.setYellow _ hs

theorem zoneRequest (rules : CeilingRules P) (sector value : Byte) (hs : P due s) :
    P due (s.zoneRequest sector value).1 := by
  unfold State.zoneRequest
  split
  · exact hs
  split
  · exact hs
  split
  · exact hs
  · rw [State.accept_fst]; exact rules.changeSector _ _ hs

theorem suspendRequest (rules : CeilingRules P) (hs : P due s) : P due s.suspendRequest.1 := by
  unfold State.suspendRequest
  split
  · rw [State.accept_fst]; exact rules.suspensionCause _ hs
  · exact hs

theorem resumeRequest (rules : CeilingRules P) (yellow : Byte) (hs : P due s) : P due (s.resumeRequest yellow).1 := by
  unfold State.resumeRequest
  split
  · exact hs
  split
  · exact hs
  split
  · exact hs
  · rw [State.accept_fst]; exact rules.resumeRace _ hs

theorem endRequest (rules : CeilingRules P) (hs : P due s) : P due s.endRequest.1 := by
  unfold State.endRequest
  split
  · rw [State.accept_fst]; exact rules.endRace _ hs
  · exact hs

theorem readActivityRequest (rules : CeilingRules P) (hs : P due s) : P due s.readActivityRequest.1 :=
  State.forSlots_induction (P due) (fun u i => u.modEntrant i fun e => { e with activity := false })
    (fun _ _ hu => rules.aside (.inr rfl) (fun _ => rfl) hu) s hs

/-! ### The commands -/

/-- A command that ends in `u` leaves the ceilings as they are in `u`. -/
theorem done (rules : CeilingRules P) {u : State} (hu : P due u) : ∃ t, u.done = .next t ∧ P due t :=
  ⟨_, rfl, rules.still hu rfl⟩

/-- The same for an event that comes only where its condition holds. -/
theorem ite_done (rules : CeilingRules P) {u : State} {p : Prop} [Decidable p] (hs : P due s) (hu : p → P due u) :
    ∃ t, (if p then u.done else s.done) = .next t ∧ P due t := by
  split
  · next h => exact rules.done (hu h)
  · exact rules.done hs

theorem answered (rules : CeilingRules P) {r : State × Answer} (hr : P due r.1) :
    ∃ t, answered r = .next t ∧ P due t :=
  ⟨_, rfl, rules.still hr rfl⟩

/-- A press is latched, and in a race its call action and its count follow (R133, R168, R170). -/
theorem stationPress (rules : CeilingRules P) (n : StationNo) (hs : P due s) :
    ∃ t, execStationPress n s = .next t ∧ P due t := by
  unfold execStationPress
  split
  · exact rules.done (rules.still hs rfl)
  dsimp only
  split
  · exact rules.done (rules.countPress n (rules.callAction (rules.still hs rfl)))
  · exact rules.done (rules.still hs rfl)

theorem returnByte (rules : CeilingRules P) (b : Byte) (hs : P due s) : P due (s.returnByte b) := by
  unfold State.returnByte
  (repeat' split) <;> exact rules.still hs rfl

/-- Every other command keeps what the Ceiling Unit keeps. -/
theorem command (rules : CeilingRules P) {c : Instr} (hc : marksOtherwise c = false) (hs : P due s) :
    ∃ t, exec c s = .next t ∧ P due t := by
  cases c
  case configGate => exact rules.answered (rules.configGateRequest _ _ _ _ _ _ hs)
  case configRace => exact rules.answered (rules.configRaceRequest _ hs)
  case selfTest => exact rules.answered (rules.selfTestRequest hs)
  case amend => exact rules.answered (rules.amendRequest _ _ _ _ _ hs)
  case exclude => exact rules.answered (rules.excludeRequest _ hs)
  case call => exact rules.answered (rules.callRequest _ _ _ _ _ _ _ _ hs)
  case waive => exact rules.answered (rules.waiveRequest _ _ hs)
  case assign => exact rules.answered (rules.assignRequest _ _ hs)
  case stage => exact rules.answered (rules.stageRequest hs)
  case start => exact rules.answered (rules.startRequest _ hs)
  case yellow => exact rules.answered (rules.yellowRequest _ hs)
  case zone => exact rules.answered (rules.zoneRequest _ _ hs)
  case suspend => exact rules.answered (rules.suspendRequest hs)
  case resume => exact rules.answered (rules.resumeRequest _ hs)
  case endRace => exact rules.answered (rules.endRequest hs)
  case readPenaltyActivity => exact rules.answered (rules.readActivityRequest hs)
  case status | resetPart | setMask | ackStations => exact rules.answered (rules.still hs rfl)
  case configCall | power | lookup | lookupSlot | standings | readAttention | readPasses | discard =>
    refine rules.answered ?_
    simp only [State.configCallRequest, State.powerRequest, State.lookupRequest, State.lookupSlotRequest,
      State.standingsRequest, State.readAttentionRequest, State.readPassesRequest, State.discardRequest]
    (repeat' split) <;> exact rules.still hs rfl
  case beaconFrame => exact rules.ite_done hs fun _ => rules.frameEvent _ _ (rules.still hs rfl)
  case gateBlind => exact rules.ite_done hs fun _ => rules.closeOpen _ (rules.still hs rfl)
  case burstGapExpiry => exact rules.ite_done hs fun _ => rules.closeOpen _ hs
  case sightingDeadlineExpiry =>
    exact rules.ite_done hs fun h =>
      rules.expireSighting (State.occupied_of_racing (State.racing_of_sightingDue h)) hs
  case timeTargetReached => exact rules.ite_done hs fun _ => rules.enterFinishing hs
  case runningClockCap => exact rules.ite_done hs fun _ => rules.endRace _ hs
  case stopGoHoldExpiry =>
    exact rules.ite_done hs fun h => rules.penalty .served (State.occupied_of_holdTimerDue h) hs
  case powerHoldExpiry =>
    refine rules.ite_done hs fun h => ?_
    rw [State.setPowerHold_served]
    exact rules.told (State.occupied_of_powerHoldDue h) (fun _ h => h) (fun _ => rfl) hs
  case linkHoldExpiry =>
    have absent : P due { s with ceiling := { s.ceiling with holdStart := none } } := rules.still hs rfl
    exact rules.ite_done hs fun _ => rules.suspensionCause _ absent
  case rxGapTimeout | rxByteError | commandByte | gateUnblind | blindedSummaryEdge =>
    exact rules.ite_done hs fun _ => rules.still hs rfl
  case selfTestEnd =>
    have ended : s.endTest.ceilingFields = s.ceilingFields := by
      have hmap : s.endTest.localCaution = s.localCaution := by funext k; simp [State.localCaution]
      simp [State.ceilingFields, State.marked, hmap]
    exact rules.ite_done hs fun _ => rules.still hs ended
  case stationPress n => exact rules.stationPress n hs
  case pauseByte | resumingByte => exact rules.done (rules.returnByte _ hs)
  case returnByteError => exact rules.done hs
  case burstDwellExpiry =>
    simp only [exec, execBurstDwellExpiry]
    split
    · exact rules.done (rules.closeBurst _ _ hs)
    · exact rules.done hs
  case countdownStep =>
    simp only [exec, execCountdownStep]
    split
    · exact rules.done (rules.stepCountdown _ hs)
    · exact rules.done hs
  case finishWindowExpiry =>
    simp only [exec, execFinishWindowExpiry]
    split
    · exact rules.done (rules.endRace _ hs)
    · exact rules.done hs
  case redPress | powerSenseLoss =>
    simp only [exec, execRedPress, execPowerSenseLoss]
    split
    · exact rules.done (rules.still hs rfl)
    · exact rules.done (rules.suspensionCause _ (rules.still hs rfl))
  case gateCell | stationRelease | redRelease | powerSenseRestore =>
    simp only [exec, execGateCell, execStationRelease, execRedRelease, execPowerSenseRestore]
    split <;> exact rules.done (rules.still hs rfl)
  case responseStart | responseEnd | ceilingFrameEnd =>
    simp only [exec, execResponseStart, execResponseEnd, execCeilingFrameEnd]
    split
    · exact rules.ite_done hs fun _ => rules.still hs rfl
    all_goals exact rules.done hs
  case claimWaitExpiry =>
    simp only [exec, execClaimWaitExpiry]
    split
    · exact rules.ite_done hs fun _ => rules.still hs rfl
    · exact rules.done hs
  all_goals cases hc

end CeilingRules

end Sys2Proof.Machine
end

section
/-! SUPPORT. Section 9.2: a dirty class follows the moves of its entrant's ceiling (R160). -/

namespace Sys2Proof.Machine

/-! ### Marks that follow ceilings -/

/-- From the ceiling `v` with the class `d` to `w` with `c`: a fall leaves Lowered and any move leaves a mark, and no
mark is taken back. -/
structure DirtyClass.Follows (v w : Nat) (d c : DirtyClass) : Prop where
  lowered : w < v ∨ d = .lowered → c = .lowered
  dirty : w ≠ v ∨ d ≠ .clean → c ≠ .clean

theorem DirtyClass.Follows.refl (v : Nat) (d : DirtyClass) : DirtyClass.Follows v v d d :=
  ⟨fun h => h.resolve_left (Nat.lt_irrefl v), fun h => h.resolve_left (not_not.mpr rfl)⟩

/-- A fall all told has a fall in one of its two parts, and a move a move. -/
theorem DirtyClass.Follows.trans {u v w : Nat} {b c d : DirtyClass} (h : DirtyClass.Follows u v b c)
    (h' : DirtyClass.Follows v w c d) : DirtyClass.Follows u w b d where
  lowered := by
    rintro (hfall | hmark)
    · rcases Nat.lt_or_ge w v with hwv | hvw
      · exact h'.lowered (.inl hwv)
      · exact h'.lowered (.inr (h.lowered (.inl (Nat.lt_of_le_of_lt hvw hfall))))
    · exact h'.lowered (.inr (h.lowered (.inr hmark)))
  dirty := by
    rintro (hmove | hmark)
    · by_cases hvu : v = u
      · exact h'.dirty (.inl (hvu ▸ hmove))
      · exact h'.dirty (.inr (h.dirty (.inl hvu)))
    · exact h'.dirty (.inr (h.dirty (.inr hmark)))

/-- The mark of a recomputation follows its ceiling (R160). -/
theorem DirtyClass.follows_mark (v w : Nat) (d : DirtyClass) : DirtyClass.Follows v w d (DirtyClass.mark v w d) := by
  rcases Nat.lt_trichotomy w v with h | rfl | h
  · rw [DirtyClass.mark, if_pos h]
    exact ⟨fun _ => rfl, fun _ => nofun⟩
  · rw [DirtyClass.mark_same]
    exact .refl w d
  · rw [DirtyClass.mark, if_neg (Nat.lt_asymm h), if_pos h]
    split
    · next hd => exact ⟨fun hl => by rw [hd] at hl; simp [Nat.lt_asymm h] at hl, fun _ => nofun⟩
    · next hd => exact ⟨fun hl => hl.resolve_left (Nat.lt_asymm h), fun _ => hd⟩

/-- From `s` to `t` every entrant's mark has followed its ceiling. -/
structure State.Marks (s t : State) : Prop where
  each : ∀ j : Slot,
    DirtyClass.Follows (s.entrant j).effective (t.entrant j).effective (s.dirtyOf j) (t.dirtyOf j)

theorem State.Marks.refl (s : State) : s.Marks s := ⟨fun _ => .refl _ _⟩

theorem State.Marks.trans {s t u : State} (hst : s.Marks t) (htu : t.Marks u) : s.Marks u :=
  ⟨fun j => (hst.each j).trans (htu.each j)⟩

section Marks
variable {s t : State}

theorem State.Marks.settle (hs : s.Marks t) : s.Marks t.settle := ⟨hs.each⟩

/-- What moves no ceiling and takes no mark away. -/
theorem State.Marks.still (hs : s.Marks t) {u : State} (h : u.marked = t.marked) : s.Marks u := by
  obtain ⟨hrecords, hdirty⟩ := Prod.mk.inj h
  exact ⟨fun j => by rw [State.entrant_congr hrecords, State.dirtyOf_congr hdirty]; exact hs.each j⟩

theorem State.Marks.modEntrant (hs : s.Marks t) {i : Slot} {f : Entrant → Entrant}
    (hf : ∀ e, (f e).effective = e.effective) : s.Marks (t.modEntrant i f) := by
  refine ⟨fun j => ?_⟩
  have heffective : ((t.modEntrant i f).entrant j).effective = (t.entrant j).effective := by
    rw [State.entrant_modEntrant]
    split
    · next hj => rw [hj, hf]
    · rfl
  rw [heffective, State.modEntrant_dirtyOf]
  exact hs.each j

theorem State.Marks.recompute (hs : s.Marks t) (i : Slot) : s.Marks (t.recompute i) := by
  refine hs.trans ⟨fun j => ?_⟩
  rw [State.recompute_entrant, State.recompute_dirtyOf]
  split
  · next h => rw [h.1]; exact DirtyClass.follows_mark _ _ _
  · exact .refl _ _

/-- A change of a record with the Ceiling Unit told. -/
theorem State.Marks.told (hs : s.Marks t) {i : Slot} {f : Entrant → Entrant}
    (hf : ∀ e, (f e).effective = e.effective) : s.Marks ((t.modEntrant i f).recompute i) :=
  (hs.modEntrant hf).recompute i

theorem State.Marks.recomputeAll (hs : s.Marks t) : s.Marks t.recomputeAll :=
  State.forSlots_induction s.Marks State.recompute (fun _ i hu => hu.recompute i) t hs

/-! ### The Penalty Unit's work -/

variable {i : Slot}

theorem State.Marks.setPenalties (hs : s.Marks t) (l : List PitPenalty) : s.Marks (t.setPenalties i l) :=
  hs.modEntrant fun _ => rfl

theorem State.Marks.markActivity (hs : s.Marks t) : s.Marks (t.markActivity i) := hs.modEntrant fun _ => rfl

theorem State.Marks.serveHead (hs : s.Marks t) (p : PitPenalty) (rest : List PitPenalty) (until_ : RunTime) :
    s.Marks (t.serveHead i p rest until_) := by
  rw [State.serveHead_eq]
  exact hs.told fun _ => rfl

theorem State.Marks.unserveHead (hs : s.Marks t) (p : PitPenalty) (rest : List PitPenalty) :
    s.Marks (t.unserveHead i p rest) := by
  rw [State.unserveHead_eq]
  exact hs.told fun _ => rfl

theorem State.Marks.judgeHead (hs : s.Marks t) : s.Marks (t.judgeHead i) := by
  unfold State.judgeHead
  split
  · exact hs
  split
  · split
    · exact hs.serveHead _ _ _
    · exact hs.setPenalties _
  · exact hs

theorem State.Marks.dropHead (hs : s.Marks t) : s.Marks (t.dropHead i) := by
  unfold State.dropHead
  split
  · exact hs
  dsimp only
  split
  · exact (hs.setPenalties _).told fun _ => rfl
  · exact hs.setPenalties _

theorem State.Marks.placePenalty (hs : s.Marks t) (p : PitPenalty) : s.Marks (t.placePenalty i p) := by
  unfold State.placePenalty
  dsimp only
  split
  · exact (hs.setPenalties _).judgeHead
  split
  · exact (hs.setPenalties _).judgeHead
  · exact hs.told fun _ => rfl

theorem State.Marks.deductLaps (hs : s.Marks t) (n : Nat) : s.Marks (t.deductLaps i n) := by
  have written : s.Marks (t.modEntrant i fun e => { e with laps := e.laps - n }) := hs.modEntrant fun _ => rfl
  exact written.still rfl

theorem State.Marks.carryRuling (hs : s.Marks t) (c : Call) : s.Marks (t.carryRuling c) := by
  unfold State.carryRuling
  split
  · exact hs.placePenalty _
  · exact hs.placePenalty _
  · exact hs.told fun _ => rfl
  · exact hs.deductLaps _
  · exact hs.told fun _ => rfl

theorem State.Marks.report (hs : s.Marks t) (c : CallClass) : s.Marks (t.report i c) := by
  rcases t.report_cases i c with ⟨r, -, -, h⟩ | ⟨-, h⟩ <;> rw [h]
  · exact (hs.carryRuling _).markActivity
  · exact hs

theorem State.Marks.missHead (hs : s.Marks t) (kind : PenaltyKind) : s.Marks (t.missHead i kind) :=
  (hs.dropHead.markActivity.report _).judgeHead

theorem State.Marks.serveOut (hs : s.Marks t) : s.Marks (t.serveOut i) := hs.dropHead.markActivity.judgeHead

theorem State.Marks.penaltyCrossing (hs : s.Marks t) (cautionLap : Bool) :
    s.Marks (t.penaltyCrossing i cautionLap) := by
  unfold State.penaltyCrossing
  split
  · exact hs
  dsimp only
  split
  · split
    · split
      · exact (hs.setPenalties _).missHead _
      · exact hs.setPenalties _
    · exact hs.setPenalties _
  · exact hs.setPenalties _

theorem State.Marks.convertPenalties (hs : s.Marks t) : s.Marks (t.convertPenalties i) := by
  unfold State.convertPenalties
  extract_lets e sum emptied converted
  have written : s.Marks emptied := hs.modEntrant fun _ => rfl
  have told : s.Marks converted := by
    unfold converted
    split
    · exact written
    · exact written.markActivity.recompute i
  split
  · exact told
  · exact told.still rfl

theorem State.Marks.penaltyPitIn (hs : s.Marks t) : s.Marks (t.penaltyPitIn i) := by
  unfold State.penaltyPitIn
  split
  · exact hs
  split
  · exact hs.setPenalties _
  · exact hs.unserveHead _ _
  · exact hs

theorem State.Marks.penaltyBoxArrival (hs : s.Marks t) (now : RunTime) : s.Marks (t.penaltyBoxArrival i now) := by
  unfold State.penaltyBoxArrival
  split
  · exact hs
  split
  · exact hs.serveHead _ _ _
  · exact hs

theorem State.Marks.penaltyBoxDeparture (hs : s.Marks t) : s.Marks (t.penaltyBoxDeparture i) := by
  unfold State.penaltyBoxDeparture
  split
  · exact hs
  split
  · exact hs.unserveHead _ _
  · exact hs

theorem State.Marks.penaltyPitOut (hs : s.Marks t) : s.Marks (t.penaltyPitOut i) := by
  unfold State.penaltyPitOut
  split
  · exact hs
  split
  · exact hs.serveOut
  · exact hs

theorem State.Marks.waiveEntry (hs : s.Marks t) (pos : Nat) : s.Marks (t.waiveEntry i pos) := by
  unfold State.waiveEntry
  split
  · exact hs.dropHead.judgeHead
  · exact hs.setPenalties _

/-- Whatever the Penalty Unit does to an entrant, it marks it (R160). -/
theorem State.Marks.work (hs : s.Marks t) {work : State → Slot → State} (h : PenaltyWork work) :
    s.Marks (work t i) := by
  cases h with
  | call c r => exact (hs.carryRuling _).markActivity
  | crossing cautionLap => exact hs.penaltyCrossing cautionLap
  | pitIn => exact hs.penaltyPitIn
  | boxArrival t => exact hs.penaltyBoxArrival t
  | boxDeparture => exact hs.penaltyBoxDeparture
  | pitOut => exact hs.penaltyPitOut
  | served => exact hs.serveOut
  | waived pos => exact hs.waiveEntry pos
  | cleared => exact hs.told fun _ => rfl
  | converted => exact hs.convertPenalties

end Marks

theorem Entrant.effective_of_heldFields {e f : Entrant} (h : f.heldFields = e.heldFields) :
    f.effective = e.effective := congrArg Prod.fst h

theorem Entrant.heldFields_of_limitFields {e f : Entrant} (h : f.limitFields = e.limitFields) :
    f.heldFields = e.heldFields := congrArg Prod.fst h

/-- That marks follow ceilings is kept by the Ceiling Unit's work, whoever is still to be recomputed. -/
theorem State.marks_rules (s : State) : CeilingRules fun _ t => s.Marks t where
  mono _ ht := ht
  still ht h := ht.still (congrArg Prod.fst h)
  anew ht h := ht.still h
  aside _ hf ht := ht.modEntrant fun e => Entrant.effective_of_heldFields (Entrant.heldFields_of_limitFields (hf e))
  write _ _ hf ht := ht.modEntrant fun e => Entrant.effective_of_heldFields (hf e)
  recompute ht := ht.recompute _
  recomputeAll ht := ht.recomputeAll
  penalty hwork _ ht := ht.work hwork

/-! ### Entrants that come and go -/

/-- ENTER leaves the state as it is, or fills a Vacant slot (R45). -/
theorem State.enterRequest_cases (s : State) (code station : Byte) :
    (s.enterRequest code station).1 = s
      ∨ ∃ i st, (s.entrant i).state = .vacant ∧ (s.enterRequest code station).1 = s.enterCar i code.toNat st := by
  unfold State.enterRequest
  split
  · exact .inl rfl
  split
  · split
    · exact .inl rfl
    refine iteInduction (motive := fun r : State × Answer => r.1 = s ∨ ∃ i st, (s.entrant i).state = .vacant
      ∧ r.1 = s.enterCar i code.toNat st) (fun _ => .inl rfl) fun _ => ?_
    split
    · exact .inl rfl
    · next i hi =>
      have hv : (s.entrant i).state = .vacant := by simpa using List.find?_some hi
      exact .inr ⟨i, _, hv, rfl⟩
  · exact .inl rfl

/-- RETIRE leaves the state as it is, vacates the record, or retires the entrant (R49, R50). -/
theorem State.retireRequest_cases (s : State) (code : Byte) :
    (s.retireRequest code).1 = s
      ∨ ∃ i, (s.entrant i).state ≠ .vacant
        ∧ ((s.retireRequest code).1 = s.vacate i ∨ (s.retireRequest code).1 = s.retireEntrant i) := by
  unfold State.retireRequest
  split
  · exact .inl rfl
  next i hi =>
    have hv := State.named_not_vacant hi
    split
    · exact .inr ⟨i, hv, .inl (State.accept_fst _)⟩
    split
    · exact .inl rfl
    · exact .inr ⟨i, hv, .inr (State.accept_fst _)⟩

/-- Every entrant of both states has a mark that has followed its ceiling. -/
def State.EntrantMarks (s t : State) : Prop :=
  ∀ j : Slot, (s.entrant j).state ≠ .vacant → (t.entrant j).state ≠ .vacant →
    DirtyClass.Follows (s.entrant j).effective (t.entrant j).effective (s.dirtyOf j) (t.dirtyOf j)

theorem State.Marks.entrants {s t : State} (h : s.Marks t) : s.EntrantMarks t := fun j _ _ => h.each j

/-- One slot, an entrant's before or after but not both, is another matter. -/
theorem State.EntrantMarks.of_others {s t : State} {i : Slot}
    (hi : (s.entrant i).state = .vacant ∨ (t.entrant i).state = .vacant)
    (h : ∀ j : Slot, j ≠ i → t.entrant j = s.entrant j ∧ t.dirtyOf j = s.dirtyOf j) : s.EntrantMarks t := by
  intro j hs ht
  have hj : j ≠ i := by
    rintro rfl
    exact hi.elim hs ht
  obtain ⟨hrecord, hdirty⟩ := h j hj
  rw [hrecord, hdirty]
  exact .refl _ _

theorem State.enterCar_marks {s : State} {i : Slot} (n : Nat) (st : Option StationNo)
    (hi : (s.entrant i).state = .vacant) : s.EntrantMarks (s.enterCar i n st) := by
  refine .of_others (.inl hi) fun j hj => ?_
  rw [State.enterCar, State.recompute_entrant, State.recompute_dirtyOf, if_neg (fun h => hj h.1),
    if_neg (fun h => hj h.1), State.joinStandings_entrant, State.entrant_modEntrant_other _ _ hj]
  exact ⟨rfl, rfl⟩

theorem State.vacate_entrant (s : State) (i j : Slot) :
    (s.vacate i).entrant j = if j = i then Entrant.vacant else s.entrant j :=
  State.entrant_modEntrant (s.leaveStandings i) i j fun _ => Entrant.vacant

theorem State.vacate_dirtyOf (s : State) (i j : Slot) :
    (s.vacate i).dirtyOf j = if j = i then .clean else s.dirtyOf j :=
  State.dirtyOf_setDirty _ i j .clean

theorem State.vacate_marks (s : State) (i : Slot) : s.EntrantMarks (s.vacate i) := by
  refine .of_others (i := i) (.inr (by rw [State.vacate_entrant, if_pos rfl]; rfl)) fun j hj => ?_
  rw [State.vacate_entrant, State.vacate_dirtyOf, if_neg hj, if_neg hj]
  exact ⟨rfl, rfl⟩

/-! ### The ceiling link -/

/-- The start of a frame takes one slot's mark and nothing else of the records and the dirty classes (R161). -/
theorem State.startFrame_dirtyOf (s : State) (i j : Slot) :
    (s.startFrame i).dirtyOf j = s.dirtyOf j ∨ (s.startFrame i).dirtyOf j = .clean := by
  unfold State.startFrame
  split
  · have h := State.dirtyOf_setDirty s i j .clean
    by_cases hj : j = i
    · exact .inr (h.trans (if_pos hj))
    · exact .inl (h.trans (if_neg hj))
  · exact .inl rfl

/-- One entrant's part of a refresh (R163). -/
def State.raiseUnmarked (s : State) (i : Slot) : State :=
  if (s.entrant i).state != .vacant && s.dirtyOf i == .clean then s.setDirty i .raised else s

theorem State.raiseUnmarked_entrants (s : State) (i : Slot) : (s.raiseUnmarked i).entrants = s.entrants := by
  unfold State.raiseUnmarked
  split <;> rfl

theorem State.raiseUnmarked_dirtyOf (s : State) (i j : Slot) : (s.raiseUnmarked i).dirtyOf j
    = if j = i ∧ (s.entrant i).state ≠ .vacant ∧ s.dirtyOf i = .clean then .raised else s.dirtyOf j := by
  unfold State.raiseUnmarked
  by_cases h : (s.entrant i).state ≠ .vacant ∧ s.dirtyOf i = .clean
  · simp [h, State.dirtyOf_setDirty]
  · have hnot : ((s.entrant i).state != .vacant && s.dirtyOf i == .clean) = false := by simpa using h
    simp [hnot, h]

/-- The next refresh, one refresh period on (R163). -/
def State.postponeRefresh (s : State) : State :=
  { s with ceiling := { s.ceiling with
      nextRefresh := rawPlus s.ceiling.nextRefresh (s.cfg.refreshPeriod * ticksPerMs) } }

/-- A refresh is every entrant's part of it, and the next refresh set one period on (R163). -/
theorem State.refresh_eq (s : State) : s.refresh = (s.forSlots State.raiseUnmarked).postponeRefresh := by
  have hpart : (fun (u : State) (i : Slot) =>
      if (u.entrant i).state != .vacant && u.dirtyOf i == .clean then u.setDirty i .raised else u)
        = State.raiseUnmarked := rfl
  rw [State.refresh, hpart, State.postponeRefresh]

theorem State.postponeRefresh_entrants (s : State) : s.postponeRefresh.entrants = s.entrants := rfl

theorem State.postponeRefresh_dirtyOf (s : State) (j : Slot) : s.postponeRefresh.dirtyOf j = s.dirtyOf j := rfl

/-- The refresh marks every unmarked entrant Raised (R163). -/
theorem State.refresh_dirtyOf (s : State) (j : Slot) :
    s.refresh.dirtyOf j = if (s.entrant j).state ≠ .vacant ∧ s.dirtyOf j = .clean then .raised else s.dirtyOf j := by
  obtain ⟨u, hu, hbefore, hafter⟩ := State.forSlots_each (look := State.dirtyOf) (I := fun u => u.entrants = s.entrants)
    (f := State.raiseUnmarked) (fun u i hu => (u.raiseUnmarked_entrants i).trans hu)
    (fun u i j hj _ => by rw [State.raiseUnmarked_dirtyOf, if_neg fun h => hj h.1]) rfl j
  rw [State.refresh_eq, State.postponeRefresh_dirtyOf, hafter, State.raiseUnmarked_dirtyOf, State.entrant_congr hu,
    hbefore]
  simp only [true_and]

theorem State.refresh_entrants (s : State) : s.refresh.entrants = s.entrants := by
  rw [State.refresh_eq, State.postponeRefresh_entrants]
  exact State.forSlots_keeps State.entrants State.raiseUnmarked State.raiseUnmarked_entrants s

theorem State.refresh_marks (s : State) : s.Marks s.refresh := by
  refine ⟨fun j => ?_⟩
  rw [State.entrant_congr s.refresh_entrants, State.refresh_dirtyOf]
  split
  · next h => exact ⟨fun hl => by rw [h.2] at hl; simp at hl, fun _ => nofun⟩
  · exact .refl _ _

/-- Settles O16: a mark follows its ceiling through every change and recomputation, no command takes one back without a
frame, and an entrant that comes or goes is not compared. -/
theorem fallingCeilingsAreMarkedLowered : Obligations.FallingCeilingsAreMarkedLowered := by
  intro c s hpower hreset hframe
  have marked {t : State} (h : s.EntrantMarks t) : ∀ i : Slot, (s.entrant i).state ≠ .vacant →
      (t.entrant i).state ≠ .vacant →
        ((t.entrant i).effective < (s.entrant i).effective → t.dirtyOf i = .lowered)
        ∧ ((s.entrant i).effective < (t.entrant i).effective → t.dirtyOf i ≠ .clean) := fun i hs ht =>
    ⟨fun hfall => (h i hs ht).lowered (.inl hfall), fun hrise => (h i hs ht).dirty (.inl (Nat.ne_of_gt hrise))⟩
  by_cases hrules : marksOtherwise c = false
  · obtain ⟨t, hexec, ht⟩ := s.marks_rules.command (due := fun _ => False) hrules (.refl s)
    exact ⟨t, hexec, marked ht.entrants⟩
  cases c
  case commandFrame b => exact absurd rfl (hframe b)
  case resetRace => exact absurd rfl hreset
  case powerUp | resetPin | resetPartReboot => cases hpower
  case enter code station =>
    refine ⟨_, rfl, marked ?_⟩
    show s.EntrantMarks (s.enterRequest code station).1
    rcases s.enterRequest_cases code station with h | ⟨i, st, hi, h⟩ <;> rw [h]
    · exact (State.Marks.refl s).entrants
    · exact State.enterCar_marks _ _ hi
  case retire code =>
    refine ⟨_, rfl, marked ?_⟩
    show s.EntrantMarks (s.retireRequest code).1
    rcases s.retireRequest_cases code with h | ⟨i, hi, h | h⟩ <;> rw [h]
    · exact (State.Marks.refl s).entrants
    · exact s.vacate_marks i
    · exact (s.marks_rules.retireEntrant (due := fun _ => False) hi (.refl s)).entrants
  case ceilingRefresh =>
    simp only [exec, execCeilingRefresh]
    split
    · exact ⟨_, rfl, marked s.refresh_marks.settle.entrants⟩
    · exact ⟨_, rfl, marked (State.Marks.refl s).settle.entrants⟩
  case ceilingFrameStart =>
    have sent {t : State} (hrecords : t.entrants = s.entrants) : ∀ i : Slot, (s.entrant i).state ≠ .vacant →
        (t.entrant i).state ≠ .vacant →
        ((t.entrant i).effective < (s.entrant i).effective → t.dirtyOf i = .lowered)
        ∧ ((s.entrant i).effective < (t.entrant i).effective → t.dirtyOf i ≠ .clean) := fun i _ _ => by
      rw [State.entrant_congr hrecords]
      exact ⟨fun h => absurd h (Nat.lt_irrefl _), fun h => absurd h (Nat.lt_irrefl _)⟩
    simp only [exec, execCeilingFrameStart]
    split
    · exact ⟨_, rfl, sent (by simp)⟩
    · exact ⟨_, rfl, sent rfl⟩
  all_goals exact absurd rfl hrules

end Sys2Proof.Machine
end

section
/-! SUPPORT. Section 9.1: the limits that apply to an entrant, and one recomputation (R157, R158, R160). -/

namespace Sys2Proof.Machine

theorem Entrant.servingStopGo_iff {e : Entrant} :
    e.servingStopGo = true ↔ ∃ p ∈ e.penalties.head?.toList, p.kind = .stopGo ∧ p.state = .serving := by
  rw [Entrant.servingStopGo]
  cases e.penalties <;> simp

/-- The limits of R158, one by one. -/
theorem State.mem_limits {s : State} {e : Entrant} {x : Nat} :
    x ∈ s.limits e ↔ (s.localCaution e.sector = true ∧ x = s.cfg.ceilings.localCaution)
      ∨ ((e.pitStatus ≠ .track ∨ e.blackFlag = true) ∧ x = s.cfg.ceilings.pit)
      ∨ ((∃ p ∈ e.penalties.head?.toList, p.kind = .stopGo ∧ p.state = .serving) ∧ x = 0)
      ∨ (∃ h ∈ e.powerHold.toList, x = h.level) ∨ ∃ v ∈ e.override.toList, x = v := by
  simp only [State.limits, List.mem_append, List.mem_ite_nil_right, List.mem_singleton,
    ← Entrant.servingStopGo_iff, List.mem_map, Bool.or_eq_true, bne_iff_ne, eq_comm (b := x),
    exists_eq_right', or_assoc]

theorem State.effectiveFor_le_state (s : State) (e : Entrant) :
    s.effectiveFor e ≤ stateCeiling s.cfg.ceilings s.race.yellow e.state s.race.state :=
  (foldl_min_le (s.limits e) _).1

theorem State.effectiveFor_le_limit {s : State} {e : Entrant} {x : Nat} (h : x ∈ s.limits e) : s.effectiveFor e ≤ x :=
  (foldl_min_le (s.limits e) _).2 x h

/-- One recomputation writes the ceiling into the record and marks its move (R159, R160). -/
theorem State.recompute_withRecord {s : State} {i : Slot} (hi : (s.entrant i).state ≠ .vacant) :
    s.recompute i = s.withRecord i (s.limited (s.entrant i))
      (DirtyClass.mark (s.entrant i).effective (s.effectiveFor (s.entrant i)) (s.dirtyOf i)) := by
  have h := s.withRecord_recompute i (s.entrant i) (s.dirtyOf i) hi
  rwa [s.withRecord_self] at h

/-- The three cases of R160. -/
theorem DirtyClass.mark_eq (old new : Nat) (d : DirtyClass) : DirtyClass.mark old new d =
    if new < old then .lowered else if old < new ∧ d = .clean then .raised else d := by
  rw [DirtyClass.mark, ite_and]

/-- Settles O56: the least of a list is a bound of it and one of it, and a recomputation writes one record. -/
theorem effectiveCeilingIsLowestLimit : Obligations.EffectiveCeilingIsLowestLimit := by
  refine ⟨fun e s => ?_, fun c yellow => ?_, fun i s hi => ?_⟩
  · have lowest {x : Nat} := State.effectiveFor_le_limit (s := s) (e := e) (x := x)
    simp only [State.mem_limits] at lowest
    refine ⟨s.effectiveFor_le_state e, fun h => lowest (.inl ⟨h, rfl⟩), fun h => lowest (.inr (.inl ⟨h, rfl⟩)),
      fun h => Nat.le_zero.mp (lowest (.inr (.inr (.inl ⟨h, rfl⟩)))),
      fun h hh => lowest (.inr (.inr (.inr (.inl ⟨h, hh, rfl⟩)))),
      fun v hv => lowest (.inr (.inr (.inr (.inr ⟨v, hv, rfl⟩)))), ?_⟩
    exact (foldl_min_mem (s.limits e) _).imp_right State.mem_limits.mp
  · refine ⟨rfl, rfl, rfl, ?_, ?_, stateCeiling_suspended c yellow, fun r => ⟨rfl, rfl⟩⟩ <;> simp [stateCeiling]
  · rw [State.recompute_withRecord hi, DirtyClass.mark_eq]
    rfl

end Sys2Proof.Machine
end

section
/-! SUPPORT. Section 9.3: the sender's choice, the refresh, and the pause of the ceiling link (R161 to R164). -/

namespace Sys2Proof.Machine

/-! ### The sender's choice -/

theorem find?_allSlots_lowest {p : Slot → Bool} {i : Slot} (hi : p i = true) (hlow : ∀ j : Slot, j < i → p j = false) :
    allSlots.find? p = some i := by
  have hslots : allSlots = List.finRange 24 := rfl
  rw [hslots, List.find?_eq_some_iff_getElem]
  exact ⟨hi, i.val, by simp, by simp, fun k hk => by simpa using hlow ⟨k, hk.trans i.isLt⟩ hk⟩

/-- The slot is the lowest Lowered one, or the lowest Raised one with none Lowered (R161). -/
def State.MostUrgent (s : State) (i : Slot) : Prop :=
  (s.dirtyOf i = .lowered ∧ ∀ j : Slot, j < i → s.dirtyOf j ≠ .lowered)
    ∨ (s.dirtyOf i = .raised ∧ (∀ j : Slot, s.dirtyOf j ≠ .lowered) ∧ ∀ j : Slot, j < i → s.dirtyOf j ≠ .raised)

theorem State.MostUrgent.chosen {s : State} {i : Slot} (h : s.MostUrgent i) : s.chosenSlot = some i := by
  rcases h with ⟨hi, hlow⟩ | ⟨hi, hnone, hlow⟩
  · rw [State.chosenSlot, find?_allSlots_lowest (i := i) (by simpa using hi) (by simpa using hlow), Option.some_or]
  · rw [State.chosenSlot, List.find?_eq_none.mpr (by simpa using fun j _ => hnone j), Option.none_or,
      find?_allSlots_lowest (by simpa using hi) (by simpa using hlow)]

/-- An Idle sender whose link is not paused takes the slot it chooses (R161, R164). -/
theorem State.MostUrgent.due {s : State} {i : Slot} (h : s.MostUrgent i) (hidle : s.ceiling.sender = none)
    (hpaused : s.ceiling.paused = false) : s.frameDue = some i := by
  simp [State.frameDue, hidle, hpaused, h.chosen]

/-- Nothing is sent with nothing marked (R161). -/
theorem State.frameDue_clean {s : State} (h : ∀ j : Slot, s.dirtyOf j = .clean) : s.frameDue = none := by
  simp [State.frameDue, State.chosenSlot, h]

theorem State.frameDue_sending {s : State} (h : s.ceiling.sender.isSome = true) : s.frameDue = none := by
  simp [State.frameDue, Option.ne_none_iff_isSome.mpr h]

theorem State.frameDue_paused {s : State} (h : s.ceiling.paused = true) : s.frameDue = none := by
  simp [State.frameDue, h]

theorem exec_ceilingFrameStart_none {s : State} (h : s.frameDue = none) : s.unmovedBy .ceilingFrameStart := by
  refine State.unmovedBy_of_done ?_
  rw [exec, execCeilingFrameStart, h]

/-- The frame of a slot is on the line, and its mark is gone (R161). -/
def State.sending (s : State) (i : Slot) (code : Nat) : State :=
  { s with ceiling := { s.ceiling with
      dirty := s.ceiling.dirty.set i.val .clean
      sender := some { slot := i, code := code, ceiling := (s.entrant i).effective, since := s.race.raceClock } } }

theorem exec_ceilingFrameStart_some {s : State} {i : Slot} {code : Nat} (hdue : s.frameDue = some i)
    (hcode : (s.entrant i).code = some code) : ∃ t, exec .ceilingFrameStart s = .next t
      ∧ t = { s.sending i code with pins := t.pinsNow } := by
  refine State.next_of_done ?_
  rw [exec, execCeilingFrameStart, hdue]
  dsimp only
  rw [State.startFrame, hcode]
  rfl

/-! ### The end of a frame -/

/-- The sender is Idle again (R161). -/
def State.senderIdle (s : State) : State := { s with ceiling := { s.ceiling with sender := none } }

theorem exec_ceilingFrameEnd_ended {s : State} {f : Sending} (hf : s.ceiling.sender = some f)
    (hlong : 10 ≤ s.since f.since) : ∃ t, exec .ceilingFrameEnd s = .next t
      ∧ t = { s.senderIdle with pins := t.pinsNow } := by
  refine State.next_of_done ?_
  rw [exec, execCeilingFrameEnd, hf]
  exact if_pos hlong

theorem exec_ceilingFrameEnd_idle {s : State} (hf : s.ceiling.sender = none) : s.unmovedBy .ceilingFrameEnd := by
  refine State.unmovedBy_of_done ?_
  rw [exec, execCeilingFrameEnd, hf]

theorem exec_ceilingFrameEnd_early {s : State} {f : Sending} (hf : s.ceiling.sender = some f)
    (hshort : s.since f.since < 10) : s.unmovedBy .ceilingFrameEnd := by
  refine State.unmovedBy_of_done ?_
  rw [exec, execCeilingFrameEnd, hf]
  exact if_neg (Nat.not_le.mpr hshort)

/-! ### The refresh -/

/-- The state with its dirty classes replaced. -/
def State.withDirty (s : State) (d : Vector DirtyClass 24) : State :=
  { s with ceiling := { s.ceiling with dirty := d } }

theorem State.raiseUnmarked_frame {s u : State} (i : Slot) (hu : u = s.withDirty u.ceiling.dirty) :
    u.raiseUnmarked i = s.withDirty (u.raiseUnmarked i).ceiling.dirty := by
  unfold State.raiseUnmarked
  split
  · exact congrArg (State.setDirty · i .raised) hu
  · exact hu

/-- The refresh marks, sets the next one a period on, and changes nothing else (R163). -/
theorem State.refresh_frame (s : State) : s.refresh = (s.withDirty s.refresh.ceiling.dirty).postponeRefresh := by
  have hmarked : s.forSlots State.raiseUnmarked = s.withDirty (s.forSlots State.raiseUnmarked).ceiling.dirty :=
    State.forSlots_induction (fun u => u = s.withDirty u.ceiling.dirty) State.raiseUnmarked
      (fun _ i hu => State.raiseUnmarked_frame i hu) s rfl
  have hdirty (u : State) : u.postponeRefresh.ceiling.dirty = u.ceiling.dirty := rfl
  rw [State.refresh_eq, hdirty, ← hmarked]

/-- A state so marked and postponed is the one O54 writes out. -/
theorem State.settle_of_postponed {s u : State} (h : u = (s.withDirty u.ceiling.dirty).postponeRefresh) :
    u.settle = { s with
      ceiling := { s.ceiling with
        dirty := u.settle.ceiling.dirty
        nextRefresh := s.ceiling.nextRefresh + BitVec.ofNat 32 (10 * s.cfg.refreshPeriod) }
      pins := u.settle.pinsNow } := by
  rw [State.postponeRefresh, rawPlus, ticksPerMs, Nat.mul_comm] at h
  exact State.settle_of_eq h

/-- Settles O54: the sender starts the frame of the slot it chooses, and a refresh is one mark to every entrant. -/
theorem ceilingFramesCarryMarkedCeilings : Obligations.CeilingFramesCarryMarkedCeilings := by
  refine ⟨?started, ?notStarted, ?ended, ?notEnded, ?refreshed, ?notRefreshed⟩
  case started =>
    intro i code s hidle hpaused hcode (hurgent : s.MostUrgent i)
    exact exec_ceilingFrameStart_some (hurgent.due hidle hpaused) hcode
  case notStarted =>
    intro s h
    exact exec_ceilingFrameStart_none (h.elim State.frameDue_sending State.frameDue_clean)
  case ended =>
    intro f s hf hlong
    exact exec_ceilingFrameEnd_ended hf hlong
  case notEnded =>
    rintro s (hidle | ⟨f, hf, hshort⟩)
    · exact exec_ceilingFrameEnd_idle hidle
    · exact exec_ceilingFrameEnd_early (by simpa using hf) hshort
  case refreshed =>
    intro s hdue
    have hexec : exec .ceilingRefresh s = s.refresh.done := if_pos (decide_eq_true hdue)
    exact ⟨s.refresh.settle, hexec, State.settle_of_postponed s.refresh_frame,
      fun i => (State.settle_dirtyOf _ i).trans (s.refresh_dirtyOf i)⟩
  case notRefreshed =>
    intro s hearly
    have hnot : s.reached s.ceiling.nextRefresh = false := decide_eq_false (not_le.mpr hearly)
    refine State.unmovedBy_of_done ?_
    rw [exec, execCeilingRefresh, hnot]
    rfl

/-! ### The pause -/

theorem RaceState.heldCounts_iff (r : RaceState) :
    r.heldCounts = true ↔ r = .countdown ∨ r = .running ∨ r = .finishing := by
  cases r <;> simp [RaceState.heldCounts]

/-- The link once it is paused: in a race that the pause can suspend, the hold starts (R164). -/
def State.linkPaused (s : State) : State :=
  { s with ceiling := { s.ceiling with
      paused := true
      holdStart := if s.race.state = .countdown ∨ s.race.state = .running ∨ s.race.state = .finishing
        then some s.race.raceClock else s.ceiling.holdStart } }

/-- The link once its pause is over (R164). -/
def State.linkResumed (s : State) : State :=
  { s with ceiling := { s.ceiling with paused := false, holdStart := none } }

theorem State.returnByte_pauses {s : State} (h : s.ceiling.paused = false) :
    s.returnByte pauseCode = s.linkPaused := by
  simp only [State.returnByte, State.linkPaused, h, if_true, Bool.false_eq_true, if_false, RaceState.heldCounts_iff]

theorem State.returnByte_resumes {s : State} {b : Byte} (hb : b ≠ pauseCode) (h : s.ceiling.paused = true) :
    s.returnByte b = s.linkResumed := by
  simp only [State.returnByte, State.linkResumed, hb, h, if_true, if_false]

/-- A byte that asks for the pause that stands changes nothing (R164). -/
theorem State.returnByte_same {s : State} {b : Byte} (h : b = pauseCode ↔ s.ceiling.paused = true) :
    s.returnByte b = s := by
  rcases s.returnByte_cases b with ⟨hsame, -⟩ | ⟨hb, hp, -⟩ | ⟨hb, hp, -⟩
  · exact hsame
  · exact absurd (h.mp hb) (by simp [hp])
  · exact absurd (h.mpr hp) hb

/-- Settles O55: the byte changes the pause, and the sender reads it when it chooses. -/
theorem pauseBytesHoldTheSender : Obligations.PauseBytesHoldTheSender := by
  refine ⟨?pauses, ?paused, ?resumes, ?notPaused, ?bad, ?frameEnds⟩
  case pauses =>
    intro s h
    exact State.next_of_done (c := .pauseByte) (congrArg State.done (State.returnByte_pauses h))
  case paused =>
    intro s h
    exact ⟨State.unmovedBy_of_done (congrArg State.done (State.returnByte_same (iff_of_true rfl h))),
      exec_ceilingFrameStart_none (State.frameDue_paused h)⟩
  case resumes =>
    intro b s hb h
    obtain ⟨t, hexec, ht⟩ := State.next_of_done (c := .resumingByte b)
      (congrArg State.done (State.returnByte_resumes hb h))
    refine ⟨t, hexec, ht, fun hidle i code hcode hurgent => ?_⟩
    have hdue : t.frameDue = some i :=
      State.MostUrgent.due (by rw [ht]; exact hurgent) (by rw [ht]; exact hidle) (by rw [ht]; rfl)
    have htcode : (t.entrant i).code = some code := by rw [ht]; exact Option.mem_toList.mp hcode
    obtain ⟨u, hstart, hu⟩ := exec_ceilingFrameStart_some hdue htcode
    exact ⟨hdue, u, hstart, by rw [hu, State.sending, ht]; rfl⟩
  case notPaused =>
    intro b s hb h
    exact State.unmovedBy_of_done (congrArg State.done (State.returnByte_same (iff_of_false hb (by simp [h]))))
  case bad => exact fun s => State.unmovedBy_of_done rfl
  case frameEnds =>
    intro f s h hf hlong
    obtain ⟨t, hexec, ht⟩ := exec_ceilingFrameEnd_ended hf hlong
    exact ⟨t, hexec, ht, State.frameDue_paused (by rw [ht]; exact h)⟩

end Sys2Proof.Machine
end

section
/-! SUPPORT. Section 11.2: the configuration that a CONFIG_RACE body carries, and its ranges (R181, R184). -/

namespace Sys2Proof.Machine

theorem callActionOf_iff {b : Byte} {act : CallAction} : callActionOf b = some act ↔
    (b = 0#8 ∧ act = .report) ∨ (b = 1#8 ∧ act = .caution) ∨ (b = 2#8 ∧ act = .suspend) := by
  constructor
  · intro h
    unfold callActionOf at h
    split at h
    · next hb => exact .inl ⟨BitVec.eq_of_toNat_eq hb, (Option.some.inj h).symm⟩
    · next hb => exact .inr (.inl ⟨BitVec.eq_of_toNat_eq hb, (Option.some.inj h).symm⟩)
    · next hb => exact .inr (.inr ⟨BitVec.eq_of_toNat_eq hb, (Option.some.inj h).symm⟩)
    · cases h
  · rintro (⟨rfl, rfl⟩ | ⟨rfl, rfl⟩ | ⟨rfl, rfl⟩) <;> rfl

theorem callActionOf_none {b : Byte} (h : 2 < b.toNat) : callActionOf b = none := by
  refine Option.eq_none_iff_forall_ne_some.mpr fun act hact => ?_
  rcases callActionOf_iff.mp hact with ⟨rfl, -⟩ | ⟨rfl, -⟩ | ⟨rfl, -⟩ <;> simp at h

theorem onOff_bit {b : Byte} (h : b.toNat ≤ 1) : onOff b = some (b == 1#8) := by
  have hb : b = 0#8 ∨ b = 1#8 := by bv_omega
  rcases hb with rfl | rfl <;> rfl

/-- The ranges of R181, without those of the call action and the auto local caution. -/
theorem raceWordsInRange_iff {w : RaceWords} : raceWordsInRange w = true ↔
    5 ≤ w.burstGap.toNat ∧ (500 ≤ w.dwellLimit.toNat ∧ w.dwellLimit.toNat ≤ 20000)
      ∧ (2 ≤ w.voteMinimum.toNat ∧ w.voteMinimum.toNat ≤ 15) ∧ (1 ≤ w.triggerLevel.toNat ∧ w.triggerLevel.toNat ≤ 16)
      ∧ (1 ≤ w.claimWait.toNat ∧ w.claimWait.toNat ≤ 60) ∧ (1000 ≤ w.lapFloor.toNat ∧ w.lapFloor.toNat ≤ 600000)
      ∧ (w.lapFloor.toNat < w.lapCeiling.toNat ∧ w.lapCeiling.toNat ≤ 16777215)
      ∧ (1 ≤ w.sectorCount.toNat ∧ w.sectorCount.toNat ≤ 4) ∧ w.pitMinimum.toNat ≤ 600000
      ∧ (w.sightingWindow.toNat = 0 ∨ (2 ≤ w.sightingWindow.toNat ∧ w.sightingWindow.toNat ≤ 120))
      ∧ (500 ≤ w.lightInterval.toNat ∧ w.lightInterval.toNat ≤ 2000) ∧ w.lapTarget.toNat ≤ 9999
      ∧ w.timeTarget.toNat ≤ 359999 ∧ (10 ≤ w.finishWindow.toNat ∧ w.finishWindow.toNat ≤ 600)
      ∧ w.callLimit.toNat ≤ 15 ∧ (100 ≤ w.refreshPeriod.toNat ∧ w.refreshPeriod.toNat ≤ 2000)
      ∧ (200 ≤ w.holdLimit.toNat ∧ w.holdLimit.toNat ≤ 10000) := by
  have hgap := w.burstGap.isLt
  simp only [raceWordsInRange, inRange, Bool.and_eq_true, Bool.or_eq_true, decide_eq_true_eq, beq_iff_eq]
  omega

/-- The configuration of a body whose fields lie in their ranges, each ceiling above 100 taken as 100 (R156, R181). -/
def configFrom (w : RaceWords) (act : CallAction) : RaceConfig where
  burstGap := w.burstGap.toNat
  dwellLimit := w.dwellLimit.toNat
  voteMinimum := w.voteMinimum.toNat
  triggerLevel := w.triggerLevel.toNat
  claimWait := w.claimWait.toNat
  lapFloor := w.lapFloor.toNat
  lapCeiling := w.lapCeiling.toNat
  sectorCount := w.sectorCount.toNat
  pitMinimum := w.pitMinimum.toNat
  sightingWindow := w.sightingWindow.toNat
  lightInterval := w.lightInterval.toNat
  lapTarget := w.lapTarget.toNat
  timeTarget := w.timeTarget.toNat
  finishWindow := w.finishWindow.toNat
  callLimit := w.callLimit.toNat
  callAction := act
  ceilings := {
    setup := min w.setupCeiling.toNat 100, staging := min w.stagingCeiling.toNat 100
    countdown := min w.countdownCeiling.toNat 100, running := min w.runningCeiling.toNat 100
    caution := min w.cautionCeiling.toNat 100, coolDown := min w.coolDownCeiling.toNat 100
    localCaution := min w.localCautionCeiling.toNat 100, pit := min w.pitCeiling.toNat 100 }
  refreshPeriod := w.refreshPeriod.toNat
  holdLimit := w.holdLimit.toNat
  autoLocalCaution := w.autoLocalCaution == 1#8

/-- A body carries a configuration just where every field lies in its range (R181). -/
theorem configOf_iff {w : RaceWords} {c : RaceConfig} : configOf w = some c ↔ raceWordsInRange w = true
    ∧ w.autoLocalCaution.toNat ≤ 1 ∧ ∃ act, callActionOf w.callAction = some act ∧ c = configFrom w act := by
  have hlow : w.autoLocalCaution.toNat ≤ 1 ∨ onOff w.autoLocalCaution = none :=
    (Nat.lt_or_ge 1 _).symm.imp_right onOff_none
  constructor
  · intro h
    unfold configOf at h
    split at h
    · next act auto hrange hact hauto =>
      have hbit : w.autoLocalCaution.toNat ≤ 1 := hlow.resolve_right (by simp [hauto])
      obtain rfl : (w.autoLocalCaution == 1#8) = auto := Option.some.inj ((onOff_bit hbit).symm.trans hauto)
      exact ⟨hrange, hbit, act, hact, (Option.some.inj h).symm⟩
    · cases h
  · rintro ⟨hrange, hbit, act, hact, rfl⟩
    unfold configOf configFrom
    rw [hrange, hact, onOff_bit hbit]
    dsimp only [ceilingOf]

/-- A CONFIG_RACE in Setup that carries a configuration (R181). -/
theorem exec_configRace {w : RaceWords} {c : RaceConfig} {s : State} (hrace : s.race.state = .setup)
    (hc : configOf w = some c) : ∃ t, exec (.configRace w) s = .next t
      ∧ t = { s with
          cfg := c, entrants := t.entrants, ceiling := { s.ceiling with dirty := t.ceiling.dirty }
          link := s.replied .okay, pins := t.pinsNow }
      ∧ (∀ i : Slot, t.entrant i = (s.entrant i).recomputedIn t)
      ∧ t.markedFrom s := by
  have hexec : exec (.configRace w) s = answered ({ s with cfg := c }.recomputeAll).accept :=
    congrArg answered (by simp [State.configRaceRequest, hrace, hc])
  obtain ⟨t, hnext, htold, hlink⟩ := (State.recomputeAll_recomputed _).accepted hexec rfl rfl
  exact ⟨t, hnext, htold.frame_link hlink, htold.records, htold.marked⟩

/-- Settles O29: the configuration is the body's, and every entrant is recomputed under it. -/
theorem configRaceReplacesConfiguration : Obligations.ConfigRaceReplacesConfiguration := by
  refine ⟨?replaced, ?refused, ?fields, ?outOfRange, ?inRange⟩
  case replaced => exact fun w c s hrace hc => exec_configRace hrace hc
  case refused =>
    intro w s hrace hc
    exact State.refuses_of_answered (congrArg answered (by simp [State.configRaceRequest, hrace, hc]))
  case fields =>
    intro w c hc
    obtain ⟨-, -, act, hact, rfl⟩ := configOf_iff.mp hc
    have hcall : act = if w.callAction = 0#8 then .report else if w.callAction = 1#8 then .caution else .suspend := by
      rcases callActionOf_iff.mp hact with ⟨h, rfl⟩ | ⟨h, rfl⟩ | ⟨h, rfl⟩ <;> rw [h] <;> rfl
    simp only [configFrom, ← hcall, and_self]
  case outOfRange =>
    intro w hout
    refine Option.eq_none_iff_forall_ne_some.mpr fun c hc => ?_
    obtain ⟨hrange, hauto, act, hact, -⟩ := configOf_iff.mp hc
    have hcall : w.callAction.toNat ≤ 2 := Nat.not_lt.mp fun h => by simp [callActionOf_none h] at hact
    have hwindow : w.sightingWindow = 1#8 ↔ w.sightingWindow.toNat = 1 := BitVec.toNat_inj.symm
    rw [raceWordsInRange_iff] at hrange
    rw [hwindow] at hout
    omega
  case inRange =>
    intro w act s hrace hcall hgap hdwell hvote htrigger hclaim hfloor hceiling hsectors hpit hwindow hlight hlaps htime
      hfinish hlimit hrefresh hhold hauto
    have hrange : raceWordsInRange w = true := raceWordsInRange_iff.mpr ⟨hgap, hdwell, hvote, htrigger, hclaim, hfloor,
      hceiling, hsectors, hpit, hwindow, hlight, hlaps, htime, hfinish, hlimit, hrefresh, hhold⟩
    exact exec_configRace hrace (configOf_iff.mpr ⟨hrange, hauto, act, callActionOf_iff.mpr hcall, rfl⟩)

end Sys2Proof.Machine
end

section
/-! SUPPORT. Section 9.1: the ceiling R158 gives, kept by every recomputation and by the Penalty Unit's work (R159). -/

namespace Sys2Proof.Machine

/-! ### What a limit is read from -/

/-- A record's ceiling is read from its state, sector, pit status, marks, hold and override, and from whether its head
is a Serving stop-and-go (R157, R158). -/
theorem State.effectiveFor_of_limits (s : State) {e f : Entrant} (hserving : f.servingStopGo = e.servingStopGo)
    (hlimits : (f.state, f.sector, f.pitStatus, f.blackFlag, f.powerHold, f.override)
      = (e.state, e.sector, e.pitStatus, e.blackFlag, e.powerHold, e.override)) :
    s.effectiveFor f = s.effectiveFor e := by
  simp only [Prod.mk.injEq] at hlimits
  obtain ⟨hstate, hsector, hpit, hflag, hhold, hoverride⟩ := hlimits
  unfold State.effectiveFor State.limits
  rw [hserving, hstate, hsector, hpit, hflag, hhold, hoverride]

/-- The ceilings are read from the configuration, the race state, the yellow flag and the sectors under local caution
(R157, R158). -/
theorem State.effectiveFor_of_fields {s t : State} (h : t.ceilingFields = s.ceilingFields) (e : Entrant) :
    t.effectiveFor e = s.effectiveFor e := by
  simp only [State.ceilingFields, Prod.mk.injEq] at h
  obtain ⟨-, hcfg, hstate, hyellow, hmap⟩ := h
  unfold State.effectiveFor State.limits
  rw [hcfg, hstate, hyellow, hmap]

theorem Entrant.servingStopGo_of_head {e : Entrant} {p : PitPenalty} {rest : List PitPenalty}
    (h : e.penalties = p :: rest) : e.servingStopGo = p.servingStopGo := by
  rw [Entrant.servingStopGo, h]
  rfl

/-- A queue whose entries all wait has no Serving stop-and-go at its head. -/
theorem Entrant.servingStopGo_of_waits {e : Entrant} (h : ∀ q ∈ e.penalties, q.Waits) : e.servingStopGo = false := by
  cases hq : e.penalties with
  | nil => rw [Entrant.servingStopGo, hq]
  | cons p rest =>
    have hp : p.Waits := h p (hq ▸ List.mem_cons_self)
    rw [Entrant.servingStopGo_of_head hq, PitPenalty.servingStopGo_of_state (by simp [hp.1])]

/-! ### The ceilings of a state -/

/-- A Vacant record holds the Vacant values and is not marked, and an entrant's effective ceiling is the one R158 gives,
or is due to be recomputed. -/
structure State.CeilingSound (s : State) (due : Slot → Prop) (j : Slot) : Prop where
  vacant : (s.entrant j).state = .vacant → s.entrant j = Entrant.vacant ∧ s.dirtyOf j = .clean
  right : (s.entrant j).state ≠ .vacant → due j ∨ (s.entrant j).effective = s.effectiveFor (s.entrant j)

/-- Every slot's ceiling is the one R158 gives, but for those in `due`. -/
structure State.CeilingsBut (s : State) (due : Slot → Prop) : Prop where
  each : ∀ j : Slot, s.CeilingSound due j

theorem State.ceilingsKept_iff (s : State) : s.ceilingsKept ↔ s.CeilingsBut fun _ => False := by
  constructor
  · intro h
    refine ⟨fun j => ⟨fun hj => ?_, fun hj => .inr ?_⟩⟩
    · simpa [hj] using h j
    · simpa [hj] using h j
  · intro h j
    split
    · next hj => exact (h.each j).vacant hj
    · next hj => exact ((h.each j).right hj).resolve_left id

section Ceilings
variable {due : Slot → Prop} {s t : State} {i : Slot}

/-- A slot that is as it was. -/
theorem State.CeilingSound.same {j : Slot} {more : Slot → Prop} (hs : s.CeilingSound due j)
    (hrecord : t.entrant j = s.entrant j) (hdirty : t.dirtyOf j = s.dirtyOf j)
    (hceiling : t.effectiveFor (s.entrant j) = s.effectiveFor (s.entrant j)) (hdue : due j → more j) :
    t.CeilingSound more j := by
  constructor <;> rw [hrecord]
  · rw [hdirty]
    exact hs.vacant
  · rw [hceiling]
    exact fun hj => (hs.right hj).imp_left hdue

theorem State.CeilingsBut.mono {more : Slot → Prop} (h : ∀ j, due j → more j) (hs : s.CeilingsBut due) :
    s.CeilingsBut more := ⟨fun j => (hs.each j).same rfl rfl rfl (h j)⟩

theorem State.CeilingsBut.still (hs : s.CeilingsBut due) (h : t.ceilingFields = s.ceilingFields) :
    t.CeilingsBut due := by
  obtain ⟨hrecords, hdirty⟩ := Prod.mk.inj (congrArg Prod.fst h)
  exact ⟨fun j => (hs.each j).same (State.entrant_congr hrecords j) (State.dirtyOf_congr hdirty j)
    (State.effectiveFor_of_fields h _) id⟩

/-- A change of the race or of the configuration makes every entrant due. -/
theorem State.CeilingsBut.anew (hs : s.CeilingsBut due) (h : t.marked = s.marked) : t.CeilingsBut fun _ => True := by
  obtain ⟨hrecords, hdirty⟩ := Prod.mk.inj h
  refine ⟨fun j => ⟨?_, fun _ => .inl trivial⟩⟩
  rw [State.entrant_congr hrecords, State.dirtyOf_congr hdirty]
  exact (hs.each j).vacant

theorem State.CeilingsBut.occupied (hs : s.CeilingsBut due) (hi : s.entrant i ≠ Entrant.vacant) :
    (s.entrant i).state ≠ .vacant := fun hv => hi ((hs.each i).vacant hv).1

/-- One record is written. -/
theorem State.CeilingsBut.modEntrant {more : Slot → Prop} {f : Entrant → Entrant} (hs : s.CeilingsBut due)
    (hmore : ∀ j, j ≠ i → due j → more j) (hi : (s.modEntrant i f).CeilingSound more i) :
    (s.modEntrant i f).CeilingsBut more := by
  refine ⟨fun j => ?_⟩
  by_cases hj : j = i
  · exact hj ▸ hi
  · exact (hs.each j).same (State.entrant_modEntrant_other _ _ hj) rfl rfl (hmore j hj)

/-- A write makes its entrant due. -/
theorem State.CeilingsBut.write {f : Entrant → Entrant} (hf : (f (s.entrant i)).state ≠ .vacant)
    (hs : s.CeilingsBut due) : (s.modEntrant i f).CeilingsBut (also i due) := by
  refine hs.modEntrant (fun _ _ => .inr) ⟨fun hv => absurd hv ?_, fun _ => .inl (.inl rfl)⟩
  rwa [State.entrant_modEntrant_same]

/-- A write of what moves no ceiling. -/
theorem State.CeilingsBut.unmoved {f : Entrant → Entrant} (hi : (s.entrant i).state ≠ .vacant)
    (hf : (f (s.entrant i)).state ≠ .vacant) (heffective : (f (s.entrant i)).effective = (s.entrant i).effective)
    (hceiling : s.effectiveFor (f (s.entrant i)) = s.effectiveFor (s.entrant i)) (hs : s.CeilingsBut due) :
    (s.modEntrant i f).CeilingsBut due := by
  refine hs.modEntrant (fun _ _ => id) ⟨fun hv => absurd hv ?_, fun _ => ?_⟩ <;> rw [State.entrant_modEntrant_same]
  · exact hf
  · rw [heffective]
    exact ((hs.each i).right hi).imp_right fun h => h.trans hceiling.symm

theorem Entrant.limits_of_fields {e f : Entrant} (h : f.limitFields = e.limitFields) :
    f.effective = e.effective ∧ f.state = e.state ∧ ∀ s : State, s.effectiveFor f = s.effectiveFor e := by
  obtain ⟨hheld, hlimits⟩ := Prod.mk.inj h
  obtain ⟨heffective, hqueue⟩ := Prod.mk.inj hheld
  have hserving : f.servingStopGo = e.servingStopGo := by
    rw [Entrant.servingStopGo, Entrant.servingStopGo, (Prod.mk.inj hqueue).1]
  exact ⟨heffective, (Prod.mk.inj hlimits).1, fun s => s.effectiveFor_of_limits hserving hlimits⟩

/-- A write of fields that no ceiling is read from, in an entrant's record or one that stays Vacant. -/
theorem State.CeilingsBut.aside {f : Entrant → Entrant}
    (hi : s.entrant i ≠ Entrant.vacant ∨ f Entrant.vacant = Entrant.vacant)
    (hf : ∀ e, (f e).limitFields = e.limitFields) (hs : s.CeilingsBut due) : (s.modEntrant i f).CeilingsBut due := by
  obtain ⟨heffective, hstate, hceiling⟩ := Entrant.limits_of_fields (hf (s.entrant i))
  by_cases hv : (s.entrant i).state = .vacant
  · have hvacant := ((hs.each i).vacant hv).1
    have hkeeps : f (s.entrant i) = s.entrant i := by rw [hvacant, hi.resolve_left fun h => h hvacant]
    rwa [State.modEntrant_of_eq hkeeps]
  · exact hs.unmoved hv (by rwa [hstate]) heffective (hceiling s)

/-! ### Recomputation -/

theorem State.CeilingsBut.recompute (hs : s.CeilingsBut (also i due)) : (s.recompute i).CeilingsBut due := by
  refine ⟨fun j => ?_⟩
  have hrecord := s.recompute_entrant i j
  have hdirty := s.recompute_dirtyOf i j
  by_cases hj : j = i ∧ (s.entrant i).state ≠ .vacant
  · rw [if_pos hj] at hrecord
    refine ⟨fun hv => absurd hv ?_, fun _ => .inr ?_⟩ <;> rw [hrecord]
    · exact hj.2
    · rw [State.recompute_effectiveFor]
      rfl
  · rw [if_neg hj] at hrecord hdirty
    by_cases hji : j = i
    · have hv : (s.entrant j).state = .vacant := by simpa [hji] using hj
      refine ⟨fun _ => ?_, fun hn => absurd hv (hrecord ▸ hn)⟩
      rw [hrecord, hdirty]
      exact (hs.each j).vacant hv
    · exact (hs.each j).same hrecord hdirty (s.recompute_effectiveFor i _) fun h => h.resolve_left hji

theorem State.CeilingsBut.recomputeAll {less : Slot → Prop} (hs : s.CeilingsBut due) :
    s.recomputeAll.CeilingsBut less := by
  refine ⟨fun j => ?_⟩
  have hrecord := s.recomputeAll_entrant j
  have hdirty := s.recomputeAll_dirtyOf j
  by_cases hv : (s.entrant j).state = .vacant
  · rw [if_neg (not_not.mpr hv)] at hrecord hdirty
    refine ⟨fun _ => ?_, fun hn => absurd hv (hrecord ▸ hn)⟩
    rw [hrecord, hdirty]
    exact (hs.each j).vacant hv
  · rw [if_pos hv] at hrecord
    refine ⟨fun hv' => absurd hv' (by rw [hrecord]; exact hv), fun _ => .inr ?_⟩
    rw [hrecord, State.recomputeAll_effectiveFor]
    rfl

/-- A change of a record with the Ceiling Unit told. -/
theorem State.CeilingsBut.told {f : Entrant → Entrant} (hf : (f (s.entrant i)).state ≠ .vacant)
    (hs : s.CeilingsBut due) : ((s.modEntrant i f).recompute i).CeilingsBut due := (hs.write hf).recompute

theorem State.CeilingsBut.again (i : Slot) (hs : s.CeilingsBut due) : (s.recompute i).CeilingsBut due :=
  (hs.mono fun _ => .inr).recompute

/-! ### The head of a queue -/

variable (hi : (s.entrant i).state ≠ .vacant)
include hi

/-- A queue whose head is as much a Serving stop-and-go as before. -/
theorem State.CeilingsBut.setPenalties {l : List PitPenalty} (hs : s.CeilingsBut due)
    (hl : ({ s.entrant i with penalties := l } : Entrant).servingStopGo = (s.entrant i).servingStopGo) :
    (s.setPenalties i l).CeilingsBut due :=
  hs.unmoved hi hi rfl (s.effectiveFor_of_limits hl rfl)

theorem State.CeilingsBut.markActivity (hs : s.CeilingsBut due) : (s.markActivity i).CeilingsBut due :=
  hs.unmoved hi hi rfl rfl

theorem State.CeilingsBut.serveHead (hs : s.CeilingsBut due) (p : PitPenalty) (rest : List PitPenalty)
    (until_ : RunTime) : (s.serveHead i p rest until_).CeilingsBut due := by
  rw [State.serveHead_eq]
  exact hs.told hi

theorem State.CeilingsBut.unserveHead (hs : s.CeilingsBut due) (p : PitPenalty) (rest : List PitPenalty) :
    (s.unserveHead i p rest).CeilingsBut due := by
  rw [State.unserveHead_eq]
  exact hs.told hi

/-- A head that is judged was not Serving, and is so only with the Ceiling Unit told (R142). -/
theorem State.CeilingsBut.judgeHead (hs : s.CeilingsBut due) : (s.judgeHead i).CeilingsBut due := by
  cases hq : (s.entrant i).penalties with
  | nil => rwa [State.judgeHead_nil s i hq]
  | cons p rest =>
    by_cases hp : p.state = .pending
    · rw [State.judgeHead_pending s i p rest hq hp]
      split
      · exact hs.serveHead hi _ _ _
      · refine hs.setPenalties hi ?_
        rw [Entrant.servingStopGo_of_head hq, PitPenalty.servingStopGo_of_state (by simp [hp])]
        exact PitPenalty.servingStopGo_of_state PenaltyState.noConfusion
    · rwa [State.judgeHead_judged s i p rest hq hp]

/-- The entry behind a dropped head waits, and a Serving stop-and-go is dropped with the Ceiling Unit told (R146). -/
theorem State.CeilingsBut.dropHead (hs : s.CeilingsBut due) (hqueues : s.QueuesSound) :
    (s.dropHead i).CeilingsBut due := by
  cases hq : (s.entrant i).penalties with
  | nil => rwa [show s.dropHead i = s by simp [State.dropHead, hq]]
  | cons p rest =>
    obtain ⟨-, -, hrest, -⟩ : QueueHeld (p :: rest) (s.entrant i).holdTimer := hq ▸ hqueues.held i
    by_cases hserving : p.servingStopGo = true
    · rw [State.dropHead_serving hq (PitPenalty.servingStopGo_iff.mp hserving)]
      exact hs.told hi
    · rw [State.dropHead_other hq (Bool.eq_false_iff.mpr hserving)]
      refine hs.setPenalties hi ?_
      rw [Entrant.servingStopGo_of_head hq, Bool.eq_false_iff.mpr hserving, Entrant.servingStopGo_of_waits hrest]

/-! ### Calls -/

/-- An entry placed at a head takes the place of none that serves, and one at the tail leaves the head (R141). -/
theorem State.CeilingsBut.placePenalty {p : PitPenalty} (hp : p.state = .pending)
    (hfree : p.escalation = true → (s.entrant i).servingStopGo = false) (hs : s.CeilingsBut due) :
    (s.placePenalty i p).CeilingsBut due := by
  have hwaiting : p.servingStopGo = false := PitPenalty.servingStopGo_of_state (by simp [hp])
  unfold State.placePenalty
  dsimp only
  split
  · next hesc =>
    refine State.CeilingsBut.judgeHead (by simpa using hi) (hs.setPenalties hi ?_)
    rw [hfree hesc, Entrant.servingStopGo_of_head rfl, hwaiting]
  split
  · refine State.CeilingsBut.judgeHead (by simpa using hi) (hs.setPenalties hi ?_)
    cases hq : (s.entrant i).penalties with
    | nil =>
      rw [Entrant.servingStopGo_of_head rfl, hwaiting, Entrant.servingStopGo, hq]
    | cons q rest => rw [Entrant.servingStopGo_of_head hq, Entrant.servingStopGo_of_head rfl]
  · exact hs.told hi

theorem State.CeilingsBut.deductLaps (hs : s.CeilingsBut due) (k : Nat) : (s.deductLaps i k).CeilingsBut due := by
  have deducted : (s.modEntrant i fun e => { e with laps := e.laps - k }).CeilingsBut due := hs.unmoved hi hi rfl rfl
  exact deducted.still rfl

omit hi in
theorem State.CeilingsBut.carryRuling {c : Call} (hi : (s.entrant c.slot).state ≠ .vacant)
    (hfree : c.escalation = true → (s.entrant c.slot).servingStopGo = false) (hs : s.CeilingsBut due) :
    (s.carryRuling c).CeilingsBut due := by
  unfold State.carryRuling
  split
  · exact hs.placePenalty hi rfl hfree
  · exact hs.placePenalty hi rfl hfree
  · exact hs.told hi
  · exact hs.deductLaps hi _
  · exact hs.told hi

theorem State.CeilingsBut.makeCall {c : CallClass} (r : Ruling)
    (hfree : c.escalates = true → (s.entrant i).servingStopGo = false) (hs : s.CeilingsBut due) :
    (s.makeCall i c r).CeilingsBut due :=
  State.CeilingsBut.markActivity (by simpa using hi) (hs.carryRuling hi hfree)

theorem State.CeilingsBut.report {c : CallClass} (hfree : (s.entrant i).servingStopGo = false)
    (hs : s.CeilingsBut due) : (s.report i c).CeilingsBut due := by
  rcases s.report_cases i c with ⟨r, -, -, h⟩ | ⟨-, h⟩ <;> rw [h]
  · exact hs.makeCall hi r fun _ => hfree
  · exact hs

/-- The escalation of a missed head comes to a queue whose entries wait (R148). -/
theorem State.CeilingsBut.missHead (kind : PenaltyKind) (hqueues : s.QueuesSound) (hs : s.CeilingsBut due) :
    (s.missHead i kind).CeilingsBut due := by
  have hwaits := ((State.markActivity_sameQueues _ i).but (State.dropHead_waits i hqueues)).self
  have dropped := (hs.dropHead hi hqueues).markActivity (by simpa using hi)
  refine State.CeilingsBut.judgeHead (by simpa using hi) (dropped.report (by simpa using hi) ?_)
  exact Entrant.servingStopGo_of_waits hwaits.2.1

/-! ### Service, waivers and clearing -/

theorem State.CeilingsBut.penaltyCrossing (cautionLap : Bool) (hqueues : s.QueuesSound) (hs : s.CeilingsBut due) :
    (s.penaltyCrossing i cautionLap).CeilingsBut due := by
  unfold State.penaltyCrossing
  split
  · exact hs
  next p rest hp =>
    extract_lets q s1
    have hserving := p.owedAgain_servingStopGo (s.entrant i).pitStatus
    have head {x : PitPenalty} (hx : x.servingStopGo = p.servingStopGo) :
        (s.setPenalties i (x :: rest)).CeilingsBut due :=
      hs.setPenalties hi (by rw [Entrant.servingStopGo_of_head hp, Entrant.servingStopGo_of_head rfl, hx])
    split
    · split
      · next r _ =>
        have counted : (s.setPenalties i ({ q with remaining := some (r - 1) } :: rest)).QueuesSound :=
          State.setPenalties_head_queuesSound hqueues hp
            (fun h => ⟨(PitPenalty.owedAgain_leads _ h).1, Option.some_ne_none _⟩) hserving
        dsimp only
        split
        · exact State.CeilingsBut.missHead (by simpa using hi) _ counted (head hserving)
        · exact head hserving
      · exact head hserving
    · exact head hserving

theorem State.CeilingsBut.penaltyPitIn (hs : s.CeilingsBut due) : (s.penaltyPitIn i).CeilingsBut due := by
  unfold State.penaltyPitIn
  split
  · exact hs
  next p rest hp =>
    split
    · next hkind _ =>
      refine hs.setPenalties hi ?_
      rw [Entrant.servingStopGo_of_head hp, PitPenalty.servingStopGo_of_kind hkind]
      exact PitPenalty.servingStopGo_of_kind hkind
    · exact hs.unserveHead hi _ _
    · exact hs

theorem State.CeilingsBut.penaltyBoxArrival (t : RunTime) (hs : s.CeilingsBut due) :
    (s.penaltyBoxArrival i t).CeilingsBut due := by
  unfold State.penaltyBoxArrival
  split
  · exact hs
  split
  · exact hs.serveHead hi _ _ _
  · exact hs

theorem State.CeilingsBut.penaltyBoxDeparture (hs : s.CeilingsBut due) :
    (s.penaltyBoxDeparture i).CeilingsBut due := by
  unfold State.penaltyBoxDeparture
  split
  · exact hs
  split
  · exact hs.unserveHead hi _ _
  · exact hs

theorem State.CeilingsBut.serveOut (hqueues : s.QueuesSound) (hs : s.CeilingsBut due) :
    (s.serveOut i).CeilingsBut due :=
  .judgeHead (by simpa using hi) (.markActivity (by simpa using hi) (hs.dropHead hi hqueues))

theorem State.CeilingsBut.penaltyPitOut (hqueues : s.QueuesSound) (hs : s.CeilingsBut due) :
    (s.penaltyPitOut i).CeilingsBut due := by
  unfold State.penaltyPitOut
  split
  · exact hs
  split
  · exact hs.serveOut hi hqueues
  · exact hs

/-- A waiver behind the head leaves the head (R153). -/
theorem State.CeilingsBut.waiveEntry (pos : Nat) (hqueues : s.QueuesSound) (hs : s.CeilingsBut due) :
    (s.waiveEntry i pos).CeilingsBut due := by
  unfold State.waiveEntry
  split
  · exact State.CeilingsBut.judgeHead (by simpa using hi) (hs.dropHead hi hqueues)
  · next hpos =>
    refine hs.setPenalties hi ?_
    obtain ⟨k, rfl⟩ := Nat.exists_eq_succ_of_ne_zero hpos
    cases hq : (s.entrant i).penalties with
    | nil => rw [Entrant.servingStopGo, Entrant.servingStopGo, hq]; rfl
    | cons p rest => rw [Entrant.servingStopGo_of_head hq, Entrant.servingStopGo_of_head rfl]

theorem State.CeilingsBut.clearPenalties (hs : s.CeilingsBut due) : (s.clearPenalties i).CeilingsBut due := hs.told hi

/-- A conversion that finds neither a penalty nor a hold moves no ceiling, and every other tells (R154). -/
theorem State.CeilingsBut.convertPenalties (hs : s.CeilingsBut due) : (s.convertPenalties i).CeilingsBut due := by
  unfold State.convertPenalties
  extract_lets e sum s1 s2
  have converted : s2.CeilingsBut due := by
    refine iteInduction (motive := fun u : State => u.CeilingsBut due) (fun hnone => ?_) fun _ => ?_
    · obtain ⟨hqueue, hhold⟩ : e.penalties = [] ∧ e.powerHold = none := by simpa using hnone
      refine hs.unmoved hi hi rfl (s.effectiveFor_of_limits ?_ ?_)
      · show _ = e.servingStopGo
        rw [Entrant.servingStopGo, Entrant.servingStopGo, hqueue]
      · show _ = (e.state, e.sector, e.pitStatus, e.blackFlag, e.powerHold, e.override)
        rw [hhold]
    · have written : s1.CeilingsBut (also i due) := hs.write hi
      exact (written.markActivity (by simpa [s1] using hi)).recompute
  split
  · exact converted
  · exact converted.still rfl

/-- What the other blocks have the Penalty Unit and the Call Unit do leaves every ceiling the one R158 gives. -/
theorem State.CeilingsBut.work {work : State → Slot → State} (hwork : PenaltyWork work) (hqueues : s.QueuesSound)
    (hs : s.CeilingsBut due) : (work s i).CeilingsBut due := by
  cases hwork with
  | call c r h => exact hs.makeCall hi r fun hesc => absurd hesc (by simp [h])
  | crossing cautionLap => exact hs.penaltyCrossing hi cautionLap hqueues
  | pitIn => exact hs.penaltyPitIn hi
  | boxArrival t => exact hs.penaltyBoxArrival hi t
  | boxDeparture => exact hs.penaltyBoxDeparture hi
  | pitOut => exact hs.penaltyPitOut hi hqueues
  | served => exact hs.serveOut hi hqueues
  | waived pos => exact hs.waiveEntry hi pos hqueues
  | cleared => exact hs.clearPenalties hi
  | converted => exact hs.convertPenalties hi

end Ceilings

/-- The same work leaves every queue its form. -/
theorem PenaltyWork.queuesSound {work : State → Slot → State} (hwork : PenaltyWork work) {s : State} (i : Slot)
    (hs : s.QueuesSound) : (work s i).QueuesSound := by
  cases hwork with
  | call c r h => exact State.makeCall_queuesSound r h hs
  | crossing cautionLap => exact State.penaltyCrossing_queuesSound cautionLap hs
  | pitIn => exact State.penaltyPitIn_queuesSound hs
  | boxArrival t => exact State.penaltyBoxArrival_queuesSound t hs
  | boxDeparture => exact State.penaltyBoxDeparture_queuesSound hs
  | pitOut => exact State.penaltyPitOut_queuesSound hs
  | served => exact State.serveOut_queuesSound i hs
  | waived pos => exact State.waiveEntry_queuesSound i pos hs
  | cleared => exact State.clearPenalties_queuesSound i hs
  | converted => exact State.convertPenalties_queuesSound i hs

/-- Every ceiling but those in `due` is the one R158 gives, and every queue has its form. -/
structure State.CeilingsSound (s : State) (due : Slot → Prop) : Prop where
  ceilings : s.CeilingsBut due
  queues : s.QueuesSound

/-- The Ceiling Unit keeps every ceiling the one R158 gives (R159). -/
theorem State.ceilingsSound_rules : CeilingRules fun due s => s.CeilingsSound due where
  mono h hs := ⟨hs.ceilings.mono h, hs.queues⟩
  still hs h := ⟨hs.ceilings.still h, hs.queues.still (congrArg (fun x => x.1.1) h)⟩
  anew hs h := ⟨hs.ceilings.anew h, hs.queues.still (congrArg Prod.fst h)⟩
  aside hi hf hs := by
    refine ⟨hs.ceilings.aside hi hf, (State.modEntrant_sameQueues _ _ fun e => ?_).sound hs.queues⟩
    exact Prod.mk.inj (congrArg (fun x => x.1.2) (hf e))
  write hi hstate hf hs := by
    refine ⟨hs.ceilings.write (hstate _ (hs.ceilings.occupied hi)),
      (State.modEntrant_sameQueues _ _ fun e => ?_).sound hs.queues⟩
    exact Prod.mk.inj (congrArg Prod.snd (hf e))
  recompute hs := ⟨hs.ceilings.recompute, (State.recompute_sameQueues _ _).sound hs.queues⟩
  recomputeAll hs := ⟨hs.ceilings.recomputeAll, (State.recomputeAll_sameQueues _).sound hs.queues⟩
  penalty hwork hi hs := ⟨hs.ceilings.work (hs.ceilings.occupied hi) hwork hs.queues, hwork.queuesSound _ hs.queues⟩

end Sys2Proof.Machine
end

section
/-! SUPPORT. Section 9.1: the commands that end recomputations, resets, and the ceiling link; and every step (R159). -/

namespace Sys2Proof.Machine

variable {due : Slot → Prop} {s t : State}

/-! ### An entrant comes or goes -/

/-- ENTER writes a record and has it recomputed (R45). -/
theorem State.CeilingsBut.enterCar (i : Slot) (n : Nat) (st : Option StationNo) (hs : s.CeilingsBut due) :
    (s.enterCar i n st).CeilingsBut due := by
  have written : (s.modEntrant i fun _ =>
      { Entrant.vacant with code := some n, state := .staged, station := st }).CeilingsBut (also i due) :=
    hs.write EntrantState.noConfusion
  have joined {u : State} (hu : u.CeilingsBut (also i due)) : (u.joinStandings i).CeilingsBut (also i due) :=
    hu.still rfl
  exact (joined written).recompute

/-- A vacated record holds the Vacant values and is not marked (R43). -/
theorem State.CeilingsBut.vacate (i : Slot) (hs : s.CeilingsBut due) : (s.vacate i).CeilingsBut due := by
  refine ⟨fun j => ?_⟩
  have hrecord := s.vacate_entrant i j
  have hdirty := s.vacate_dirtyOf i j
  by_cases hj : j = i
  · rw [if_pos hj] at hrecord hdirty
    exact ⟨fun _ => ⟨hrecord, hdirty⟩, fun hn => absurd (congrArg Entrant.state hrecord) hn⟩
  · rw [if_neg hj] at hrecord hdirty
    exact (hs.each j).same hrecord hdirty rfl id

/-! ### Resets -/

/-- A part without entrants has no ceiling to keep. -/
theorem State.ceilingsBut_of_vacant (h : ∀ j : Slot, s.entrant j = Entrant.vacant ∧ s.dirtyOf j = .clean) :
    s.CeilingsBut due :=
  ⟨fun j => ⟨fun _ => h j, fun hn => absurd (congrArg Entrant.state (h j).1) hn⟩⟩

theorem State.powerOnReset_ceilingsBut (s : State) (results : Vector TestResult 24) (straps : BitVec 5)
    (pins : PinLevels) : (s.powerOnReset results straps pins).CeilingsBut due :=
  State.ceilingsBut_of_vacant fun j => by
    simp [State.powerOnReset, State.powerOn, State.entrant, State.dirtyOf, CeilingUnit.atReset]

/-- A race reset leaves a Vacant record, makes every other one Staged, and recomputes them all (R66, R121). -/
theorem State.CeilingsBut.raceReset (hs : s.CeilingsBut due) : s.raceReset.CeilingsBut due := by
  have cleared : s.raceCleared.CeilingsBut fun _ => True := by
    refine ⟨fun j => ⟨fun hv => ?_, fun _ => .inl trivial⟩⟩
    rw [State.raceCleared_entrant] at hv ⊢
    have hvacant : (s.entrant j).state = .vacant := by
      by_contra hn
      exact EntrantState.noConfusion ((Entrant.raceReset_staged_iff _).mpr hn ▸ hv)
    rw [Entrant.raceReset, if_pos hvacant]
    exact (hs.each j).vacant hvacant
  rw [State.raceReset_recomputed]
  exact cleared.recomputeAll

/-! ### The ceiling link -/

/-- A mark may be taken from an entrant (R161). -/
theorem State.CeilingsBut.startFrame (i : Slot) (hs : s.CeilingsBut due) : (s.startFrame i).CeilingsBut due := by
  have hceiling (e : Entrant) : (s.startFrame i).effectiveFor e = s.effectiveFor e :=
    State.effectiveFor_congr e (by simp) (by simp) (by simp) (by simp)
  refine ⟨fun j => ⟨fun hv => ?_, fun hn => ?_⟩⟩
  · rw [State.startFrame_entrant] at hv ⊢
    obtain ⟨hvacant, hclean⟩ := (hs.each j).vacant hv
    refine ⟨hvacant, ?_⟩
    rcases s.startFrame_dirtyOf i j with h | h <;> rw [h]
    exact hclean
  · rw [State.startFrame_entrant] at hn ⊢
    rw [hceiling]
    exact (hs.each j).right hn

/-- A mark may be given to an entrant (R163). -/
theorem State.CeilingsBut.refresh (hs : s.CeilingsBut due) : s.refresh.CeilingsBut due := by
  have framed (d : Vector DirtyClass 24) (e : Entrant) :
      (s.withDirty d).postponeRefresh.effectiveFor e = s.effectiveFor e := rfl
  have hceiling (e : Entrant) : s.refresh.effectiveFor e = s.effectiveFor e := by rw [State.refresh_frame, framed]
  refine ⟨fun j => ⟨fun hv => ?_, fun hn => ?_⟩⟩
  · rw [State.entrant_congr s.refresh_entrants] at hv ⊢
    obtain ⟨hvacant, hclean⟩ := (hs.each j).vacant hv
    exact ⟨hvacant, by rw [State.refresh_dirtyOf, if_neg fun h => h.1 hv, hclean]⟩
  · rw [State.entrant_congr s.refresh_entrants] at hn ⊢
    rw [hceiling]
    exact (hs.each j).right hn

/-! ### The commands and the steps -/

theorem State.CeilingsBut.enterRequest (code station : Byte) (hs : s.CeilingsBut due) :
    (s.enterRequest code station).1.CeilingsBut due := by
  rcases s.enterRequest_cases code station with h | ⟨i, st, -, h⟩ <;> rw [h]
  · exact hs
  · exact hs.enterCar i _ st

theorem State.CeilingsSound.retireRequest (code : Byte) (hs : s.CeilingsSound due) :
    (s.retireRequest code).1.CeilingsBut due := by
  rcases s.retireRequest_cases code with h | ⟨i, hi, h | h⟩ <;> rw [h]
  · exact hs.ceilings
  · exact hs.ceilings.vacate i
  · exact (State.ceilingsSound_rules.retireEntrant hi hs).ceilings

/-- A command whose ceilings and whose queues are each shown apart. -/
theorem State.CeilingsSound.of_exec {c : Instr} {u : State} (hc : ∀ b, c ≠ .commandFrame b) (hs : s.CeilingsSound due)
    (hexec : exec c s = .next u) (hu : u.CeilingsBut due) : ∃ t, exec c s = .next t ∧ t.CeilingsSound due := by
  obtain ⟨t, ht, hqueues⟩ := exec_queuesSound hc hs.queues
  obtain rfl : t = u := Host.Outcome.next.inj (ht.symm.trans hexec)
  exact ⟨t, ht, hu, hqueues⟩

/-- Every command but the check byte of a frame keeps the ceilings. -/
theorem exec_ceilingsSound {c : Instr} (hc : ∀ b, c ≠ .commandFrame b) (hs : s.CeilingsSound due) :
    ∃ t, exec c s = .next t ∧ t.CeilingsSound due := by
  by_cases hrules : marksOtherwise c = false
  · exact State.ceilingsSound_rules.command hrules hs
  have ended {u : State} (hexec : exec c s = u.done) (hu : u.CeilingsBut due) :
      ∃ t, exec c s = .next t ∧ t.CeilingsSound due :=
    hs.of_exec hc hexec (u := u.settle) (hu.still rfl)
  have replied {r : State × Answer} (hexec : exec c s = answered r) (hr : r.1.CeilingsBut due) :
      ∃ t, exec c s = .next t ∧ t.CeilingsSound due :=
    hs.of_exec hc hexec (u := (respond r).settle) (hr.still rfl)
  cases c
  case commandFrame b => exact absurd rfl (hc b)
  case enter code station => exact replied rfl (hs.ceilings.enterRequest code station)
  case retire code => exact replied rfl (hs.retireRequest code)
  case resetRace =>
    refine replied (r := s.resetRaceRequest) rfl ?_
    rw [State.resetRaceRequest, State.accept_fst]
    exact hs.ceilings.raceReset
  case powerUp straps pins => exact ended rfl (s.powerOnReset_ceilingsBut _ straps pins)
  case resetPin straps pins => exact ended rfl (s.powerOnReset_ceilingsBut _ straps pins)
  case resetPartReboot straps pins =>
    by_cases hboot : s.link.tx = .rebooting
    · exact ended (if_pos hboot) (s.powerOnReset_ceilingsBut _ straps pins)
    · exact ended (if_neg hboot) hs.ceilings
  case ceilingFrameStart =>
    cases hdue : s.frameDue with
    | none => exact ended (by rw [exec, execCeilingFrameStart, hdue]) hs.ceilings
    | some i => exact ended (by rw [exec, execCeilingFrameStart, hdue]) (hs.ceilings.startFrame i)
  case ceilingRefresh =>
    by_cases hdue : s.reached s.ceiling.nextRefresh = true
    · exact ended (if_pos hdue) hs.ceilings.refresh
    · exact ended (if_neg hdue) hs.ceilings
  all_goals exact absurd rfl hrules

theorem step_ceilingsSound (s : State) (hs : s.CeilingsSound due) : ∃ t, step s = .next t ∧ t.CeilingsSound due := by
  have still {s t : State} (hs : s.CeilingsSound due) (h : t.ceilingFields = s.ceilingFields) : t.CeilingsSound due :=
    State.ceilingsSound_rules.still hs h
  refine step_keeps (P := fun s => s.CeilingsSound due) (fun _ _ h => still h rfl) (fun c s hs => ?_)
    (fun _ h => still h rfl) s hs
  by_cases hc : ∃ b, c = .commandFrame b
  · obtain ⟨b, rfl⟩ := hc
    refine execCommandFrame_keeps (P := fun s => s.CeilingsSound due) (fun _ _ _ h => still h rfl)
      (fun c s hc h => exec_ceilingsSound ?_ h) b hs
    rintro b rfl
    cases hc
  · exact exec_ceilingsSound (fun b h => hc ⟨b, h⟩) hs

/-- Settles O13: whatever a ceiling is read from is written with the Ceiling Unit told before the command ends, a head
that leaves or takes its place without it is no Serving stop-and-go, and a tick writes nothing of it. -/
theorem ceilingsKept : Obligations.CeilingsKept := by
  intro s hceilings hqueues
  obtain ⟨t, ht, hkept⟩ := step_ceilingsSound s ⟨s.ceilingsKept_iff.mp hceilings, s.pitQueuesKept_iff.mp hqueues⟩
  exact ⟨t, ht, t.ceilingsKept_iff.mpr hkept.ceilings⟩

end Sys2Proof.Machine
end
